-- ==== Sys2Proof/Word.lean ====
section
/-! DEFINITION. The module's plain data words: bytes, the unsigned register and field widths of R14, and exact
rationals for the values that R139 and R251 name fp32. -/

namespace Sys2Proof

/-- One byte of a payload, record or frame (R11). -/
abbrev Byte := BitVec 8
/-- u16 of R14. -/
abbrev U16 := BitVec 16
/-- u32 of R14: Probe registers, sequences and counters. -/
abbrev U32 := BitVec 32
/-- u48 of R306: TICK. -/
abbrev U48 := BitVec 48
/-- u64 of R14. -/
abbrev U64 := BitVec 64
/-- A string of bytes, in ascending address or transmission order. -/
abbrev Bytes := List Byte
/-- A sparse table: index and value, indexes strictly rising. -/
abbrev Tab (α : Type) := List (Nat × α)

end Sys2Proof
end

