-- ==== Sys2Proof/Syntax.lean ====
section
/-! DEFINITION. The module's commands: one constructor of `Instr` per row of spec/opcode_table.json, with the
operands each row's event carries. A mailbox command row carries a `CmdStep`: A0 taking its request, or A1–A3 executing it. -/

namespace Sys2Proof

/-- A Prongo message as its transport hands it over: the header of Table 13.1 and its payload. `framed` says that the
message arrived whole under R325 (on the service port its CRC matched; on the panel its size was 24 plus its length). -/
structure Message where
  magic : Nat
  version : Nat
  mailbox : Nat
  flags : U32
  opcode : Nat
  seq : U32
  tag : U32
  length : Nat
  status : Nat
  payload : Bytes
  framed : Bool
  deriving DecidableEq, Repr, Inhabited

/-- A REQUEST whose opcode is the row's own; `session` is the mailbox whose session delivered it. -/
structure Request where
  session : Nat
  magic : Nat
  version : Nat
  mailbox : Nat
  flags : U32
  seq : U32
  tag : U32
  length : Nat
  status : Nat
  payload : Bytes
  framed : Bool
  deriving DecidableEq, Repr, Inhabited

/-- The two steps of a mailbox command: A0 takes its request (R326), or its execution on A1–A3 has its effect (R331). -/
inductive CmdStep where
  | request (r : Request)
  | run (mailbox : Nat)
  deriving DecidableEq, Repr

/-- How a commit's write to one journal copy went (R367): verified at once, verified on the second write, or failed. -/
inductive CopyWrite where
  | verified
  | retried
  | failed
  deriving DecidableEq, Repr

/-- What the ECC of a stored Skein word reports at a read (R66). -/
inductive Ecc where
  | ok
  | corrected
  | uncorrectable
  deriving DecidableEq, Repr

/-- How the accesses of a Bobbin's burst ended (R66, R73): in order, in a bus error, or with an ECC outcome of the source Skein's
SRAM at a word of the burst, counted from 0. -/
inductive BusAccess where
  | ok
  | busError
  | ecc (word : Nat) (outcome : Ecc)
  deriving DecidableEq, Repr

/-- TELEMETRY_DECODE's task and how its reads of the telemetry Skein end (R66, R202). -/
structure TelemetryRead where
  shuttle : Nat
  access : BusAccess
  deriving DecidableEq, Repr

/-- How a transfer's two accesses end: the completion token's write and the linked descriptor's fetch (R72–R74). -/
structure TransferBus where
  token : BusAccess
  fetch : BusAccess
  deriving DecidableEq, Repr

/-- The channel whose held completion enters, and how the accesses that follow end (R72, R73). -/
structure PulseEntry where
  channel : Nat
  bus : TransferBus
  deriving DecidableEq, Repr

/-- A strobe as T0 caught it (R301): stamped with a whole-nanosecond TAI instant, or dropped because it waited too long. -/
inductive Stamp where
  | at (taiNs : Nat)
  | lost
  deriving DecidableEq, Repr

/-- The reset causes K0, T0 and the fabric of WATCHDOG (Table 15.6). -/
inductive Watchdog where
  | k0
  | t0
  | fabric
  deriving DecidableEq, Repr

/-- Where a reset without warning met a commit in progress (Table 15.7): none in progress or already complete, torn in
copy 0, or written whole to copy 0 alone. -/
inductive CommitCut where
  | none
  | torn
  | copy0Only
  deriving DecidableEq, Repr

/-- The PLLs of Table 2.2. -/
inductive Pll where
  | f | a | d | t | n | r
  | e (port : Nat)
  deriving DecidableEq, Repr

/-- Why a panel test ends (R440). -/
inductive TestEnd where
  | time
  | fault
  | back
  deriving DecidableEq, Repr

/-- What the boot ROM finds in one firmware slot (R403, R404): the checks of the image's header and signature. -/
structure ImageCheck where
  present : Bool
  signatureOk : Bool
  product : Nat
  headerVersion : Nat
  hashOk : Bool
  version : U32
  securityVersion : Nat
  deriving DecidableEq, Repr

/-- What RESTORE finds readable (R374, R395, R409): which copies of each region pass their checks. -/
structure RestoreFound where
  settings0 : Bool
  settings1 : Bool
  protection0 : Bool
  protection1 : Bool
  journal0 : Bool
  journal1 : Bool
  saveA : Bool
  saveB : Bool
  saveLg : Bool
  resultStore : Bool
  corruptSlots : Nat
  badPins : List Nat
  tables0 : Bool
  tables1 : Bool
  deriving DecidableEq, Repr

/-- A radio frame received by a Shuttle (R186, R194): its preamble octets and the PHR bits of R182 (FSK), its header fields as sent, what
the FCS and CCM* checks gave under the Pin's key and EUI-64, its payload after decryption, its airtime and the TAI instant of the end
of its SFD. -/
structure RxFrame where
  shuttle : Nat
  preamble : Nat
  modeSwitch : Bool
  fcsShort : Bool
  fcsOk : Bool
  micOk : Bool
  frameControl : U16
  seq : Byte
  pan : U16
  dst : U16
  src : U16
  security : Byte
  keyIndex : Nat
  counter : U32
  pending : Bool
  timeCorrection : Int
  payload : Bytes
  rssi : Int
  airtimeUs : Nat
  sfdEnd : Nat
  endUs : Nat
  deriving DecidableEq, Repr

/-- A PTP event or general message at a ring port (R300): its sequence, its origin stamp and correction in nanoseconds,
how T0 stamped it, and the identity of its sender. -/
structure PtpMsg where
  domain : Nat
  source : Bytes
  sequence : Nat
  origin : Nat
  correction : Int
  twoStep : Bool
  stamp : Stamp
  requester : Bytes
  frame : Bytes
  deriving DecidableEq, Repr

/-- A PTP Announce (R298, R299, R303): the dataset its sender announces. -/
structure Announce where
  domain : Nat
  source : Bytes
  priority1 : Nat
  clockClass : Nat
  accuracy : Nat
  variance : Nat
  priority2 : Nat
  grandmaster : Bytes
  steps : Nat
  utcOffset : Int
  utcValid : Bool
  timeTraceable : Bool
  leap61 : Bool
  leap59 : Bool
  logInterval : Int
  deriving DecidableEq, Repr

/-- The SFF-8472 identification an SFP+ module's EEPROM gave (R422): whether it was read, whether it identifies as SFP/SFP+, the
codes it declares, whether it needs a rate-select line, its declared power in 0.1 W and its vendor part number. -/
structure SfpId where
  readable : Bool
  isSfp : Bool
  tenGig : Bool
  oneGig : Bool
  rateSelect : Bool
  power : Nat
  part : Bytes
  deriving DecidableEq, Repr, Inhabited

/-- An Ethernet frame received on a switch port (R423). -/
structure EthFrame where
  fcsOk : Bool
  dst : Bytes
  src : Bytes
  vid : Option Nat
  pcp : Nat
  etherType : Nat
  length : Nat
  payload : Bytes
  deriving DecidableEq, Repr

/-- A received R-APS message of G.8032 (R426). -/
structure Raps where
  request : Nat
  subcode : Nat
  rplBlocked : Bool
  doNotFlush : Bool
  bpr : Nat
  nodeId : Bytes
  deriving DecidableEq, Repr, Inhabited

/-- The module's commands and events, one constructor per row of the opcode table. -/
inductive Instr where
  /-- STITCH_BOUNDARY (R25): At each Stitch boundary the Tambour cancels STRICT tasks that have reached their deadline, closes the presence window and starts the journal commit. -/
  | stitchBoundary
  /-- STITCH_PERIOD_CHANGE (R38): A stored new Stitch period takes effect at the first whole TAI second at least 2 s after its STORE, and the number is re-derived. -/
  | stitchPeriodChange
  /-- JOURNAL_BATCH_COMMIT (R367): An open batch that exceeds 4 KB starts a commit between boundaries once the current commit has ended. -/
  | journalBatchCommit
  /-- JOURNAL_COMMIT_DONE (R367): A commit verified in both journal copies completes: its work is accepted, ACCEPTED and REFUSED messages and RESULTs go out, and at a boundary the inputs are sampled, tasks released and results issued. -/
  | journalCommitDone (copy0 copy1 : CopyWrite) (us : Nat)
  /-- FREEZE_EXPIRE (R393): A Sampler freeze whose time runs out ends, and the records waiting for it are stored in order. -/
  | freezeExpire
  /-- SOFT_DEADLINE_PASS (R43): A SOFT task that passes its deadline counts one SOFT Fray, keeps its slot, and sorts first on its list. -/
  | softDeadlinePass (slot : Nat)
  /-- FRAY_RECORD (R44): Each second, at most one FRAY record per task kind is made, carrying that second's Fray count. -/
  | frayRecord
  /-- TASK_DISPATCH (R47): When an engine of a list is idle and the list is not empty, the head of the heap starts on the lowest-numbered idle engine. -/
  | taskDispatch (list : Nat)
  /-- HELD_SOURCE_RELEASE (R48): A source held because a list was at its depth limit, or no slot was free, enters when room appears. -/
  | heldSourceRelease (list : Nat)
  /-- SCHEDULE_EVALUATION (R119): A Lace engine evaluates the schedule level, bounds and CCT for a block of 256 Pins. -/
  | scheduleEvaluation (block : Nat)
  /-- PRESENCE_WALK (R127): The walker walks the Pricking from each presence source and sets marks; its completion starts the Ground streams. -/
  | presenceWalk
  /-- WALK_LATE (R129): A walk not complete 6 ms after boundary release lets the Ground streams start anyway, and WALK_LATE is incremented. -/
  | walkLate
  /-- SOLVE_AND_REPAIR (R141): A Lace engine runs the solver iterations, quantization, repair and the energy bound for one road segment. -/
  | solveAndRepair (seg : Nat)
  /-- DARNING (R147): The Darning task sets DARN_RAISED, posts cross-segment Darning requests and writes the road segment's issued levels to its Skein. -/
  | darning (seg : Nat)
  /-- FADE_SHAPING (R161): The fade unit starts fades for new targets, orders rises before falls, and generates radio and chain commands. -/
  | fadeShaping
  /-- TELEMETRY_DECODE (R202): A1–A3 decode a TELEMETRY record's delta coding and stamp its samples. -/
  | telemetryDecode (read : TelemetryRead)
  /-- MAILBOX_COMMAND_EXECUTION (R331): A committed mailbox command begins execution on A1–A3 once the command before it in its mailbox has completed. -/
  | mailboxCommandExecution (mailbox : Nat)
  /-- COURSE_PLANNING (R212): A1–A3 issue Pin commands and plan each Shuttle's Course, with fixed windows first and ordered items after them. -/
  | coursePlanning (shuttle : Nat)
  /-- COURSE_RUN (R211): A Shuttle runs its planned Course: tries, probes, Picots, group frames, IMAGE frames and follow-ups. -/
  | courseRun (shuttle : Nat)
  /-- BEACON (R207): In a beacon Stitch every enabled in-service Shuttle sends its beacon, whose SFD ends 3,000 µs after the boundary. -/
  | beacon
  /-- METERING_BLOCK (R253): A metering engine processes a 1 ms block: calibration, quantities, energy registers and DFC accumulation. -/
  | meteringBlock (harness : Nat) (bits : List (List Bool))
  /-- INTERVAL_CLOSE (R281): The interval close task builds the 256-byte record for an interval that has closed. -/
  | intervalClose
  /-- INTERVAL_BOUNDARY (R279): A UTC interval boundary is reached and the running interval closes, unless the journal space rule holds it. -/
  | intervalBoundary
  /-- RAPTORQ_ENCODING (R238): A1–A3 encode a block of the node image under RFC 6330 ahead of sending. -/
  | raptorqEncoding (block : Nat)
  /-- SKEIN_PUSH_CONT (R57): A CONT word is written to a Skein push port and opens or extends a packet. -/
  | skeinPushCont (skein initiator : Nat) (word : U32)
  /-- SKEIN_PUSH_END (R59): An END1–END4 word closes a packet, which becomes visible and sends its notice. -/
  | skeinPushEnd (skein initiator valid : Nat) (word : U32)
  /-- SKEIN_HELD_WRITE (R60): A write held for room in a STALL Skein, or behind another writer's open packet, is stored once room appears or the packet closes. -/
  | skeinHeldWrite (skein : Nat)
  /-- SKEIN_HELD_NOTICE (R64): A notice held for room enters the Tambour, one per cycle, in packet order. -/
  | skeinHeldNotice (skein : Nat)
  /-- SKEIN_POP (R61): A read of a Skein pop port returns one 128-bit word and its tag, or VALID 0. -/
  | skeinPop (skein initiator : Nat) (ecc : Ecc)
  /-- SKEIN_WRITE_ABANDON (R57): A packet left open for 4,096 FAB cycles without a new word is discarded as ABANDONED. -/
  | skeinWriteAbandon (skein : Nat)
  /-- SKEIN_READ_ABANDON (R63): A packet held by a reader for 4,096 FAB cycles without a read is discarded as ABANDONED. -/
  | skeinReadAbandon (skein : Nat)
  /-- JNL_REBUILD (R371): After a packet is lost from a Skein that carries accepted work, K0 drains the Skein and writes its unretired entries again. -/
  | jnlRebuild (skein : Nat)
  /-- BOB_START (R67): A write of CTRL.START runs an IDLE or HALTED Bobbin channel after its register checks. -/
  | bobStart (channel : Nat)
  /-- BOB_STOP (R76): A write of CTRL.STOP halts a channel with STOPPED once any granted burst completes. -/
  | bobStop (channel : Nat) (lastAck : Bool)
  /-- BOB_REQUEST (R71): A channel with REQ_EN set finds its peripheral request line high and starts a burst. -/
  | bobRequest (channel : Nat) (line : Bool)
  /-- BOB_BURST_DONE (R70): A granted burst completes, and the data path passes to a HIGH channel or to the next channel in turn. -/
  | bobBurstDone (channel : Nat) (access : BusAccess)
  /-- BOB_TRANSFER_END (R72): A transfer ends: the channel sends its completion pulse or token and loads the linked descriptor if LINK_EN is set. -/
  | bobTransferEnd (channel : Nat) (bus : TransferBus)
  /-- BOB_PULSE_RELEASE (R72): A completion held in PULSE_HELD enters once room appears, and the channel goes on. -/
  | bobPulseRelease (entry : PulseEntry)
  /-- TMB_CLEAR_STATS (R52): A write of TMB_CLEAR.STATS clears the Tambour block's counters and maxima. -/
  | tmbClearStats
  /-- SKN_CLEAR_STATS (R77): A write of SKN_CLEAR.STATS clears the Skein block's counters and maxima. -/
  | sknClearStats
  /-- BOB_CLEAR_STATS (R78): A write of BOB_CLEAR.STATS clears the Bobbin block's counters. -/
  | bobClearStats
  /-- LACE_CLEAR_STATS (R153): A write of LACE_CLEAR.STATS clears the presence and solver counters. -/
  | laceClearStats
  /-- FADE_CLEAR_STATS (R179): A write of FADE_CLEAR.STATS clears the fade and Chainstitch counters. -/
  | fadeClearStats
  /-- AIR_CLEAR_STATS (R206): A write of AIR_CLEAR.STATS clears the radio and filter counters. -/
  | airClearStats
  /-- CRS_CLEAR_STATS (R244): A write of CRS_CLEAR.STATS clears the Course counters. -/
  | crsClearStats
  /-- MET_CLEAR_STATS (R275): A write of MET_CLEAR.STATS clears the metering counters and peaks. -/
  | metClearStats
  /-- TIME_CLEAR_STATS (R318): A write of TIME_CLEAR.STATS clears the time counters. -/
  | timeClearStats
  /-- NET_CLEAR_STATS (R433): A write of NET_CLEAR.STATS clears the switch counters. -/
  | netClearStats
  /-- JNL_CLEAR_STATS (R381): A write of JNL_CLEAR.STATS clears the journal counters. -/
  | jnlClearStats
  /-- SMP_CLEAR_STATS (R398): A write of SMP_CLEAR.STATS clears the Sampler counters. -/
  | smpClearStats
  /-- MRC_CLEAR_STATS (R419): A write of MRC_CLEAR.STATS clears the MRAM controller counters. -/
  | mrcClearStats
  /-- AON_CLEAR_STATS (R419): A write of AON_CLEAR.STATS clears the AON counters. -/
  | aonClearStats
  /-- PNL_CLEAR_STATS (R446): A write of PNL_CLEAR.STATS clears the panel counters. -/
  | pnlClearStats
  /-- ALARM_STATUS_CLEAR (R319): A W1C write to ALARM_STATUS clears the selected alarm flags. -/
  | alarmStatusClear (alarm : Nat) (value : U32)
  /-- RING_CMD_FORCED (R426): A RING_CMD write of FORCED issues a Forced Switch request on the named ring port. -/
  | ringCmdForced (port : Nat)
  /-- RING_CMD_MANUAL (R426): A RING_CMD write of MANUAL issues a Manual Switch request on the named ring port. -/
  | ringCmdManual (port : Nat)
  /-- RING_CMD_CLEAR (R426): A RING_CMD write of CLEAR issues a Clear request to the ring. -/
  | ringCmdClear (port : Nat)
  /-- TB_SEC_LO_READ (R318): A read of TB_SEC_LO latches TB_SEC_HI, TB_NS and TB_FRAC of the same TIME cycle. -/
  | tbSecLoRead
  /-- TB_FRAC_READ (R318): A read of TB_FRAC releases the time-base latch. -/
  | tbFracRead
  /-- RTC_TICK_LO_READ (R319): A read of RTC_TICK_LO latches RTC_TICK_HI, RTC_SOD and RTC_FLAGS of the same LF edge. -/
  | rtcTickLoRead
  /-- RTC_FLAGS_READ (R319): A read of RTC_FLAGS releases the RTC latch. -/
  | rtcFlagsRead
  /-- NET_SETTINGS_WINDOW_WRITE (R431): A write to the NET settings window stages network settings words for a whole-section check at the next boundary. -/
  | netSettingsWindowWrite (offset : Nat) (value : U32)
  /-- REGISTER_WRITE (R363): A write to a register that has no row of its own acts under its access codes. -/
  | registerWrite (addr : Nat) (value : U32)
  /-- SLOT_READ (R333): A SLOT_READ is answered within 1 ms with the kept result, PENDING, RESULT_LOST, EXPIRED or UNKNOWN_SEQ. -/
  | slotRead (session : Nat) (msg : Message)
  /-- TLS_SESSION_OPEN (R321): A TLS 1.3 handshake on port 4417 opens a session on the binding whose credential matches, replacing any session already there. -/
  | tlsSessionOpen (credential : Bytes)
  /-- SESSION_CLOSE (R338): A network session ends on TCP close, or because its binding lost EN or changed credential. -/
  | sessionClose (mailbox : Nat)
  /-- USB_PARTIAL_TIMEOUT (R322): A partial service-port message with no byte for 1 s is discarded. -/
  | usbPartialTimeout
  /-- LOGIN_BLOCK_END (R322): The 10-minute login block after 5 failed logins ends, and the failure count restarts from 0. -/
  | loginBlockEnd
  /-- SYS_IDENTIFY (R353): Returns the module's identity, variant, firmware versions and device key digest. -/
  | sysIdentify (op : CmdStep)
  /-- SYS_STATUS (R353): Returns the 48-byte status record of the module. -/
  | sysStatus (op : CmdStep)
  /-- SYS_COUNTERS (R355): Returns the operating counters kept in MRAM. -/
  | sysCounters (op : CmdStep)
  /-- SYS_NOP (R360): Has no effect; its RESULT shows that every earlier command of its mailbox has completed. -/
  | sysNop (op : CmdStep)
  /-- SYS_IO_READ (R353): Returns the digital input levels, the coil states, the input flags and the change counts. -/
  | sysIoRead (op : CmdStep)
  /-- SYS_SETTINGS_DIGEST (R353): Returns the working and stored generations and CRCs of the settings. -/
  | sysSettingsDigest (op : CmdStep)
  /-- SYS_INPUT_SET (R356): Writes the RECORD flags of the eight digital inputs. -/
  | sysInputSet (op : CmdStep)
  /-- SYS_STITCH_SET (R357): Writes the Stitch period of the working copy. -/
  | sysStitchSet (op : CmdStep)
  /-- SYS_RESET (R360): Schedules a planned reset at a boundary after a delay, or cancels one that is pending. -/
  | sysReset (op : CmdStep)
  /-- SYS_STORE (R358): Captures the working settings copy and commits it to the alternating MRAM copies. -/
  | sysStore (op : CmdStep)
  /-- SYS_REVERT (R359): Replaces the working settings copy with the stored copy. -/
  | sysRevert (op : CmdStep)
  /-- SYS_FACTORY (R359): Replaces every stored setting of the working copy, except the metrology class, with its factory value. -/
  | sysFactory (op : CmdStep)
  /-- TAB_PIN_WRITE (R82): Writes the configuration halves of up to 60 Pins after the checks of Table 4.3. -/
  | tabPinWrite (op : CmdStep)
  /-- TAB_PIN_CLEAR (R88): Makes the listed Pins UNUSED in Pin order. -/
  | tabPinClear (op : CmdStep)
  /-- TAB_PIN_SET (R95): Writes one configuration field of each listed Pin. -/
  | tabPinSet (op : CmdStep)
  /-- TAB_PIN_READ (R96): Returns configuration or state halves of one generation of the live image. -/
  | tabPinRead (op : CmdStep)
  /-- TAB_PIN_CLEAR_FAULT (R95): Sets the failure class of the listed Pins to 0 and clears FAILED. -/
  | tabPinClearFault (op : CmdStep)
  /-- TAB_EDGE_WRITE (R90): Writes the eight Pricking edges of each listed Pin. -/
  | tabEdgeWrite (op : CmdStep)
  /-- TAB_EDGE_READ (R96): Returns Pricking edges of one generation of the live image. -/
  | tabEdgeRead (op : CmdStep)
  /-- TAB_SEG_WRITE (R91): Writes road-segment table entries. -/
  | tabSegWrite (op : CmdStep)
  /-- TAB_SEG_CLEAR (R91): Clears road-segment entries to unused, leaving their ids. -/
  | tabSegClear (op : CmdStep)
  /-- TAB_SEG_READ (R96): Returns road-segment entries of one generation. -/
  | tabSegRead (op : CmdStep)
  /-- TAB_BATCH_OPEN (R97): Opens the module's single TAB batch for the mailbox. -/
  | tabBatchOpen (op : CmdStep)
  /-- TAB_BATCH_CLOSE (R97): Checks membership and lets every staged write take effect at one boundary, or discards the batch with CONFLICT. -/
  | tabBatchClose (op : CmdStep)
  /-- TAB_BATCH_ABORT (R97): Discards the open batch and records TAB_BATCH_DISCARD. -/
  | tabBatchAbort (op : CmdStep)
  /-- TAB_BATCH_TIMEOUT (R97): A batch whose mailbox sends no TAB command for 300 s is discarded. -/
  | tabBatchTimeout
  /-- TAB_DIGEST (R98): Returns the table generation, CRCs and counts of the live image. -/
  | tabDigest (op : CmdStep)
  /-- TAB_GROUND_BEGIN (R152): Opens a Ground load for a road segment under a new generation. -/
  | tabGroundBegin (op : CmdStep)
  /-- TAB_GROUND_DATA (R152): Stages 64-byte blocks of a Ground record. -/
  | tabGroundData (op : CmdStep)
  /-- TAB_GROUND_COMMIT (R135): Checks the staged Ground record and writes it to the eMMC and DRAM with verification. -/
  | tabGroundCommit (op : CmdStep)
  /-- GROUND_COMMIT_VERIFIED (R135): The Ground record's eMMC and DRAM copies are verified, and its EFFECT entry joins the open batch. -/
  | groundCommitVerified (seg : Nat) (ok : Bool)
  /-- TAB_GROUND_ABORT (R152): Discards an open Ground load. -/
  | tabGroundAbort (op : CmdStep)
  /-- TAB_GROUND_READ (R152): Returns blocks of a held Ground record. -/
  | tabGroundRead (op : CmdStep)
  /-- TAB_GROUND_STATUS (R152): Returns the held Ground generations and dimensions of road segments. -/
  | tabGroundStatus (op : CmdStep)
  /-- TAB_GROUND_DELETE (R152): Removes Ground records from DRAM and the eMMC store. -/
  | tabGroundDelete (op : CmdStep)
  /-- TAB_GROUND_DISCARD (R152): A Ground load without a command for 300 s is discarded and recorded. -/
  | tabGroundDiscard (seg : Nat)
  /-- TABLE_PERSIST_VERIFIED (R93): A persisted table change is read back and verified in its store, and its journal entry retires. -/
  | tablePersistVerified (sequence : U32)
  /-- LIT_PROFILE_WRITE (R104): Writes one schedule profile. -/
  | litProfileWrite (op : CmdStep)
  /-- LIT_PROFILE_READ (R121): Returns one schedule profile. -/
  | litProfileRead (op : CmdStep)
  /-- LIT_EXC_WRITE (R113): Writes calendar exceptions. -/
  | litExcWrite (op : CmdStep)
  /-- LIT_EXC_READ (R121): Returns calendar exceptions. -/
  | litExcRead (op : CmdStep)
  /-- LIT_ZONE_WRITE (R115): Writes zone entries. -/
  | litZoneWrite (op : CmdStep)
  /-- LIT_ZONE_READ (R121): Returns zone entries. -/
  | litZoneRead (op : CmdStep)
  /-- LIT_SITE_SET (R122): Writes the site latitude, longitude and photocell input. -/
  | litSiteSet (op : CmdStep)
  /-- LIT_TZ_SET (R122): Writes the time-zone rules and adjusts the RTC seconds of day if the present offset changes. -/
  | litTzSet (op : CmdStep)
  /-- LIT_TIME_READ (R121): Returns the local date, time, weekday and offsets in force. -/
  | litTimeRead (op : CmdStep)
  /-- LIT_SUN_READ (R121): Computes and returns the five sun events of a date. -/
  | litSunRead (op : CmdStep)
  /-- LIT_SCHED_EVAL (R121): Evaluates a profile for a given weekday, date and time, changing nothing. -/
  | litSchedEval (op : CmdStep)
  /-- LIT_CLASS_WRITE (R130): Writes the lighting class table. -/
  | litClassWrite (op : CmdStep)
  /-- LIT_CLASS_READ (R151): Returns the lighting class table. -/
  | litClassRead (op : CmdStep)
  /-- LIT_SPEED_WRITE (R126): Writes the four speed class entries. -/
  | litSpeedWrite (op : CmdStep)
  /-- LIT_SPEED_READ (R151): Returns the speed class entries. -/
  | litSpeedRead (op : CmdStep)
  /-- LIT_PRESENCE_REPORT (R151): Enters head-end presence reports into the window open at the commit that accepts it. -/
  | litPresenceReport (op : CmdStep)
  /-- LIT_SOLVER_SET (R150): Writes the solver settings. -/
  | litSolverSet (op : CmdStep)
  /-- LIT_SOLVER_READ (R151): Returns the solver settings. -/
  | litSolverRead (op : CmdStep)
  /-- LIT_SOLVE_READ (R151): Returns the solve records of road segments for the last complete Stitch. -/
  | litSolveRead (op : CmdStep)
  /-- LIT_MARK_READ (R151): Returns the presence marks and Darning requests of Pins. -/
  | litMarkRead (op : CmdStep)
  /-- LIT_FADE_SET (R177): Writes the fade settings. -/
  | litFadeSet (op : CmdStep)
  /-- LIT_FADE_READ (R178): Returns the fade settings. -/
  | litFadeRead (op : CmdStep)
  /-- LIT_MODEL_WRITE (R169): Writes fixture model entries. -/
  | litModelWrite (op : CmdStep)
  /-- LIT_MODEL_READ (R178): Returns fixture model entries. -/
  | litModelRead (op : CmdStep)
  /-- LIT_CHAIN_SET (R178): Writes the chain rate, CHN_SILENT and ident board. -/
  | litChainSet (op : CmdStep)
  /-- LIT_CHAIN_STATUS (R178): Returns the chain state and the boards' return words. -/
  | litChainStatus (op : CmdStep)
  /-- LIT_CHAIN_ACCEPT (R178): Rescans the chain and ends HOLD or OVERLENGTH, returning the board count. -/
  | litChainAccept (op : CmdStep)
  /-- LIT_OUT_READ (R178): Returns each Pin's target, present level, fade and delay state. -/
  | litOutRead (op : CmdStep)
  /-- DAY_PLAN_BUILD (R112): At local 12:00, and within 1 s of a rule change, A1–A3 build the day plans of the current and next schedule days. -/
  | dayPlanBuild
  /-- LOCAL_OFFSET_TRANSITION (R101): At a time-zone transition instant, the change of offset is added to the RTC seconds of day, with the weekday following. -/
  | localOffsetTransition
  /-- TZ_EXPIRED (R100): The time base passes the time-zone rules' valid-until instant, and TZ_EXPIRED is recorded once. -/
  | tzExpired
  /-- PHOTOCELL_SETTLED (R103): A photocell state that has held for 60 s becomes the one that counts. -/
  | photocellSettled (level : Bool)
  /-- CHAIN_SHIFT (R166): The Chainstitch unit shifts a frame of 128 blocks out while return words are shifted in. -/
  | chainShift
  /-- CHAIN_SHIFT_DONE (R165): A frame's shift completes, and the unit checks the return words, the board count and the chain command outcomes. -/
  | chainShiftDone (ret : List U64)
  /-- CHAIN_LATCH (R167): LAT is raised once the commit has completed, the shift is done and the topology checks pass. -/
  | chainLatch
  /-- CHAIN_SCAN (R172): A four-frame scan with LAT withheld sets RET_DELAY and counts the boards, or declares the chain LOST. -/
  | chainScan (ret : List (List U64)) (delays : List Nat)
  /-- CHAIN_BOARD_SILENT (R175): A board without a valid return word for CHN_SILENT Stitches gives its chain Pins class SILENT. -/
  | chainBoardSilent (board : Nat)
  /-- NTC_FAULT (R170): A board without a valid NTC code for 60 s takes 25.0 °C and sets NTC_FAULT. -/
  | ntcFault (board : Nat)
  /-- UPLINK_POLL (R226): A POLL from a node passes the receive checks, is acknowledged, and corrects the sleepy sensor's window state. -/
  | uplinkPoll (frame : RxFrame)
  /-- UPLINK_REPORT (R201): A REPORT frame is accepted and acknowledged, and its records are processed in order. -/
  | uplinkReport (frame : RxFrame)
  /-- UPLINK_IMAGE_STATE (R240): An IMAGE_STATE frame from a node is kept for AIR_IMAGE_STATUS. -/
  | uplinkImageState (frame : RxFrame)
  /-- NODE_ENH_ACK (R193): A node's Enh-Ack that matches the last frame sent makes the command DELIVERED and writes its outcome. -/
  | nodeEnhAck (frame : RxFrame)
  /-- ENH_ACK_SEND (R196): The module sends an Enh-Ack 1,000 µs after the end of the frame it acknowledges. -/
  | enhAckSend (shuttle : Nat)
  /-- ENH_ACK_TIMEOUT (R196): A try with no acceptable Enh-Ack by the end of its window is unacknowledged, and the fourth such try makes the command FAILED. -/
  | enhAckTimeout (shuttle : Nat)
  /-- FOREIGN_BEACON (R19): A beacon with the module's own PAN ID from another coordinator is counted, and PAN_CONFLICT is recorded at most once a minute. -/
  | foreignBeacon (shuttle : Nat) (pan : U16)
  /-- RECEIVE_WINDOW_END (R226): A sleepy sensor's receive window ends with no frame accepted and is counted missed; three misses set WAKE_ONLY. -/
  | receiveWindowEnd (pin : Nat) (collided : Bool)
  /-- PROBE_DUE (R220): A mains Pin not heard for KEEPALIVE seconds is given a probe in the next Course. -/
  | probeDue (pin : Nat)
  /-- PIN_SILENT (R221): A radio Pin silent for SILENT_MAINS seconds, or for SILENT_SLEEPY listen instants, receives class SILENT. -/
  | pinSilent (pin : Nat)
  /-- IMAGE_PICOT_TIMER (R239): Every 60 s of an image session that targets sleepy sensors, a broadcast Picot with reason IMAGE is requested. -/
  | imagePicotTimer
  /-- DUTY_BIN_ROLL (R185): Each second a Shuttle's airtime bin rolls, and the 90 % and 100 % duty holds begin or end. -/
  | dutyBinRoll (shuttle : Nat)
  /-- PROFILE_TAKE_EFFECT (R184): At the first beacon Stitch after its commit, a region profile or Air setting takes effect and the Shuttles retune within 2 ms. -/
  | profileTakeEffect
  /-- SHUTTLE_FAULT (R234): A Shuttle with a memory error, PA or lock fault, missed beacon or stall is taken out of service at the next boundary. -/
  | shuttleFault (shuttle : Nat) (cause : Nat)
  /-- LACE_FAULT (R149): A Lace engine with a memory error, a failed stop or a stall is taken out of service, and its road segments move at the next boundary. -/
  | laceFault (engine : Nat) (cause : Nat)
  /-- AIR_PROFILE_SET (R183): Loads a region profile after band, power and duty checks. -/
  | airProfileSet (op : CmdStep)
  /-- AIR_PROFILE_READ (R243): Returns the region profile. -/
  | airProfileRead (op : CmdStep)
  /-- AIR_SET (R241): Writes the Air settings. -/
  | airSet (op : CmdStep)
  /-- AIR_READ (R243): Returns the Air settings. -/
  | airRead (op : CmdStep)
  /-- AIR_FAILSAFE_SET (R242): Writes the failsafe settings sent to lanterns. -/
  | airFailsafeSet (op : CmdStep)
  /-- AIR_FAILSAFE_READ (R243): Returns the failsafe settings. -/
  | airFailsafeRead (op : CmdStep)
  /-- AIR_PIN_RELEASE (R217): Releases HELD Pins so that their queues resume. -/
  | airPinRelease (op : CmdStep)
  /-- AIR_PIN_STATE (R243): Returns the delivery state records of radio Pins. -/
  | airPinState (op : CmdStep)
  /-- AIR_WAKE (R243): Requests a RESYNC Picot to one sleepy sensor or to all of them. -/
  | airWake (op : CmdStep)
  /-- AIR_IMAGE_BEGIN (R238): Opens the load of a node image. -/
  | airImageBegin (op : CmdStep)
  /-- AIR_IMAGE_DATA (R238): Loads bytes of the node image. -/
  | airImageData (op : CmdStep)
  /-- AIR_IMAGE_START (R239): Starts the node image session, and beacons carry its descriptor. -/
  | airImageStart (op : CmdStep)
  /-- AIR_IMAGE_ACTIVATE (R243): Sets the activation Stitch carried in the session descriptor. -/
  | airImageActivate (op : CmdStep)
  /-- AIR_IMAGE_STOP (R239): Stops the node image session early. -/
  | airImageStop (op : CmdStep)
  /-- AIR_IMAGE_STATUS (R243): Returns the session state and the nodes' image states. -/
  | airImageStatus (op : CmdStep)
  /-- OC_INST_DETECT (R258): The hardware detects INST_COUNT consecutive fast samples above threshold, stamps the trigger and trips its outputs within 50 µs. -/
  | ocInstDetect (feeder channel : Nat) (bits : List Bool)
  /-- HALF_CYCLE_END (R258): A half-cycle ends and the module tests RMS over-current, sag and swell. -/
  | halfCycleEnd (harness : Nat) (bits : List (List Bool))
  /-- SNAPSHOT_COMPLETE (R260): A snapshot's post-trigger part completes, and the buffer goes to the codec. -/
  | snapshotComplete (buffer : Nat) (samples : List (List Int))
  /-- SNAPSHOT_ARCHIVED (R290): A coded snapshot is written to the eMMC archive. -/
  | snapshotArchived (id : U32)
  /-- FEEDER_REARM (R258): A feeder whose channels have stayed below threshold for 100 ms is re-armed. -/
  | feederRearm (feeder : Nat)
  /-- MEASUREMENT_WINDOW_CLOSE (R252): A measurement window closes at its tenth or twelfth zero crossing, and the quantities are computed. -/
  | measurementWindowClose (set : Nat) (bits : List (List Bool))
  /-- FREQ_OUT (R252): With no crossing for 1.5 periods or the frequency out of range, windows close every 200 ms and FREQ_OUT is recorded. -/
  | freqOut (set : Nat) (out : Bool)
  /-- CHAN_FAULT (R255): A channel whose bitstream holds one value for 256 MCLK edges becomes faulty. -/
  | chanFault (channel : Nat)
  /-- CHAN_OK (R255): A faulty channel with no such run for 1 s is no longer faulty. -/
  | chanOk (channel : Nat)
  /-- DEC_OVERRUN (R248): A decimator block that finds no room while its engine is more than 64 ms behind is dropped, and METER_GAP is recorded. -/
  | decOverrun (harness : Nat) (runEnds : Bool)
  /-- CONTACTOR_FB_TIMEOUT (R266): A feedback input that does not show the commanded state within FB_TIMEOUT sets FB_FAULT and records CONTACTOR_FAULT. -/
  | contactorFbTimeout (output : Nat)
  /-- CONTACTOR_CLOSE_SETTLE (R265): CLOSE_SETTLE after closure is confirmed, or after the drive changes, the output counts as closed. -/
  | contactorCloseSettle (output : Nat)
  /-- CONTACTOR_OUT_FAULT (R266): An output drawing more than 700 mA for 1 ms is switched off and latched in OUT_FAULT. -/
  | contactorOutFault (output : Nat)
  /-- DIGITAL_INPUT_CHANGE (R356): A debounced digital input change is counted and, with RECORD set, recorded within the per-second limit. -/
  | digitalInputChange (input : Nat) (level : Bool)
  /-- DFC_PULSE_END (R270): A DFC pulse of w ms ends. -/
  | dfcPulseEnd (output : Nat)
  /-- HARNESS_INSERTED (R271): A harness whose presence has been active for 50 ms goes from ABSENT to POWERING. -/
  | harnessInserted (harness : Nat)
  /-- HARNESS_POWERED (R271): After 20 ms with its supply in range, a harness goes to SETTLING and MCLK starts. -/
  | harnessPowered (harness : Nat)
  /-- HARNESS_SETTLED (R271): After 100 ms of settling a harness goes to RUN, and HARNESS_IN and PROT_ACTIVE are recorded. -/
  | harnessSettled (harness : Nat)
  /-- HARNESS_REMOVED (R272): Presence inactive for 2 ms sends the harness to ABSENT, switches off its supply and MCLK, and opens spans. -/
  | harnessRemoved (harness : Nat)
  /-- HARNESS_UNEXPECTED (R271): An insertion into a harness that is NOT_FITTED records HARNESS_UNEXPECTED once. -/
  | harnessUnexpected (harness : Nat)
  /-- HARNESS_SUPPLY_FAULT (R272): A harness drawing more than 500 mA for 1 ms goes to FAULT. -/
  | harnessSupplyFault (harness : Nat)
  /-- HARNESS_FAULT_RETRY (R271): A harness in FAULT retries its supply every 5 s, three times. -/
  | harnessFaultRetry (harness : Nat)
  /-- TEST_MODE_EXPIRE (R268): When TEST time runs out, the metering mode returns to the mode it was entered from, or moves on. -/
  | testModeExpire
  /-- RECOVERY_EXPIRE (R268): The metering mode leaves RECOVERY for SERVICE 3,600 s after RECOVERY began. -/
  | recoveryExpire
  /-- PERIODIC_SAVE (R283): Once per second the metering state is saved, alternately to slot A or slot B. -/
  | periodicSave
  /-- SPAN_RECORD_DUE (R286): 60 s after a span closes, or earlier when a new span interrupts that minute, its span record and estimate are built. -/
  | spanRecordDue (feeder : Nat)
  /-- ARCHIVE_VERIFIED (R281): An interval or span record's eMMC archive copy is verified, and its journal entry retires. -/
  | archiveVerified (sequence : U32)
  /-- MET_MODE_SET (R268): Enters TEST for a time, or returns to SERVICE. -/
  | metModeSet (op : CmdStep)
  /-- MET_STATUS (R274): Returns the metering mode, harness states, contactor masks and faulty channels. -/
  | metStatus (op : CmdStep)
  /-- MET_QTY_READ (R253): Returns the quantity records of feeders. -/
  | metQtyRead (op : CmdStep)
  /-- MET_CAL_WRITE (R250): Writes calibration entries, increments the calibration count and records CAL_CHANGE. -/
  | metCalWrite (op : CmdStep)
  /-- MET_CAL_READ (R274): Returns calibration entries. -/
  | metCalRead (op : CmdStep)
  /-- MET_HARNESS_SET (R273): Writes the harness settings. -/
  | metHarnessSet (op : CmdStep)
  /-- MET_HARNESS_READ (R274): Returns the harness settings. -/
  | metHarnessRead (op : CmdStep)
  /-- MET_PROT_WRITE (R257): Writes feeder protection entries. -/
  | metProtWrite (op : CmdStep)
  /-- MET_PROT_READ (R274): Returns feeder protection entries. -/
  | metProtRead (op : CmdStep)
  /-- MET_CONTACTOR_CFG (R262): Writes contactor output entries. -/
  | metContactorCfg (op : CmdStep)
  /-- MET_CONTACTOR_READ (R274): Returns contactor output entries. -/
  | metContactorRead (op : CmdStep)
  /-- MET_CONTACTOR_SET (R263): Commands outputs OPEN or CLOSE, or returns them to AUTO. -/
  | metContactorSet (op : CmdStep)
  /-- MET_TRIP_RESET (R264): Resets the trip and OUT_FAULT latches of outputs. -/
  | metTripReset (op : CmdStep)
  /-- MET_DFC_SET (R269): Writes a sealed DFC constant or assigns an output to a quantity. -/
  | metDfcSet (op : CmdStep)
  /-- MET_DFC_READ (R274): Returns the DFC output states. -/
  | metDfcRead (op : CmdStep)
  /-- MET_PEAK_READ (R256): Returns channel peaks and their instants. -/
  | metPeakRead (op : CmdStep)
  /-- MET_PEAK_CLEAR (R256): Clears the peaks of the masked channels. -/
  | metPeakClear (op : CmdStep)
  /-- MET_REG_READ (R291): Returns energy registers, estimates and unmeasured time. -/
  | metRegRead (op : CmdStep)
  /-- MET_LEGACY_READ (R278): Returns the 32-bit legacy views of the registers. -/
  | metLegacyRead (op : CmdStep)
  /-- MET_INTERVAL_SET (R279): Sets the interval length, effective at the next whole UTC hour. -/
  | metIntervalSet (op : CmdStep)
  /-- MET_INTERVAL_READ (R291): Returns interval records by acceptance sequence. -/
  | metIntervalRead (op : CmdStep)
  /-- MET_SPAN_READ (R291): Returns span records by acceptance sequence. -/
  | metSpanRead (op : CmdStep)
  /-- MET_SNAP_TRIGGER (R291): Triggers a snapshot from the head-end. -/
  | metSnapTrigger (op : CmdStep)
  /-- MET_SNAP_LIST (R291): Lists snapshots. -/
  | metSnapList (op : CmdStep)
  /-- MET_SNAP_READ (R291): Returns bytes of a coded snapshot. -/
  | metSnapRead (op : CmdStep)
  /-- MET_SNAP_SET (R288): Writes the snapshot coding step q. -/
  | metSnapSet (op : CmdStep)
  /-- MET_SAVE_STATUS (R291): Returns the state of the metering saves. -/
  | metSaveStatus (op : CmdStep)
  /-- PTP_SYNC (R300): A PTP Sync is received, stamped, and forwarded with transparent clock handling. -/
  | ptpSync (port : Nat) (m : PtpMsg)
  /-- PTP_FOLLOW_UP (R300): A Follow_Up is received and completes a Sync measurement or is corrected and forwarded. -/
  | ptpFollowUp (port : Nat) (m : PtpMsg)
  /-- PTP_DELAY_REQ (R299): Every 2^LOG_DELAY s the ordinary clock sends a Delay_Req. -/
  | ptpDelayReq (stamp : Stamp)
  /-- PTP_DELAY_RESP (R296): A Delay_Resp completes a measurement, and the servo acts on the offset. -/
  | ptpDelayResp (port : Nat) (m : PtpMsg)
  /-- PTP_PDELAY_REQ (R300): Every 1 s each PTP-enabled port sends Pdelay_Req under POWER_UTILITY. -/
  | ptpPdelayReq (port : Nat) (stamp : Stamp)
  /-- PTP_PDELAY_REQ_RX (R300): A received Pdelay_Req is answered by the port. -/
  | ptpPdelayReqRx (port : Nat) (m : PtpMsg)
  /-- PTP_PDELAY_RESP (R300): A Pdelay response completes the port's link delay measurement. -/
  | ptpPdelayResp (port : Nat) (m : PtpMsg)
  /-- PTP_ANNOUNCE (R299): An Announce feeds the best master clock algorithm, traceability and leap flags. -/
  | ptpAnnounce (port : Nat) (m : Announce)
  /-- ANNOUNCE_RECEIPT_TIMEOUT (R299): No Announce for ANN_TIMEOUT intervals loses the master, and the servo may enter HOLDOVER. -/
  | announceReceiptTimeout
  /-- TXQ_DRAIN (R302): T0 drains a transmit timestamp queue entry in identifier order. -/
  | txqDrain
  /-- TXQ_STALE (R302): A transmit timestamp queue entry held for 1 s is discarded. -/
  | txqStale
  /-- HOLDOVER_EXPIRE (R295): HOLDOVER lasting HOLDOVER_MAX returns the servo to FREERUN and ends traceability. -/
  | holdoverExpire
  /-- PPS_IN_EDGE (R305): An active 1PPS input edge is stamped, accepted or rejected, and used as a source. -/
  | ppsInEdge (stamp : Stamp)
  /-- PPS_IN_LOST (R305): No accepted 1PPS edge for 3 s loses the input. -/
  | ppsInLost
  /-- PPS_OUT_PULSE (R304): At each whole second, or beacon boundary, the 1PPS output rises under OUT_MODE. -/
  | ppsOutPulse
  /-- PPS_OUT_FALL (R304): The 1PPS output falls PPS_WIDTH ms after rising. -/
  | ppsOutFall
  /-- LEAP_SECOND (R303): At the end of a UTC day with a leap second, TAI−UTC changes and the RTC seconds of day are adjusted. -/
  | leapSecond
  /-- CLOCK_MONITOR_SECOND (R31): Each LF second the TCXO count is checked, and REF_FAULT is set after 3 bad seconds. -/
  | clockMonitorSecond (count : Nat)
  /-- PLL_LOCK_LOSS (R31): A PLL losing lock resets the SoC, takes ports down or stops the radios, as Table 2.2 states. -/
  | pllLockLoss (pll : Pll)
  /-- PLL_RELOCK (R31): A PLL relocks, and the switch core or the radios restart. -/
  | pllRelock (pll : Pll)
  /-- TCXO_STOP (R31): A stopped TCXO makes AON hold the SoC in reset and light the fault LED. -/
  | tcxoStop
  /-- RTC_ALIGN (R310): While the time base is traceable, at the first second and then every minute, T0 aligns TICK and SOD to it. -/
  | rtcAlign
  /-- RTC_SET_LOAD (R308): A SET loads TICK, SOD or WDAY at the next LF edge, handling alarm jumps. -/
  | rtcSetLoad
  /-- RTC_SHIFT_DONE (R309): A SHIFT completes after 8 × |n| LF edges, and RTC_SHIFT is recorded. -/
  | rtcShiftDone
  /-- RTC_ALARM (R311): An enabled alarm matches TICK, fires, and records RTC_ALARM. -/
  | rtcAlarm (alarm : Nat)
  /-- RTC_SUPPLY_CHANGEOVER (R313): The RTC domain changes between the main rail and the backup, setting or clearing ON_BACKUP. -/
  | rtcSupplyChangeover (toBackup : Bool)
  /-- RTC_BATLOW (R314): The backup falls below 1.6 V on backup, and BATLOW is set. -/
  | rtcBatlow (mv : Nat)
  /-- RTC_LOST (R314): The domain supply below 1.45 V for 30 µs resets the RTC domain and sets LOST. -/
  | rtcLost
  /-- BACKUP_MEASURE (R314): Once a minute AON measures the backup voltage into BACKUP_MV. -/
  | backupMeasure (mv : Nat)
  /-- TIM_STATUS (R317): Returns the servo state, time, offset and grandmaster. -/
  | timStatus (op : CmdStep)
  /-- TIM_PTP_SET (R317): Writes the PTP settings. -/
  | timPtpSet (op : CmdStep)
  /-- TIM_PTP_READ (R317): Returns the PTP settings. -/
  | timPtpRead (op : CmdStep)
  /-- TIM_TIME_SET (R296): Steps the time base to a given time, outside LOCKED and HOLDOVER. -/
  | timTimeSet (op : CmdStep)
  /-- TIM_RTC_READ (R317): Returns the RTC counters and flags. -/
  | timRtcRead (op : CmdStep)
  /-- TIM_RTC_SET (R308): Sets TICK, SOD or WDAY. -/
  | timRtcSet (op : CmdStep)
  /-- TIM_RTC_SHIFT (R309): Starts a SHIFT of n ticks. -/
  | timRtcShift (op : CmdStep)
  /-- TIM_ALARM_SET (R311): Configures an RTC alarm. -/
  | timAlarmSet (op : CmdStep)
  /-- TIM_ALARM_READ (R317): Returns an alarm's setting, count and flags. -/
  | timAlarmRead (op : CmdStep)
  /-- TIM_ALARM_ACK (R317): Clears an alarm's flags. -/
  | timAlarmAck (op : CmdStep)
  /-- TIM_PPS_SET (R304): Writes the 1PPS settings. -/
  | timPpsSet (op : CmdStep)
  /-- TIM_PPS_READ (R317): Returns the 1PPS settings and counts. -/
  | timPpsRead (op : CmdStep)
  /-- TIM_BACKUP_SET (R315): Writes the charger profile. -/
  | timBackupSet (op : CmdStep)
  /-- LOG_STATUS (R397): Returns the Sampler's mode, extent, marks and counts. -/
  | logStatus (op : CmdStep)
  /-- LOG_RECORD_READ (R397): Returns held records from a sequence in acceptance order. -/
  | logRecordRead (op : CmdStep)
  /-- LOG_FREEZE (R393): Freezes the Round for up to 60 s. -/
  | logFreeze (op : CmdStep)
  /-- LOG_THAW (R393): Ends the mailbox's freeze and stores the waiting records. -/
  | logThaw (op : CmdStep)
  /-- LOG_MARK_SET (R391): Sets a rewind mark on a Round record. -/
  | logMarkSet (op : CmdStep)
  /-- LOG_MARK_CLEAR (R397): Clears a rewind mark. -/
  | logMarkClear (op : CmdStep)
  /-- LOG_MODE_SET (R392): Sets the Sampler mode and RATE. -/
  | logModeSet (op : CmdStep)
  /-- LOG_NOTE (R397): Makes a NOTE record with continuation records. -/
  | logNote (op : CmdStep)
  /-- SEC_NONCE (R322): Returns a 16-byte login nonce on the service port. -/
  | secNonce (op : CmdStep)
  /-- SEC_LOGIN (R322): Opens the service-port session on a correct HMAC proof, or counts a failure. -/
  | secLogin (op : CmdStep)
  /-- SEC_WHOAMI (R342): Returns the session's mailbox, principal, rights and maintenance state. -/
  | secWhoami (op : CmdStep)
  /-- SEC_STATUS (R342): Returns the state record of each of the 16 mailboxes. -/
  | secStatus (op : CmdStep)
  /-- SEC_PROT_READ (R335): Returns the protection table. -/
  | secProtRead (op : CmdStep)
  /-- SEC_PROT_WRITE (R337): Replaces the protection table at the commit that accepts it, acting on the sessions. -/
  | secProtWrite (op : CmdStep)
  /-- SEC_REVOKE (R339): Revokes waiting commands of named mailboxes within a sequence range. -/
  | secRevoke (op : CmdStep)
  /-- SEC_MAINT_SET (R340): Starts, replaces or ends maintenance mode. -/
  | secMaintSet (op : CmdStep)
  /-- MAINT_EXPIRE (R340): Maintenance mode ends when its time runs out, and MAINT_OFF is recorded. -/
  | maintExpire
  /-- SEC_KEY_WRITE (R341): Writes a radio key slot, effective at the next boundary. -/
  | secKeyWrite (op : CmdStep)
  /-- SEC_KEY_STATUS (R342): Returns the states and counters of key slots. -/
  | secKeyStatus (op : CmdStep)
  /-- SEC_KEY_CLEAR (R341): Empties a radio key slot. -/
  | secKeyClear (op : CmdStep)
  /-- SEC_CERT_SET (R342): Installs the device certificate chain for new handshakes. -/
  | secCertSet (op : CmdStep)
  /-- SEC_CSR_READ (R342): Returns a PKCS#10 request signed with the device key. -/
  | secCsrRead (op : CmdStep)
  /-- UPD_STATUS (R416): Returns the image slots and load state. -/
  | updStatus (op : CmdStep)
  /-- UPD_BEGIN (R416): Opens a firmware load and empties the inactive slot. -/
  | updBegin (op : CmdStep)
  /-- UPD_DATA (R416): Loads bytes of a firmware image. -/
  | updData (op : CmdStep)
  /-- UPD_VERIFY (R403): Verifies the loaded image, making its slot VALID or rejecting it. -/
  | updVerify (op : CmdStep)
  /-- UPD_ABORT (R416): Discards the open firmware load. -/
  | updAbort (op : CmdStep)
  /-- UPD_ACTIVATE (R417): Schedules a planned reset into the new image as TRIAL. -/
  | updActivate (op : CmdStep)
  /-- UPD_CONFIRM (R406): Confirms the running TRIAL image and raises the minimum security version. -/
  | updConfirm (op : CmdStep)
  /-- UPD_ROLLBACK (R417): Schedules a planned reset into the other image. -/
  | updRollback (op : CmdStep)
  /-- UPD_LOAD_TIMEOUT (R416): A firmware load without a UPD command for 600 s is discarded. -/
  | updLoadTimeout
  /-- PRB_READ (R362): Reads a list of Probe words in order. -/
  | prbRead (op : CmdStep)
  /-- PRB_READ_RANGE (R362): Reads consecutive Probe words within one block. -/
  | prbReadRange (op : CmdStep)
  /-- PRB_WRITE (R363): Writes Probe words in list order with read-back, and records PROBE_WRITE. -/
  | prbWrite (op : CmdStep)
  /-- PRB_MAP (R361): Returns the twelve Probe blocks. -/
  | prbMap (op : CmdStep)
  /-- PNL_STATUS (R444): Returns the panel's lock mode, level, page, USB state and LEDs. -/
  | pnlStatus (op : CmdStep)
  /-- PNL_LOCK (R443): Writes the lock mode and USB_MODE. -/
  | pnlLock (op : CmdStep)
  /-- PNL_PIN_SET (R439): Sets or clears the panel PIN with a new salt. -/
  | pnlPinSet (op : CmdStep)
  /-- PNL_MESSAGE (R436): Shows or clears a two-line message banner. -/
  | pnlMessage (op : CmdStep)
  /-- PNL_TEST (R440): Runs an LED, display or key test for its whole length. -/
  | pnlTest (op : CmdStep)
  /-- PNL_SCREEN_READ (R444): Returns the display image. -/
  | pnlScreenRead (op : CmdStep)
  /-- PNL_TEST_END (R440): A panel test ends when its time runs out, on a fault or on BACK. -/
  | pnlTestEnd (cause : TestEnd)
  /-- KEY_PRESS (R434): A debounced key press wakes the display or acts on the page, on PIN entry, or on a panel action. -/
  | keyPress (key : Nat)
  /-- KEY_RELEASE (R434): A key counts as released after 20 ms without contact. -/
  | keyRelease (key : Nat)
  /-- KEY_REPEAT (R434): UP or DOWN held for 600 ms repeats 8 times a second. -/
  | keyRepeat (key : Nat)
  /-- PROX_WAKE (R435): The proximity pad senses a hand and wakes the display and LEDs. -/
  | proxWake
  /-- DISPLAY_DIM (R435): The display turns off DIM seconds after the last key or pad event. -/
  | displayDim
  /-- CONTROL_LAPSE (R439): CONTROL ends after UNLOCK seconds without a key press. -/
  | controlLapse
  /-- BACK_HOLD (R439): BACK held for 2 s ends CONTROL. -/
  | backHold
  /-- LOCKOUT_END (R438): LOCKOUT ends after 10 min. -/
  | lockoutEnd
  /-- BANNER_EXPIRE (R436): A hot-plug banner or message banner ends when its time runs out. -/
  | bannerExpire
  /-- USB_SERVICE_KEY (R441): SERVICE held for 2 s under ON_KEY opens the 60-minute USB window. -/
  | usbServiceKey
  /-- USB_KEY_WINDOW_END (R441): The ON_KEY USB window of 60 min ends. -/
  | usbKeyWindowEnd
  /-- USB_ATTACH (R441): VBUS is sensed, and the device connects under USB_MODE, opening mailbox 14 in LOGIN_WAIT. -/
  | usbAttach
  /-- USB_DETACH (R442): VBUS is lost, and the mailbox 14 session closes within 100 ms. -/
  | usbDetach
  /-- LINK_UP (R421): A port's link comes up. -/
  | linkUp (port speed : Nat)
  /-- LINK_DOWN (R421): A port's link is lost for 2 ms or more and is reported down. -/
  | linkDown (port : Nat)
  /-- SFP_INSERT (R422): The module-absent line of an SFP+ cage is debounced for 50 ms and the cage is powered. -/
  | sfpInsert (port : Nat)
  /-- SFP_POWERED (R422): After 300 ms of power, the cage's identification is read. -/
  | sfpPowered (port : Nat)
  /-- SFP_IDENTIFIED (R422): The identification read completes, and the SFP module is accepted or rejected. -/
  | sfpIdentified (port : Nat) (id : SfpId)
  /-- SFP_OUT (R422): An SFP module is removed and its port goes down. -/
  | sfpOut (port : Nat)
  /-- ETHERNET_FRAME (R423): A frame received on a switch port is filtered, learned, queued and forwarded, or taken by the host. -/
  | ethernetFrame (port : Nat) (frame : EthFrame)
  /-- FDB_AGE (R423): A learned address ages out after 300 s. -/
  | fdbAge (vid : Nat) (mac : Bytes)
  /-- RAPS_FRAME (R426): A received R-APS frame is resolved with local requests under G.8032. -/
  | rapsFrame (port : Nat) (m : Raps)
  /-- RAPS_TRANSMIT (R426): R-APS frames are sent three times at 3.3 ms on a change of request and every 5 s after that. -/
  | rapsTransmit
  /-- RING_WTR_EXPIRE (R426): The RPL owner's wait-to-restore timer ends, and the RPL is blocked again. -/
  | ringWtrExpire
  /-- RING_GUARD_EXPIRE (R426): The guard timer after a ring change ends. -/
  | ringGuardExpire
  /-- RING_HOLD_OFF_EXPIRE (R428): A link failure that lasts past the hold-off time raises signal fail. -/
  | ringHoldOffExpire
  /-- POWER_FAIL_WARNING (R413): The DC input below 16.5 V for 1 ms starts the last-gasp sequence. -/
  | powerFailWarning
  /-- LAST_GASP_COMPLETE (R413): Once the save and any commit in progress are complete, the open batch is committed, counters saved, AON sets LG_DONE and holds the SoC in reset. -/
  | lastGaspComplete (us : Nat)
  /-- DIP_RETURN (R414): The input standing above 17.0 V for 10 ms during hold-up leads to a start of kind DIP. -/
  | dipReturn
  /-- DC_INPUT_ON (R399): The DC input above 17.0 V for 10 ms begins phase 0 of start-up. -/
  | dcInputOn
  /-- SUPPLY_PHASE_DONE (R399): The hold-up bank holds 100 ms at 32 W, and K0 starts the boot ROM. -/
  | supplyPhaseDone
  /-- BOOT (R404): K0 selects and verifies an image, rolling back or entering LOADER state when it must. -/
  | boot (imageA imageB : ImageCheck)
  /-- MEMORY_READY (R399): The PLLs lock and the DRAM, eMMC and MRAM are ready, with DIE_LOST or EMMC_FAULT set as found. -/
  | memoryReady (die0 die1 emmc bank0 bank1 : Bool)
  /-- RESTORE (R374): K0 restores the counters, settings, metering saves and Sampler, then replays the journal and sets REPLAY_DONE. -/
  | restore (found : RestoreFound)
  /-- FIRST_BOUNDARY_RELEASE (R39): At the first whole second after start-up the Stitch generator starts and the first boundary is released. -/
  | firstBoundaryRelease
  /-- GROUND_RELOAD_DONE (R136): A road segment's Ground record is copied from the eMMC to DRAM and verified, and it becomes solvable at the next boundary. -/
  | groundReloadDone (seg : Nat) (ok : Bool)
  /-- WATCHDOG_RESET (R373): A watchdog of K0, T0 or the fabric expires and resets the SoC. -/
  | watchdogReset (unit : Watchdog) (commit : CommitCut)
  /-- MEMORY_ERROR_RESET (R373): An uncorrectable error in Frame SRAM, the L2 or K0's memory resets the SoC. -/
  | memoryErrorReset (commit : CommitCut)
  /-- PLANNED_RESET (R360): At the reset boundary of SYS_RESET, UPD_ACTIVATE or UPD_ROLLBACK, the module makes a planned reset with the last-gasp save. -/
  | plannedReset
  /-- A0_STOP (R22): A fault of A0 stops acceptance while light, metering, radios and time run on. -/
  | a0Stop
  /-- A0_RETURN (R373): A0 returns, closes every session and rebuilds its mailbox state from the journal. -/
  | a0Return
  /-- DRAM_DIE_LOST (R23): One DRAM die is lost, mirrored regions run from the other, and the Ground is reloaded. -/
  | dramDieLost (die : Nat)
  /-- MRAM_BANK_FAULT (R470): One MRAM bank fails and the module runs on its surviving copies. -/
  | mramBankFault (bank : Nat)
  /-- EMMC_FAULT (R377): An eMMC I/O or verification failure sets EMMC_FAULT and keeps records unretired in the journal. -/
  | emmcFault
  /-- SETTINGS_STORE_VERIFIED (R410): A captured settings copy is written and read back, and becomes the stored copy, or the STORE fails with STORAGE_FAULT. -/
  | settingsStoreVerified (ok : Bool)
  /-- RESULT_STORE_COPY (R370): A retired command's short result is copied to the eMMC result store and its log entry released. -/
  | resultStoreCopy (sequence : U32)
  /-- OPERATING_COUNTERS_SAVE (R93): Every 60 s the operating seconds, last known time, frame counters, downlink sequences and failure classes are saved to MRAM. -/
  | operatingCountersSave
  /-- HOLDUP_MEASURE (R415): AON measures the hold-up bank at phase 0 and every 86,400 operating seconds, setting HOLDUP_LOW or BANK_FAULT. -/
  | holdupMeasure (ms : Nat) (open_ : Bool)
  /-- UNKNOWN_OPCODE_REQUEST (R343): A REQUEST whose opcode is 0 or absent from Table 14.2, or used outside its transport, is refused at acceptance with BAD_OPCODE. -/
  | unknownOpcodeRequest (session : Nat) (msg : Message)
  /-- CHARGER_TEMP_HOLD (R315): Under a coin-cell profile, charging is suspended while the board temperature exceeds 60 °C and resumes when it falls back, shown in CHARGER.TEMP_HOLD. -/
  | chargerTempHold (hot : Bool)
  /-- SOD_WRAP (R306): When the RTC seconds of day return from 86,399 to 0, a weekday code of 0 to 6 advances by 1 modulo 7. -/
  | sodWrap
  deriving DecidableEq, Repr

end Sys2Proof
end

