-- ==== Sys2Proof/Machine/Operands.lean ====
section
/-! DEFINITION. The operand forms of the spec: little-endian fields of payloads, records and registers (R11, R346,
R347), sparse tables, bit fields, serial numbers (R34), and the integer arithmetic of R14. -/

namespace Sys2Proof.Machine

/-! Reading fields. A byte beyond the end of a string reads as 0. -/

def u8At (b : Bytes) (i : Nat) : Nat := (b.getD i 0).toNat
def u16At (b : Bytes) (i : Nat) : Nat := u8At b i + 256 * u8At b (i + 1)
def u32At (b : Bytes) (i : Nat) : Nat := u16At b i + 65536 * u16At b (i + 2)
def u64At (b : Bytes) (i : Nat) : Nat := u32At b i + 4294967296 * u32At b (i + 4)

/-- The value of the low `w` bits of `n` as a two's complement number. -/
def signed (w n : Nat) : Int :=
  let m := n % 2 ^ w
  if m < 2 ^ (w - 1) then (m : Int) else (m : Int) - ((2 ^ w : Nat) : Int)

def s8At (b : Bytes) (i : Nat) : Int := signed 8 (u8At b i)
def s16At (b : Bytes) (i : Nat) : Int := signed 16 (u16At b i)
def s32At (b : Bytes) (i : Nat) : Int := signed 32 (u32At b i)
def s64At (b : Bytes) (i : Nat) : Int := signed 64 (u64At b i)

/-! Writing fields. -/

/-- The `k` low bytes of `n`, least significant first. -/
def leBytes : Nat → Nat → Bytes
  | 0, _ => []
  | k + 1, n => BitVec.ofNat 8 n :: leBytes k (n / 256)

def le8 (n : Nat) : Bytes := leBytes 1 n
def le16 (n : Nat) : Bytes := leBytes 2 n
def le32 (n : Nat) : Bytes := leBytes 4 n
def le64 (n : Nat) : Bytes := leBytes 8 n

/-- `z` modulo `2 ^ w`, as an unsigned number. -/
def unsignedOf (w : Nat) (z : Int) : Nat := (z % ((2 ^ w : Nat) : Int)).toNat

def leS8 (z : Int) : Bytes := le8 (unsignedOf 8 z)
def leS16 (z : Int) : Bytes := le16 (unsignedOf 16 z)
def leS32 (z : Int) : Bytes := le32 (unsignedOf 32 z)
def leS64 (z : Int) : Bytes := le64 (unsignedOf 64 z)
def leW (x : U32) : Bytes := le32 x.toNat

def zeros (n : Nat) : Bytes := List.replicate n 0
def ones (n : Nat) : Bytes := List.replicate n 0xFF

/-- Bytes `off` to `off + n - 1`, completed with zeros. -/
def slice (b : Bytes) (off n : Nat) : Bytes :=
  let t := (b.drop off).take n
  t ++ zeros (n - t.length)

/-- `b` with the bytes from `off` on replaced by `new`, its length kept. -/
def overlay (b : Bytes) (off : Nat) (new : Bytes) : Bytes :=
  (slice b 0 off ++ new ++ b.drop (off + new.length)).take b.length

def allZero (b : Bytes) : Bool := b.all (· == 0)

/-- Cuts or completes `b` to `n` bytes. -/
def fit (n : Nat) (b : Bytes) : Bytes := slice b 0 n

/-- `b` completed with zeros to a multiple of `k` bytes. -/
def padTo (k : Nat) (b : Bytes) : Bytes := b ++ zeros ((k - b.length % k) % k)

/-- The Text encoding of Table 14.3: printable ASCII, then 0x00 padding only. -/
def textOk (b : Bytes) : Bool :=
  let t := b.dropWhile fun c => 0x20 ≤ c.toNat && c.toNat ≤ 0x7E
  allZero t

/-- ASCII bytes of a string of 7-bit characters. -/
def ascii (s : String) : Bytes := s.toList.map fun c => BitVec.ofNat 8 c.toNat

/-! Sparse tables, indexes strictly rising. -/

def tabGet {α : Type} : Tab α → Nat → Option α
  | [], _ => none
  | (j, x) :: t, k => if j = k then some x else tabGet t k

def tabSet {α : Type} : Tab α → Nat → α → Tab α
  | [], k, v => [(k, v)]
  | (j, x) :: t, k, v =>
    if k < j then (k, v) :: (j, x) :: t
    else if k = j then (k, v) :: t
    else (j, x) :: tabSet t k v

def tabErase {α : Type} : Tab α → Nat → Tab α
  | [], _ => []
  | (j, x) :: t, k => if j = k then t else (j, x) :: tabErase t k

def tabGetD {α : Type} (t : Tab α) (k : Nat) (d : α) : α := (tabGet t k).getD d

def tabModify {α : Type} (t : Tab α) (k : Nat) (f : α → α) : Tab α :=
  t.map fun e => if e.1 = k then (e.1, f e.2) else e

/-- The list with element `i` replaced by `f` of it. -/
def listModify {α : Type} : List α → Nat → (α → α) → List α
  | [], _, _ => []
  | x :: t, 0, f => f x :: t
  | x :: t, i + 1, f => x :: listModify t i f

def listSet {α : Type} (l : List α) (i : Nat) (v : α) : List α := listModify l i fun _ => v

/-- `x` before the first element of `l` that it may stand before. -/
def insertBy {α : Type} (le : α → α → Bool) (x : α) : List α → List α
  | [] => [x]
  | y :: t => if le x y then x :: y :: t else y :: insertBy le x t

/-- The list in the order of `le`; elements that may stand either way keep their order. -/
def sortBy {α : Type} (le : α → α → Bool) (l : List α) : List α := l.foldr (insertBy le) []

/-- `0, 1, …, n - 1`. -/
def upTo (n : Nat) : List Nat := List.range n

/-- `first, first + 1, …, first + n - 1`. -/
def span (first n : Nat) : List Nat := (List.range n).map (first + ·)

/-- The last `n` elements. -/
def lastN {α : Type} (n : Nat) (l : List α) : List α := l.drop (l.length - n)

/-! Bits and masks. -/

def bit (n k : Nat) : Bool := n / 2 ^ k % 2 == 1
/-- Field [hi:lo] of `n` (R11). -/
def field (n hi lo : Nat) : Nat := n / 2 ^ lo % 2 ^ (hi + 1 - lo)
def bitN (b : Bool) (k : Nat) : Nat := if b then 2 ^ k else 0
/-- The mask whose bit `k` is element `k`. -/
def maskOf : List Bool → Nat
  | [] => 0
  | b :: t => (if b then 1 else 0) + 2 * maskOf t
/-- The mask of a list of item numbers. -/
def maskOfItems (n : Nat) (l : List Nat) : Nat := maskOf ((upTo n).map fun k => l.contains k)
/-- The items below `n` that a mask names. -/
def itemsOf (n mask : Nat) : List Nat := (upTo n).filter (bit mask)

/-! Integers under R14. -/

/-- Clamp to the range of a signed field of width `w`: signed operations saturate. -/
def satS (w : Nat) (z : Int) : Int :=
  let hi : Int := ((2 ^ (w - 1) : Nat) : Int) - 1
  max (-hi - 1) (min hi z)
def satU (w n : Nat) : Nat := min n (2 ^ w - 1)
def clampN (x lo hi : Nat) : Nat := max lo (min x hi)
def clampI (x lo hi : Int) : Int := max lo (min x hi)
/-- Integer `/`, truncating toward zero. -/
def tdiv (a b : Int) : Int := Int.tdiv a b
/-- `mod` with the sign of the divisor. -/
def fmod (a b : Int) : Int := Int.fmod a b

def absDiff (a b : Nat) : Nat := if a ≤ b then b - a else a - b

/-! Serial numbers (R34, R327). -/

/-- `a` is earlier than `b`. -/
def serialBefore (a b : U32) : Bool :=
  let d := (b - a).toNat
  1 ≤ d && d < 2147483648
def serialAtOrBefore (a b : U32) : Bool := a == b || serialBefore a b
/-- The sequence after `a`: the series steps by 1, wraps and skips 0. -/
def seqNext (a : U32) : U32 := if a + 1 = 0 then 1 else a + 1

/-- Increment of a saturating 16-bit count. -/
def sat16Inc (n : Nat) : Nat := min (n + 1) 65535

/-- The least of a list. -/
def minNat : List Nat → Option Nat
  | [] => none
  | x :: t => match minNat t with | none => some x | some y => some (min x y)

end Sys2Proof.Machine
end

