-- ==== Sys2Proof/Machine/Memory.lean ====
section
/-! DEFINITION. The fabric memory that Bobbins move (R67, R68): a list of address and byte, addresses strictly rising, no
listed byte 0, since an unlisted address reads as 0 (DESIGN CHOICE: the spec gives no content before a write). -/

namespace Sys2Proof.Machine

abbrev Memory := List Host.Cell

/-- What an unlisted address reads as. -/
def unlisted : Byte := 0

def memRead : Memory → Nat → Byte
  | [], _ => unlisted
  | (b, v) :: t, a => if a = b then v else memRead t a

def memWrite : Memory → Nat → Byte → Memory
  | [], a, v => if v = unlisted then [] else [(a, v)]
  | (b, w) :: t, a, v =>
    if a < b then (if v = unlisted then (b, w) :: t else (a, v) :: (b, w) :: t)
    else if a = b then (if v = unlisted then t else (a, v) :: t)
    else (b, w) :: memWrite t a v

/-- Every address of the list exceeds `lo`, addresses rise, and no listed byte is what an unlisted address reads as. -/
def memWfFrom : Option Nat → Memory → Bool
  | _, [] => true
  | lo, (a, v) :: t => (match lo with | none => true | some l => decide (l < a)) && v != unlisted && memWfFrom (some a) t

/-- The canonical form. -/
def Memory.wf (m : Memory) : Bool := memWfFrom none m

/-- Bytes at consecutive addresses of the 40-bit space. -/
def memBytes (m : Memory) (a n : Nat) : Bytes := (upTo n).map fun k => memRead m ((a + k) % 1099511627776)

/-- Writes `(address, byte)` pairs in order. -/
def memWriteAll (m : Memory) (l : List (Nat × Byte)) : Memory := l.foldl (fun m p => memWrite m p.1 p.2) m

end Sys2Proof.Machine
end

