-- ==== Sys2Proof/Machine/Fp.lean ====
section
/-! DEFINITION. IEEE 754 binary16 and binary32 as R14 names them: values are exact rationals, every operation is exact and
its result is rounded to nearest, ties to even. -/

namespace Sys2Proof.Machine

/-- The value of a finite IEEE number with `e` exponent bits and `m` fraction bits; an infinity or NaN pattern reads as 0
and is never produced by a stored table value (log entry on non-finite values). -/
def fpValue (e m n : Nat) : Rat :=
  let frac := n % 2 ^ m
  let ex := n / 2 ^ m % 2 ^ e
  let neg := n / 2 ^ (m + e) % 2 == 1
  let bias := 2 ^ (e - 1) - 1
  if ex = 2 ^ e - 1 then 0
  else
    let mag : Rat :=
      if ex = 0 then (frac : Rat) / ((2 ^ (bias + m - 1) : Nat) : Rat)
      else if bias + m ≤ ex then (((2 ^ m + frac) * 2 ^ (ex - bias - m) : Nat) : Rat)
      else ((2 ^ m + frac : Nat) : Rat) / ((2 ^ (bias + m - ex) : Nat) : Rat)
    if neg then -mag else mag

/-- True of a finite, non-negative pattern: neither a NaN nor an infinity, sign clear. -/
def fpFiniteNonneg (e m n : Nat) : Bool := n / 2 ^ m % 2 ^ e != 2 ^ e - 1 && n / 2 ^ (m + e) % 2 == 0

/-- True of a finite pattern. -/
def fpFinite (e m n : Nat) : Bool := n / 2 ^ m % 2 ^ e != 2 ^ e - 1

def fp16Value (n : Nat) : Rat := fpValue 5 10 n
def fp32Value (n : Nat) : Rat := fpValue 8 23 n

/-- `num / den` rounded to the nearest integer, ties to even. -/
def roundEven (num den : Nat) : Nat :=
  let q := num / den
  let r := num % den
  if 2 * r < den then q else if den < 2 * r then q + 1 else if q % 2 = 0 then q else q + 1

/-- The unit in the last place of `num / den` for `p` significant bits: the exponent `k` with
`2 ^ (p - 1) ≤ num / den / 2 ^ k < 2 ^ p`, at least `emin`. -/
def ulpExp (p : Nat) (emin : Int) (num den : Nat) : Int :=
  let k : Int := (Nat.log2 num : Int) - (Nat.log2 den : Int) - (p : Int) + 1
  let below : Bool :=
    -- num / den < 2 ^ (k + p - 1)
    let t := k + (p : Int) - 1
    if 0 ≤ t then num < den * 2 ^ t.toNat else num * 2 ^ (-t).toNat < den
  max emin (if below then k - 1 else k)

/-- A rational rounded to `p` significant bits with least unit exponent `emin`, ties to even. -/
def roundTo (p : Nat) (emin : Int) (x : Rat) : Rat :=
  if x = 0 then 0
  else
    let num := x.num.natAbs
    let den := x.den
    let k := ulpExp p emin num den
    let n := if 0 ≤ k then roundEven num (den * 2 ^ k.toNat) else roundEven (num * 2 ^ (-k).toNat) den
    let mag : Rat := if 0 ≤ k then ((n * 2 ^ k.toNat : Nat) : Rat) else (n : Rat) / ((2 ^ (-k).toNat : Nat) : Rat)
    if x < 0 then -mag else mag

/-- fp32 rounding of an exact result. -/
def r32 (x : Rat) : Rat := roundTo 24 (-149) x
/-- fp16 rounding of an exact result. -/
def r16 (x : Rat) : Rat := roundTo 11 (-24) x

def fadd (a b : Rat) : Rat := r32 (a + b)
def fsub (a b : Rat) : Rat := r32 (a - b)
def fmul (a b : Rat) : Rat := r32 (a * b)
def fdiv (a b : Rat) : Rat := r32 (a / b)

/-- The binary32 pattern of a value that is a multiple of its unit in the last place; overflow gives infinity. -/
def fp32Bits (x : Rat) : Nat :=
  if x = 0 then 0
  else
    let y := r32 x
    let num := y.num.natAbs
    let den := y.den
    let sgn := if y < 0 then 2 ^ 31 else 0
    let k := ulpExp 24 (-149) num den
    let n := if 0 ≤ k then num / (den * 2 ^ k.toNat) else num * 2 ^ (-k).toNat / den
    if n < 2 ^ 23 then sgn + n
    else
      let ex := k + 150
      if 255 ≤ ex then sgn + 255 * 2 ^ 23 else sgn + ex.toNat * 2 ^ 23 + (n - 2 ^ 23)

/-- Rounds to the nearest integer, halves away from zero. -/
def roundHalfAway (x : Rat) : Int :=
  if x < 0 then -((-x + 1 / 2).floor) else (x + 1 / 2).floor

/-- Rounds to the nearest integer, halves to even. -/
def roundHalfEven (x : Rat) : Int :=
  let n := roundEven x.num.natAbs x.den
  if x < 0 then -(n : Int) else (n : Int)

/-- The greatest integer whose square is at most `n`, by `fuel` bits from the top. -/
def isqrtAux (n : Nat) : Nat → Nat → Nat
  | 0, r => r
  | k + 1, r =>
    let t := r + 2 ^ k
    isqrtAux n k (if t * t ≤ n then t else r)

def isqrt (n : Nat) : Nat := isqrtAux n (Nat.log2 n / 2 + 1) 0

/-- The fp32 square root of a non-negative rational: correctly rounded from 64 fraction bits of the integer root. -/
def fsqrt (x : Rat) : Rat :=
  if x ≤ 0 then 0
  else
    let scaled := x.num.natAbs * 2 ^ 400 / x.den
    let r := isqrt scaled
    -- the root is exact or lies strictly between two representable midpoints
    let exact := r * r * x.den == x.num.natAbs * 2 ^ 400
    r32 (((2 * r + (if exact then 0 else 1) : Nat) : Rat) / ((2 ^ 201 : Nat) : Rat))

end Sys2Proof.Machine
end

