-- ==== Sys2Proof/Config.lean ====
section
/-! DEFINITION. What an implementation or a single module fixes and the spec leaves open: constants without a body. Nothing
in Lean can evaluate one, so every statement holds for every value of it. -/

namespace Sys2Proof.Config

/-! Free values. Each is applied to the operands it depends on, or to the model's own counter `State.freeCtr`. -/

/-- Whether an initiator raises a request at a fabric target in a FAB cycle: FAB cycle, target, initiator. What the engines ask of
the fabric word by word is their firmware's (R53). -/
opaque fabricRequest : Nat → Nat → Nat → Bool
/-- Beats of the burst granted in a FAB cycle at a target, before the limit of 16 (R53). -/
opaque fabricBeats : Nat → Nat → Nat
/-- Whether a 40-bit fabric address lies in the MRAM journal, the key store or the boot ROM, whose places the spec does not give
(R73). -/
opaque closedAddress : Nat → Bool
/-- A fresh word for each use of the counter. -/
opaque freeWord : Nat → U32
/-- The 168 characters of the display, 8 lines of 21, by page (9: a PIN entry, 10: a key test) and the items it shows: R435 gives the
items of some pages and the layout of none. -/
opaque pageText : Nat → List Bytes → Bytes
/-- The 42 characters of the banner of a fault or of a hot-plug event (code, source), whose words Table 19.3 abbreviates. -/
opaque faultBanner : Nat → Bytes
opaque eventBanner : Nat → Nat → Bytes
/-- Six columns of a character on the display, whose font the spec does not give; a column's bit 0 is its top pixel. -/
opaque glyph : Byte → Bytes
/-- A fresh natural number for each use of the counter. -/
opaque freeNat : Nat → Nat
/-- Random bytes drawn by K0 (nonces and salts): draw number and length. -/
opaque random : Nat → Nat → Bytes

/-- Which of the orders of the 32 solver lanes stands at the leaves of the fixed tree that adds them pairwise: the spec fixes the tree
and does not give it (R139). -/
opaque laneOrder : Nat

/-! Cryptography, whose values the spec takes from its standards. -/

/-- The octets of a value that a standard or manufacture gives whole. -/
def octets (n value : Nat) : Bytes := (List.range n).map fun i => BitVec.ofNat 8 (value / 256 ^ i)

opaque sha256Value : Bytes → BitVec 256
def sha256 (b : Bytes) : Bytes := octets 32 (sha256Value b).toNat
/-- ECDSA P-256 over SHA-256 under the Feovol key (R403): signed bytes and signature. -/
opaque feovolSigned : Bytes → Bytes → Bool
opaque hmacSha256Value : Bytes → Bytes → BitVec 256
def hmacSha256 (key b : Bytes) : Bytes := octets 32 (hmacSha256Value key b).toNat
/-- AES-128 encryption of one block: key, block. -/
opaque aes128Value : Bytes → Bytes → BitVec 128
def aes128 (key block : Bytes) : Bytes := octets 16 (aes128Value key block).toNat
/-- CCM* over AES-128 at a security level (R189): key, nonce, header, payload, level; the payload as sent and its MIC. -/
opaque ccmStar : Bytes → Bytes → Bytes → Bytes → Nat → Bytes
/-- PKCS#10 request over a subject, signed with the device key. -/
opaque csr : Bytes → Bytes
/-- SubjectPublicKeyInfo of a DER certificate. -/
opaque spkiOf : Bytes → Bytes

/-! The identity of one module (Table 14.6), fixed at manufacture. -/

opaque boardIssue : U16
opaque serialNumber : Bytes
opaque eui64Value : BitVec 64
def eui64 : Bytes := octets 8 eui64Value.toNat
opaque baseMacValue : BitVec 48
def baseMac : Bytes := octets 6 baseMacValue.toNat
opaque bootRom : U32
opaque deviceSpki : Bytes
opaque serviceCredentialValue : BitVec 256
def serviceCredential : Bytes := octets 32 serviceCredentialValue.toNat
/-- Build time of the running image, TAI seconds, by its version (R401). -/
opaque buildTime : U32 → Nat

/-! Metering. -/

/-- The 8 taps of the fractional-delay FIR by its delay in ns, which the spec does not give (R249). -/
opaque firTaps : Nat → List Rat
/-- The delayed value of a channel whose taps miss R249's bounds: use of the counter, channel, the last 8 values, newest first. -/
opaque delayedFree : Nat → Nat → List Rat → Rat
/-- How far a quantity lies from its exact value, within R254's bounds where they apply: use of the counter, quantity (f, RMS, THD, P, Q,
S, PF), channel or phase. -/
opaque meterFree : Nat → Nat → Nat → Rat
/-- Frequency in Hz of a window with fewer than two crossings, which R253 does not define. -/
opaque frequencyFree : Nat → Rat
/-- THD of a channel whose fundamental is 0, which R253 leaves undefined: use of the counter, channel. -/
opaque thdOfZero : Nat → Nat → Nat

/-! Radio. -/

/-- Airtime in ns of a PSDU of so many octets in an OFDM mode, which the spec leaves to IEEE 802.15.4-2020 (R182). -/
opaque ofdmAirtime : Nat → Nat → Nat
/-- An RFC 6330 encoding symbol (R238): image, T, source block, ESI. -/
opaque raptorq : Bytes → Nat → Nat → Nat → Bytes

/-- How far a function of R109 lies from the exact value, within the accuracy the rule states: function (sin, cos, asin, acos, atan2),
operands. -/
opaque trigFree : Nat → Rat → Rat → Rat
/-- al of R170 where its quotient is 0 / 0 (CCT_W, CCT_C, K), before the clamp: the spec states no result. -/
opaque mixOfZero : Nat → Nat → Nat → Rat
/-- Temperature in 0.1 °C of a board as a Pin without a matching model reads it, by the mean code: R170 needs the model's β
and gives none. -/
opaque boardTemp : Rat → Int

end Sys2Proof.Config
end

