-- ==== Sys2Proof/Machine/Flags.lean ====
section
/-! DEFINITION. The spec's status codes (Table 14.4), check sums (CRC-32C, and the CRC-16, CRC-8 and CRC-4 of the chain
and Picot chapters), and the access-code computations of Table 0.3. -/

namespace Sys2Proof.Machine

/-! Status codes of Table 14.4. -/

def stOk : Nat := 0x0000
def stStaged : Nat := 0x0001
def stPending : Nat := 0x0010
def stResultLost : Nat := 0x0011
def stExpired : Nat := 0x0012
def stUnknownSeq : Nat := 0x0013
def stBadVersion : Nat := 0x0100
def stBadHeader : Nat := 0x0101
def stTooLong : Nat := 0x0102
def stBadOpcode : Nat := 0x0103
def stDenied : Nat := 0x0200
def stAuthFailed : Nat := 0x0201
def stBadPayload : Nat := 0x0202
def stRange : Nat := 0x0203
def stLimit : Nat := 0x0204
def stConflict : Nat := 0x0205
def stBatchState : Nat := 0x0206
def stNoRadio : Nat := 0x0207
def stNoRegion : Nat := 0x0208
def stRevoked : Nat := 0x0300
def stStorageFault : Nat := 0x0301
def stImageRejected : Nat := 0x0302

/-- R350: codes 0x0000 to 0x00FF are not failures. -/
def isFailure (st : Nat) : Bool := 0x100 ≤ st

/-! Check sums, bit by bit. -/

/-- One bit of a reflected CRC. -/
def crcBitR (poly c : Nat) : Nat := if c % 2 = 1 then (c / 2) ^^^ poly else c / 2

def crcBitsR (poly : Nat) : Nat → Nat → Nat
  | 0, c => c
  | k + 1, c => crcBitsR poly k (crcBitR poly c)

def crcBytesR (poly : Nat) (init : Nat) (b : Bytes) : Nat :=
  b.foldl (fun c x => crcBitsR poly 8 (c ^^^ x.toNat)) init

/-- CRC-32C (Castagnoli, reflected, initial value and final inversion of all ones). -/
def crc32c (b : Bytes) : Nat := crcBytesR 0x82F63B78 0xFFFFFFFF b ^^^ 0xFFFFFFFF

/-- One bit of a CRC of width `w` sent most significant bit first. -/
def crcBitM (w poly c : Nat) (b : Bool) : Nat :=
  let top := bit c (w - 1)
  let c := (2 * c) % 2 ^ w
  if top != b then c ^^^ poly else c

/-- The CRC of width `w` over `n` bits of `v`, most significant first. -/
def crcBitsM (w poly : Nat) : Nat → Nat → Nat → Nat
  | 0, _, c => c
  | k + 1, v, c => crcBitsM w poly k v (crcBitM w poly c (bit v k))

/-- The CRC of width `w` over bytes, each most significant bit first. -/
def crcBytesM (w poly init : Nat) (b : Bytes) : Nat :=
  b.foldl (fun c x => crcBitsM w poly 8 x.toNat c) init

/-! Register access codes (Table 0.3). -/

/-- W1C: a write of 1 clears the bit, a write of 0 has no effect. -/
def w1c (old value : U32) : U32 := old &&& ~~~value
/-- RW under a mask of writable bits: reserved bits are ignored (R12). -/
def rwWrite (mask old value : U32) : U32 := (old &&& ~~~mask) ||| (value &&& mask)

end Sys2Proof.Machine
end

