-- ==== Sys2Proof/Machine/Factory.lean ====
section
/-! DEFINITION. Factory values of the stored settings (Table 17.5) and of the protection table (R336). -/

namespace Sys2Proof.Machine

/-! Section ids of Table 17.5 and the chapters it names. -/

def secStitch : Nat := 1
def secProfiles : Nat := 2
def secExceptions : Nat := 3
def secZones : Nat := 4
def secSite : Nat := 5
def secTz : Nat := 6
def secClasses : Nat := 7
def secSpeeds : Nat := 8
def secSolver : Nat := 9
def secFade : Nat := 10
def secModels : Nat := 11
def secChain : Nat := 12
def secRegion : Nat := 13
def secAir : Nat := 14
def secFailsafe : Nat := 15
def secHarness : Nat := 16
def secProt : Nat := 17
def secContactor : Nat := 18
def secOverride : Nat := 19
def secInterval : Nat := 20
def secCal : Nat := 21
def secDfc : Nat := 22
def secPtp : Nat := 23
def secPps : Nat := 24
def secCharger : Nat := 25
def secLog : Nat := 26
def secPorts : Nat := 40
def secVlan : Nat := 41
def secRing : Nat := 42
def secHost : Nat := 43
def secPanel : Nat := 48

/-- R102's zones: level cap 1023 and every other field 0 (R115). -/
def factoryZone : Bytes := le16 1023 ++ zeros 14

def factoryProfile (k : Nat) : Bytes := le8 k ++ zeros 207

/-- R130's default illuminances in 0.01 lx. -/
def factoryClasses : Bytes :=
  [0, 50, 100, 150, 200, 300, 500, 750, 1000, 1500, 2000, 3000, 5000, 7500, 10000, 15000].flatMap le16

/-- One speed class entry of Table 6.1. -/
def speedEntry (ahead behind hold floor step minCount : Nat) : Bytes :=
  le16 ahead ++ le16 behind ++ le16 hold ++ le16 floor ++ le8 step ++ le8 minCount ++ le16 0

def factorySpeeds : Bytes :=
  speedEntry 1000 300 30 716 2 1 ++ speedEntry 1500 300 20 716 2 1 ++ speedEntry 2500 0 15 818 3 1 ++
    speedEntry 4000 0 10 921 4 1

/-- Table 6.7's defaults. -/
def factorySolver : Bytes :=
  le8 8 ++ le8 32 ++ le8 50 ++ le8 0 ++ le16 400 ++ le16 205 ++ le16 16 ++ zeros 6

/-- Table 12.7's defaults. -/
def factoryPtp : Bytes :=
  le8 0 ++ le8 0 ++ le8 0 ++ le8 3 ++ le8 0 ++ le8 3 ++ le16 3600 ++ le32 1000 ++ zeros 20

/-- R99: valid-until all ones, base offset 0, TAI−UTC 37 s, no transitions, USE_PTP_UTC. -/
def factoryTz : Bytes := ones 8 ++ le16 0 ++ le16 37 ++ le8 0 ++ le8 1 ++ le16 0 ++ zeros 512

/-- R121: no photocell input. -/
def factorySite : Bytes := le32 0 ++ le32 0 ++ le8 0xFF ++ le8 0 ++ le16 0

/-- Table 7.7's defaults. -/
def factoryFade : Bytes := le16 50 ++ le16 300 ++ le16 4 ++ le16 50 ++ le8 5 ++ le8 1 ++ le8 70 ++ le8 130 ++ zeros 4

/-- Table 9.6's defaults. -/
def factoryAir : Bytes :=
  le16 0xFFFE ++ le8 0 ++ le8 3 ++ le16 300 ++ le16 900 ++ le8 6 ++ le8 8 ++ le8 1 ++ le8 16 ++ le16 5 ++ le8 20 ++ zeros 17

/-- Table 10.9's defaults, one harness. -/
def factoryHarness : Bytes := le8 3 ++ le8 50 ++ le16 2070 ++ le16 2530 ++ le8 2 ++ zeros 9
/-- R257's factory entry. -/
def factoryProtEntry : Bytes := le16 0 ++ le8 1 ++ le8 0 ++ le16 0 ++ le8 1 ++ zeros 9
/-- Table 10.5's defaults, output n. -/
def factoryContactor (n : Nat) : Bytes :=
  le8 n ++ le8 0 ++ le8 0xFF ++ le8 0 ++ le16 10 ++ le16 50 ++ le16 200 ++ zeros 134
/-- One calibration entry: full scale 1.0, gain 1, offset 0, phase 0 (R250). -/
def factoryCalEntry : Bytes := le32 0x3F800000 ++ le32 0x40000000 ++ zeros 8

/-- Table 18.1's defaults, one port. -/
def factoryPort : Bytes := le8 3 ++ le8 0 ++ le16 1 ++ le8 0 ++ le8 10 ++ zeros 2
/-- The two VLANs of R424. -/
def factoryVlan : Bytes := le16 1 ++ le8 0x7F ++ le8 0x7F ++ zeros 4 ++ le16 4000 ++ le8 3 ++ le8 0 ++ zeros 4 ++ zeros 496
/-- Table 18.4's defaults. -/
def factoryRing : Bytes := le8 2 ++ le8 0 ++ le8 1 ++ le8 1 ++ le16 4000 ++ le8 7 ++ le8 5 ++ le16 500 ++ le16 0 ++ zeros 20
/-- Table 18.7's defaults. -/
def factoryHost : Bytes := le16 1 ++ le8 0x0F ++ zeros 25 ++ le8 64 ++ zeros 35
/-- Table 19.5's defaults. -/
def factoryPanel : Bytes := zeros 4 ++ le16 60 ++ le16 300 ++ zeros 48

/-- Every stored setting at its factory value (Table 17.5). -/
def factorySettings : Tab Bytes :=
  [(secStitch, le16 20 ++ le16 0 ++ List.replicate 8 1), (secProfiles, (upTo 16).flatMap factoryProfile), (secExceptions, zeros 1024),
   (secZones, (upTo 256).flatMap fun _ => factoryZone), (secSite, factorySite), (secTz, factoryTz), (secClasses, factoryClasses),
   (secSpeeds, factorySpeeds), (secSolver, factorySolver), (secFade, factoryFade), (secModels, zeros 3072), (secChain, le8 1 ++ le8 50 ++ le8 0xFF ++ le8 0),
   (secRegion, zeros 96), (secAir, factoryAir), (secFailsafe, le16 600 ++ zeros 22), (secHarness, factoryHarness ++ factoryHarness),
   (secProt, (upTo 12).flatMap fun _ => factoryProtEntry), (secContactor, (upTo 8).flatMap factoryContactor), (secOverride, zeros 8),
   (secInterval, le8 15 ++ le8 2 ++ le16 0), (secCal, (upTo 56).flatMap fun _ => factoryCalEntry), (secDfc, (upTo 4).flatMap fun _ => le32 1000 ++ le16 40 ++ le16 0),
   (secPtp, factoryPtp), (secPps, le8 1 ++ le8 0 ++ le16 100 ++ le16 0 ++ le16 0), (secCharger, zeros 4), (secLog, le8 0 ++ le8 0 ++ le16 64),
   (secPorts, (upTo 6).flatMap fun _ => factoryPort), (secVlan, factoryVlan), (secRing, factoryRing), (secHost, factoryHost), (secPanel, factoryPanel)]

/-- R334's masks, by principal code. -/
def factoryRights : List Nat := [0x007FFFFF, 0x002BDFFD, 0x003FF797, 0x00494DDD, 0x00094495, 0x00114481]

/-- R336's factory binding of mailbox m. -/
def factoryBinding (m : Nat) : Bytes :=
  le8 m ++ le8 (if m = 14 then 0 else if m = 15 then 5 else 0xFF) ++ le8 (if 14 ≤ m then 1 else 0) ++ le8 0 ++
    le32 (if 14 ≤ m then 0x007FFFFF else 0) ++ zeros 40

/-- The factory protection table (R336). -/
def factoryProtection : Bytes := le32 1 ++ le32 0 ++ factoryRights.flatMap le32 ++ (upTo 16).flatMap factoryBinding

end Sys2Proof.Machine
end

