-- ==== Sys2Proof/Machine/Units/Air.lean ====
section
/-! DEFINITION. State of the Air tile: Shuttles, Courses and delivery (R180–R221), sleepy sensors (R225–R231), Picots (R204),
beacons (R207, R233), group dispatch (R222) and node image sessions (R238–R240). -/

namespace Sys2Proof.Machine

/-- A frame the module has sent: Shuttle, header fields of Table 8.4 (a beacon has frame control 0xA008 and no destination), security
fields, and the payload before and after CCM*. -/
structure AirFrame where
  shuttle : Nat
  control : Nat
  seq : Nat
  /-- Destination PAN ID; a beacon's source PAN ID. -/
  pan : Nat
  dst : Option Nat
  src : Nat
  security : Nat
  keyIndex : Nat
  counter : U32
  /-- Header IEs of an Enh-Ack. -/
  ies : Bytes
  payload : Bytes
  /-- The CCM* nonce (R189), and the payload as secured with its MIC. -/
  nonce : Bytes
  secured : Bytes
  deriving DecidableEq, Repr, Inhabited

/-- A Picot sent: Shuttle, address, reason, and its copies of the wake frame as sent (R204). -/
structure PicotSent where
  shuttle : Nat
  address : Nat
  reason : Nat
  copies : List Bytes
  deriving DecidableEq, Repr, Inhabited

/-- An item of a Course (Table 9.2). -/
inductive CourseItem where
  | picot (pin reason : Nat)
  | try_ (pin : Nat) (seq : U32)
  | probe (pin : Nat)
  | group (group : Nat) (payload : Bytes)
  | image
  deriving DecidableEq, Repr, Inhabited

/-- A planned item, the TAI ns at which it is placed, and the time its exchange takes in ns. -/
structure PlanItem where
  item : CourseItem
  start : Nat
  length : Nat
  deriving DecidableEq, Repr, Inhabited

/-- A try or probe whose Enh-Ack is awaited (R193): Pin, command (`none`: a probe; `sync`: a SYNC), the frame's fields and mode, and the
TAI ns at which its SFD and the frame ended. -/
structure Awaiting where
  pin : Nat
  command : Option U32
  sync : Bool
  seq : Nat
  keyIndex : Nat
  counter : U32
  mode : Nat
  sfdAt : Nat
  sentEnd : Nat
  deriving DecidableEq, Repr, Inhabited

/-- An Enh-Ack owed (R196): its addressee and fields, the mode of its frame, the pending bit as sampled, and the offset in µs. -/
structure OwedAck where
  pin : Nat
  seq : Nat
  keyIndex : Nat
  counter : U32
  mode : Nat
  pending : Bool
  sleepy : Bool
  /-- The pending frame is a SYNC (R228). -/
  sync : Bool
  offset : Int
  deriving DecidableEq, Repr, Inhabited

/-- What follows an Enh-Ack with pending 1 (R197). -/
structure FollowUp where
  pin : Nat
  sync : Bool
  deriving DecidableEq, Repr, Inhabited

/-- One Shuttle. Airtime bins are by second, in ns. -/
structure Shuttle where
  failed : Bool
  leaving : Bool
  bins : Tab Nat
  holdTx : Bool
  holdAck : Bool
  plan : List PlanItem
  /-- A Course is planned and has not ended. -/
  inCourse : Bool
  awaiting : Option Awaiting
  owed : Option OwedAck
  follow : Option FollowUp
  /-- TAI ns of the last time the transceiver sent or was off its channel, and the end of the exchange that occupies the Shuttle (R180,
  R213). -/
  txFrom : Nat
  txTo : Nat
  freeAt : Nat
  /-- GROUP_LEVEL dispatches not sent yet: due Stitch, group, payload (R222). -/
  groups : List (U32 × Nat × Bytes)
  /-- TAI ns between which only Enh-Acks are begun, after a unicast Picot (R231). -/
  quietFrom : Nat
  quietTo : Nat
  /-- Listen instants up to this ms count have been planned. -/
  plannedTo : Nat
  /-- Beacons sent since the start, and the next beacon's sequence number. -/
  beacons : Nat
  /-- Image symbols sent on this Shuttle in the session. -/
  imageSent : Nat
  rxOk : U32
  rxFcs : U32
  rxFormat : U32
  rxFilter : U32
  rxSec : U32
  rxMic : U32
  rxReplay : U32
  rxDup : U32
  rxOffhome : U32
  txFrames : U32
  ackSent : U32
  ackPend : U32
  ackMiss : U32
  dutyHold : U32
  crsRun : U32
  trySent : U32
  tryAcked : U32
  cmdFailed : U32
  deferCourse : U32
  beaconSent : U32
  beaconHeld : U32
  winPlanned : U32
  winMissed : U32
  winCollide : U32
  probeMiss : U32
  groupSent : U32
  imageFrames : U32
  itemsLast : Nat
  itemsMax : Nat
  deriving DecidableEq, Repr, Inhabited

/-- What the module keeps of a radio Pin beside its state half. Absent: nothing known since the start. -/
structure RadioPin where
  driftValid : Bool
  /-- TAI ns of the last sync (R227). -/
  lastSync : Option Nat
  /-- Windows missed in a row (R231), and listen instants missed in a row while not SWITCHED_OFF (R221). -/
  missedRow : Nat
  missedInstants : Nat
  /-- TIME cycle of the last frame accepted, and its Stitch. -/
  heardAt : Option Nat
  heardStitch : U32
  /-- TIME cycle from which silence counts when later than `heardAt`: the end of a SWITCHED_OFF mark (R221). -/
  silentBase : Nat
  /-- TIME cycle before which no probe is due (R220). -/
  probeAt : Nat
  /-- The beacon Stitch before which the Pin gets no try and no window (R236). -/
  suspended : Option U32
  rehomedAt : Option U32
  /-- A Picot with reason RESYNC has been sent and not answered. -/
  resync : Bool
  /-- A COMMAND Picot has been requested for the present try. -/
  woken : Bool
  lqKnown : Bool
  /-- The downlink sequence last given to a frame of the Pin (R187); none since the start. -/
  lastSeq : Option Nat
  /-- Last IMAGE_STATE: state and version. -/
  image : Option (Nat × U32)
  deriving DecidableEq, Repr, Inhabited

/-- A Picot request waiting for the wake channel; `pin` 0xFFFF addresses every sleepy sensor. -/
structure PicotReq where
  pin : Nat
  reason : Nat
  due : U32
  deriving DecidableEq, Repr, Inhabited

/-- A receive window open or planned (R226): its listen instant in TAI ns and its guard in ns. -/
structure RxWindow where
  pin : Nat
  shuttle : Nat
  instant : Nat
  guard : Nat
  deriving DecidableEq, Repr, Inhabited

/-- An AIR_PIN_RELEASE accepted: `ready` once executed, `done` once in effect, at which Stitch. -/
structure Release where
  mailbox : Nat
  seq : U32
  pins : List Nat
  ready : Bool
  done : Option U32
  deriving DecidableEq, Repr, Inhabited

/-- An image load (R238). -/
structure ImageLoad where
  session : Nat
  target : Nat
  hardware : Nat
  length : Nat
  crc : Nat
  version : U32
  symbol : Nat
  data : Bytes
  /-- Bytes written, as start and length. -/
  ranges : List (Nat × Nat)
  deriving DecidableEq, Repr, Inhabited

/-- A node image session (R239). -/
structure ImageSession where
  load : ImageLoad
  /-- AIR_IMAGE_START has executed; until then the session is only accepted. -/
  begun : Bool
  /-- SENDING, else ENDED. -/
  sending : Bool
  /-- First beacon Stitch that carries the descriptor. -/
  first : U32
  activation : U32
  /-- An activation that takes effect at a later boundary: its Stitch and value. -/
  activationDue : Option (U32 × U32)
  /-- Blocks encoded. -/
  encoded : List Nat
  /-- Beacon Stitches that still carry the descriptor after the end. -/
  left : Nat
  symbols : U32
  /-- TIME cycle of the last IMAGE Picot. -/
  picotAt : Nat
  deriving DecidableEq, Repr, Inhabited

/-- A decoded telemetry sample: Pin, channel, TAI ns of its instant, value. -/
structure TlmSample where
  pin : Nat
  channel : Nat
  stamp : Nat
  value : Int
  deriving DecidableEq, Repr, Inhabited

/-- The Air tile. -/
structure Air where
  shuttles : List Shuttle
  radio : Tab RadioPin
  wakeBins : Tab Nat
  /-- The wake channel carries a Picot until this TAI ns. -/
  wakeBusy : Nat
  picots : List PicotReq
  /-- Probes waiting: Pin and the Stitch they fell due in. -/
  probes : List (Nat × U32)
  windows : List RxWindow
  releases : List Release
  /-- Pins whose queue is stopped by a failure, HELD from the next boundary: command, and whether the policy is HOLD. -/
  holdNext : Tab (U32 × Bool)
  heardNow : List Nat
  syncedNow : List Nat
  /-- Changes and Pins whose HOME frame has been generated (R224). -/
  homed : List (U32 × Nat)
  load : Option ImageLoad
  session : Option ImageSession
  /-- Sequence counts of group and broadcast destinations (R187). -/
  groupSeq : Tab Nat
  sent : List AirFrame
  picotLog : List PicotSent
  telemetry : List TlmSample
  /-- The beacon Stitch last served, and the run of beacon Stitches without a beacon: its first Stitch and length. -/
  beaconAt : Option U32
  gapFirst : U32
  gapRun : Nat
  airDown : Bool
  panMinute : Option Nat
  panCount : Nat
  tlmBad : U32
  unkRec : U32
  picotSent : U32
  panConflict : U32
  beaconGap : U32
  deriving DecidableEq, Repr, Inhabited

end Sys2Proof.Machine
end

