-- ==== Sys2Proof/Machine/Units/Keep.lean ====
section
/-! DEFINITION. State of the mailboxes and sessions (R320–R342), the acceptance journal (R366–R371), the Sampler
(R382–R395), the stored settings (R407–R411) and the key store (R341). -/

namespace Sys2Proof.Machine

/-- Where a mailbox command stands: taken into a batch that is not yet committed; accepted and not begun; begun; its
EFFECT or DONE entry in a batch not yet committed; completed with its RESULT waiting for result order (R331, R333). -/
inductive CmdPhase where
  | batched
  | waiting
  | running
  | finishing
  | held
  deriving DecidableEq, Repr, Inhabited

/-- One mailbox command from its taking to its RESULT. -/
structure Cmd where
  mailbox : Nat
  seq : U32
  opcode : Nat
  tag : U32
  push : Bool
  payload : Bytes
  principal : Nat
  rights : U32
  maint : Bool
  phase : CmdPhase
  /-- Stitch number of the commit that accepted it. -/
  accepted : U32
  status : Nat
  result : Bytes
  /-- A result of more than 256 bytes that a reset has lost before it was produced (R375). -/
  lost : Bool := false
  /-- It has been executed and waits for the event that completes it. -/
  begun : Bool := false
  deriving DecidableEq, Repr, Inhabited

/-- A kept result (R332). `lost` marks a long result cut or lost to a reset; `copied` one held in the eMMC result store. -/
structure Slot where
  seq : U32
  opcode : Nat
  tag : U32
  status : Nat
  result : Bytes
  lost : Bool
  copied : Bool
  /-- Order of production among the results of all mailboxes. -/
  no : Nat
  deriving DecidableEq, Repr, Inhabited

/-- One place of a mailbox's tag ring (R329). -/
structure TagEntry where
  tag : U32
  opcode : Nat
  crc : U32
  seq : U32
  stitch : U32
  committed : Bool
  deriving DecidableEq, Repr, Inhabited

/-- An ACCEPTED or REFUSED answer owed to a mailbox, in request order (R328). -/
inductive Answer where
  | accepted (seq : U32) (opcode : Nat) (tag : U32)
  | repeated (seq : U32) (opcode : Nat) (tag : U32)
  | refused (opcode : Nat) (tag : U32) (status : Nat) (detail : Bytes)
  deriving DecidableEq, Repr, Inhabited

/-- The session state of Table 13.8. -/
inductive SessionState where
  | closed
  | opened
  | loginWait
  deriving DecidableEq, Repr, Inhabited

/-- A message from the module to a client: its header fields and payload (Table 13.1). -/
structure OutMsg where
  mailbox : Nat
  kind : Nat
  repeat_ : Bool
  window : Nat
  opcode : Nat
  seq : U32
  tag : U32
  status : Nat
  payload : Bytes
  deriving DecidableEq, Repr, Inhabited

/-- One mailbox (R320–R333). -/
structure Mailbox where
  session : SessionState
  cmds : List Cmd
  slots : List Slot
  /-- Sequences of commands whose slot has been released (R332). -/
  released : List U32
  tags : List TagEntry
  answers : List Answer
  lastWindow : Nat
  lastAccepted : U32
  lastBegun : U32
  deniedCnt : U32
  dupCnt : U32
  sessions : U32
  usbCrcErr : Nat
  deriving DecidableEq, Repr, Inhabited

/-- A0, the sixteen mailboxes, the service-port login and maintenance mode. -/
structure Mailboxes where
  boxes : List Mailbox
  /-- Messages sent by the module, oldest first. -/
  sent : List OutMsg
  a0Running : Bool
  a0Stops : U32
  nonce : Option Bytes
  nonceAt : Nat
  loginFails : List Nat
  loginBlocked : Bool
  handshakeFails : List Nat
  maintUntil : Option Nat
  resultNo : Nat
  maintOnBy : Nat
  lastAcceptedAny : U32
  deriving DecidableEq, Repr, Inhabited

/-- A journal entry (Table 15.2): header fields and body. -/
structure JEntry where
  seq : U32
  kind : Nat
  flags : Nat
  source : Nat
  body : Bytes
  deriving DecidableEq, Repr, Inhabited

/-- A log position: an entry, or a commit block (`entry = none`), its bytes, and whether it still holds the log's space. -/
structure LogItem where
  entry : Option JEntry
  bytes : Nat
  live : Bool
  deriving DecidableEq, Repr, Inhabited

/-- A sealed batch whose commit is in progress. -/
structure Batch where
  entries : List JEntry
  boundary : Bool
  deriving DecidableEq, Repr, Inhabited

/-- The acceptance journal (R366–R371, R381). -/
structure Journal where
  log : List LogItem
  /-- The open batch, in journal order. -/
  batch : List JEntry
  committing : Option Batch
  /-- Downlink sequence of the last command generated for each radio Pin, as the commits hold it (the sequence table). -/
  seqTable : Tab Nat
  /-- A commit that reached copy 0 alone before a reset (Table 15.7). -/
  copy0Extra : Option Batch
  nextSeq : U32
  commitNo : U32
  lastSeq : U32
  stitchOfCommit : U32
  replayDone : Bool
  copy0Ok : Bool
  copy1Ok : Bool
  single : Bool
  resultsDown : Bool
  journalLost : Bool
  a0Held : Bool
  prodHeld : Bool
  relocating : Bool
  commits : U32
  batchCommits : U32
  commitMax : Nat
  a0Hold : U32
  prodHold : U32
  reloc : U32
  copyErr : U32
  replayCount : Nat
  rebuilds : U32
  deriving DecidableEq, Repr, Inhabited

/-- A stamped event in the Sampler's intake (R385, R387). -/
structure Event where
  code : Nat
  source : Nat
  payload : Bytes
  opSec : Nat
  opSub : Nat
  pcycle : Nat
  /-- Stitch in which it was stamped. -/
  stitch : U32
  /-- FAB cycle in which it was stamped (R385). -/
  cycle : Nat
  late : Bool
  deriving DecidableEq, Repr, Inhabited

/-- One 32-byte Sampler record (R382). -/
structure Record where
  seq : U32
  pcycle : Nat
  code : Nat
  opSec : Nat
  opSub : Nat
  source : Nat
  flags : Nat
  payload : Bytes
  deriving DecidableEq, Repr, Inhabited

/-- The suppressed events of one class not yet reported (R387, R388). -/
structure Tally where
  count : Nat
  first : Nat
  last : Nat
  deriving DecidableEq, Repr, Inhabited

/-- A rewind mark (R391). -/
structure Mark where
  isSet : Bool
  overtaken : Bool
  seq : U32
  deriving DecidableEq, Repr, Inhabited

/-- A freeze in force (R393): its mailbox and the TIME cycle at which its time runs out. -/
structure Freeze where
  mailbox : Nat
  until_ : Nat
  deriving DecidableEq, Repr, Inhabited

/-- The Sampler (R382–R398). -/
structure Sampler where
  intake : List Event
  /-- Events stamped and waiting in Skeins 28 and 32 while the log has less than 16 KB free (Table 15.4). -/
  stalled : List Event
  intakeMax : Nat
  /-- Tally of each class 0–10, by class code. -/
  tallies : List Tally
  /-- What was suppressed in the running Stitch, reported from the next one on (R388). -/
  talliesNew : List Tally
  selvedge : List Record
  selvedgeFullMade : Bool
  /-- Round records held, oldest first. -/
  round : List Record
  roundNext : Nat
  roundFirst : Nat
  roundSize : Nat
  /-- Bank 0 failed: the Selvedge is lost and its codes go to the Round (R470). -/
  selvedgeLost : Bool
  marks : List Mark
  freeze : Option Freeze
  waiting : List Record
  full2210 : Bool
  scanned : Bool
  newest : U32
  stored : U32
  suppressed : U32
  ovfRec : U32
  fullLost : U32
  corrupt : Nat
  overtakenCnt : U32
  deriving DecidableEq, Repr, Inhabited

/-- A change that a completed command has fixed for a later boundary (R120, R341, R349, R359). -/
inductive Change where
  | settings (section_ offset : Nat) (data : Bytes)
  /-- A section that a revert or factory reset holds back to a beacon Stitch (R359). -/
  | late (section_ : Nat) (data : Bytes)
  /-- The working generation that the command's result names. -/
  | revert (generation : U32)
  | factory (generation : U32)
  | keyWrite (slot : Nat) (key check : Bytes)
  | keyClear (slot : Nat)
  | panelPin (digits : Bytes)
  /-- Words staged by a PRB_WRITE to the network settings window (R431). -/
  | network (words : List (Nat × Nat × Bytes))
  deriving DecidableEq, Repr, Inhabited

/-- A due change: its acceptance sequence, the first Stitch at which it may take effect, and whether it waits for a
beacon Stitch. -/
structure Due where
  mailbox : Nat
  seq : U32
  stitch : U32
  beacon : Bool
  change : Change
  deriving DecidableEq, Repr, Inhabited

/-- A SYS_STORE that has begun (R358, R410): the working copy once captured, its working generation, and the Stitch of its
capture. -/
structure Store where
  mailbox : Nat
  seq : U32
  captured : Option (Tab Bytes)
  generation : U32
  stitch : U32
  deriving DecidableEq, Repr, Inhabited

/-- One settings copy of the MRAM (R408): its settings record, its protection record, and whether each is valid. -/
structure SettingsCopy where
  valid : Bool
  storedGen : U32
  workGen : U32
  sections : Tab Bytes
  protValid : Bool
  prot : Bytes
  deriving DecidableEq, Repr, Inhabited

/-- The stored settings (R357–R359, R407–R411). -/
structure Settings where
  /-- The working copy, section id to data. -/
  working : Tab Bytes
  workGen : U32
  /-- Working generation as every accepted command will leave it (R358). -/
  projGen : U32
  storedGen : U32
  copies : List SettingsCopy
  due : List Due
  stores : List Store
  /-- Settings writes not yet retired: sequence, effect once executed, and log bytes (R409). -/
  unretired : List (U32 × Option Change × Nat)
  lost : Bool
  lastCopy : Nat
  /-- Sections staged by the NET settings window: id, offset, data (R431). -/
  staged : List (Nat × Nat × Bytes)
  deriving DecidableEq, Repr, Inhabited

/-- One radio key slot (R190, R341). -/
structure KeySlot where
  key : Option Bytes
  check : Bytes
  counter : U32
  reserved : U32
  lowMade : Bool
  exhausted : Bool
  deriving DecidableEq, Repr, Inhabited

/-- Key store, protection table and device identity. -/
structure Security where
  prot : Bytes
  /-- Service credential of binding 14, kept in the key store (Table 13.5). -/
  service : Bytes
  slots : List KeySlot
  cert : Bytes
  /-- SEC_PROT_WRITEs accepted and not yet in force (R337). -/
  protPending : Nat
  deriving DecidableEq, Repr, Inhabited

end Sys2Proof.Machine
end

