-- ==== Sys2Proof/Machine/Units/Light.lean ====
section
/-! DEFINITION. State of the schedule layer (R99–R119), presence (R123–R128), the solver and Darning (R131–R149), the
fades (R154–R163) and the Chainstitch port (R164–R176). -/

namespace Sys2Proof.Machine

/-- A day plan (R112): the schedule day, its five sun events, the events substituted under R110, the exceptions that match
in ascending number, the weekday that an AS_WEEKDAY exception gives the day, and its effective weekday. -/
structure DayPlan where
  day : Int
  events : List Nat
  substituted : Nat
  matching : List Bytes
  asWeekday : Option Nat
  weekday : Nat
  deriving DecidableEq, Repr, Inhabited

/-- The schedule layer's output for one Pin (Table 5.6). -/
structure SchedOut where
  level : Nat
  safeFloor : Nat
  upper : Nat
  cct : Nat
  noStepUp : Bool
  lit : Bool
  deriving DecidableEq, Repr, Inhabited

/-- Schedule layer state: what step 3 of the boundary sampled, the plans, and the photocell (R102, R103, R112). -/
structure Schedule where
  day : Int
  time : Nat
  wday : Nat
  noTime : Bool
  plans : List DayPlan
  /-- The state that counts of the photocell: `none` until one has held for 60 s. -/
  photocell : Option Bool
  tzExpired : Bool
  offsetInForce : Int
  out : Tab SchedOut
  cctUnmet : List Nat
  noPlan : U32
  /-- Blocks of 256 Pins evaluated in this Stitch. -/
  evaluated : List Nat
  deriving DecidableEq, Repr, Inhabited

/-- A coalesced presence entry (R124). -/
structure Presence where
  count : Nat
  speed : Nat
  heading : Nat
  deriving DecidableEq, Repr, Inhabited

/-- Per road segment solver state (R137–R145) and its LIT_SOLVE_READ figures (Table 6.9). `x`, `mu` are fp32 patterns. -/
structure SegState where
  engine : Option Nat
  solvable : Bool
  cold : Nat
  /-- The next COLD Stitch is the first: it starts from x := lo and μ := 0. -/
  fresh : Bool
  pinCount : Nat
  x : List U32
  mu : List U32
  /-- State code of Table 6.9. -/
  state : Nat
  shortfall : Bool
  /-- Causes present, bits FAILED, CAP, LIMIT, BUDGET from 0. -/
  causes : Nat
  shortPts : Nat
  p : Nat
  plb : Nat
  stitch : U32
  worst : Nat
  failedPins : Nat
  markedPins : Nat
  raises : Nat
  budgetSpent : Bool
  drIn : Bool
  heldByFray : Bool
  solvedNow : Bool
  /-- Issued levels of the Stitch's solve, in Pin list order, until the Darning task writes them (R138). -/
  levels : List Nat
  /-- LIT_SOLVE_READ record of the last complete Stitch. -/
  record : Bytes
  deriving DecidableEq, Repr, Inhabited

/-- Presence, the walk, the marks and the solver (R123–R153). -/
structure Lace where
  inService : List Bool
  /-- Engines that go out of service at the next boundary (R149). -/
  leaving : List Nat
  /-- Road segments have been assigned since start-up. -/
  assigned : Bool
  /-- The open window, and the window the walker reads. -/
  window : Tab Presence
  closed : Tab Presence
  /-- Per Pin, the expiry Stitch of each speed class. -/
  marks : Tab (List (Option U32))
  /-- LIT_MARK_READ values of the last complete Stitch: mask, STEP, FLOOR, DR. -/
  markRecords : Tab Bytes
  streamsStarted : Bool
  /-- Road segments whose matrix is still to be streamed in this Stitch, ascending (R138). -/
  streams : List Nat
  /-- Road segments whose matrix lies in an engine's local memory, two halves at most. -/
  halves : Tab (List Nat)
  segs : Tab SegState
  /-- Darning requests in force and those posted in this Stitch. -/
  requests : Tab Nat
  posted : Tab Nat
  /-- Issued level of each Pin of a solvable road segment, as the last Stitch computed it. -/
  issued : Tab Nat
  walkSrc : U32
  walkTrunc : U32
  walkLate : U32
  presSat : U32
  presMerged : U32
  presDrop : U32
  solvedNow : Nat
  coldNow : Nat
  shortNow : Nat
  shortPts : Nat
  pSum : Nat
  plbSum : Nat
  darnFailed : Nat
  shortCnt : U32
  repairRaises : U32
  repairBudget : U32
  deriving DecidableEq, Repr, Inhabited

/-- A fade of one Pin (R154–R159), reckoned from the boundary after the Stitch that shaped it: levels, length and elapsed
time in ms, and a delay before it starts. `fresh` until that boundary. -/
structure Fade where
  start : Nat
  target : Nat
  cct : Nat
  total : Nat
  elapsed : Nat
  delay : Nat
  fresh : Bool
  deriving DecidableEq, Repr, Inhabited

/-- A Pin command (R161, R162, R224): its journal sequence, payload kind, downlink sequence, frame payload after the kind
byte, and its delivery. -/
structure PinCmd where
  seq : U32
  chain : Bool
  kind : Nat
  downSeq : Nat
  payload : Bytes
  committed : Bool
  /-- Stitch of its commit, and the TIME cycle of it or of its last missed try (R229). -/
  stitch : U32
  cycle : Nat
  /-- Tries spent; for a chain command, frames that failed to show its latch. -/
  tries : Nat
  /-- Stitch in which its next try is due. -/
  due : U32
  /-- A chain command carried by the last latched frame. -/
  latched : Bool
  deriving DecidableEq, Repr, Inhabited

/-- A falling radio command of an ordered road segment that waits for rising commands (R159). -/
structure OrderWait where
  seq : U32
  pin : Nat
  rising : List U32
  deriving DecidableEq, Repr, Inhabited

/-- Fade unit and Pin command queues (R154–R163, R179). -/
structure FadeUnit where
  fades : Tab Fade
  /-- L0 and K0: target of the last generated command (R161, R218). Absent: the Pin's commanded level and CCT. -/
  last : Tab (Nat × Nat)
  /-- Stitch in which a Pin's last command was generated. -/
  lastAt : Tab U32
  /-- Newest targets waiting under PENDING (R161). -/
  waitingTargets : Tab (Nat × Nat)
  /-- Pins whose LEVEL has failed in this Stitch: L0 and K0 are set at its end (R84, R218). -/
  resets : List Nat
  /-- Pins whose fall is held back under R161 in this Stitch. -/
  deferred : List Nat
  orderWait : List OrderWait
  /-- Commands of each Pin in acceptance order (R215, R365). -/
  queues : Tab (List PinCmd)
  /-- TIME cycle since which every power report of a Pin has been out of band (R163). -/
  powerOut : Tab Nat
  cmdGen : U32
  cmdChain : U32
  cmdDefer : U32
  cmdPendWait : U32
  deriving DecidableEq, Repr, Inhabited

/-- A driver board's last valid return word and history (R165, R170, R175). -/
structure Board where
  word : U64
  /-- The last frame's word was valid. -/
  valid : Bool
  /-- The last 8 valid NTC codes, newest last, and the TIME cycle of the newest. -/
  codes : List Nat
  codeAt : Nat
  ntcFault : Bool
  deriving DecidableEq, Repr, Inhabited

/-- Chain states of CHN_STATUS.STATE. -/
inductive ChainState where
  | off
  | scan
  | run
  | hold
  | overlength
  deriving DecidableEq, Repr, Inhabited

/-- A chain frame: its SEQ, the levels and CCTs of the Pins it carries, its 128 blocks, and what LAT waits for (R167). -/
structure ChainFrame where
  seq : Nat
  levels : Tab (Nat × Nat)
  blocks : List Bytes
  shifted : Bool
  committed : Bool
  topoOk : Bool
  deriving DecidableEq, Repr, Inhabited

/-- The Chainstitch unit (R164–R176). -/
structure Chain where
  state : ChainState
  lost : Bool
  boards : List Board
  /-- Board count of the last frame, and C′ of R173. -/
  count : Nat
  before : Nat
  /-- Consecutive frames that would end HOLD or OVERLENGTH, and with board 0's word invalid. -/
  steady : Nat
  badZero : Nat
  retDelay : Nat
  /-- Frames built. -/
  built : Nat
  frame : Option ChainFrame
  /-- The frame last latched, and whether a later frame has returned its status. -/
  latched : Option ChainFrame
  /-- Chain Pins that a latched frame has carried since the reset (R157). -/
  shown : List Nat
  /-- Packets taken from Skein 25, by their first Pin, and the Stitch that wrote them (R164). -/
  packets : List (Nat × Bytes)
  packetsAt : Option U32
  /-- Commands waiting for a scan: mailbox and sequence. -/
  accepts : List (Nat × U32)
  /-- Classes that chain Pins receive at the next boundary, and Pins whose SILENT clears there (R175). -/
  classes : Tab Nat
  /-- Stitches without a valid word, by chain Pin (R175). -/
  silence : Tab Nat
  /-- s of R170 in 1/65536, by chain Pin with COMP_LIMITED. -/
  limited : Tab Nat
  modelMissing : List Nat
  frames : U32
  skipped : U32
  crcEcho : U32
  retBad : U32
  seqMiss : U32
  por : U32
  topo : U32
  deriving DecidableEq, Repr, Inhabited

end Sys2Proof.Machine
end

