-- ==== Sys2Proof/Machine/Units/Met.lean ====
section
/-! DEFINITION. State of metering: harnesses and channels (R245–R255, R271), peaks and protection (R256–R259), snapshots (R260,
R288–R290), contactors (R262–R267), modes and DFC outputs (R268–R270), registers, intervals, saves and spans (R276–R287). -/

namespace Sys2Proof.Machine

/-- Metering modes of R268. -/
inductive MetMode where
  | startUp
  | service
  | test
  | recovery
  deriving DecidableEq, Repr, Inhabited

/-- Harness states of Table 10.8. -/
inductive HarnessState where
  | notFitted
  | absent
  | powering
  | settling
  | run
  | fault
  deriving DecidableEq, Repr, Inhabited

/-- One harness: its state, presence pin, retries made in FAULT, and whether HARNESS_UNEXPECTED is recorded. -/
structure Harness where
  state : HarnessState
  present : Bool
  retries : Nat
  unexpected : Bool
  /-- TIME cycle at which the state was entered. -/
  since : Nat
  /-- Blocks dropped in the present run of R248, in ms. -/
  dropped : Nat
  /-- It has left RUN since the start, so its next RUN is a return (R258). -/
  left : Bool
  deriving DecidableEq, Repr, Inhabited

/-- The combs of one sinc3 path (R247): the edges since its last output, and its three differences. -/
structure Comb where
  count : Nat
  d1 : U64
  d2 : U64
  d3 : U64
  deriving DecidableEq, Repr, Inhabited

/-- One channel's decimator (R247): the integrators, the main and the fast path, and the last 64 fast samples, newest first. -/
structure Decimator where
  i1 : U64
  i2 : U64
  i3 : U64
  main : Comb
  fast : Comb
  recent : List Int
  deriving DecidableEq, Repr, Inhabited

/-- A channel's filters (R249, R251): the last 8 calibrated values, newest first, and the high-pass filter's last input and output. -/
structure Filter where
  values : List Rat
  x : Rat
  y : Rat
  deriving DecidableEq, Repr, Inhabited

/-- A voltage set: last frequency, FREQ_OUT, consecutive half-cycles beyond SAG_V and SWELL_V by phase, and the conditions; and the
samples of its harness's 28 channels since its running window and its running half-cycle began. -/
structure VoltSet where
  /-- A window has begun; `origin` is its first crossing, in samples from its first sample, where it began at one. -/
  begun : Bool
  origin : Option Rat
  window : List (List Rat)
  halfBegun : Bool
  half : List (List Rat)
  frequency : Nat
  freqOut : Bool
  below : List Nat
  above : List Nat
  sag : Bool
  swell : Bool
  sagCnt : U32
  swellCnt : U32
  deriving DecidableEq, Repr, Inhabited

/-- Peak of a channel (R256): code, its instant, the value, and the largest of the current window. -/
structure Peak where
  code : Nat
  milli : Nat
  stamp : Nat
  clip : Bool
  windowMilli : Nat
  windowClip : Bool
  deriving DecidableEq, Repr, Inhabited

/-- Energy of one phase in 2⁻²⁰ µWh over the ms that it covers. -/
structure PowerSec where
  energy : Int
  ms : Nat
  deriving DecidableEq, Repr, Inhabited

/-- A feeder: registers and residues (R276, R277), previous whole units (R280), estimates (R287), the last window's quantities, and
protection (R258). -/
structure Feeder where
  ai : U64
  ae : U64
  ri : U64
  re : U64
  ap : U64
  rhoA : Int
  rhoR : Int
  rhoP : Nat
  prev : List Nat
  estI : U64
  estE : U64
  unmeasured : U64
  /-- Unmeasured ms of the running interval. -/
  gap : Nat
  /-- The last 60 s of measured power of each phase, by second, newest last. -/
  secs : List (List PowerSec)
  /-- Q1 and S of each phase, fp32 patterns. -/
  q1 : List U32
  s1 : List U32
  record : Bytes
  armed : Bool
  rmsRun : List Nat
  ocInst : U32
  ocRms : U32
  deriving DecidableEq, Repr, Inhabited

/-- An open span (R285): phases, cause of Table 11.3, start, P_b in mW. -/
structure Span where
  feeder : Nat
  phases : Nat
  cause : Nat
  start : Nat
  pb : Option Int
  dark : Bool
  merged : Bool
  deriving DecidableEq, Repr, Inhabited

/-- A closed span waiting for its record: its end, the power of each phase over the first 60 s after it, whether a new span
interrupted that minute, and whether its length waits for a traceable time base. -/
structure ClosedSpan where
  span : Span
  finish : Nat
  after : List PowerSec
  interrupted : Bool
  late : Bool
  deriving DecidableEq, Repr, Inhabited

/-- A closed interval whose record is to be built (R280–R282). -/
structure ClosedInterval where
  start : Nat
  minutes : Nat
  flags : Nat
  /-- AI, AE, RI, RE and unmeasured seconds by feeder. -/
  values : List (List Nat)
  deriving DecidableEq, Repr, Inhabited

/-- A record of the interval or span archive: sequence, feeder (span), bytes, and whether its eMMC copy is verified. -/
structure MetRecord where
  seq : U32
  bytes : Bytes
  accepted : Bool
  archived : Bool
  deriving DecidableEq, Repr, Inhabited

/-- The interval stage: the running interval and the grid (R279, R282). -/
structure Interval where
  /-- Interval length in minutes, and the TAI second of the UTC hour from which the setting replaces it. -/
  length : Nat
  changeAt : Nat
  start : Nat
  lastClosed : Nat
  flags : Nat
  resumed : Bool
  deriving DecidableEq, Repr, Inhabited

/-- A metering save slot (R283). -/
structure MetSave where
  seq : U32
  kind : Nat
  instant : Nat
  opSec : Nat
  /-- The last acceptance sequence it reflects, and the voltage sets that were dark. -/
  lastSeq : U32
  dark : List Bool
  feeders : List Feeder
  interval : Interval
  spans : List Span
  closed : List ClosedSpan
  /-- Intervals closed and span or interval records built that no commit has accepted yet. -/
  closing : List ClosedInterval
  unaccepted : List MetRecord
  unacceptedSpans : List MetRecord
  deriving DecidableEq, Repr, Inhabited

/-- A contactor output (R263–R267). -/
structure Contactor where
  closed : Bool
  drive : Bool
  tripped : Bool
  fbFault : Bool
  outFault : Bool
  /-- Counts as closed under R265. -/
  settled : Bool
  /-- TIME cycle of the last commanded change, if one has been made. -/
  changedAt : Option Nat
  /-- TIME cycle at which the feedback last came to show closure. -/
  confirmedAt : Nat
  /-- A drive change whose feedback is still to confirm it. -/
  fbWait : Bool
  deriving DecidableEq, Repr, Inhabited

/-- A MET_CONTACTOR_SET or MET_TRIP_RESET executed and waiting for its boundary (R264), with the outputs tripped since. -/
structure ContactorDue where
  mailbox : Nat
  seq : U32
  reset : Bool
  mask : Nat
  action : Nat
  newTrip : Nat
  deriving DecidableEq, Repr, Inhabited

/-- A DFC output (R269, R270): its free assignment, accumulator, and pulse. -/
structure Dfc where
  assigned : Bool
  code : Nat
  c : Nat
  w : Nat
  acc : Nat
  rho : Int
  pulsing : Bool
  /-- TIME cycle at which the pulse began or ended. -/
  edgeAt : Nat
  everOn : Bool
  sat : Bool
  pulses : U32
  /-- A change sets the accumulator to 0 at the next block. -/
  clear : Bool
  deriving DecidableEq, Repr, Inhabited

/-- A snapshot (R260, R288–R290): `coded = none` while its post-trigger part runs. -/
structure Snapshot where
  id : U32
  buffer : Nat
  triggers : List Nat
  /-- TIME cycle of the first trigger. -/
  openedAt : Nat
  traceable : Bool
  q : Nat
  coded : Option Bytes
  archived : Bool
  /-- Its buffer went with a DRAM die before it was archived (R290). -/
  lost : Bool := false
  deriving DecidableEq, Repr, Inhabited

/-- A block of 1 ms waiting for its metering engine (R245): its harness, the instants t_k of its samples in TAI ns, and 8 samples of each
channel. -/
structure MeterBlock where
  harness : Nat
  instants : List Nat
  samples : List (List Int)
  deriving DecidableEq, Repr, Inhabited

/-- Metering. -/
structure Met where
  /-- Blocks in Skeins 26 and 27, oldest first. -/
  blocks : List MeterBlock
  mode : MetMode
  testFrom : MetMode
  testUntil : Nat
  restored : Bool
  calValid : Bool
  calCount : U32
  harnesses : List Harness
  /-- The decimator and the filters of each channel. -/
  decimators : List Decimator
  filters : List Filter
  chanFault : List Bool
  sets : List VoltSet
  /-- TAI ns of the end of the last block registered. -/
  blockEnd : Nat
  peaks : List Peak
  feeders : List Feeder
  spans : List Span
  closed : List ClosedSpan
  interval : Interval
  closing : List ClosedInterval
  records : List MetRecord
  spanRecords : List MetRecord
  saveA : Option MetSave
  saveB : Option MetSave
  saveLg : Option MetSave
  saveSeq : U32
  saveSlot : Nat
  lastKind : Nat
  lastSaveAt : Nat
  prevLgOk : Bool
  outputs : List Contactor
  contDue : List ContactorDue
  dfc : List Dfc
  snaps : List Snapshot
  nextSnap : U32
  decOverrun : U32
  clipCnt : U32
  supplyFault : U32
  snapTrig : U32
  snapLost : U32
  snapMergedLost : U32
  msvLate : U32
  intvClosed : U32
  intvPartial : U32
  spanCnt : U32
  snapArchived : U32
  snapRawblk : U32
  snapUnarch : U32
  deriving DecidableEq, Repr, Inhabited

end Sys2Proof.Machine
end

