-- ==== Sys2Proof/Machine/Units/Move.lean ====
section
/-! DEFINITION. State of the Skein unit (R56–R66, R77), the Bobbin engine (R67–R76, R78) and the fabric memory they move. -/

namespace Sys2Proof.Machine

/-- A visible packet of a Skein: its bytes and whether a word of it is uncorrectable when read. -/
structure Packet where
  bytes : Bytes
  deriving DecidableEq, Repr, Inhabited

/-- The packet being written to a Skein (R57, R58). -/
structure OpenPacket where
  writer : Nat
  bytes : Bytes
  overlong : Bool
  dropped : Bool
  deriving DecidableEq, Repr, Inhabited

/-- The packet a reader holds (R63) and the bytes of it already read. -/
structure HeldPacket where
  reader : Nat
  done : Nat
  deriving DecidableEq, Repr, Inhabited

/-- A write held under R57 or R60: writer, valid bytes of its END word (0 for CONT) and the word. -/
structure HeldWrite where
  writer : Nat
  valid : Nat
  word : U32
  deriving DecidableEq, Repr, Inhabited

/-- One Skein (Tables 3.1, 3.5, 3.6). -/
structure Skein where
  en : Bool
  discard : Bool
  /-- Area in 256-byte units. -/
  size : Nat
  base : Nat
  writers : Nat
  readers : Nat
  noticeEn : Bool
  noticeList : Nat
  template : Nat
  packets : List Packet
  opened : Option OpenPacket
  reading : Option HeldPacket
  heldWrites : List HeldWrite
  /-- Notices held under R48, R64. -/
  heldNotices : Nat
  fillMax : Nat
  pkts : U32
  emptyRd : U32
  drop : U32
  stall : U32
  overlong : Nat
  foreign : Nat
  eccDrop : Nat
  abandoned : Nat
  /-- A packet of accepted work has been lost and not yet made good (R371). -/
  lost : Bool
  deriving DecidableEq, Repr, Inhabited

/-- What a pop port read returned: 16 data bytes and the tag of Table 3.2. -/
structure PopResult where
  skein : Nat
  initiator : Nat
  data : Bytes
  tag : Nat
  deriving DecidableEq, Repr, Inhabited

/-- A fabric access to a Skein port that waits behind its initiator's held write (R60): a push of a word with its valid bytes (0 for
CONT), or a pop with the ECC outcome its read will meet. -/
structure PortAccess where
  initiator : Nat
  skein : Nat
  push : Option (Nat × U32)
  ecc : Ecc
  deriving DecidableEq, Repr

/-- The Skein unit. -/
structure SkeinUnit where
  skeins : List Skein
  /-- Accesses that wait, oldest first. -/
  waiting : List PortAccess
  eccCorr : U32
  pops : List PopResult
  deriving DecidableEq, Repr, Inhabited

/-- Bobbin channel states (Table 3.8). -/
inductive BobState where
  | idle
  | active
  | waitReq
  | preempted
  | pulseHeld
  | halted
  deriving DecidableEq, Repr, Inhabited

/-- One Bobbin channel: its registers and holding register. -/
structure Bobbin where
  src : Nat
  dst : Nat
  count : Nat
  width : U32
  ctrl : U32
  done : U32
  link : Nat
  budget : Nat
  used : Nat
  remain : Nat
  hold : Bytes
  /-- Bytes of the present transfer already read and written. -/
  moved : Nat
  /-- The source packet's LAST word has been read (R69). -/
  lastRead : Bool
  /-- The transfer's completion is sent and its linked descriptor is still to be fetched (R74). -/
  fetching : Bool
  state : BobState
  error : Nat
  phase : Nat
  tries : Nat
  compCnt : U32
  /-- The source packet went past COUNT: the channel halts with PKT_LONG once what it holds is written (R69). -/
  long : Bool
  /-- A STOP met the transfer's last acknowledgement: the channel goes to IDLE after its completion (R76). -/
  stopping : Bool
  /-- Bytes gathered for a destination Skein's packet (R69). -/
  packet : Bytes
  deriving DecidableEq, Repr, Inhabited

/-- The Bobbin engine and the fabric memory: address and byte, addresses strictly rising, no listed byte equal to what an
unlisted address reads as. -/
structure BobUnit where
  channels : List Bobbin
  mem : List Host.Cell
  /-- The channel the data path served last (R70). -/
  turn : Nat
  preempt : U32
  retry : U32
  ignored : U32
  held : U32
  deriving DecidableEq, Repr, Inhabited

end Sys2Proof.Machine
end

