-- ==== Sys2Proof/Machine/Units/Net.lean ====
section
/-! DEFINITION. State of the switch, its ports and queues (R420–R425), the ring (R426–R428) and the host (R429). -/

namespace Sys2Proof.Machine

/-- Where an SFP+ cage stands in Table 18.2; an RJ45 port stays absent. -/
inductive SfpState where
  | absent
  | powering
  | reading
  | accepted
  | rejected
  deriving DecidableEq, Repr, Inhabited

/-- A frame as it leaves a port, tagged or not. -/
structure SentFrame where
  port : Nat
  tagged : Bool
  vid : Nat
  pcp : Nat
  dst : Bytes
  src : Bytes
  etherType : Nat
  length : Nat
  deriving DecidableEq, Repr, Inhabited

/-- One switch port (Tables 18.6, 18.9), its egress queues 0–7 (R425), and the frame being sent with the TIME cycles it has left. -/
structure SwPort where
  link : Bool
  speed : Nat
  sfp : SfpState
  /-- What the identification read of the module in the cage declared. -/
  module : Option SfpId
  queues : List (List SentFrame)
  /-- Round robin credit of queues 0–5, bytes. -/
  credit : List Nat
  sending : Option (SentFrame × Nat)
  /-- TIME cycles at which storm-limited frames were let in during the last 1 ms. -/
  storm : List Nat
  stormDrops : Nat
  stormMade : Option Nat
  rxFrames : U32
  txFrames : U32
  rxOctets : U32
  txOctets : U32
  rxFcs : U32
  rxLong : U32
  rxVlan : U32
  rxStorm : U32
  rxBlocked : U32
  rxCtrl : U32
  txQfull : U32
  linkDowns : U32
  deriving DecidableEq, Repr, Inhabited

/-- A learned address (R423) and the TIME cycle at which it was last seen. -/
structure FdbEntry where
  vid : Nat
  mac : Bytes
  port : Nat
  seen : Nat
  deriving DecidableEq, Repr, Inhabited

/-- RING_STATUS.STATE codes. -/
inductive RingState where
  | disabled
  | idle
  | protection
  | manualSwitch
  | forcedSwitch
  | pending
  deriving DecidableEq, Repr, Inhabited

/-- The R-APS message a node sends while a request stands: request, RPL blocked, do not flush (G.8032 codes). -/
structure RapsTx where
  request : Nat
  rb : Bool
  dnf : Bool
  deriving DecidableEq, Repr, Inhabited

/-- The ring (R426–R428). -/
structure Ring where
  state : RingState
  /-- Ports 0 and 1 blocked, in signal fail, and with a hold-off running. -/
  blocked : List Bool
  sf : List Bool
  holdOff : List Bool
  wtr : Bool
  guard_ : Bool
  tx : Option RapsTx
  /-- Frames of the burst of three still to go out. -/
  burst : Nat
  deriving DecidableEq, Repr, Inhabited

/-- What the host answers (R429): to whom, and with what. -/
inductive HostReply where
  | arp (dest ip : Bytes)
  | echo (dest ip : Bytes)
  | neighbour (dest ip : Bytes)
  | echo6 (dest ip : Bytes)
  | reset (dest ip : Bytes) (port : Nat)
  | unreachable (dest ip : Bytes)
  deriving DecidableEq, Repr, Inhabited

/-- An R-APS frame sent by a ring port (R426, R430): a frame of this node's own carries the port's source address, one passed on round the
ring keeps its sender's. -/
structure RapsSent where
  port : Nat
  source : Option Bytes
  vid : Nat
  pcp : Nat
  mel : Nat
  ring : Nat
  msg : Raps
  deriving DecidableEq, Repr, Inhabited

/-- The switch, the ring and the host. -/
structure Net where
  ports : List SwPort
  fdb : List FdbEntry
  fdbFull : U32
  fdbFullMinute : Nat
  fdbFullMade : Option Nat
  ring : Ring
  sent : List SentFrame
  rapsSent : List RapsSent
  /-- Frames the host let in during the last 1 ms: TIME cycle and octets. -/
  hostRate : List (Nat × Nat)
  hostDrop : U32
  /-- TIME cycles of the port-unreachable answers of the last second. -/
  unreach : List Nat
  replies : List HostReply
  /-- Addresses taken by DHCPv4 and SLAAC. -/
  lease : Option Bytes
  prefix_ : Option Bytes
  cfgFailed : Bool
  cfgSection : Nat
  cfgByte : Nat
  deriving DecidableEq, Repr, Inhabited

end Sys2Proof.Machine
end

