-- ==== Sys2Proof/Machine/Units/Panel.lean ====
section
/-! DEFINITION. State of the front panel and the service port (R434–R443). -/

namespace Sys2Proof.Machine

/-- A PIN entry under way (R439): the digits so far, the last one being set. -/
structure PinEntry where
  digits : List Nat
  deriving DecidableEq, Repr, Inhabited

/-- A PNL_TEST that runs (R440): mailbox, test, the TIME cycle of its end, and the key mask seen. -/
structure PanelTest where
  mailbox : Nat
  test : Nat
  until_ : Nat
  seen : Nat
  deriving DecidableEq, Repr, Inhabited

/-- Hot-plug banners of Table 19.3, as event code and source. -/
structure Banner where
  code : Nat
  source : Nat
  until_ : Nat
  deriving DecidableEq, Repr, Inhabited

/-- The panel and the service port. -/
structure Panel where
  keysNow : List Bool
  keyPresses : List U32
  displayOn : Bool
  page : Nat
  control : Bool
  lockout : Bool
  lockoutAt : Nat
  /-- TIME cycles of the failed PIN entries of the last 10 min. -/
  failures : List Nat
  entry : Option PinEntry
  test : Option PanelTest
  banners : List Banner
  /-- PNL_MESSAGE: its text and the TIME cycle of its end. -/
  message : Option (Bytes × Nat)
  /-- Pages whose action was called at CONTROL; the request arrives as the command's own row. -/
  actions : List Nat
  vbus : Bool
  connected : Bool
  keyWindow : Bool
  proxWakes : U32
  pinFails : U32
  usbAttaches : U32
  deriving DecidableEq, Repr, Inhabited

end Sys2Proof.Machine
end

