-- ==== Sys2Proof/Machine/Units/Sys.lean ====
section
/-! DEFINITION. State of start-up, resets, the hold-up bank and AON (R373, R399–R415, R419), the firmware images
(R403–R406, R416, R417), the operating counters (R355, R384) and the digital inputs (R356). -/

namespace Sys2Proof.Machine

/-- Where the module stands between power and service (Table 17.1, R405, R413); `held` in reset by a stopped TCXO (R31). -/
inductive Phase where
  | off
  | supply
  | boot
  | memory
  | restore
  | wait
  | run
  | loader
  | lastGasp
  | gaspDone
  | held
  deriving DecidableEq, Repr, Inhabited

/-- Image slot states (R404). -/
inductive SlotImage where
  | empty
  | valid
  | trial
  | confirmed
  | bad
  deriving DecidableEq, Repr, Inhabited

/-- One firmware slot of the eMMC. -/
structure ImageSlot where
  state : SlotImage
  version : U32
  secVersion : Nat
  deriving DecidableEq, Repr, Inhabited

/-- An open firmware load (R416): declared length and CRC, the bytes, and which have been written (as ranges). -/
structure UpdLoad where
  length : Nat
  crc : Nat
  data : Bytes
  ranges : List (Nat × Nat)
  verified : Bool
  deriving DecidableEq, Repr, Inhabited

/-- A pending planned reset (R360, R417): its boundary, and the slot it starts as TRIAL or by rollback, with the confirm
minutes. `slot = none` is a plain RESTART. -/
structure PendingReset where
  boundary : U32
  mailbox : Nat
  slot : Option Nat
  trial : Bool
  confirm : Nat
  deriving DecidableEq, Repr, Inhabited

/-- One digital input (R356). -/
structure Input where
  level : Bool
  changes : U32
  /-- TIME cycles of the events recorded in the last second, and changes since not recorded. -/
  recorded : List Nat
  unrecorded : Nat
  deriving DecidableEq, Repr, Inhabited

/-- Power, boot, counters and inputs. -/
structure Sys where
  phase : Phase
  /-- The fuses of R2: 0 EU, 1 NA, 2 W. -/
  variant : Nat
  /-- LF ticks counted with the main supply present (R384). -/
  opTicks : Nat
  pcycle : Nat
  savedOpSec : Nat
  lastKnown : Nat
  lgSaves : U32
  lgMissed : U32
  resets : List U32
  /-- Kind of this start, its AON cause bits, and whether the last-gasp save before it completed. -/
  kind : Nat
  /-- The kind of the reset behind a ROLLBACK, which Table 15.6 gives the save of its cause. -/
  baseKind : Nat
  causeBits : U32
  lgDone : Bool
  slots : List ImageSlot
  active : Nat
  running : Nat
  trialStarts : Nat
  confirmUntil : Nat
  minSec : Nat
  load : Option UpdLoad
  /-- Length of the open load as every accepted command will leave it. -/
  loadNext : Option Nat
  pendingReset : Option PendingReset
  rollbackCause : Option Nat
  pfWarn : Bool
  holdupMs : Nat
  holdupLow : Bool
  bankFault : Bool
  bankCharging : Bool
  pfWarnCnt : U32
  lgLastUs : Nat
  startMs : Nat
  diesLost : List Nat
  emmcFault : Bool
  bankOk : List Bool
  mrcCorr : List U32
  mrcUncorr : U32
  inputs : List Input
  /-- Events latched by AON or not stamped when they arose, recorded at the next start with LATE (R386). -/
  latched : List Event
  /-- An image started from DRAM (R405), lost at the next reset. -/
  dramImage : Option ImageSlot
  /-- Events of phase 1 and of the LOADER state, recorded once the Sampler runs: code, source, payload. -/
  bootEvents : List (Nat × Nat × Bytes)
  startCycle : Nat
  deriving DecidableEq, Repr, Inhabited

end Sys2Proof.Machine
end

