-- ==== Sys2Proof/Machine/Units/Tables.lean ====
section
/-! DEFINITION. State of the Pin Table, the Pricking and the road-segment table (R79–R98), their batch, and the Ground
(R133–R136, R152). -/

namespace Sys2Proof.Machine

/-- The state half of a Pin entry (Table 4.4), with the marks kept beside it. `counter` is the receive frame counter. -/
structure PinState where
  commanded : Nat
  target : Nat
  cct : Nat
  fadeRemaining : Nat
  downSeq : Nat
  upSeq : Nat
  counter : U32
  lastHeard : U32
  linkQuality : Nat
  retries : Nat
  drift : Int
  rehomed : Bool
  serving : Nat
  held : Bool
  wakeOnly : Bool
  failsafe : Bool
  darnRaised : Bool
  switchedOff : Bool
  heard : Bool
  burnHours : U32
  power : Nat
  temperature : Int
  failure : Nat
  presence : Nat
  pending : Bool
  lastDelivered : U32
  deriving DecidableEq, Repr, Inhabited

/-- Table content: configuration halves by Pin (absent: UNUSED), edges by Pin (absent: eight empty slots), road-segment
entries by id (absent: unused). -/
structure Content where
  pins : Tab Bytes
  edges : Tab Bytes
  segs : Tab Bytes
  deriving DecidableEq, Repr, Inhabited

/-- One item of a table change. -/
inductive TabItem where
  | pin (pin : Nat) (conf : Bytes)
  | clear (pin : Nat)
  | clearFault (pin : Nat)
  | edges (pin : Nat) (words : Bytes)
  | seg (id : Nat) (entry : Bytes)
  deriving DecidableEq, Repr, Inhabited

/-- An accepted table change not yet in effect (R86, R87): its command's sequence and mailbox, its items, and whether a
boundary has found it waiting under R87. -/
structure TabChange where
  seq : U32
  mailbox : Nat
  items : List TabItem
  held : Bool
  deriving DecidableEq, Repr, Inhabited

/-- The module's single open batch (R97). -/
structure TabBatch where
  /-- Sequence of its TAB_BATCH_OPEN. -/
  seq : U32
  mailbox : Nat
  /-- Staged writes in acceptance order: sequence and items. -/
  staged : List (U32 × List TabItem)
  bytes : Nat
  deriving DecidableEq, Repr, Inhabited

/-- A Ground record (R133): generation (0: no record), dimensions and its 16,896 bytes. `order` tells which commit came
earlier (R135). -/
structure Ground where
  generation : U32
  pins : Nat
  points : Nat
  record : Bytes
  order : Nat
  deriving DecidableEq, Repr, Inhabited

/-- An open Ground load (R152): what TAB_GROUND_BEGIN gave, the staged bytes, and which blocks have been written. -/
structure GroundLoad where
  seg : Nat
  mailbox : Nat
  generation : U32
  pins : Nat
  points : Nat
  matrixCrc : Nat
  pointCrc : Nat
  data : Bytes
  blocks : List Nat
  deriving DecidableEq, Repr, Inhabited

/-- A TAB_GROUND_COMMIT accepted (its load closed) and not yet complete. -/
structure GroundCommit where
  seq : U32
  seg : Nat
  ground : Ground
  begun : Bool
  deriving DecidableEq, Repr, Inhabited

/-- A Ground change whose EFFECT entry is in the open batch or committed, waiting for its boundary (R135, R152): the record that a commit
adds, or the delete of both records or of the one that does not match the entry. -/
structure GroundDue where
  seq : U32
  seg : Nat
  record : Option Ground
  both : Bool
  committed : Bool
  deriving DecidableEq, Repr, Inhabited

/-- The tables (R79–R98) and Ground stores. -/
structure Tables where
  live : Content
  /-- The tables as every accepted command will leave them (R82). -/
  projected : Content
  state : Tab PinState
  /-- The state halves as step 3 of the last boundary sampled them (R84). -/
  sampled : Tab PinState
  generation : U32
  changes : List TabChange
  batch : Option TabBatch
  /-- Results of closed batches whose close failed, by close sequence: the first inconsistent Pin (R97). -/
  closeFail : List (U32 × Nat)
  /-- Stitch and generation at effect of changes already in effect, by sequence. -/
  effected : List (U32 × U32 × U32)
  /-- Writes accepted as staged and not yet completed (R97). -/
  stagedSeqs : List U32
  /-- Changes in effect whose command's EFFECT entry is not yet committed: a reset executes those commands again (R375). -/
  applied : List TabChange
  /-- Batches ended by a close or abort that is not yet committed, under its sequence: a reset opens them again. -/
  ended : List (U32 × TabBatch)
  /-- Changes in effect not yet verified in their store (R93). -/
  unpersisted : List (U32 × List TabItem)
  /-- MRAM Pin configuration and eMMC table store. -/
  stored : Content
  /-- The other of the two eMMC copies, written before the newest; the newest is copy `storeGen` modulo 2. -/
  storedPrev : Content
  storeGen : U32
  /-- Receive frame counter, downlink sequence and failure class of each Pin as last saved (Table 4.9). -/
  savedPins : Tab (U32 × Nat × Nat)
  /-- The table generation saved beside them (R94). -/
  savedGen : U32
  unsolved : List Nat
  /-- Road segments with a SEG_UNSOLVED recorded (R92). -/
  unsolvedMade : List Nat
  /-- The two records of each road segment, in effect. -/
  ground : Tab (List Ground)
  /-- Records whose DRAM copy is present. The eMMC store holds `ground`. -/
  groundDram : List Nat
  groundDue : List GroundDue
  groundOrder : Nat
  loads : List GroundLoad
  commits : List GroundCommit
  /-- Road segments whose Ground awaits reload from the eMMC (R136). -/
  reload : List Nat
  deriving DecidableEq, Repr, Inhabited

end Sys2Proof.Machine
end

