-- ==== Sys2Proof/Machine/Units/Time.lean ====
section
/-! DEFINITION. State of the clocks (R30, R31), the time base and its servo (R293–R298), PTP (R299–R303), 1PPS (R304,
R305), the real-time counter and its supply (R306–R315), the Stitch generator (R32–R39) and the Tambour (R45–R52). -/

namespace Sys2Proof.Machine

/-- Servo states of Table 12.1. -/
inductive ServoState where
  | freerun
  | acquiring
  | locked
  | holdover
  deriving DecidableEq, Repr, Inhabited

/-- Time sources (TIM_STATUS codes). -/
inductive TimeSource where
  | none
  | ptp
  | pps
  deriving DecidableEq, Repr, Inhabited

/-- How the time base's seconds were last set (R297). -/
inductive SecondsSetBy where
  | neither
  | ptp
  | timeSet
  deriving DecidableEq, Repr, Inhabited

/-- The time-base servo (R295–R298). Offsets in ns, `acc` and `y` in 2⁻¹⁶ ppb. -/
structure Servo where
  state : ServoState
  source : TimeSource
  /-- The first offset from a new source is still to come (R298). -/
  fresh : Bool
  y : Int
  acc : Int
  /-- The last 16 accepted offsets, newest last. -/
  accepted : List Int
  /-- y after each of the last 64 measurements, newest last. -/
  ys : List Int
  within : Nat
  beyond : Nat
  beyondStep : Nat
  lastOffset : Int
  meanPath : Nat
  /-- TAI ns of the last measurement's stamp. -/
  lastAt : Nat
  /-- The source HOLDOVER was entered from was traceable. -/
  holdFromTraceable : Bool
  holdoverSince : Nat
  secondsBy : SecondsSetBy
  traceable : Bool
  everTraceable : Bool
  stepCnt : U32
  offsetReject : U32
  deriving DecidableEq, Repr, Inhabited

/-- An entry of the transmit timestamp queue (R302). -/
structure TxStamp where
  id : Nat
  port : Nat
  stamp : Nat
  /-- TIME cycle of its entry. -/
  cycle : Nat
  deriving DecidableEq, Repr, Inhabited

/-- An event message in transit through the transparent clock (R300): its sender and sequence, ingress port and stamp, the ports
whose egress stamps are awaited by identifier, those drained, and its Follow_Up's correction once known. -/
structure SyncTransit where
  source : Bytes
  sequence : Nat
  port : Nat
  ingress : Nat
  awaited : List (Nat × Nat)
  egress : Tab Nat
  follow : Option Int
  deriving DecidableEq, Repr, Inhabited

/-- A PTP message sent or forwarded by the module: port (6 is internal), message name code, sequence, correctionField ns. One of its own
carries its source address and clockIdentity (R430); one forwarded keeps its sender's. -/
structure PtpOut where
  port : Nat
  source : Option Bytes
  clock : Option Bytes
  kind : Nat
  sequence : Nat
  correction : Int
  deriving DecidableEq, Repr, Inhabited

/-- PTP (R299–R303). -/
structure Ptp where
  /-- The Announces received on ports 0 and 1, by port. -/
  foreign : List (Nat × Announce)
  master : Option (Nat × Announce)
  utcOffset : Int
  utcFromPtp : Bool
  leapPending : Int
  /-- The last Sync of the master: port, sequence, stamp, origin and correction (origin `none` until its Follow_Up). -/
  sync : Option (Nat × Nat × Nat × Option Int × Int)
  /-- Completed master-to-slave difference of the last Sync, ns. -/
  t21 : Option Int
  /-- The Delay_Req outstanding: sequence and egress stamp. -/
  delayReq : Option (Nat × Nat)
  /-- The Delay_Req sent whose egress stamp is still in the queue: sequence and identifier. -/
  delayWait : Option (Nat × Nat)
  delaySeq : Nat
  pdelaySeq : Nat
  /-- Per port: the stamp and sequence of the Pdelay_Req outstanding. -/
  pdelay : Tab (Nat × Nat)
  /-- Per port: the sequence and identifier of the Pdelay_Req whose egress stamp is still in the queue. -/
  pdelayWait : Tab (Nat × Nat)
  linkDelay : Tab Nat
  transit : List SyncTransit
  /-- Delay_Reqs forwarded: requester, sequence and residence time in ns. -/
  reqTransit : List (Bytes × Nat × Nat)
  txq : List TxStamp
  nextId : Nat
  out : List PtpOut
  txqOverflowMinute : Nat
  txqMinuteMade : Option Nat
  txqOverflow : U32
  txqStale : U32
  tsLate : U32
  tcCorr : U32
  tcLost : U32
  ptpFormat : U32
  annTimeouts : U32
  deriving DecidableEq, Repr, Inhabited

/-- 1PPS output and input (R304, R305). -/
structure Pps where
  outHigh : Bool
  inLost : Bool
  /-- Stamp of the last accepted edge, TAI ns. -/
  lastAccepted : Option Nat
  accepted : U32
  reject : U32
  inNs : Nat
  deriving DecidableEq, Repr, Inhabited

/-- One RTC alarm (R311, R312). -/
structure Alarm where
  en : Bool
  oneShot : Bool
  mask : Nat
  wday : Nat
  compare : Nat
  count : Nat
  fired : Bool
  skipped : Bool
  jumped : Bool
  repeat_ : Bool
  onBackup : Bool
  /-- The last TICK value matched, so a further match continues its run. -/
  inRun : Bool
  /-- Firings made while the main supply was off, not yet recorded. -/
  backupFirings : Nat
  /-- TICK value of the last firing. -/
  lastTick : Nat
  deriving DecidableEq, Repr, Inhabited

/-- New values waiting for the next LF edge (R308): TICK, SOD, WDAY, and whether the SOD comparison of R310 follows. -/
structure RtcLoad where
  tick : Option Nat
  sod : Option Nat
  wday : Option Nat
  align : Bool
  deriving DecidableEq, Repr, Inhabited

/-- The RTC domain and its supply (R306–R315). No reset of the SoC changes it. -/
structure Rtc where
  tick : Nat
  sod : Nat
  wday : Nat
  /-- SOD has returned to 0 by counting and WDAY is still to follow (SOD_WRAP). -/
  wrapped : Bool
  lost : Bool
  batlow : Bool
  onBackup : Bool
  /-- SHIFT in progress: ticks still to apply, edges passed, and n (0: none). -/
  shiftLeft : Int
  shiftEdges : Nat
  shiftTotal : Int
  load : Option RtcLoad
  back : Nat
  alarms : List Alarm
  setCnt : U32
  shiftCnt : U32
  backupMv : Nat
  tempHold : Bool
  /-- Values latched by a read of RTC_TICK_LO (R319): TICK_HI, SOD, FLAGS. -/
  latch : Option (Nat × Nat × Nat)
  deriving DecidableEq, Repr, Inhabited

/-- The time base and the clock monitor. `tb` counts 2⁻³² ns of TAI since the PTP epoch (R293). -/
structure TimeUnit where
  tb : Nat
  tbLatch : Option Nat
  /-- TIME cycles since the start of the SoC, counted for the module's timers. -/
  cycle : Nat
  fabCycle : Nat
  lfEdge : Nat
  /-- Phase of the LF crystal against the TIME clock, in 1/400,000,000 of an LF period. -/
  lfPhase : Nat
  servo : Servo
  ptp : Ptp
  pps : Pps
  refFault : Bool
  refBad : Nat
  /-- The PLLs F, A, D, T, N, R and the SerDes PLL of each port in lock. -/
  plls : List Bool
  tcxoStopped : Bool
  radiosHeld : Bool
  deriving DecidableEq, Repr, Inhabited

/-- Stitch generator states (Table 2.8). -/
inductive StitchState where
  | free
  | slewing
  | aligned
  deriving DecidableEq, Repr, Inhabited

/-- The Stitch generator (R32–R39). Instants are TAI ns of the generator's own boundaries. -/
structure StitchGen where
  run : Bool
  number : U32
  /-- Period in ms. -/
  period : Nat
  state : StitchState
  phase : Int
  lastBoundary : Nat
  nextBoundary : Nat
  offset : U32
  skip : U32
  /-- A time-base step not yet met at a boundary, ns (R37). -/
  step : Int
  /-- A stored new period and the whole TAI second at which it takes effect (R38). -/
  newPeriod : Option (Nat × Nat)
  busy : Bool
  deriving DecidableEq, Repr, Inhabited

/-- Task kinds of Table 2.3, in its row order. -/
inductive TaskKind where
  | schedule (block : Nat)
  | walk
  | solve (seg : Nat)
  | darn (seg : Nat)
  | fade
  | telemetry (shuttle : Nat)
  | mailbox (mailbox : Nat)
  | planning (shuttle : Nat)
  | course (shuttle : Nat)
  | meterBlock (harness : Nat)
  | interval
  | raptorq (block : Nat)
  | bobbin (channel : Nat)
  | skein (skein : Nat)
  deriving DecidableEq, Repr, Inhabited

inductive SlotState where
  | free
  | waiting
  | ready
  | running
  | aborting
  deriving DecidableEq, Repr, Inhabited

/-- A Tambour task slot in use (R45). -/
structure TaskSlot where
  slot : Nat
  kind : TaskKind
  list : Nat
  soft : Bool
  state : SlotState
  wait : Nat
  dlStitch : U32
  dlOff : Nat
  /-- Order in which it became READY (R46), and the FAB cycle. -/
  readyNo : Nat
  readyAt : Nat
  engine : Nat
  startedAt : Nat
  frayed : Bool
  deriving DecidableEq, Repr, Inhabited

/-- Counters of one ready list (Table 2.6). -/
structure ReadyList where
  maxDepth : Nat
  dispatched : U32
  strictFray : U32
  softFray : U32
  cancelRace : U32
  bpCnt : U32
  softCancelRef : U32
  bins : List U32
  deriving DecidableEq, Repr, Inhabited

/-- A source held under R48: list, source number of R50, and the task it would post. -/
structure HeldTask where
  source : Nat
  task : TaskSlot
  /-- Slot of the engine task that stalls on this post, still RUNNING (R48). -/
  poster : Option Nat
  deriving DecidableEq, Repr, Inhabited

/-- Busy FAB cycles of one engine (R52). -/
structure EngineLoad where
  busy : Nat
  load : Nat
  peak : Nat
  deriving DecidableEq, Repr, Inhabited

/-- Frays of one task kind in the running second, with the list of the run's first Fray (R44). -/
structure FrayRun where
  kind : Nat
  list : Nat
  soft : Bool
  count : Nat
  running : Bool
  deriving DecidableEq, Repr, Inhabited

/-- A request waiting at a fabric arbiter: its initiator and the FAB cycles it has waited (R53, R54). -/
structure FabRequest where
  initiator : Nat
  waited : Nat
  deriving DecidableEq, Repr, Inhabited

/-- The arbiter of one fabric target (R53, R54): waiting requests in order of arrival, the bursts each tile may still have in this
round, the initiator each tile granted last, and the burst in progress: its initiator and the FAB cycles left. -/
structure Arbiter where
  waiting : List FabRequest
  shares : List Nat
  last : List Nat
  burst : Option (Nat × Nat)
  deriving DecidableEq, Repr, Inhabited

/-- The Tambour and the fabric arbiters' observation registers (R45–R55). -/
structure Tambour where
  slots : List TaskSlot
  lists : List ReadyList
  held : List HeldTask
  loads : List EngineLoad
  frays : List FrayRun
  readyNo : Nat
  /-- Slots cancelled, with list and FAB cycle (R50). -/
  cancelled : List (Nat × Nat × Nat)
  slotSel : Nat
  /-- Arbiters of the targets DRAM, Frame SRAM, Skein SRAM, MRAM and peripheral port. -/
  arbiters : List Arbiter
  fabEsc : List U32
  fabMaxWait : List Nat
  a0Stop : U32
  deriving DecidableEq, Repr, Inhabited

end Sys2Proof.Machine
end

