-- ==== Sys2Proof/Machine/ColdStart.lean ====
section
/-! DEFINITION. Every unit as a power-on reset leaves it: the Reset columns of the register maps (0 where a table gives no other
value), and the content of a factory module's MRAM, eMMC and key store (R336, R402, R411). `default` is 0, false, no element or
nothing in every field. -/

namespace Sys2Proof.Machine

/-! Time. -/

def coldServo : Servo := default
def coldPps : Pps := default
def coldTime : TimeUnit :=
  { tb := 0, tbLatch := none, cycle := 0, fabCycle := 0, lfEdge := 0, lfPhase := 0, servo := coldServo, ptp := default, pps := coldPps, refFault := false,
    refBad := 0, plls := List.replicate 12 false, tcxoStopped := false, radiosHeld := false }

def clearedAlarm : Alarm := default
/-- The RTC domain after its own reset (R314, Table 12.11): WDAY 7 and LOST. -/
def lostRtc : Rtc :=
  { tick := 0, sod := 0, wday := 7, wrapped := false, lost := true, batlow := false, onBackup := false, shiftLeft := 0, shiftEdges := 0,
    shiftTotal := 0, load := none, back := 0, alarms := [clearedAlarm, clearedAlarm], setCnt := 0, shiftCnt := 0, backupMv := 0,
    tempHold := false, latch := none }

/-- The generator before it starts, at the factory period of 20 ms (R32). -/
def coldStitch : StitchGen := { (default : StitchGen) with period := 20 }
def coldList : ReadyList := { (default : ReadyList) with bins := List.replicate 8 0 }
def coldArbiter : Arbiter := { waiting := [], shares := List.replicate 7 0, last := List.replicate 7 0, burst := none }
def coldTambour : Tambour :=
  { (default : Tambour) with lists := List.replicate 9 coldList, loads := List.replicate 19 default,
                             arbiters := List.replicate 5 coldArbiter, fabEsc := List.replicate 5 0,
                             fabMaxWait := List.replicate 5 0 }

/-! Movement. -/

def coldSkeins : SkeinUnit := { skeins := List.replicate 128 default, waiting := [], eccCorr := 0, pops := [] }
/-- A Bobbin channel: CTRL.RETRY is 4 (Table 3.8). -/
def coldBobbin : Bobbin := { (default : Bobbin) with ctrl := 0x4000 }
def coldBobbins : BobUnit := { (default : BobUnit) with channels := List.replicate 32 coldBobbin }

/-! Tables and light. -/

def emptyContent : Content := { pins := [], edges := [], segs := [] }
/-- Empty tables (R402), the table generation 1 (R86). -/
def coldTables : Tables := { (default : Tables) with generation := 1, savedGen := 1, storeGen := 1 }
def coldSchedule : Schedule := default
def coldLace : Lace := { (default : Lace) with inService := List.replicate 8 false }
def coldFade : FadeUnit := default
def coldChain : Chain := { (default : Chain) with boards := List.replicate 128 default }

/-! Air. -/

def coldAir : Air := { (default : Air) with shuttles := List.replicate 4 default }

/-! Metering. -/

def coldFeeder : Feeder :=
  { (default : Feeder) with prev := List.replicate 4 0, secs := List.replicate 3 [], q1 := List.replicate 3 0, s1 := List.replicate 3 0,
                            record := [], armed := true, rmsRun := List.replicate 4 0 }
def coldVoltSet : VoltSet :=
  { (default : VoltSet) with below := List.replicate 3 0, above := List.replicate 3 0, window := List.replicate 28 [], half := List.replicate 28 [] }
def coldInterval : Interval := { length := 15, changeAt := 0, start := 0, lastClosed := 0, flags := 0, resumed := false }
def coldMet : Met :=
  { (default : Met) with
    harnesses := List.replicate 2 default, decimators := List.replicate 56 default, filters := List.replicate 56 default, chanFault := List.replicate 56 false, sets := List.replicate 2 coldVoltSet
    peaks := List.replicate 56 default, feeders := List.replicate 12 coldFeeder, interval := coldInterval
    outputs := List.replicate 8 default, dfc := List.replicate 4 default, nextSnap := 1 }

/-! Mailboxes, journal, Sampler, settings, keys. -/

def coldMailboxes : Mailboxes := { (default : Mailboxes) with boxes := List.replicate 16 default, a0Running := true }
/-- An empty journal: sequences and commit numbers begin at 1 (R327). -/
def coldJournal : Journal := { (default : Journal) with nextSeq := 1 }
def roundSlots : Nat := 176128
def coldSampler : Sampler :=
  { (default : Sampler) with tallies := List.replicate 11 default, talliesNew := List.replicate 11 default,
                             roundSize := roundSlots, marks := List.replicate 4 default }
/-- R411: copy 0 holds the factory settings and protection table, copy 1 holds neither. -/
def factoryCopies : List SettingsCopy :=
  [{ valid := true, storedGen := 1, workGen := 1, sections := factorySettings, protValid := true, prot := factoryProtection }, default]
def coldSettings : Settings :=
  { (default : Settings) with copies := factoryCopies }
/-- The 128 radio key slots, empty at manufacture (R341). -/
def coldSecurity : Security :=
  { prot := factoryProtection, service := Config.serviceCredential, slots := List.replicate 128 default, cert := [], protPending := 0 }

/-! Start-up and power. -/

/-- A factory module holds one confirmed image, in slot A (DESIGN CHOICE: the spec names no slot; its version is read at BOOT). -/
def factoryImages : List ImageSlot := [{ state := .confirmed, version := 0, secVersion := 0 }, default]
def coldSys : Sys :=
  { (default : Sys) with resets := List.replicate 8 0, kind := 1, slots := factoryImages, diesLost := [], bankOk := [false, false],
                         mrcCorr := [0, 0], inputs := List.replicate 8 default }

/-! Network and panel. -/

def coldPort : SwPort := { (default : SwPort) with queues := List.replicate 8 [], credit := List.replicate 6 0 }
def coldRing : Ring :=
  { (default : Ring) with blocked := [false, false], sf := [false, false], holdOff := [false, false] }
def coldNet : Net := { (default : Net) with ports := List.replicate 7 coldPort, ring := coldRing }
def coldPanel : Panel := { (default : Panel) with keysNow := List.replicate 8 false, keyPresses := List.replicate 8 0 }

end Sys2Proof.Machine
end

