-- ==== Sys2Proof/Machine/State.lean ====
section
/-! DEFINITION. The module's state as plain data, the reasons a step can stop, and the state at power-on. -/

namespace Sys2Proof.Machine

structure State where
  /-- The commands waiting, first in, first out. -/
  pending : List Instr
  mbx : Mailboxes
  jnl : Journal
  smp : Sampler
  set : Settings
  sec : Security
  time : TimeUnit
  rtc : Rtc
  stitch : StitchGen
  tmb : Tambour
  skn : SkeinUnit
  bob : BobUnit
  tab : Tables
  sched : Schedule
  lace : Lace
  fade : FadeUnit
  chain : Chain
  air : Air
  met : Met
  sys : Sys
  net : Net
  pnl : Panel
  /-- The model's own counter of free values used. -/
  freeCtr : Nat
  deriving DecidableEq, Repr

/-- No command of the module stops it: the spec gives every row of its table an effect. -/
inductive Fault where
  deriving DecidableEq, Repr

/-- Why the model has no meaning for a command. -/
inductive Refusal where
  /-- Raised by Dispatch for a command that has no meaning yet. Safe: nothing is claimed of its effect. -/
  | notModelled (mnemonic : String)
  deriving DecidableEq, Repr

/-- The machine at power-on: a factory module without its DC input, every register at its Reset value (R402, R411). -/
def State.reset : State where
  pending := []
  mbx := coldMailboxes
  jnl := coldJournal
  smp := coldSampler
  set := coldSettings
  sec := coldSecurity
  time := coldTime
  rtc := lostRtc
  stitch := coldStitch
  tmb := coldTambour
  skn := coldSkeins
  bob := coldBobbins
  tab := coldTables
  sched := coldSchedule
  lace := coldLace
  fade := coldFade
  chain := coldChain
  air := coldAir
  met := coldMet
  sys := coldSys
  net := coldNet
  pnl := coldPanel
  freeCtr := 0

end Sys2Proof.Machine
end

