-- ==== Sys2Proof/Machine/Ops.lean ====
section
/-! DEFINITION. The operations every unit shares: time and settings views, the Sampler's event intake (R385, R387), the
journal batch (R327, R366), and the messages of a mailbox (R328, R330). -/

namespace Sys2Proof.Machine

/-- Every command of the module answers a next state. -/
abbrev Out := Host.Outcome State Fault Refusal

def next (s : State) : Out := .next s

/-! Views of the clocks. -/

/-- What the time base gains in a TIME cycle, in 2⁻³² ns (R293). -/
def increment (y : Int) : Nat := (10737418240 + (10737418240 * y) / 65536000000000).toNat

/-- The time base in TAI ns. -/
def taiNs (s : State) : Nat := s.time.tb / 4294967296
/-- The time base's TAI seconds. -/
def taiSec (s : State) : Nat := taiNs s / 1000000000
/-- Operating seconds and subseconds (R384): 1/65536 s in steps of two. -/
def opSec (s : State) : Nat := s.sys.opTicks / 32768
def opSub (s : State) : Nat := 2 * (s.sys.opTicks % 32768)
/-- TIME cycles in one second, and whole seconds since start-up. -/
def cyclesPerSec : Nat := 400000000
def upSec (s : State) : Nat := s.time.cycle / cyclesPerSec
/-- Seconds from an earlier TIME cycle to now. -/
def secSince (s : State) (cycle : Nat) : Nat := (s.time.cycle - cycle) / cyclesPerSec

def running (s : State) : Bool := s.sys.phase == .run

/-- One use of a free value: the counter's value, and the state with it advanced. -/
def drawFree (s : State) : Nat × State := (s.freeCtr, { s with freeCtr := s.freeCtr + 1 })

/-! Settings of the working copy. -/

def sect (s : State) (id : Nat) : Bytes := tabGetD s.set.working id []
def setU8 (s : State) (id off : Nat) : Nat := u8At (sect s id) off
def setU16 (s : State) (id off : Nat) : Nat := u16At (sect s id) off
def setU32 (s : State) (id off : Nat) : Nat := u32At (sect s id) off
def setS16 (s : State) (id off : Nat) : Int := s16At (sect s id) off
def setS32 (s : State) (id off : Nat) : Int := s32At (sect s id) off

/-- Writes bytes into one section of a settings copy. -/
def writeSect (t : Tab Bytes) (id off : Nat) (data : Bytes) : Tab Bytes :=
  tabSet t id (overlay (tabGetD t id []) off data)

/-- Stitches in one second at the period in force. -/
def perSec (s : State) : Nat := 1000 / s.stitch.period
/-- Stitch n Stitches from now. -/
def stitchIn (s : State) (n : Nat) : U32 := s.stitch.number + BitVec.ofNat 32 n
/-- The first beacon Stitch at or after `n` (R35). -/
def beaconFrom (n : U32) : U32 := n + BitVec.ofNat 32 ((64 - n.toNat % 64) % 64)
def isBeacon (n : U32) : Bool := n.toNat % 64 == 0

/-! Skeins, as every unit's packets meet them (R56, R61). -/

def skein (s : State) (n : Nat) : Skein := s.skn.skeins.getD n default
def onSkein (n : Nat) (f : Skein → Skein) (s : State) : State :=
  { s with skn := { s.skn with skeins := listModify s.skn.skeins n f } }

/-- 16-byte words that bytes take in an area (R61). -/
def wordsOf (n : Nat) : Nat := (n + 15) / 16

/-- Words of the area in use: visible packets less what their reader has read, and the open packet. -/
def fillOf (k : Skein) : Nat :=
  (k.packets.map fun p => wordsOf p.bytes.length).sum - (match k.reading with | some r => r.done | none => 0) +
    (match k.opened with | some o => wordsOf o.bytes.length | none => 0)

/-- A packet enters a Skein whole and is visible at once: work that the firmware moves inside one command, and the journal's rebuild. -/
def placePacket (b : Bytes) (k : Skein) : Skein :=
  let k := { k with packets := k.packets ++ [(⟨b⟩ : Packet)], pkts := k.pkts + 1 }
  { k with fillMax := max k.fillMax (fillOf k) }

/-- A packet that is written and read within one command. -/
def carry (b : Bytes) (k : Skein) : Skein :=
  { k with pkts := k.pkts + 1, fillMax := max k.fillMax (fillOf k + wordsOf b.length) }

/-- Passes a packet through Skein `n`, once it is allocated (R56, Table 3.1). -/
def throughSkein (n : Nat) (b : Bytes) (s : State) : State := onSkein n (fun k => if k.en then carry b k else k) s

/-- The oldest packet of a Skein leaves it. -/
def dropPacket (n : Nat) (s : State) : State := onSkein n (fun k => { k with packets := k.packets.drop 1, reading := none }) s

/-! Log space (R369). -/

/-- Bytes of the circular log (R366). -/
def logSize : Nat := 466944
/-- Log bytes from the oldest entry still held to the next position (R369). -/
def logSpan (l : List LogItem) : Nat := ((l.dropWhile fun i => !i.live).map (·.bytes)).sum
def logFree (j : Journal) : Nat := logSize - logSpan j.log

/-! Sampler events. -/

/-- The Selvedge codes of R389 and R418. -/
def selvedgeCodes : List Nat :=
  [0x020A, 0x0304, 0x0306, 0x070C, 0x070D, 0x0714, 0x0A04, 0x0141, 0x0143, 0x0144, 0x0145, 0x0147, 0x0149, 0x014A]

def isSelvedge (code : Nat) : Bool := selvedgeCodes.contains code
/-- Class of a code: bits [15:8] (R396), the classes 1–10. -/
def classOf (code : Nat) : Nat := code / 256
/-- Classes SECURITY, METER and LOG and the Selvedge codes are exempt (R387). -/
def isExempt (code : Nat) : Bool := [3, 7, 10].contains (classOf code) || isSelvedge code

def tallyEvent (code : Nat) (t : Tally) : Tally :=
  { count := t.count + 1, first := if t.count = 0 then code else min t.first code, last := max t.last code }

def sampTally (code : Nat) (p : Sampler) : Sampler :=
  { p with talliesNew := listModify p.talliesNew (classOf code) (tallyEvent code) }

/-- A suppressed event counts in SMP_SUPPRESSED and its class tally (R387). -/
def sampSuppress (code : Nat) (p : Sampler) : Sampler :=
  { sampTally code p with suppressed := p.suppressed + 1 }

/-- The Skein that an event's packet passes through: 28 from the metering engines, 32 from every other initiator (Table 3.1). -/
def eventSkein (code : Nat) : Nat := if classOf code = 7 then 28 else 32

/-- Events in the order in which the Sampler unit takes them: by stamp, and from Skein 28 first when two stamps are equal (R385). -/
def inStampOrder (e : Event) (l : List Event) : List Event :=
  let same := fun x : Event => x.cycle == e.cycle && x.pcycle == e.pcycle && !x.late && eventSkein x.code == 32
  let n := l.length - (if eventSkein e.code = 28 then (l.reverse.takeWhile same).length else 0)
  l.take n ++ e :: l.drop n

/-- The Sampler unit takes a stamped event into its intake; one that finds 1,024 waiting is suppressed. -/
def postEvent (e : Event) (p : Sampler) : Sampler :=
  if p.intake.length < 1024 then
    { p with intake := inStampOrder e p.intake, intakeMax := max p.intakeMax (p.intake.length + 1) }
  else sampSuppress e.code p

/-- The event that a unit posts now (R385). -/
def eventNow (s : State) (code source : Nat) (payload : Bytes) : Event :=
  { code := code, source := source, payload := payload, opSec := opSec s, opSub := opSub s,
    pcycle := s.sys.pcycle % 16777216, stitch := s.stitch.number, cycle := s.time.fabCycle, late := false }

/-- Events that raise a hot-plug banner of Table 19.3: chain lost, restored, topology and cut, harnesses, SFP, USB. -/
def bannerCodes : List Nat :=
  [0x050B, 0x050C, 0x050D, 0x050E, 0x0710, 0x0711, 0x0712, 0x0713, 0x0803, 0x0804, 0x0805, 0x0945, 0x0946]

/-- A hot-plug banner lasts 10 s, the newest first (R436). -/
def hotBanner (code source : Nat) (s : State) : Panel :=
  if bannerCodes.contains code then
    { s.pnl with banners := { code := code, source := source, until_ := s.time.cycle + 10 * cyclesPerSec } :: s.pnl.banners }
  else s.pnl

/-- Below 16 KB of free log, Sampler and span records wait and interval boundaries are not closed (Table 15.4). -/
def logTight (s : State) : Bool := logFree s.jnl < 16384

/-- An event's packet is stamped and taken, or waits in its Skein while the log is tight. -/
def post (code source : Nat) (payload : Bytes) (s : State) : State :=
  let e := eventNow s code source payload
  let b := le16 code ++ le16 source ++ payload
  let s := { s with pnl := hotBanner code source s }
  if logTight s then onSkein (eventSkein code) (fun k => if k.en then placePacket b k else k) { s with smp.stalled := s.smp.stalled ++ [e] }
  else throughSkein (eventSkein code) b { s with smp := postEvent e s.smp }

/-- Posts only if `c`. -/
def postIf (c : Bool) (code source : Nat) (payload : Bytes) (s : State) : State :=
  if c then post code source payload s else s

/-- Source of an event whose row gives none (R382). -/
def noSource : Nat := 0xFFFF
def edge (b : Bool) : Bytes := le8 (if b then 1 else 0)

/-! The journal batch. -/

def entryBytes (e : JEntry) : Nat := 16 + (padTo 8 e.body).length
def batchBytes (l : List JEntry) : Nat := (l.map entryBytes).sum

/-- Header and body of an entry as written (Table 15.2). -/
def entryHeader (e : JEntry) : Bytes :=
  leW e.seq ++ le8 e.kind ++ le8 e.flags ++ le16 e.source ++ le32 e.body.length
def entryImage (e : JEntry) : Bytes :=
  entryHeader e ++ le32 (crc32c (entryHeader e ++ e.body)) ++ padTo 8 e.body

/-- Entry kinds of Table 15.3. -/
def jkCommand : Nat := 1
def jkPinCmd : Nat := 2
def jkInterval : Nat := 3
def jkSpan : Nat := 4
def jkRecord : Nat := 5
def jkEffect : Nat := 6
def jkDone : Nat := 7
def jkOutcome : Nat := 8
def jkRetire : Nat := 9

/-- An entry that refers to work joins the open batch. -/
def joinRef (seq : U32) (kind source : Nat) (body : Bytes) (s : State) : State :=
  { s with jnl.batch := s.jnl.batch ++ [{ seq := seq, kind := kind, flags := 0, source := source, body := body }] }

/-- New accepted work takes the next acceptance sequence in journal order (R327) and joins the open batch. -/
def joinWork (kind source : Nat) (body : U32 → Bytes) (s : State) : U32 × State :=
  let seq := s.jnl.nextSeq
  (seq, { s with jnl.nextSeq := seqNext seq,
                 jnl.batch := s.jnl.batch ++ [{ seq := seq, kind := kind, flags := 0, source := source, body := body seq }] })

/-- An entry of work, or of a result, gives up its log space. -/
def releaseLog (p : JEntry → Bool) (l : List LogItem) : List LogItem :=
  (l.map fun i =>
    match i.entry with
    | some e => if p e then { i with live := false } else i
    | none => i).dropWhile fun i => !i.live

/-- The work with an acceptance sequence is retired (R364). -/
def retire (seq : U32) (s : State) : State :=
  { s with jnl.log := releaseLog (fun e => e.seq == seq && (e.kind == jkCommand || e.kind == jkPinCmd ||
      e.kind == jkInterval || e.kind == jkSpan || e.kind == jkRecord)) s.jnl.log }

/-! Mailboxes. -/

def box (s : State) (m : Nat) : Mailbox := s.mbx.boxes.getD m default
def onBox (m : Nat) (f : Mailbox → Mailbox) (s : State) : State :=
  { s with mbx.boxes := listModify s.mbx.boxes m f }

/-- A0 is held under R48 for a command of the mailbox. -/
def a0HeldFor (s : State) (m : Nat) : Bool := s.tmb.held.any fun h => h.source == 4 && h.task.kind == .mailbox m

/-- Free command places of a mailbox; 0 while A0 is held for it (R330). -/
def windowOf (s : State) (m : Nat) : Nat :=
  if a0HeldFor s m then 0 else 64 - (box s m).cmds.length

/-- A0 sends a message on a mailbox's session, if one is open, with the window of that moment; a stopped A0 sends nothing (R22). -/
def send (m kind : Nat) (rep : Bool) (opcode : Nat) (seq tag : U32) (status : Nat) (payload : Bytes) (s : State) : State :=
  if (box s m).session == .closed || !s.mbx.a0Running then s
  else
    let w := windowOf s m
    let msg : OutMsg := { mailbox := m, kind := kind, repeat_ := rep, window := w, opcode := opcode, seq := seq, tag := tag,
                          status := status, payload := payload }
    { onBox m (fun b => { b with lastWindow := w }) s with mbx.sent := s.mbx.sent ++ [msg] }

/-- Message kinds of Table 13.2. -/
def kRequest : Nat := 0
def kAccepted : Nat := 1
def kRefused : Nat := 2
def kResult : Nat := 3
def kSlotRead : Nat := 4
def kWindow : Nat := 5

/-- R330: a WINDOW message leaves when the window rises above a last value of 0, or differs from the last by 8 or more. -/
def windowMessage (m : Nat) (s : State) : State :=
  let b := box s m
  let w := windowOf s m
  if b.session != .closed && ((b.lastWindow == 0 && w != 0) || 8 ≤ absDiff b.lastWindow w) then
    send m kWindow false 0 0 0 stOk [] s
  else s

def windowMessages (s : State) : State := (upTo 16).foldl (fun t m => windowMessage m t) s

def tagOf (b : Mailbox) (seq : U32) : Option TagEntry := b.tags.find? fun t => t.seq == seq

/-- Sends the answers owed at the head of a mailbox's queue, up to the first whose commit is still to come (R328). -/
def flushAnswers (m : Nat) : Nat → State → State
  | 0, s => s
  | fuel + 1, s =>
    let b := box s m
    match b.answers with
    | [] => s
    | .refused op tag st detail :: rest =>
      flushAnswers m fuel (send m kRefused false op 0 tag st detail (onBox m (fun b => { b with answers := rest }) s))
    | .accepted seq op tag :: rest | .repeated seq op tag :: rest =>
      match tagOf b seq with
      | some t =>
        if t.committed then
          flushAnswers m fuel
            (send m kAccepted false op seq tag stOk (leW t.stitch) (onBox m (fun b => { b with answers := rest }) s))
        else s
      | none => flushAnswers m fuel (onBox m (fun b => { b with answers := rest }) s)

/-- An answer joins the mailbox's queue, and the queue's head leaves if it may. -/
def answer (m : Nat) (a : Answer) (s : State) : State :=
  let s := onBox m (fun b => { b with answers := b.answers ++ [a] }) s
  flushAnswers m ((box s m).answers.length) s

/-! Closing a session (R338, R393). -/

/-- A freeze set by a mailbox ends when its session closes; the records waiting are stored by the caller's thaw. -/
def closeSession (m : Nat) (s : State) : State :=
  onBox m (fun b => { b with session := .closed, answers := [], lastWindow := 0 }) s

end Sys2Proof.Machine
end

