-- ==== Sys2Proof/Machine/Journal.lean ====
section
/-! DEFINITION. Sampler records into the journal batch (R383, R387, R388, R392), their storing (R389–R394), and the
sealing and completion of a journal commit (R367–R369) as far as the journal itself is concerned. -/

namespace Sys2Proof.Machine

/-! Records. -/

/-- Record flags of Table 16.1. -/
def rfLate : Nat := 1
def rfSelvedge : Nat := 2
def rfSelvedgeFull : Nat := 4
def rfCont : Nat := 8

/-- Bytes 0–27 of a record, then its CRC (R382). -/
def recordBytes (r : Record) : Bytes :=
  let b := leW r.seq ++ leBytes 3 r.pcycle ++ le8 (classOf r.code) ++ le32 r.opSec ++ le16 r.opSub ++ le16 r.code ++
    le16 r.source ++ le16 r.flags ++ fit 8 r.payload
  b ++ le32 (crc32c b)

/-- The record that a RECORD entry's body holds. -/
def recordOf (b : Bytes) : Record :=
  { seq := BitVec.ofNat 32 (u32At b 0), pcycle := u32At (slice b 4 3) 0, code := u16At b 14, opSec := u32At b 8,
    opSub := u16At b 12, source := u16At b 16, flags := u16At b 18, payload := slice b 20 8 }

/-- Records an event takes (R383): its first and up to three continuations. -/
def recordCount (payload : Bytes) : Nat := max 1 ((payload.length + 7) / 8)

/-- The k-th record of an event. -/
def eventRecord (e : Event) (k : Nat) (seq : U32) : Record :=
  { seq := seq, pcycle := e.pcycle, code := e.code, opSec := e.opSec, opSub := e.opSub, source := e.source,
    flags := (if e.late then rfLate else 0) +
      (if k = 0 then 16 * (recordCount e.payload - 1) else rfCont),
    payload := slice e.payload (8 * k) 8 }

/-- The event's records join the open batch one after the other. -/
def joinEvent (e : Event) (s : State) : State :=
  (upTo (recordCount e.payload)).foldl
    (fun t k => (joinWork jkRecord noSource (fun q => recordBytes (eventRecord e k q)) t).2) s

/-! Room in the Round. -/

/-- LOG mode of the working copy: 0 NORMAL, 1 LOG_2210. -/
def log2210 (s : State) : Bool := setU8 s secLog 0 == 1
def logRate (s : State) : Nat := setU16 s secLog 2

/-- Round records of work accepted or in a batch that are not yet stored. -/
def roundPending (s : State) : Nat :=
  let inBatch := fun l : List JEntry => (l.filter fun e => e.kind == jkRecord && !isSelvedge (u16At e.body 14)).length
  inBatch s.jnl.batch + (match s.jnl.committing with | some b => inBatch b.entries | none => 0) + s.smp.waiting.length

/-- Records that LOG_2210 mode may overwrite: those at or before mark 0 (R392). -/
def released (p : Sampler) : Nat :=
  match p.marks with
  | m :: _ => if m.isSet then (p.round.takeWhile fun r => serialAtOrBefore r.seq m.seq).length else 0
  | [] => 0

/-- Records that may still be made in LOG_2210 mode. -/
def roundRoom (s : State) : Nat :=
  (s.smp.roundSize - s.smp.round.length) + released s.smp - roundPending s

/-- R392: FULL_2210 clears when a slot becomes free, by mark 0 or by the mode. -/
def fullCheck (s : State) : State :=
  if s.smp.full2210 && (!log2210 s || 0 < roundRoom s) then { s with smp := { s.smp with full2210 := false } } else s

/-- R392: an event that would overwrite a record not released is not made; it is counted, and FULL_2210 is set. -/
def notMade (code : Nat) (s : State) : State :=
  { s with smp := { sampTally code s.smp with full2210 := true, fullLost := s.smp.fullLost + 1 } }

/-- Whether a record of this code may be made now. -/
def mayMake (code n : Nat) (s : State) : Bool :=
  !log2210 s || (isSelvedge code && !s.smp.selvedgeLost && s.smp.selvedge.length + n ≤ 4096) || n ≤ roundRoom s

/-- An event enters the batch, or is not made. -/
def enterEvent (e : Event) (s : State) : State :=
  if mayMake e.code (recordCount e.payload) s then joinEvent e s else notMade e.code s

/-! Intake to batch (R387). -/

/-- Events enter in stamp order within the budget and the cap; the first that does not fit stops the Stitch. Answers the
state and the cap left. -/
def enterIntake : List Event → Nat → Nat → State → State × List Event × Nat
  | [], _, cap, s => (s, [], cap)
  | e :: rest, budget, cap, s =>
    let n := recordCount e.payload
    let cost := if isExempt e.code then 0 else n
    if n ≤ cap && cost ≤ budget then enterIntake rest (budget - cost) (cap - n) (enterEvent e s)
    else (s, e :: rest, cap)

/-- One OVERFLOW record for a class whose tally is not 0, if the cap leaves room and it may be made (R388). -/
def overflowFor (c : Nat) (acc : State × Nat) : State × Nat :=
  let (s, cap) := acc
  let t := s.smp.tallies.getD c default
  if t.count ≠ 0 && 1 ≤ cap && mayMake 0x0A01 1 s then
    let e := eventNow s 0x0A01 c (le32 (satU 32 t.count) ++ le16 t.first ++ le16 t.last)
    let s := joinEvent e s
    ({ s with smp := { s.smp with tallies := listSet s.smp.tallies c default, ovfRec := s.smp.ovfRec + 1 } }, cap - 1)
  else (s, cap)

def mergeTally (a b : Tally) : Tally :=
  if b.count = 0 then a
  else if a.count = 0 then b
  else { count := a.count + b.count, first := min a.first b.first, last := max a.last b.last }

/-- R387: a non-exempt event still in the intake at the end of the Stitch after its own is suppressed. -/
def suppressOld (s : State) : State :=
  let old := fun e : Event => e.stitch != s.stitch.number && !isExempt e.code && !e.late
  let gone := s.smp.intake.filter old
  let p := gone.foldl (fun p e => sampSuppress e.code p) s.smp
  { s with smp := { p with intake := s.smp.intake.filter fun e => !old e } }

/-- The events that waited in Skeins 28 and 32 are taken. -/
def takeStalled (s : State) : State :=
  s.smp.stalled.foldl (fun t e => dropPacket (eventSkein e.code) { t with smp := postEvent e t.smp }) { s with smp := { s.smp with stalled := [] } }

/-- What the Sampler has taken by the end of a Stitch enters the batch, OVERFLOW records are made, old events are suppressed. -/
def enterRecords (s : State) : State :=
  let (t, rest, cap) := enterIntake s.smp.intake (logRate s) 256 s
  let t := { t with smp := { t.smp with intake := rest } }
  let (t, _) := (upTo 11).foldl (fun a c => overflowFor c a) (t, cap)
  let t := suppressOld t
  { t with smp := { t.smp with tallies := List.zipWith mergeTally t.smp.tallies t.smp.talliesNew,
                               talliesNew := List.replicate 11 default } }

/-- The end of a Stitch for the Sampler; below 16 KB of free log its records wait (Table 15.4). -/
def samplerStitchEnd (s : State) : State := if logTight s then s else enterRecords (takeStalled s)

/-! Storing (R389–R393). -/

/-- The Round overwrites its oldest record; a mark on it moves to the oldest then held and is OVERTAKEN (R391). -/
def overtake (dropped newOldest : U32) (s : State) (k : Nat) : State :=
  let m := s.smp.marks.getD k default
  if m.isSet && m.seq == dropped then
    let s := { s with smp := { s.smp with marks := listSet s.smp.marks k { m with seq := newOldest, overtaken := true },
                                          overtakenCnt := s.smp.overtakenCnt + 1 } }
    post 0x0A02 k (leW dropped ++ leW newOldest) s
  else s

/-- Stores a record in the next Round slot, overwriting the oldest when every slot is occupied (R390). -/
def roundWrite (r : Record) (s : State) : State :=
  let p := s.smp
  let full := p.roundSize ≤ p.round.length
  let kept := if full then p.round.drop 1 else p.round
  let held := kept ++ [r]
  let nextSlot := if p.roundNext + 1 < p.roundFirst + p.roundSize then p.roundNext + 1 else p.roundFirst
  let t := { s with smp := { p with round := held, roundNext := nextSlot, newest := r.seq, stored := p.stored + 1 } }
  let t := retire r.seq t
  let newOldest := (held.head?.map (·.seq)).getD r.seq
  match p.round.head? with
  | some d => if full then (upTo 4).foldl (overtake d.seq newOldest) t else t
  | none => t

/-- Ends a freeze with its cause, storing the waiting records in order (R393). -/
def endFreeze (cause : Nat) (s : State) : State :=
  match s.smp.freeze with
  | none => s
  | some f =>
    let w := s.smp.waiting
    let s := { s with smp := { s.smp with freeze := none, waiting := [] } }
    let s := w.foldl (fun t r => roundWrite r t) s
    post 0x0A03 f.mailbox (le8 cause ++ le8 0 ++ le16 w.length) s

/-- Stores a record in the Round, or keeps it waiting while a freeze forbids overwriting; 1,024 waiting break the freeze. -/
def roundStore (r : Record) (s : State) : State :=
  if s.smp.freeze.isSome && s.smp.roundSize ≤ s.smp.round.length then
    let s := { s with smp := { s.smp with waiting := s.smp.waiting ++ [r] } }
    if 1024 ≤ s.smp.waiting.length then endFreeze 4 s else s
  else roundWrite r s

/-- Stores one record of a commit in its area (R389, R390). -/
def storeRecord (r : Record) (s : State) : State :=
  if isSelvedge r.code then
    if !s.smp.selvedgeLost && s.smp.selvedge.length < 4096 then
      let r := { r with flags := r.flags + rfSelvedge }
      retire r.seq { s with smp := { s.smp with selvedge := s.smp.selvedge ++ [r], newest := r.seq, stored := s.smp.stored + 1 } }
    else
      let first := !s.smp.selvedgeFullMade
      let s := roundStore { r with flags := r.flags + rfSelvedgeFull } { s with smp := { s.smp with selvedgeFullMade := true } }
      postIf first 0x0A05 noSource [] s
  else roundStore r s

/-- R394: the records of a commit are stored in acceptance order before any command of it begins. -/
def storeRecords (l : List JEntry) (s : State) : State :=
  (l.filter fun e => e.kind == jkRecord).foldl (fun t e => storeRecord (recordOf e.body) t) s

/-! Space (R369). -/

/-- R369: below 192 KB the oldest unretired entries are copied forward with RELOCATED, inside the commit, until free space
exceeds 224 KB. Each round moves the entry at the log's tail. -/
def relocate : Nat → Journal → Journal
  | 0, j => j
  | fuel + 1, j =>
    if 229376 < logFree j then { j with relocating := false }
    else
      match j.log.dropWhile (fun i => !i.live) with
      | [] => { j with relocating := false }
      | i :: rest =>
        match i.entry with
        | none => relocate fuel { j with log := rest }
        | some e =>
          let moved := { i with entry := some { e with flags := 1 } }
          if e.flags == 1 && rest.all (fun k => !k.live || (k.entry.map (·.flags)).getD 1 == 1) then { j with log := i :: rest }
          else relocate fuel { j with log := rest ++ [moved], reloc := j.reloc + 1 }

def relocateIfLow (j : Journal) : Journal :=
  if logFree j < 196608 || j.relocating then relocate j.log.length { j with relocating := true } else j

/-- The holds of Table 15.4 follow free space. -/
def spaceHolds (j : Journal) : Journal :=
  let free := logFree j
  let a0 := free < 163840
  let prod := free < 49152
  { j with a0Held := a0, a0Hold := if a0 && !j.a0Held then j.a0Hold + 1 else j.a0Hold,
           prodHeld := prod, prodHold := if prod && !j.prodHeld then j.prodHold + 1 else j.prodHold }

/-! Commits (R367). -/

/-- The open batch is sealed and its commit begins. -/
def sealBatch (boundary : Bool) (s : State) : State :=
  { s with jnl := { s.jnl with committing := some { entries := s.jnl.batch, boundary := boundary }, batch := [], stitchOfCommit := s.stitch.number } }

/-- Acceptance sequences of the work a batch accepts. -/
def workSeqs (l : List JEntry) : List U32 := (l.filter fun e => e.kind ≤ jkRecord).map (·.seq)

/-- The commit block's 32 bytes and the entries take their log positions. -/
def appendLog (l : List JEntry) (j : Journal) : Journal :=
  { j with log := j.log ++ l.map (fun e => { entry := some e, bytes := entryBytes e, live := e.kind ≤ jkDone }) ++
             [{ entry := none, bytes := 32, live := false }] }

def copyErrors : CopyWrite → Nat
  | .verified => 0
  | .retried => 1
  | .failed => 2

/-- The figures of a completed commit. -/
def commitFigures (b : Batch) (us : Nat) (c0 c1 : CopyWrite) (j : Journal) : Journal :=
  { j with commitNo := j.commitNo + 1, lastSeq := (workSeqs b.entries).getLast?.getD j.lastSeq,
           commits := j.commits + 1, batchCommits := if b.boundary then j.batchCommits else j.batchCommits + 1,
           commitMax := max j.commitMax (satU 16 us),
           copyErr := j.copyErr + BitVec.ofNat 32 ((if j.copy0Ok then copyErrors c0 else 0) + (if j.copy1Ok then copyErrors c1 else 0)) }

end Sys2Proof.Machine
end

