-- ==== Sys2Proof/Machine/Prongo.lean ====
section
/-! DEFINITION. Prongo: the header checks (R325), rights (R334, R335, R344), acceptance (R326, R329, R348), and the
completion of a command (R331, R368), once for every command. -/

namespace Sys2Proof.Machine

/-! Acceptance checks. -/

/-- A check that passes, or the status and detail of its refusal (R348). -/
abbrev Chk := Option (Nat × Bytes)

def pass : Chk := none
def refuse (st : Nat) : Chk := some (st, [])
/-- Refuses with `st` unless `c`. -/
def need (c : Bool) (st : Nat) : Chk := if c then none else some (st, [])
/-- The status of the first check that fails. -/
def checks : List Chk → Chk
  | [] => none
  | none :: t => checks t
  | some r :: _ => some r
/-- `c`, then `d`. -/
def andThen (c d : Chk) : Chk := match c with | none => d | some r => some r

/-- Checks each of `n` items in payload order; the refusal carries the failing item's position (R348). -/
def items (n : Nat) (f : Nat → Option Nat) : Chk :=
  match (upTo n).findSome? (fun i => (f i).map fun st => (st, le16 i)) with
  | none => none
  | some r => some r

/-- The status of the first failing check of an item. -/
def first : List (Bool × Nat) → Option Nat
  | [] => none
  | (ok, st) :: t => if ok then first t else some st

/-- R346: the length its fields and counts give. -/
def lenIs (p : Bytes) (n : Nat) : Chk := need (p.length == n) stBadPayload
/-- R12: reserved bytes of the request are 0. -/
def reserved (p : Bytes) (off n : Nat) : Chk := need (allZero (slice p off n)) stBadPayload

/-! The protection table (Table 13.5). -/

def protRights (t : Bytes) (principal : Nat) : Nat := u32At t (8 + 4 * principal)
def bindPrincipal (t : Bytes) (m : Nat) : Nat := u8At t (33 + 48 * m)
def bindEn (t : Bytes) (m : Nat) : Bool := bit (u8At t (34 + 48 * m)) 0
def bindMask (t : Bytes) (m : Nat) : Nat := u32At t (36 + 48 * m)
def bindCredential (t : Bytes) (m : Nat) : Bytes := slice t (40 + 48 * m) 32
def protGeneration (t : Bytes) : Nat := u32At t 0

/-- Principal codes of R334. -/
def pRoot : Nat := 0
def pAuditor : Nat := 4
def pPanel : Nat := 5

def principalOf (s : State) (m : Nat) : Nat := bindPrincipal s.sec.prot m
/-- R335: the principal's mask ANDed with the binding's. -/
def rightsOf (s : State) (m : Nat) : Nat := protRights s.sec.prot (principalOf s m) &&& bindMask s.sec.prot m
def maintOn (s : State) : Bool := s.mbx.maintUntil.isSome

/-- The Needs column of Table 14.2 (R344). -/
inductive Needs where
  | right (bit : Nat)
  | root
  | rootOrAuditor
  | rootMaint
  | any
  | unauth
  deriving DecidableEq, Repr

/-- Right bits of Table 13.4. -/
def rSysRead : Needs := .right 0
def rSysControl : Needs := .right 1
def rTableRead : Needs := .right 2
def rTableWrite : Needs := .right 3
def rScheduleRead : Needs := .right 4
def rScheduleWrite : Needs := .right 5
def rPresenceWrite : Needs := .right 6
def rRadioRead : Needs := .right 7
def rRadioWrite : Needs := .right 8
def rNodeImage : Needs := .right 9
def rMeterRead : Needs := .right 10
def rMeterWrite : Needs := .right 11
def rSwitch : Needs := .right 12
def rCalibrate : Needs := .right 13
def rTimeRead : Needs := .right 14
def rTimeWrite : Needs := .right 15
def rLogRead : Needs := .right 16
def rLogWrite : Needs := .right 17
def rFirmware : Needs := .right 18
def rProbeRead : Needs := .right 19
def rPanelControl : Needs := .right 20
def rStore : Needs := .right 21
def rKeyWrite : Needs := .right 22

def allowed (s : State) (m : Nat) : Needs → Bool
  | .right b => bit (rightsOf s m) b
  | .root => principalOf s m == pRoot
  | .rootOrAuditor => principalOf s m == pRoot || principalOf s m == pAuditor
  | .rootMaint => principalOf s m == pRoot && maintOn s
  | .any => true
  | .unauth => m == 14 && (box s 14).session == .loginWait

/-! Header checks (R325). -/

/-- What the header checks decide: the message passes, is discarded as a framing error, closes its session, or is refused. -/
inductive HeaderOutcome where
  | ok
  | discard
  | close
  | refuse (st : Nat) (detail : Bytes)
  deriving DecidableEq, Repr

def kindOf (f : U32) : Nat := f.toNat % 8
def pushOf (f : U32) : Bool := bit f.toNat 3
def repeatOf (f : U32) : Bool := bit f.toNat 4
/-- Bits [15:5] and [31:24] are reserved, and [23:16] are 0 from a client. -/
def flagsClean (f : U32) : Bool := f.toNat / 32 == 0

/-- The checks of R325 on a message of session `m`, in order. -/
def headerCheck (m : Nat) (h : Message) : HeaderOutcome :=
  let kindOk := kindOf h.flags == kRequest || kindOf h.flags == kSlotRead
  if m == 14 && (!h.framed || h.magic != 0x5047 || h.version != 3 || h.mailbox != 14) then .discard
  else if m < 14 && (h.magic != 0x5047 || !kindOk) then .close
  else if m == 15 && !h.framed then .refuse stBadHeader []
  else if h.magic != 0x5047 || !kindOk then .refuse stBadHeader []
  else if h.version != 3 then .refuse stBadVersion [3, 0, 0, 0]
  else if h.mailbox != m || repeatOf h.flags || !flagsClean h.flags then .refuse stBadHeader []
  else if kindOf h.flags == kRequest && (h.status != 0 || h.seq != 0) then .refuse stBadHeader []
  else if kindOf h.flags == kSlotRead && (h.opcode != 0 || h.length != 0 || pushOf h.flags) then .refuse stBadHeader []
  else if 131072 < h.length then .refuse stTooLong []
  else .ok

def messageOf (opcode : Nat) (r : Request) : Message :=
  { magic := r.magic, version := r.version, mailbox := r.mailbox, flags := r.flags, opcode := opcode, seq := r.seq,
    tag := r.tag, length := r.length, status := r.status, payload := r.payload, framed := r.framed }

/-! Commands. -/

/-- How a command's execution ends (R368). -/
inductive CmdOutcome where
  /-- A DONE entry: status and result. -/
  | done (status : Nat) (result : Bytes)
  /-- An EFFECT entry: Stitch number at effect and result. -/
  | effect (stitch : U32) (result : Bytes)
  /-- The command goes on; a later event of its chapter completes it. -/
  | waits
  deriving DecidableEq, Repr

/-- What a chapter gives for one command. -/
structure CmdSpec where
  opcode : Nat
  needs : Needs
  /-- Payload checks at acceptance: mailbox, payload, state. -/
  check : Nat → Bytes → State → Chk
  /-- What the acceptance changes for the checks of later requests: mailbox, sequence, payload. -/
  onAccept : Nat → U32 → Bytes → State → State := fun _ _ _ s => s
  /-- What a refusal by those checks changes, which only R134 gives: payload, status. -/
  onRefuse : Bytes → Nat → State → State := fun _ _ s => s
  run : Nat → Cmd → State → State × CmdOutcome
  /-- The LOADER state takes it too, and answers it at once (R405). -/
  loader : Bool := false

/-- R329: payload check sum kept in the tag ring. -/
def payloadCrc (p : Bytes) : U32 := BitVec.ofNat 32 (crc32c p)

/-- Header of a command as accepted (Tables 13.1, 15.3). -/
def commandHeader (m : Nat) (h : Message) (seq : U32) : Bytes :=
  le16 0x5047 ++ le8 3 ++ le8 m ++ leW h.flags ++ le16 h.opcode ++ leW seq ++ leW h.tag ++ le32 h.length ++ le16 0

def commandBody (m : Nat) (h : Message) (principal rights : Nat) (maint : Bool) (seq : U32) : Bytes :=
  commandHeader m h seq ++ le32 rights ++ le8 principal ++ le8 (if maint then 1 else 0) ++ le16 0 ++ h.payload

/-- A refusal: no sequence, no work; a lack of rights counts (R335). -/
def refuseRequest (m : Nat) (h : Message) (st : Nat) (detail : Bytes) (s : State) : State :=
  let s := if st == stDenied then onBox m (fun b => { b with deniedCnt := b.deniedCnt + 1 }) s else s
  answer m (.refused h.opcode h.tag st detail) s

/-- The command joins the open batch with its COMMAND entry, takes a place, and owes its client an ACCEPTED. -/
def accept (spec : CmdSpec) (m : Nat) (h : Message) (s : State) : State :=
  let principal := principalOf s m
  let rights := rightsOf s m
  let maint := maintOn s
  let (seq, s) := joinWork jkCommand m (commandBody m h principal rights maint) s
  let c : Cmd := { mailbox := m, seq := seq, opcode := h.opcode, tag := h.tag, push := pushOf h.flags, payload := h.payload,
                   principal := principal, rights := BitVec.ofNat 32 rights, maint := maint, phase := .batched,
                   accepted := 0, status := 0, result := [] }
  let t : TagEntry := { tag := h.tag, opcode := h.opcode, crc := payloadCrc h.payload, seq := seq, stitch := 0, committed := false }
  let s := onBox m (fun b => { b with cmds := b.cmds ++ [c], tags := b.tags ++ [t] }) s
  let s := spec.onAccept m seq h.payload s
  answer m (.accepted seq h.opcode h.tag) s

/-- R329: the command of this mailbox that the request's non-zero tag names. -/
def tagMatch (b : Mailbox) (tag : U32) : Option TagEntry :=
  if tag = 0 then none else (lastN 256 b.tags).find? fun t => t.tag == tag

/-- A session ends (R338); a freeze its mailbox set ends with it (R393). -/
def dropSession (m : Nat) (s : State) : State :=
  let s := closeSession m s
  match s.smp.freeze with
  | some f => if f.mailbox == m then endFreeze 3 s else s
  | none => s

/-- A session opens, its window known to the client from the first message on (R330). -/
def openSession (m : Nat) (st : SessionState) (s : State) : State :=
  let w := windowOf s m
  onBox m (fun b => { b with session := st, lastWindow := w, sessions := if st == .opened then b.sessions + 1 else b.sessions }) s

/-- Whether A0 takes a request of the mailbox now (R22, R326, R330, R369, R400). -/
def a0Takes (s : State) (m : Nat) : Bool :=
  if s.sys.phase == .loader then m == 14 && (box s 14).session != .closed
  else running s && s.mbx.a0Running && !s.jnl.a0Held && m < 16 && (box s m).session != .closed && windowOf s m != 0

/-- The rights whose names end in _READ (Table 13.4). -/
def readRights : List Nat := [0, 2, 4, 7, 10, 14, 16, 19]
/-- The actions of Table 19.2: LIT_CHAIN_ACCEPT, AIR_WAKE, MET_CONTACTOR_SET, MET_TRIP_RESET, PNL_PIN_SET, PNL_TEST. -/
def panelActions : List Nat := [0x0326, 0x0409, 0x050C, 0x050D, 0x0B03, 0x0B05]

/-- What the panel's firmware sends on mailbox 15: commands that need a right ending in _READ, and at CONTROL those of Table 19.2 (R438). -/
def panelSends (s : State) (m opcode : Nat) (needs : Needs) : Bool :=
  m != 15 || (match needs with | .right b => readRights.contains b | _ => false) || (s.pnl.control && panelActions.contains opcode)

/-- A command of the LOADER state has its effect at once; its RESULT carries acceptance sequence 0 (R405). -/
def runNow (spec : CmdSpec) (m : Nat) (h : Message) (s : State) : State :=
  let c : Cmd := { mailbox := m, seq := 0, opcode := h.opcode, tag := h.tag, push := true, payload := h.payload, principal := principalOf s m,
                   rights := BitVec.ofNat 32 (rightsOf s m), maint := false, phase := .running, accepted := 0, status := 0, result := [] }
  let (t, o) := spec.run m c (spec.onAccept m 0 h.payload s)
  match o with
  | .done st res => send m kResult false h.opcode 0 h.tag st res t
  | .effect _ res => send m kResult false h.opcode 0 h.tag stOk res t
  | .waits => t

/-- A0 takes a request: header, duplicate tag, opcode (the command's own), rights, payload, then acceptance. -/
def takeRequest (spec : CmdSpec) (m : Nat) (h : Message) (s : State) : State :=
  if !(a0Takes s m && panelSends s m spec.opcode spec.needs) then s
  else
    match headerCheck m h with
    | .discard => onBox 14 (fun b => { b with usbCrcErr := sat16Inc b.usbCrcErr }) s
    | .close => post 0x0303 m [] (dropSession m s)
    | .refuse st detail => refuseRequest m h st detail s
    | .ok =>
      if kindOf h.flags != kRequest then s
      else if (box s m).session == .loginWait then refuseRequest m h stDenied [] s
      else if s.sys.phase == .loader then
        if !spec.loader then refuseRequest m h stBadOpcode [] s
        else if !allowed s m spec.needs then refuseRequest m h stDenied [] s
        else
          match spec.check m h.payload s with
          | some (st, detail) => refuseRequest m h st detail s
          | none => runNow spec m h s
      else
        match tagMatch (box s m) h.tag with
        | some t =>
          if t.opcode == h.opcode && t.crc == payloadCrc h.payload then
            answer m (.repeated t.seq h.opcode h.tag) (onBox m (fun b => { b with dupCnt := b.dupCnt + 1 }) s)
          else refuseRequest m h stConflict [] s
        | none =>
          if !allowed s m spec.needs then refuseRequest m h stDenied [] s
          else
            match spec.check m h.payload s with
            | some (st, detail) => refuseRequest m h st detail (spec.onRefuse h.payload st s)
            | none => windowMessage m (accept spec m h s)

/-! Execution. -/

def modifyCmd (m : Nat) (seq : U32) (f : Cmd → Cmd) (s : State) : State :=
  onBox m (fun b => { b with cmds := b.cmds.map fun c => if c.seq == seq then f c else c }) s

/-- The RUNNING command of a mailbox. -/
def runningCmd (s : State) (m : Nat) : Option Cmd := (box s m).cmds.find? fun c => c.phase == .running

/-- Frees a slot whose task has ended, and counts its engine's busy cycles. -/
def freeSlotOf (t : TaskSlot) (s : State) : State :=
  { s with tmb := { s.tmb with slots := s.tmb.slots.filter (fun u => u.slot != t.slot),
                               loads := listModify s.tmb.loads t.engine fun l => { l with busy := l.busy + (s.time.fabCycle - t.startedAt) } } }

/-- Frees the Tambour slot of a task that has ended, with its engine. -/
def freeTask (k : TaskKind) (s : State) : State :=
  match s.tmb.slots.find? fun t => t.kind == k && t.state == .running with
  | none => s
  | some t =>
    freeSlotOf t s

/-- A settings write that will never take effect leaves the unretired writes (R409). -/
def dropSetting (seq : U32) (s : State) : State :=
  if s.set.unretired.any fun u => u.1 == seq then
    { s with set := { s.set with projGen := s.set.projGen - 1, unretired := s.set.unretired.filter fun u => u.1 != seq } }
  else s

/-- The completion entry of a command joins the open batch; its RESULT waits for the commit. -/
def completeWith (m : Nat) (seq : U32) (o : CmdOutcome) (s : State) : State :=
  match o with
  | .waits => s
  | .done st res =>
    let s := if isFailure st then dropSetting seq s else s
    let body := le16 st ++ le16 0 ++ le32 res.length ++ (if res.length ≤ 256 then res else [])
    joinRef seq jkDone m body
      (modifyCmd m seq (fun c => { c with phase := .finishing, status := st, result := res }) s)
  | .effect stitch res =>
    joinRef seq jkEffect m (leW stitch ++ le16 res.length ++ le16 0 ++ res)
      (modifyCmd m seq (fun c => { c with phase := .finishing, status := stOk, result := res }) s)

/-- The RUNNING command of mailbox `m`, if it is the spec's and has not been executed yet, has its effect. -/
def runCommand (spec : CmdSpec) (m : Nat) (s : State) : State :=
  match runningCmd s m with
  | none => s
  | some c =>
    if c.opcode == spec.opcode && !c.begun then
      let (t, o) := spec.run m c s
      if o == .waits then modifyCmd m c.seq (fun c => { c with begun := true }) t
      else completeWith m c.seq o (freeTask (.mailbox m) t)
    else s

/-- The meaning of a mailbox command's row. -/
def mailboxCommand (spec : CmdSpec) (op : CmdStep) (s : State) : State :=
  match op with
  | .request r => takeRequest spec r.session (messageOf spec.opcode r) s
  | .run m => runCommand spec m s

/-! Answers of common shapes. -/

/-- A read's DONE with OK. -/
def ok (res : Bytes) : CmdOutcome := .done stOk res

/-- The EFFECT of a command that has changed the module's state now (R368). -/
def did (s : State) (res : Bytes) : CmdOutcome := .effect s.stitch.number res

/-- A settings write that completes now and takes effect at a later boundary: it joins the due changes in acceptance
order, and its EFFECT names the Stitch. Its log bytes stay until a STORE captures it (R409). -/
def dueChange (c : Cmd) (stitch : U32) (beacon : Bool) (ch : Change) (s : State) : State :=
  { s with set := { s.set with due := s.set.due ++ [{ mailbox := c.mailbox, seq := c.seq, stitch := stitch, beacon := beacon, change := ch }],
                               unretired := s.set.unretired.map fun u => if u.1 == c.seq then (u.1, some ch, u.2.2) else u } }

/-- The boundary after the one now in progress or running. -/
def nextStitch (s : State) : U32 := s.stitch.number + 1

/-- The later of two Stitch numbers. -/
def laterStitch (a b : U32) : U32 := if serialBefore a b then b else a

/-- Stitch at effect of a change that takes effect at the first boundary after its commit (R349). -/
def effectAfterCommit (c : Cmd) (s : State) : U32 := laterStitch (c.accepted + 1) (nextStitch s)
/-- Stitch at effect of a LIT write: a boundary at least one full period after its commit (R120). -/
def effectLit (c : Cmd) (s : State) : U32 := laterStitch (c.accepted + 2) (nextStitch s)
/-- First beacon Stitch after the commit (R184). -/
def effectBeacon (c : Cmd) (s : State) : U32 := beaconFrom (effectAfterCommit c s)

/-- Log bytes of a command's entry (R409). -/
def commandBytes (payload : Bytes) : Nat := 16 + (padTo 8 (zeros 32 ++ payload)).length

/-- R409: a settings write that would take the unretired settings writes above 96 KB of log is refused with LIMIT. -/
def settingsRoom (payload : Bytes) (s : State) : Chk :=
  need ((s.set.unretired.map fun u => u.2.2).sum + commandBytes payload ≤ 98304) stLimit

/-- A settings write of one section: completes with the Stitch number at effect. -/
def writeSetting (id off : Nat) (data : Bytes) (eff : Cmd → State → U32) (beacon : Bool) (c : Cmd) (s : State) :
    State × CmdOutcome :=
  let n := eff c s
  (dueChange c n beacon (.settings id off data) s, .effect n (leW n))

/-- A settings write enters the journal at its acceptance: it stays there unretired (R409), and the projected working
generation steps (R358). -/
def settingAccepted (_ : Nat) (seq : U32) (p : Bytes) (s : State) : State :=
  { s with set := { s.set with projGen := s.set.projGen + 1, unretired := s.set.unretired ++ [(seq, none, commandBytes p)] } }

end Sys2Proof.Machine
end

