-- ==== Sys2Proof/Machine/Tambour.lean ====
section
/-! DEFINITION. The Tambour (R40–R52): tasks, ready lists, dispatch, Frays and holds. -/

namespace Sys2Proof.Machine

/-! Lists and engines (Table 2.4). -/

def listLimit (l : Nat) : Nat := [352, 96, 96, 96, 96, 96, 160, 16, 16].getD l 0

/-- Engine indices of a list (R55). -/
def listEngines (s : State) (l : Nat) : List Nat :=
  match l with
  | 0 => (upTo 8).filter fun e => s.lace.inService.getD e false
  | 1 => [8] | 2 => [9] | 3 => [10] | 4 => [11]
  | 5 => [12, 13] | 6 => [14, 15, 16] | 7 => [17] | 8 => [18]
  | _ => []

/-- Ready list of a task kind (Table 2.3). -/
def kindList : TaskKind → Nat
  | .schedule _ | .solve _ | .darn _ => 0
  | .walk => 7
  | .fade => 8
  | .telemetry _ | .mailbox _ | .planning _ | .raptorq _ => 6
  | .course k => 1 + k
  | .meterBlock _ | .interval => 5
  | .bobbin _ | .skein _ => 6

/-- Row of Table 2.3, from 0; 12 for the tasks of firmware-internal Bobbins and Skeins, which have no row there (DESIGN CHOICE: their
code in a FRAY record and their list, APP). -/
def kindRow : TaskKind → Nat
  | .schedule _ => 0 | .walk => 1 | .solve _ => 2 | .darn _ => 3 | .fade => 4 | .telemetry _ => 5
  | .mailbox _ => 6 | .planning _ => 7 | .course _ => 8 | .meterBlock _ => 9 | .interval => 10 | .raptorq _ => 11
  | .bobbin _ | .skein _ => 12

def onList (l : Nat) (f : ReadyList → ReadyList) (s : State) : State :=
  { s with tmb := { s.tmb with lists := listModify s.tmb.lists l f } }

/-- Slots reserved for the tasks that a boundary releases: 36 schedule blocks, the walk and the planning of four Shuttles (R49). -/
def reservedSlots : Nat := 41
def reservedSlot : TaskKind → Nat
  | .schedule b => b
  | .walk => 36
  | .planning k => 37 + k
  | _ => 0

def readyDepth (s : State) (l : Nat) : Nat := (s.tmb.slots.filter fun t => t.list == l && t.state == .ready).length

/-- The lowest-numbered FREE slot of the 1,024 that is not reserved (R45, R49). -/
def freeSlot (s : State) : Option Nat :=
  (span reservedSlots (1024 - reservedSlots)).find? fun k => s.tmb.slots.all fun t => t.slot != k

/-- FREE slots that are not reserved. -/
def freeSlots (s : State) : Nat := 1024 - reservedSlots - (s.tmb.slots.filter fun t => reservedSlots ≤ t.slot).length

/-- Places a task in a slot, READY now or WAITING for `wait` pulses. -/
def enterTask (t : TaskSlot) (slot : Nat) (s : State) : State :=
  let t := { t with slot := slot, readyNo := s.tmb.readyNo, readyAt := s.time.fabCycle,
                    state := if t.wait = 0 then .ready else .waiting }
  let s := { s with tmb := { s.tmb with slots := s.tmb.slots ++ [t], readyNo := s.tmb.readyNo + 1 } }
  onList t.list (fun l => { l with maxDepth := max l.maxDepth (readyDepth s t.list) }) s

def newTask (k : TaskKind) (soft : Bool) (dlStitch : U32) (dlOff : Nat) (wait : Nat) : TaskSlot :=
  { slot := 0, kind := k, list := kindList k, soft := soft, state := .waiting, wait := wait, dlStitch := dlStitch,
    dlOff := dlOff, readyNo := 0, readyAt := 0, engine := 0, startedAt := 0, frayed := false }

/-- The deadline `us` microseconds from now (R40): a Stitch number and the offset from its boundary. -/
def deadlineIn (us : Nat) (s : State) : U32 × Nat :=
  let o := (taiNs s - s.stitch.lastBoundary) / 1000 + us
  let p := s.stitch.period * 1000
  (s.stitch.number + BitVec.ofNat 32 (o / p), o % p)

/-- A SOFT task due `us` microseconds from now. -/
def softTask (k : TaskKind) (us : Nat) (s : State) : TaskSlot := newTask k true (deadlineIn us s).1 (deadlineIn us s).2 0

/-! Holds (R48) and the order of sources (R50): boundary release 0, Bobbins 1, Skeins 2, engines 3, A0 4. -/

def srcBobbin : Nat := 1
def srcSkein : Nat := 2
def srcEngine : Nat := 3
def srcA0 : Nat := 4

/-- Slot that a channel's completion pulse goes to (R72). -/
def pulseTarget (b : Bobbin) : Option Nat := if field b.done.toNat 17 16 = 1 then some (field b.done.toNat 9 0) else none

/-- Bobbins that keep a pulse for a slot of the list. -/
def heldPulses (s : State) (l : Nat) : Nat :=
  (s.bob.channels.filter fun b => b.state == .pulseHeld && (pulseTarget b).any fun k => s.tmb.slots.any fun t => t.slot == k && t.list == l).length

/-- Skeins that keep notices for the list. -/
def heldNoticesOn (s : State) (l : Nat) : Nat := (s.skn.skeins.filter fun k => k.heldNotices != 0 && k.noticeList == l).length

/-- A list has a source held now. -/
def listHeld (s : State) (l : Nat) : Bool := (s.tmb.held.any fun h => h.task.list == l) || heldPulses s l != 0 || heldNoticesOn s l != 0

/-- Sources held on a list that enter before source `n`. -/
def heldBefore (s : State) (l n : Nat) : Nat :=
  (s.tmb.held.filter fun h => h.task.list == l && h.source < n).length +
    (if srcBobbin < n then heldPulses s l else 0) + (if srcSkein < n then heldNoticesOn s l else 0)

/-- Places left on a list. -/
def placesLeft (s : State) (l : Nat) : Nat := min (listLimit l - readyDepth s l) (freeSlots s)

/-- Whether source `n` may make a task READY on the list now: a place is left that no source before it is held for (R48, R50). -/
def roomFor (s : State) (l n : Nat) : Bool := heldBefore s l n < placesLeft s l

/-- A source is held on the list of its task; `poster` is the task that stalls on the post (R48). -/
def holdTask (source : Nat) (poster : Option Nat) (t : TaskSlot) (s : State) : State :=
  onList t.list (fun l => { l with bpCnt := l.bpCnt + 1 })
    { s with tmb := { s.tmb with held := s.tmb.held ++ [{ source := source, task := t, poster := poster }] } }

/-- A source posts a task; with no room it is held and the list's back-pressure counts (R48). -/
def postTask (source : Nat) (t : TaskSlot) (s : State) : State :=
  match freeSlot s with
  | some k => if roomFor s t.list (source + 1) then enterTask t k s else holdTask source none t s
  | none => holdTask source none t s

/-- A task released at a boundary enters its reserved slot without waiting on R48 (R49). A planning task of an earlier Stitch that
still runs on keeps its slot, and stands for the new one (DESIGN CHOICE). -/
def releaseTask (t : TaskSlot) (s : State) : State :=
  if s.tmb.slots.any fun u => u.slot == reservedSlot t.kind then s else enterTask t (reservedSlot t.kind) s

/-- An engine stalls on a post of this slot's task. -/
def stalled (s : State) (slot : Nat) : Bool := s.tmb.held.any fun h => h.poster == some slot

/-- An engine works on: a Lace engine out of service completes no task (R149). -/
def engineWorks (s : State) (e : Nat) : Bool := decide (8 ≤ e) || s.lace.inService.getD e false

/-- The task of a row runs now, on an engine that works and is not stalled on its post. -/
def taskRunning (s : State) (k : TaskKind) : Bool :=
  s.tmb.slots.any fun t => t.kind == k && t.state == .running && !stalled s t.slot && engineWorks s t.engine

/-- The engine that runs task `k` posts task `t` at its end: with room `t` enters and the engine is free; else the engine stalls on
the post, its own task RUNNING (R48). -/
def postFrom (k : TaskKind) (t : TaskSlot) (s : State) : State :=
  match s.tmb.slots.find? fun u => u.kind == k && u.state == .running with
  | none => postTask srcEngine t s
  | some u =>
    match freeSlot s with
    | some n => if roomFor s t.list (srcEngine + 1) then freeSlotOf u (enterTask t n s) else holdTask srcEngine (some u.slot) t s
    | none => holdTask srcEngine (some u.slot) t s

/-- The end of task `k`, which posts `t` if there is one. -/
def endTask (k : TaskKind) (t : Option TaskSlot) (s : State) : State :=
  match t with
  | some t => postFrom k t s
  | none => freeTask k s

/-- The pulse of a Ground stream makes its WAITING task READY. -/
def pulseHeldTask (t : TaskSlot) (s : State) : State :=
  let s := { s with tmb := { s.tmb with
    slots := s.tmb.slots.map fun u => if u.slot == t.slot then { u with wait := 0, state := .ready, readyNo := s.tmb.readyNo, readyAt := s.time.fabCycle } else u
    readyNo := s.tmb.readyNo + 1 } }
  onList t.list (fun l => { l with maxDepth := max l.maxDepth (readyDepth s t.list) }) s

/-- The pulse of a Ground stream makes its WAITING task READY; with no room the Bobbin keeps the pulse (R48). -/
def streamPulse (t : TaskSlot) (s : State) : State :=
  match freeSlot s with
  | none => holdTask srcBobbin none t s
  | some k =>
    let s := enterTask { t with wait := 1 } k s
    if roomFor s t.list (srcBobbin + 1) then pulseHeldTask { t with slot := k } s else holdTask srcBobbin none { t with slot := k } s

/-! Deadlines and Frays. -/

/-- Counts a Fray on its list and in the running second of its kind (R44), with the list of the run's first Fray (DESIGN CHOICE). -/
def fray (t : TaskSlot) (s : State) : State :=
  let s := onList t.list (fun l => if t.soft then { l with softFray := l.softFray + 1 } else { l with strictFray := l.strictFray + 1 }) s
  let row := kindRow t.kind
  let l := s.tmb.frays
  let l :=
    if l.any fun f => f.kind == row then l.map fun f => if f.kind == row then { f with count := f.count + 1 } else f
    else l ++ [{ kind := row, list := t.list, soft := t.soft, count := 1, running := false }]
  { s with tmb := { s.tmb with frays := l } }

/-- A STRICT task whose deadline the boundary `n` reaches. -/
def reaches (n : U32) (t : TaskSlot) : Bool := !t.soft && t.state != .free && t.state != .aborting && serialAtOrBefore t.dlStitch n

/-- R42, R50: one STRICT task is cancelled at the boundary. A WAITING or READY one is removed; a RUNNING one is ABORTING until its
engine has stopped. -/
def cancelTask (t : TaskSlot) (s : State) : State :=
  let s := fray t s
  let race := t.state == .ready && t.readyAt == s.time.fabCycle
  let s := if race then onList t.list (fun l => { l with cancelRace := l.cancelRace + 1 }) s else s
  let s := { s with tmb := { s.tmb with cancelled := s.tmb.cancelled ++ [(t.slot, t.list, s.time.fabCycle)],
                                        held := s.tmb.held.filter fun h => h.poster != some t.slot && !(h.source == srcBobbin && h.task.slot == t.slot) } }
  if t.state == .running then
    { s with tmb := { s.tmb with
        slots := s.tmb.slots.map fun u => if u.slot == t.slot then { u with state := .aborting, startedAt := s.time.fabCycle } else u
        loads := listModify s.tmb.loads t.engine fun l => { l with busy := l.busy + (s.time.fabCycle - t.startedAt) } } }
  else { s with tmb := { s.tmb with slots := s.tmb.slots.filter fun u => u.slot != t.slot } }

/-- Aborted engines stop within 64 FAB cycles (R42): with `all` they have. -/
def abortsDone (all : Bool) (s : State) : State :=
  { s with tmb := { s.tmb with slots := s.tmb.slots.filter fun t => !(t.state == .aborting && (all || t.startedAt + 64 ≤ s.time.fabCycle)) } }

/-- A STRICT task that its source still holds at its deadline Frays as well. -/
def cancelHeld (n : U32) (s : State) : State :=
  let late := s.tmb.held.filter fun h => reaches n h.task
  late.foldl (fun t h => fray h.task t) { s with tmb := { s.tmb with held := s.tmb.held.filter fun h => !reaches n h.task } }

/-- R42: the Tambour cancels every STRICT task whose deadline the boundary reaches. -/
def cancelStrict (n : U32) (s : State) : State :=
  cancelHeld n ((s.tmb.slots.filter (reaches n)).foldl (fun t k => cancelTask k t) { s with tmb := { s.tmb with cancelled := [] } })

/-- R52: the busy share of the Stitch just ended. -/
def closeLoads (s : State) : State :=
  let cyc := s.stitch.period * 800000
  let open_ := fun e => (s.tmb.slots.filter fun t => t.state == .running && t.engine == e).map fun t => s.time.fabCycle - t.startedAt
  { s with tmb := { s.tmb with
      loads := s.tmb.loads.zipIdx.map fun (l, e) =>
        let b := min 1024 ((l.busy + (open_ e).sum) * 1024 / cyc)
        { l with busy := 0, load := b, peak := max l.peak b }
      slots := s.tmb.slots.map fun t => if t.state == .running then { t with startedAt := s.time.fabCycle } else t } }

/-! Dispatch (R46, R47, R137). -/

/-- `a` sorts before `b` on a heap: Stitch by R34, then offset, then the order of becoming READY. -/
def sortsBefore (a b : TaskSlot) : Bool :=
  if a.dlStitch != b.dlStitch then serialBefore a.dlStitch b.dlStitch
  else if a.dlOff != b.dlOff then a.dlOff < b.dlOff
  else a.readyNo < b.readyNo

def headOf : List TaskSlot → Option TaskSlot
  | [] => none
  | t :: rest =>
    match headOf rest with
    | none => some t
    | some u => some (if sortsBefore u t then u else t)

/-- Engine a task is bound to, if any: a road segment's Lace engine (R137), the metering engine of a block's feeders (R245). -/
def affinity (s : State) : TaskKind → Option Nat
  | .solve g | .darn g => (tabGet s.lace.segs g).bind (·.engine)
  | .meterBlock h => some (12 + h)
  | _ => none

def engineIdle (s : State) (e : Nat) : Bool := s.tmb.slots.all fun t => !((t.state == .running || t.state == .aborting) && t.engine == e)

/-- The task an idle engine takes from its list. -/
def taskFor (s : State) (l e : Nat) : Option TaskSlot :=
  headOf (s.tmb.slots.filter fun t => t.list == l && t.state == .ready &&
    (match affinity s t.kind with | some a => a == e | none => true))

/-- Upper bounds of the histogram's bins in FAB cycles (R52). -/
def binBounds : List Nat := [800, 3200, 12800, 51200, 204800, 800000, 3200000]

/-- R52's bin of a wait in FAB cycles: how many bounds it reaches. -/
def waitBin (w : Nat) : Nat := (binBounds.filter (· ≤ w)).length

def startOn (e : Nat) (t : TaskSlot) (s : State) : State :=
  let s := { s with tmb := { s.tmb with
    slots := s.tmb.slots.map fun u => if u.slot == t.slot then { u with state := .running, engine := e, startedAt := s.time.fabCycle } else u } }
  onList t.list (fun l => { l with dispatched := l.dispatched + 1,
                                   bins := listModify l.bins (waitBin (s.time.fabCycle - t.readyAt)) (· + 1) }) s

/-- The lowest-numbered idle engine with a task, and its task. -/
def dispatchChoice (s : State) (l : Nat) : Option (Nat × TaskSlot) :=
  ((listEngines s l).filter (engineIdle s)).findSome? fun e => (taskFor s l e).map fun t => (e, t)

/-- TASK_DISPATCH: the head of the list starts on the lowest-numbered idle engine (R47). -/
def execTaskDispatch (list : Nat) (s : State) : Out :=
  match dispatchChoice s list with
  | some (e, t) => next (startOn e t s)
  | none => next s

/-- The held source of a list with the lowest source number, the earliest of that number. -/
def firstHeld (s : State) (l : Nat) : Option HeldTask :=
  let here := s.tmb.held.filter fun h => h.task.list == l
  (minNat (here.map (·.source))).bind fun n => here.find? fun h => h.source == n

/-- A held source enters its list; the engine that stalled on it is free. -/
def enterHeld (h : HeldTask) (k : Nat) (s : State) : State :=
  let s := { s with tmb := { s.tmb with held := s.tmb.held.erase h } }
  let s := if h.source == srcBobbin && (s.tmb.slots.any fun u => u.slot == h.task.slot && u.state == .waiting) then pulseHeldTask h.task s else enterTask h.task k s
  match h.poster.bind fun n => s.tmb.slots.find? fun u => u.slot == n with
  | some u => freeSlotOf u s
  | none => s

/-- HELD_SOURCE_RELEASE: the held source of a list with the lowest number enters when room appears (R48, R50); a window that was
withheld opens (R330). -/
def execHeldSourceRelease (list : Nat) (s : State) : Out :=
  match firstHeld s list, freeSlot s with
  | some h, some k => next (if roomFor s list h.source then windowMessages (enterHeld h k s) else s)
  | _, _ => next s

/-- SOFT_DEADLINE_PASS: the slot's SOFT task counts one SOFT Fray, however far it runs on, and keeps its slot and deadline (R43). -/
def execSoftDeadlinePass (slot : Nat) (s : State) : Out :=
  match s.tmb.slots.find? fun t => t.slot == slot && t.soft && !t.frayed with
  | none => next s
  | some t =>
    next (fray t { s with tmb := { s.tmb with slots := s.tmb.slots.map fun u => if u.slot == slot then { u with frayed := true } else u } })

/-- R44: the FRAY record of one task kind for the second that ends: its count, or the final record of a run with count 0. -/
def frayRecordOf (f : FrayRun) (s : State) : State :=
  if f.count ≠ 0 then
    post 0x0107 f.list (le32 f.count ++ le8 f.kind ++ le8 (if f.soft then 1 else 0) ++ le8 0) s
  else if f.running then
    post 0x0107 f.list (le32 0 ++ le8 f.kind ++ le8 (if f.soft then 1 else 0) ++ le8 1) s
  else s

/-- FRAY_RECORD: at most one FRAY record per task kind each second (R44). -/
def execFrayRecord (s : State) : Out :=
  let t := s.tmb.frays.foldl (fun t f => frayRecordOf f t) s
  next { t with tmb := { t.tmb with frays := (s.tmb.frays.filter fun f => f.count ≠ 0).map fun f => { f with count := 0, running := true } } }

/-- Maxima restart at the value of the moment (DESIGN CHOICE). -/
def clearedList (l : ReadyList) (depth : Nat) : ReadyList :=
  { l with maxDepth := depth, dispatched := 0, strictFray := 0, softFray := 0, cancelRace := 0, bpCnt := 0, softCancelRef := 0,
           bins := List.replicate 8 0 }

/-- TMB_CLEAR_STATS: counters of the Tambour block return to 0, and its maxima restart at the value of the moment (R52; DESIGN CHOICE: the
depth and the load of that moment count in the new maxima). -/
def execTmbClearStats (s : State) : Out :=
  next { s with
    tmb := { s.tmb with lists := s.tmb.lists.zipIdx.map (fun (l, k) => clearedList l (readyDepth s k))
                        loads := s.tmb.loads.map (fun l => { l with peak := l.load })
                        fabEsc := List.replicate 5 0, fabMaxWait := List.replicate 5 0, a0Stop := 0 }
    stitch := { s.stitch with skip := 0 } }

/-! Mailbox execution (R331). -/

/-- The command of a mailbox that may begin: WAITING, with every earlier one completed. -/
def mayBegin (b : Mailbox) : Option Cmd :=
  match b.cmds.dropWhile fun c => c.phase == .held with
  | c :: _ => if c.phase == .waiting then some c else none
  | [] => none

/-- Deadline of mailbox command execution: the boundary after the commit (Table 2.3). -/
def mailboxTask (m : Nat) (s : State) : TaskSlot := newTask (.mailbox m) true (nextStitch s) 0 0

/-- A0 posts the execution task of every mailbox whose next command may begin and has none. -/
def postMailboxTasks (s : State) : State :=
  (upTo 16).foldl (fun t m =>
    if (mayBegin (box t m)).isSome && t.tmb.slots.all (fun u => u.kind != .mailbox m) && !a0HeldFor t m
    then postTask srcA0 (mailboxTask m t) t else t) s

/-- MAILBOX_COMMAND_EXECUTION: a dispatched mailbox task begins its command once the one before it has completed (R331). -/
def execMailboxCommandExecution (mailbox : Nat) (s : State) : Out :=
  if taskRunning s (.mailbox mailbox) then
    match mayBegin (box s mailbox) with
    | some c => next (onBox mailbox (fun b => { b with lastBegun := c.seq }) (modifyCmd mailbox c.seq (fun c => { c with phase := .running }) s))
    | none => next s
  else next s

end Sys2Proof.Machine
end

