-- ==== Sys2Proof/Machine/Skein.lean ====
section
/-! DEFINITION. The Skein unit (R56–R66, R77) and the journal's rebuild of a Skein (R371). -/

namespace Sys2Proof.Machine

/-- R57: the longest packet of a Skein. -/
def packetLimit (k : Skein) : Nat := min 4096 (256 * k.size)

def sat8 (n : Nat) : Nat := min (n + 1) 255

/-- Skeins that carry accepted work (R371). -/
def carriesWork (n : Nat) : Bool := (8 ≤ n && n ≤ 11) || n == 29 || n == 30

/-- The bytes of a pushed word: 4 of a CONT word, `valid` of an END word. -/
def wordBytes (valid : Nat) (w : U32) : Bytes := leBytes (if valid = 0 then 4 else valid) w.toNat

/-- What storing a word did. -/
inductive PushResult where
  | stored
  | closed (bytes : Bytes)
  | overlong
  | gone
  | stalled
  deriving DecidableEq, Repr

/-- Stores one word of writer `w` (R57–R60): `valid` is 0 for CONT, 1–4 for END1–END4. -/
def storeWord (k : Skein) (w valid : Nat) (word : U32) : Skein × PushResult :=
  let o : OpenPacket := k.opened.getD { writer := w, bytes := [], overlong := false, dropped := false }
  if o.writer ≠ w then (k, .stalled)
  else
    let ended := valid ≠ 0
    let bytes := o.bytes ++ wordBytes valid word
    if o.dropped then
      if ended then ({ k with opened := none }, .gone) else (k, .stored)
    else if o.overlong || packetLimit k < bytes.length then
      if ended then ({ k with opened := none, overlong := sat8 k.overlong }, .overlong)
      else ({ k with opened := some { o with overlong := true } }, .stored)
    else
      let k' := { k with opened := some { o with bytes := bytes } }
      if 16 * k.size < fillOf k' then
        if k.discard then
          ({ k with opened := if ended then none else some { o with bytes := [], dropped := true }, drop := k.drop + 1 }, .gone)
        else (k, .stalled)
      else
        let m := max k.fillMax (fillOf k')
        if ended then ({ k with opened := none, fillMax := m }, .closed bytes) else ({ k' with fillMax := m }, .stored)

/-- The Sampler event a packet of Skein 28 or 32 carries: u16 code, u16 source, payload (log entry on the layout). -/
def samplerPacket (b : Bytes) (s : State) : State := post (u16At b 0) (u16At b 2) (b.drop 4) s

/-- A notice that cannot enter is held (R48, R64). -/
def holdNotice (n : Nat) (s : State) : State :=
  onList (skein s n).noticeList (fun l => { l with bpCnt := l.bpCnt + 1 }) (onSkein n (fun k => { k with heldNotices := k.heldNotices + 1 }) s)

/-- The task of a Skein's notice: its template (R64). A completed packet sends one notice; one that cannot enter is held. -/
def noticeTask (n : Nat) (s : State) : TaskSlot :=
  { newTask (if 4 ≤ n ∧ n ≤ 7 then .telemetry (n - 4) else .skein n) false (nextStitch s) 0 0 with list := (skein s n).noticeList }

def sendNotice (n : Nat) (s : State) : State :=
  let k := skein s n
  if !k.noticeEn then s
  else
    match freeSlot s with
    | some slot => if k.heldNotices = 0 && roomFor s k.noticeList (srcSkein + 1) then enterTask (noticeTask n s) slot s else holdNotice n s
    | none => holdNotice n s

/-- A packet becomes visible (R59); the Sampler unit takes the packets of Skeins 28 and 32 at once (R385), and the event counts there as
this packet. -/
def packetVisible (n : Nat) (b : Bytes) (s : State) : State :=
  if n == 28 || n == 32 then samplerPacket b s
  else sendNotice n (onSkein n (placePacket b) s)

/-- Applies a stored word's outcome to the state. -/
def afterPush (n : Nat) (k : Skein) (r : PushResult) (s : State) : State :=
  let s := onSkein n (fun _ => k) s
  match r with
  | .closed b => packetVisible n b s
  | .overlong => post 0x0201 n [] s
  | .stored | .gone | .stalled => s

/-- A write to a push port that its initiator may make now. -/
def pushWord (n w valid : Nat) (word : U32) (s : State) : State :=
  let k := skein s n
  if !bit k.writers w || !k.en then onSkein n (fun k => { k with foreign := sat8 k.foreign }) s
  else
    match storeWord k w valid word with
    | (_, .stalled) => onSkein n (fun k => { k with heldWrites := k.heldWrites ++ [{ writer := w, valid := valid, word := word }], stall := k.stall + 1 }) s
    | (k', r) => afterPush n k' r s

/-- A write of the initiator is held in a Skein: its next fabric access waits (R60). -/
def portStalled (s : State) (i : Nat) : Bool := s.skn.skeins.any fun k => k.heldWrites.any fun h => h.writer == i

def waitAccess (a : PortAccess) (s : State) : State := { s with skn := { s.skn with waiting := s.skn.waiting ++ [a] } }

/-- A write to a push port, behind the initiator's held write if it has one. -/
def pushAccess (n w valid : Nat) (word : U32) (s : State) : State :=
  if portStalled s w then waitAccess { initiator := w, skein := n, push := some (valid, word), ecc := .ok } s else pushWord n w valid word s

/-- SKEIN_PUSH_CONT: a word that does not end its packet (R57). -/
def execSkeinPushCont (skein initiator : Nat) (word : U32) (s : State) : Out := next (pushAccess skein initiator 0 word s)

/-- SKEIN_PUSH_END: the packet's last word, with 1 to 4 valid bytes (R58–R60). -/
def execSkeinPushEnd (skein initiator valid : Nat) (word : U32) (s : State) : Out :=
  next (pushAccess skein initiator (clampN valid 1 4) word s)

/-- SKEIN_HELD_NOTICE: one held notice enters the Tambour, in packet order (R64). -/
def execSkeinHeldNotice (skein : Nat) (s : State) : Out :=
  match freeSlot s with
  | some slot =>
    if (Machine.skein s skein).heldNotices ≠ 0 && roomFor s (Machine.skein s skein).noticeList srcSkein then
      next (onSkein skein (fun k => { k with heldNotices := k.heldNotices - 1 }) (enterTask (noticeTask skein s) slot s))
    else next s
  | none => next s

/-! Reading (R61–R63, R66). -/

/-- Read tags of Table 3.2. -/
def tagValid : Nat := 128
def tagLast : Nat := 64
def tagFirst : Nat := 32

/-- The word a reader gets of a packet, its tag, and whether it is the last. -/
def readWord (p : Packet) (done : Nat) : Bytes × Nat × Bool :=
  let left := p.bytes.length - 16 * done
  let last := left ≤ 16
  (slice p.bytes (16 * done) (min 16 left) ++ zeros (16 - min 16 left),
   tagValid + (if last then tagLast else 0) + (if done = 0 then tagFirst else 0) + min 16 left, last)

/-- A read of the pop port: the data, the tag, and the state after. A read by an initiator outside the reader set counts in FOREIGN
alone (DESIGN CHOICE: not in EMPTY_RD as well). -/
def popSkein (n r : Nat) (ecc : Ecc) (s : State) : Bytes × Nat × State :=
  let k := skein s n
  if !bit k.readers r then (zeros 16, 0, onSkein n (fun k => { k with foreign := sat8 k.foreign }) s)
  else
    let empty := (zeros 16, 0, onSkein n (fun k => { k with emptyRd := k.emptyRd + 1 }) s)
    match k.packets with
    | [] => empty
    | p :: rest =>
      let h : HeldPacket := k.reading.getD { reader := r, done := 0 }
      if h.reader ≠ r then empty
      else
        match ecc with
        | .uncorrectable =>
          let s := onSkein n (fun k => { k with packets := rest, reading := none, eccDrop := sat8 k.eccDrop, lost := k.lost || carriesWork n }) s
          (zeros 16, tagValid + tagLast, post 0x0202 n [] s)
        | e =>
          let s := if e == .corrected then { s with skn := { s.skn with eccCorr := s.skn.eccCorr + 1 } } else s
          let (d, tag, last) := readWord p h.done
          (d, tag, onSkein n (fun k => if last then { k with packets := rest, reading := none }
                                       else { k with reading := some { h with done := h.done + 1 } }) s)

/-- A read whose word and tag the fabric returns to its initiator. -/
def popAccess (n r : Nat) (ecc : Ecc) (s : State) : State :=
  let (d, tag, s) := popSkein n r ecc s
  { s with skn := { s.skn with pops := s.skn.pops ++ [{ skein := n, initiator := r, data := d, tag := tag }] } }

/-- SKEIN_POP: a read of the pop port (R61–R63, R66), behind the initiator's held write if it has one (R60). -/
def execSkeinPop (skein initiator : Nat) (ecc : Ecc) (s : State) : Out :=
  next (if portStalled s initiator then waitAccess { initiator := initiator, skein := skein, push := none, ecc := ecc } s
        else popAccess skein initiator ecc s)

/-- The accesses of an initiator that waited, in order, until one stalls again. -/
def resumePort (i : Nat) (s : State) : State :=
  let mine := s.skn.waiting.filter fun a => a.initiator == i
  let s := { s with skn := { s.skn with waiting := s.skn.waiting.filter fun a => a.initiator != i } }
  mine.foldl (fun s a =>
    if portStalled s i then waitAccess a s
    else match a.push with
      | some (valid, word) => pushWord a.skein i valid word s
      | none => popAccess a.skein i a.ecc s) s

/-- SKEIN_HELD_WRITE: the first held word that can be stored now is, once room appears or the packet closes (R57, R60), and its writer
goes on. -/
def execSkeinHeldWrite (skein : Nat) (s : State) : Out :=
  let k := Machine.skein s skein
  match k.heldWrites.find? fun h => (storeWord k h.writer h.valid h.word).2 != .stalled with
  | none => next s
  | some h =>
    let (k', r) := storeWord { k with heldWrites := k.heldWrites.erase h } h.writer h.valid h.word
    next (resumePort h.writer (afterPush skein k' r s))

/-- ECC outcome of word `k` of a burst. -/
def eccOf (a : BusAccess) (k : Nat) : Ecc :=
  match a with
  | .ecc n e => if n = k then e else .ok
  | _ => .ok

/-- Words in the largest packet (R57). -/
def maxWords : Nat := 256

/-- SKEIN_WRITE_ABANDON: an open packet without a new word for 4,096 FAB cycles is discarded (R57). -/
def execSkeinWriteAbandon (skein : Nat) (s : State) : Out :=
  if (Machine.skein s skein).opened.isSome then
    next (onSkein skein (fun k => { k with opened := none, abandoned := sat8 k.abandoned, lost := k.lost || carriesWork skein }) s)
  else next s

/-- SKEIN_READ_ABANDON: a packet held for 4,096 FAB cycles without a read is discarded (R63). One of accepted work is made good from the
journal as a packet lost under R57 is (DESIGN CHOICE: R63 does not say so). -/
def execSkeinReadAbandon (skein : Nat) (s : State) : Out :=
  if (Machine.skein s skein).reading.isSome then
    next (onSkein skein (fun k => { k with packets := k.packets.drop 1, reading := none, abandoned := sat8 k.abandoned, lost := k.lost || carriesWork skein }) s)
  else next s

/-! Rebuild from the journal (R371). -/

/-- The unretired log entries that a Skein carries. -/
def carried (s : State) (n : Nat) (e : JEntry) : Bool :=
  if n ≤ 11 then
    e.kind == jkPinCmd && u8At e.body 0 == 0 && ((tabGet s.tab.state e.source).map (·.serving)) == some (n - 8)
  else if n == 29 then e.kind == jkCommand
  else e.kind == jkEffect || e.kind == jkDone

/-- JNL_REBUILD: the reader drains what is visible, and K0 writes every unretired entry of the Skein again (R371); those of 29 and 30 are
read as they come. -/
def execJnlRebuild (skein : Nat) (s : State) : Out :=
  let k := Machine.skein s skein
  if carriesWork skein && k.lost then
    let live := s.jnl.log.filterMap fun i => if i.live then i.entry else none
    let packets := (live.filter (carried s skein)).map fun e => { bytes := entryImage e : Packet }
    let put := fun (k : Skein) (p : Packet) => if skein ≤ 11 then placePacket p.bytes k else carry p.bytes k
    let s := onSkein skein (fun k => packets.foldl put { k with packets := [], reading := none, lost := false }) s
    next { s with jnl := { s.jnl with rebuilds := s.jnl.rebuilds + 1 } }
  else next s

def clearedSkein (k : Skein) : Skein :=
  { k with fillMax := fillOf k, pkts := 0, emptyRd := 0, drop := 0, stall := 0, overlong := 0, foreign := 0, eccDrop := 0, abandoned := 0 }

/-- SKN_CLEAR_STATS: counters and maxima of the Skein block return to 0 (R77). -/
def execSknClearStats (s : State) : Out :=
  next { s with skn := { s.skn with skeins := s.skn.skeins.map clearedSkein, eccCorr := 0 } }

/-! Allocation at start-up (Table 3.1). Where the table gives a set of initiators for a group of Skeins, Skein by Skein of the group has
one of the set, in order (DESIGN CHOICE). Every template index is 0 (DESIGN CHOICE: the spec gives none). -/

def mkSkein (size base writers readers : Nat) (discard notice : Bool) : Skein :=
  { (default : Skein) with en := true, discard := discard, size := size, base := base, writers := writers, readers := readers,
                           noticeEn := notice, noticeList := if notice then 6 else 0 }

/-- A1–A3. -/
def maskApp : Nat := 14
/-- Every initiator. -/
def maskAll : Nat := 2147483647

/-- Size, writers, readers, DISCARD and notices of a Skein. -/
def skeinPlan (n : Nat) : Nat × Nat × Nat × Bool × Bool :=
  if n ≤ 3 then (32, 2 ^ (15 + n), 2 ^ 12, false, false)
  else if n ≤ 7 then (64, 2 ^ (11 + n), maskApp, true, true)
  else if n ≤ 11 then (256, maskApp, 2 ^ (7 + n), false, false)
  else if n ≤ 15 then (64, 2 ^ (3 + n), maskApp, false, false)
  else if n ≤ 23 then (64, 2 ^ (n - 12), 2 ^ 13, false, false)
  else if n = 24 then (512, 2 ^ 13, maskApp, false, false)
  else if n = 25 then (128, 2 ^ 13, 2 ^ 14, false, false)
  else if n ≤ 27 then (256, 2 ^ 21, 2 ^ (n - 7), false, false)
  else if n = 28 then (32, 2 ^ 19 + 2 ^ 20, 2 ^ 26, false, false)
  else if n = 29 then (256, 1, maskApp, false, false)
  else if n = 30 then (128, maskApp, 1, false, false)
  else if n = 31 then (16, 2 ^ 29, 2 ^ 25, false, false)
  else if n = 32 then (64, maskAll, 2 ^ 26, false, false)
  else if n = 33 then (178, maskAll, maskAll, false, false)
  else (1, maskAll, maskAll, false, false)

/-- The 128 Skeins as firmware allocates them, areas one after the other. -/
def allocSkeins : Nat → Nat → List Skein
  | 0, _ => []
  | k + 1, base =>
    let (size, w, r, d, nt) := skeinPlan (127 - k)
    mkSkein size base w r d nt :: allocSkeins k (base + size)

def skeinsAllocated : List Skein := allocSkeins 128 0

end Sys2Proof.Machine
end

