-- ==== Sys2Proof/Machine/Bobbin.lean ====
section
/-! DEFINITION. The Bobbin engine (R67–R76, R78). -/

namespace Sys2Proof.Machine

def bobbin (s : State) (c : Nat) : Bobbin := s.bob.channels.getD c default
def onBobbin (c : Nat) (f : Bobbin → Bobbin) (s : State) : State :=
  { s with bob := { s.bob with channels := listModify s.bob.channels c f } }

/-! Register fields (Table 3.8). -/

def bSw (b : Bobbin) : Nat := field b.width.toNat 2 0
def bDw (b : Bobbin) : Nat := field b.width.toNat 6 4
def bSinc (b : Bobbin) : Bool := bit b.width.toNat 8
def bDinc (b : Bobbin) : Bool := bit b.width.toNat 9
def bSrcSkein (b : Bobbin) : Bool := bit b.width.toNat 10
def bDstSkein (b : Bobbin) : Bool := bit b.width.toNat 11
def bHigh (b : Bobbin) : Bool := bit b.ctrl.toNat 24
def bReqEn (b : Bobbin) : Bool := bit b.ctrl.toNat 21
def bRetry (b : Bobbin) : Nat := field b.ctrl.toNat 15 12
def bLinkEn (b : Bobbin) : Bool := bit b.ctrl.toNat 7
def bKind (b : Bobbin) : Nat := field b.done.toNat 17 16
def bTarget (b : Bobbin) : Nat := field b.done.toNat 9 0

/-- Writable bits of CTRL, WIDTH and DONE. -/
def ctrlMask : U32 := 0x013FF080
def widthMask : U32 := 0x00000F77
def doneMask : U32 := 0x000303FF

/-- ERROR codes of STATUS. -/
def beBus : Nat := 1
def beBudget : Nat := 2
def beCfg : Nat := 3
def beCrc : Nat := 4
def beLong : Nat := 5
def beStopped : Nat := 6
def beBad : Nat := 7

/-- Neither IDLE nor HALTED. -/
def bobActive (b : Bobbin) : Bool := b.state != .idle && b.state != .halted

/-- Skeins a channel reads and writes. -/
def bobSkeins (b : Bobbin) : List Nat :=
  (if bSrcSkein b then [b.src % 128] else []) ++ (if bDstSkein b then [b.dst % 128] else [])

/-- The register checks of a START (R67). -/
def startError (s : State) (c : Nat) : Bool :=
  let b := bobbin s c
  b.count == 0 || 5 < bSw b || 5 < bDw b ||
  (!bSrcSkein b && !bDstSkein b && b.count % 2 ^ max (bSw b) (bDw b) != 0) ||
  (bSrcSkein b && bSw b != 4) || (bDstSkein b && bDw b != 2) ||
  ((upTo 32).any fun k => k != c && bobActive (bobbin s k) && (bobSkeins (bobbin s k)).any (bobSkeins b).contains) ||
  (bLinkEn b && b.budget == 0) || b.link % 32 != 0 || bKind b == 3

/-- A halt sends no completion; the Sampler records BOBBIN_HALT (R73). The holding register is discarded (DESIGN CHOICE: R76 says so of
STOPPED alone). -/
def haltBobbin (c err phase tries : Nat) (s : State) : State :=
  post 0x0203 c (le8 err ++ le8 phase ++ le8 tries)
    (onBobbin c (fun b => { b with state := .halted, error := err, phase := phase, tries := tries, hold := [], packet := [], long := false, stopping := false }) s)

/-! The data path (R70). `bob.turn` is the channel on it. -/

/-- The transfer has written its last byte. -/
def transferOver (b : Bobbin) : Bool := b.lastRead && b.hold == []

/-- The channel can move data. -/
def canMove (b : Bobbin) : Bool := b.state == .active && !b.fetching && !transferOver b

/-- The next channel of a class that can move data, in ascending number after the one on the path. -/
def nextMover (s : State) (high : Bool) : Option Nat :=
  ((span (s.bob.turn + 1) 32).map (· % 32)).find? fun k => canMove (bobbin s k) && bHigh (bobbin s k) == high

def pathTo (k : Nat) (s : State) : State := { s with bob := { s.bob with turn := k } }

/-- A HIGH channel that can move data takes the path from a NORMAL one, which is PREEMPTED. With none, a PREEMPTED channel resumes on the
path, or the next NORMAL channel that can move data has it. -/
def settlePath (s : State) : State :=
  let b := bobbin s s.bob.turn
  match nextMover s true with
  | some k =>
    if canMove b && bHigh b then s
    else if canMove b then pathTo k { onBobbin s.bob.turn (fun b => { b with state := .preempted }) s with bob.preempt := s.bob.preempt + 1 }
    else pathTo k s
  | none =>
    match (upTo 32).find? fun k => (bobbin s k).state == .preempted with
    | some k => pathTo k (onBobbin k (fun b => { b with state := .active }) s)
    | none => if canMove b then s else (nextMover s false).elim s fun k => pathTo k s

/-- After a burst the path goes to the next channel of the same class in turn; then a HIGH one may take it. -/
def passPath (s : State) : State :=
  settlePath ((nextMover s (bHigh (bobbin s s.bob.turn))).elim s fun k => pathTo k s)

def ignoredWrite (s : State) : State := { s with bob := { s.bob with ignored := s.bob.ignored + 1 } }

/-- BOB_START (R67). -/
def execBobStart (channel : Nat) (s : State) : Out :=
  let b := bobbin s channel
  if 32 ≤ channel then next s
  else if bobActive b then next (ignoredWrite s)
  else if startError s channel then next (haltBobbin channel beCfg 0 0 (onBobbin channel (fun b => { b with used := 0 }) s))
  else
    next (settlePath (onBobbin channel (fun b =>
      { b with used := 0, remain := b.count, hold := [], packet := [], moved := 0, lastRead := false, fetching := false, long := false, stopping := false, error := 0,
               phase := 0, tries := 0, state := if bReqEn b then .waitReq else .active }) s))

/-- BOB_REQUEST: a channel in WAIT_REQ samples its line; high starts a burst (R71). -/
def execBobRequest (channel : Nat) (line : Bool) (s : State) : Out :=
  if (bobbin s channel).state == .waitReq && line then
    next (settlePath (onBobbin channel (fun b => { b with state := .active }) s))
  else next s

/-! Moving a burst (R68–R70). -/

/-- Address of byte `k` of a transfer at one end: an address with its increment bit clear stays fixed. -/
def endAddress (base width : Nat) (inc : Bool) (k : Nat) : Nat :=
  (base + (if inc then k else k % 2 ^ width)) % 1099511627776

/-- Fabric addresses of a burst's bytes at one end. -/
def burstAddresses (base width : Nat) (inc : Bool) (start n : Nat) : List Nat := (upTo n).map fun k => endAddress base width inc (start + k)

/-- How a read of packet words ended. -/
inductive WordsEnd where
  | more
  | last
  | bad
  deriving DecidableEq, Repr

/-- Words `k` and on of a read burst from the source Skein: the channel reads while the Skein holds a visible packet, and skips a
not-valid word (R69). Answers the bytes gathered, how they ended, and the state. -/
def readPacketWords (c : Nat) (a : BusAccess) : Nat → Nat → Bytes → State → Bytes × WordsEnd × State
  | 0, _, acc, s => (acc, .more, s)
  | fuel + 1, k, acc, s =>
    let n := (bobbin s c).src % 128
    if (skein s n).packets == [] then (acc, .more, s)
    else
      let (d, tag, s) := popSkein n 28 (eccOf a k) s
      if tag / 128 = 0 then (acc, .more, s)
      else if tag % 32 = 0 then (acc, .bad, s)
      else
        let acc := acc ++ d.take (tag % 32)
        if tag / 64 % 2 = 1 then (acc, .last, s) else readPacketWords c a fuel (k + 1) acc s

/-- The read half from a Skein (R69). Of a packet that exceeds COUNT, the bytes within COUNT are held and the rest is read and dropped. -/
def readSkein (c : Nat) (a : BusAccess) (s : State) : State :=
  let b := bobbin s c
  let (d, how, s) := readPacketWords c a 32 0 [] s
  let room := b.count - b.moved
  if how = .bad then haltBobbin c beBad 0 0 s
  else if room < d.length then
    let s := if how = .last then s else (readPacketWords c .ok maxWords 32 [] s).2.2
    let s := onBobbin c (fun b => { b with hold := d.take room, moved := b.count, lastRead := true, long := true }) s
    if room = 0 then haltBobbin c beLong 0 0 s else s
  else onBobbin c (fun b => { b with hold := d, moved := b.moved + d.length, lastRead := how == .last }) s

/-- The read half: up to 512 bytes enter the holding register. -/
def readBurst (c : Nat) (a : BusAccess) (s : State) : State :=
  let b := bobbin s c
  if bSrcSkein b then readSkein c a s
  else
    let n := min 512 (b.count - b.moved)
    let d := (burstAddresses b.src (bSw b) (bSinc b) b.moved n).map (memRead s.bob.mem)
    onBobbin c (fun b => { b with hold := d, moved := b.moved + n, lastRead := b.moved + n == b.count }) s

/-- Pushes the gathered bytes of a destination Skein as one packet (R69). -/
def pushPacket (n w : Nat) : Bytes → State → State
  | a :: b :: c :: d :: e :: rest, s => pushPacket n w (e :: rest) (pushAccess n w 0 (BitVec.ofNat 32 (u32At [a, b, c, d] 0)) s)
  | l, s => pushAccess n w l.length (BitVec.ofNat 32 (u32At l 0)) s

/-- The write half: the holding register leaves in source order; the last bytes of a destination Skein's packet complete it. A channel
whose source went past COUNT then halts. -/
def writeBurst (c : Nat) (s : State) : State :=
  let b := bobbin s c
  let s :=
    if bDstSkein b then
      if b.lastRead then onBobbin c (fun b => { b with packet := [] }) (pushPacket (b.dst % 128) 29 (b.packet ++ b.hold) s)
      else onBobbin c (fun b => { b with packet := b.packet ++ b.hold }) s
    else
      { s with bob.mem := memWriteAll s.bob.mem ((burstAddresses b.dst (bDw b) (bDinc b) (b.moved - b.hold.length) b.hold.length).zip b.hold) }
  let s := onBobbin c (fun b => { b with hold := [], remain := b.remain - b.hold.length,
                                         state := if bReqEn b && !b.lastRead then .waitReq else b.state }) s
  if b.long then haltBobbin c beLong 0 0 s else s

/-- A failing access is retried as the same burst; after the last retry the channel halts (R73). -/
def busError (c phase : Nat) (s : State) : State :=
  let b := bobbin s c
  if bRetry b ≤ b.tries then haltBobbin c beBus phase (b.tries + 1) s
  else { onBobbin c (fun b => { b with tries := b.tries + 1, phase := phase }) s with bob.retry := s.bob.retry + 1 }

/-- The access ends in a bus error: on the bus, or at an address that always does (R73). -/
def accessFails (a : BusAccess) (l : List Nat) : Bool := a == .busError || l.any Config.closedAddress

/-- Addresses of the burst that a channel is to complete; none at a Skein port. -/
def nextBurst (b : Bobbin) : List Nat :=
  if b.hold == [] then (if bSrcSkein b then [] else burstAddresses b.src (bSw b) (bSinc b) b.moved (min 512 (b.count - b.moved)))
  else if bDstSkein b then [] else burstAddresses b.dst (bDw b) (bDinc b) (b.moved - b.hold.length) b.hold.length

/-- A burst of the channel can complete now: it has the path, or its read was granted before it was pre-empted (R70); and the write port
does not stall behind a held write (R60). -/
def mayComplete (s : State) (c : Nat) : Bool :=
  let b := bobbin s c
  ((c == s.bob.turn && canMove b) || (b.state == .preempted && b.hold == [] && !b.lastRead)) && (b.hold == [] || !portStalled s 29)

/-- BOB_BURST_DONE: a granted burst completes into or out of the holding register (R68–R70, R73). -/
def execBobBurstDone (channel : Nat) (access : BusAccess) (s : State) : Out :=
  let b := bobbin s channel
  let reading := b.hold == []
  if mayComplete s channel then
    if accessFails access (nextBurst b) then next (settlePath (busError channel (if reading then 0 else 1) s))
    else
      let s := onBobbin channel (fun b => { b with tries := 0 }) s
      next (passPath (if reading then readBurst channel access s else writeBurst channel s))
  else next s

/-! Completion (R72). -/

/-- A pulse to a Tambour slot (R50, R72): it decrements the slot's wait count; at 0 the slot becomes READY if its list has
room. Answers whether it entered. -/
def pulseSlot (slot : Nat) (s : State) : Bool × State :=
  match s.tmb.slots.find? fun t => t.slot == slot && t.state == .waiting with
  | none =>
    match s.tmb.cancelled.find? fun c => c.1 == slot && c.2.2 == s.time.fabCycle with
    | some c => (true, onList c.2.1 (fun l => { l with cancelRace := l.cancelRace + 1 }) s)
    | none => (true, s)
  | some t =>
    if t.wait = 1 && listLimit t.list ≤ readyDepth s t.list then (false, onList t.list (fun l => { l with bpCnt := l.bpCnt + 1 }) s)
    else
      let ready := t.wait ≤ 1
      let s := { s with tmb := { s.tmb with
        slots := s.tmb.slots.map fun u =>
          if u.slot == slot then { u with wait := u.wait - 1, state := if ready then .ready else .waiting,
                                          readyNo := s.tmb.readyNo, readyAt := s.time.fabCycle } else u
        readyNo := s.tmb.readyNo + 1 } }
      (true, onList t.list (fun l => { l with maxDepth := max l.maxDepth (readyDepth s t.list) }) s)

/-- The completion token of R72. Its descriptor count is LINK_USED, the loads since START (DESIGN CHOICE: the first transfer's token carries
0). -/
def tokenWord (c used : Nat) : U32 := BitVec.ofNat 32 (c + 256 * (used % 256))

/-- Where sending a channel's completion ended: sent, held under R48, or in a bus error of its token (R73). -/
inductive Completion where
  | sent
  | held
  | failed
  deriving DecidableEq, Repr

/-- Sends a channel's completion (R72). A token that finds no room, or stalls behind another, is held. -/
def sendCompletion (c : Nat) (token : BusAccess) (s : State) : Completion × State :=
  let b := bobbin s c
  match bKind b with
  | 1 =>
    let (okay, s) := pulseSlot (bTarget b) s
    if okay then (.sent, onBobbin c (fun b => { b with compCnt := b.compCnt + 1 }) s) else (.held, s)
  | 2 =>
    let n := bTarget b % 128
    let k := skein s n
    if token == .busError then (.failed, s)
    else if portStalled s 29 || (storeWord k 29 4 (tokenWord c b.used)).2 == .stalled then (.held, s)
    else (.sent, onBobbin c (fun b => { b with compCnt := b.compCnt + 1 }) (pushWord n 29 4 (tokenWord c b.used) s))
  | _ => (.sent, s)

/-- Reserved bits of a descriptor (Table 3.3). -/
def descReserved (d : Bytes) : Bool :=
  u8At d 10 % 32 != 0 || u8At d 15 / 2 != 0 || u32At d 16 / 268435456 != 0 ||
  BitVec.ofNat 32 (u32At d 20) &&& ~~~widthMask != 0 || BitVec.ofNat 32 (u32At d 24) &&& ~~~doneMask != 0

def u40At (b : Bytes) (i : Nat) : Nat := u32At b i + 4294967296 * u8At b (i + 4)

/-- Loads the descriptor at LINK and runs it, or halts (R74). -/
def loadDescriptor (c : Nat) (fetch : BusAccess) (s : State) : State :=
  let b := bobbin s c
  if b.budget < b.used + 1 then haltBobbin c beBudget 0 0 s
  else if accessFails fetch ((upTo 32).map fun k => (b.link + k) % 1099511627776) then busError c 2 s
  else
    let d := memBytes s.bob.mem b.link 32
    if crc32c (d.take 28) != u32At d 28 then haltBobbin c beCrc 0 0 s
    else if descReserved d then haltBobbin c beCfg 0 0 s
    else
      onBobbin c (fun b =>
        { b with src := u40At d 0, dst := u40At d 5, link := u40At d 10, count := u32At d 16, width := BitVec.ofNat 32 (u32At d 20),
                 done := BitVec.ofNat 32 (u32At d 24), ctrl := if bit (u8At d 15) 0 then b.ctrl ||| 0x80 else b.ctrl &&& ~~~(0x80#32),
                 used := b.used + 1, remain := u32At d 16, moved := 0, lastRead := false, fetching := false, tries := 0, hold := [], packet := [],
                 state := if bReqEn b then .waitReq else .active }) s

/-- After the completion: the linked descriptor, or IDLE. -/
def goOn (c : Nat) (fetch : BusAccess) (s : State) : State :=
  let b := bobbin s c
  if bLinkEn b && !b.stopping then loadDescriptor c fetch (onBobbin c (fun b => { b with fetching := true, state := .active, tries := 0 }) s)
  else onBobbin c (fun b => { b with state := .idle, fetching := false, stopping := false, tries := 0 }) s

/-- The completion of a finished transfer is sent; one that cannot enter is held, and one whose token meets a bus error is retried (R72,
R73). -/
def endTransfer (c : Nat) (token fetch : BusAccess) (s : State) : State :=
  match sendCompletion c token s with
  | (.sent, s) => goOn c fetch s
  | (.held, s) =>
    if (bobbin s c).state == .pulseHeld then s
    else { onBobbin c (fun b => { b with state := .pulseHeld }) s with bob.held := s.bob.held + 1 }
  | (.failed, s) => busError c 3 s

/-- The transfer's last destination write is acknowledged: no write of the port is held (R72). -/
def acknowledged (s : State) : Bool := !portStalled s 29

/-- BOB_TRANSFER_END (R72, R74). -/
def execBobTransferEnd (channel : Nat) (bus : TransferBus) (s : State) : Out :=
  let b := bobbin s channel
  if b.state != .active || !acknowledged s then next s
  else if b.fetching then next (settlePath (loadDescriptor channel bus.fetch s))
  else if transferOver b then next (settlePath (endTransfer channel bus.token bus.fetch s))
  else next s

/-- BOB_PULSE_RELEASE: a completion held in PULSE_HELD enters once room appears (R72). -/
def execBobPulseRelease (entry : PulseEntry) (s : State) : Out :=
  let channel := entry.channel
  if (bobbin s channel).state == .pulseHeld then
    match sendCompletion channel entry.bus.token s with
    | (.held, _) => next s
    | (.sent, s) => next (settlePath (goOn channel entry.bus.fetch s))
    | (.failed, s) => next (settlePath (busError channel 3 s))
  else next s

/-- BOB_STOP (R76): the channel halts with STOPPED, unless its last write is acknowledged in the same cycle. -/
def execBobStop (channel : Nat) (lastAck : Bool) (s : State) : Out :=
  let b := bobbin s channel
  if !bobActive b then next s
  else if lastAck && transferOver b && b.state == .active && !b.fetching then
    next (settlePath (endTransfer channel .ok .ok (onBobbin channel (fun b => { b with stopping := true }) (ignoredWrite s))))
  else next (settlePath (haltBobbin channel beStopped 0 0 s))

/-- BOB_CLEAR_STATS: the Bobbin block's counters return to 0 (R78). -/
def execBobClearStats (s : State) : Out :=
  next { s with bob := { s.bob with preempt := 0, retry := 0, ignored := 0, held := 0,
                                    channels := s.bob.channels.map fun b => { b with compCnt := 0 } } }

end Sys2Proof.Machine
end

