-- ==== Sys2Proof/Machine/Civil.lean ====
section
/-! DEFINITION. Local civil time (R99–R102), the proleptic Gregorian calendar, and adjustments of the RTC's seconds of day
(R307). -/

namespace Sys2Proof.Machine

/-! The calendar. -/

/-- Days from 1970-01-01 to a date. -/
def daysFromCivil (y m d : Nat) : Int :=
  let y' : Int := if m ≤ 2 then (y : Int) - 1 else y
  let era := y' / 400
  let yoe := y' - era * 400
  let mp : Int := if m ≤ 2 then (m : Int) + 9 else (m : Int) - 3
  let doy := (153 * mp + 2) / 5 + (d : Int) - 1
  let doe := yoe * 365 + yoe / 4 - yoe / 100 + doy
  era * 146097 + doe - 719468

/-- Year, month and day of a day number. -/
def civilFromDays (z : Int) : Nat × Nat × Nat :=
  let z := z + 719468
  let era := z / 146097
  let doe := z - era * 146097
  let yoe := (doe - doe / 1460 + doe / 36524 - doe / 146096) / 365
  let y := yoe + era * 400
  let doy := doe - (365 * yoe + yoe / 4 - yoe / 100)
  let mp := (5 * doy + 2) / 153
  let d := doy - (153 * mp + 2) / 5 + 1
  let m := if mp < 10 then mp + 3 else mp - 9
  ((if m ≤ 2 then y + 1 else y).toNat, m.toNat, d.toNat)

def leapYear (y : Nat) : Bool := (y % 4 == 0 && y % 100 != 0) || y % 400 == 0
def monthDays (y m : Nat) : Nat :=
  if m == 2 then (if leapYear y then 29 else 28) else if [4, 6, 9, 11].contains m then 30 else 31
def dateOk (y m d : Nat) : Bool := 1 ≤ m && m ≤ 12 && 1 ≤ d && d ≤ monthDays y m

/-! TAI−UTC and the local offset (R99, R100). Section 6 holds the LIT_TZ_SET payload with 32 transition places. -/

def tzUsePtp (t : Bytes) : Bool := bit (u8At t 13) 0
def tzCount (t : Bytes) : Nat := min (u8At t 12) 32
/-- A transition: TAI instant in seconds and offset in minutes. -/
def tzTransition (t : Bytes) (k : Nat) : Nat × Int := (u64At t (16 + 16 * k), s16At t (24 + 16 * k))
def tzTransitions (t : Bytes) : List (Nat × Int) := (upTo (tzCount t)).map (tzTransition t)
def tzBase (t : Bytes) : Int := s16At t 8

/-- TAI−UTC under rules `t`. -/
def taiUtcWith (t : Bytes) (s : State) : Int :=
  if s.time.servo.traceable && tzUsePtp t && s.time.ptp.utcFromPtp then s.time.ptp.utcOffset else s16At t 10
def taiUtc (s : State) : Int := taiUtcWith (sect s secTz) s
/-- UTC seconds come from PTP. -/
def utcFromPtp (s : State) : Bool := s.time.servo.traceable && tzUsePtp (sect s secTz) && s.time.ptp.utcFromPtp

/-- Offset in minutes at a TAI second under rules `t`. -/
def offsetAt (t : Bytes) (tai : Nat) : Int :=
  ((tzTransitions t).filter fun e => e.1 ≤ tai).getLast?.elim (tzBase t) (·.2)

def offsetNow (s : State) : Int := offsetAt (sect s secTz) (taiSec s)

/-- Local seconds since 1970-01-01 00:00 local at a TAI second. -/
def localSecAt (s : State) (tai : Nat) : Int := (tai : Int) - taiUtc s + offsetAt (sect s secTz) tai * 60
def localSec (s : State) : Int := localSecAt s (taiSec s)

/-- Offset in force at a local second: a transition has passed once the local clock before it reaches its instant. -/
def offsetAtLocal (s : State) (lsec : Int) : Int :=
  let t := sect s secTz
  (tzTransitions t).foldl (fun cur e => if (e.1 : Int) - taiUtc s + cur * 60 ≤ lsec then e.2 else cur) (tzBase t)

/-- The date that the RTC's seconds of day select (R102), as days since 1970-01-01. -/
def scheduleDay (lsec : Int) (sod : Nat) : Int :=
  let day := lsec / 86400
  let ls := lsec - day * 86400
  if ls - (sod : Int) > 43200 then day + 1
  else if (sod : Int) - ls > 43200 then day - 1
  else day

def dayNow (s : State) : Int := scheduleDay (localSec s) s.rtc.sod

/-! Adjustments of SOD (R307). -/

def wdayStep (w : Nat) (k : Int) : Nat := if w = 7 then 7 else (((w : Int) + k) % 7).toNat

/-- WDAY follows a wrap of SOD that counting made. -/
def wrapNow (r : Rtc) : Rtc := if r.wrapped then { r with wrapped := false, wday := wdayStep r.wday 1 } else r

/-- SOD is adjusted by `d` seconds, and WDAY moves with the days crossed. -/
def sodAdjust (d : Int) (r : Rtc) : Rtc :=
  let r := wrapNow r
  let t := (r.sod : Int) + d
  { r with sod := (t % 86400).toNat, wday := wdayStep r.wday (t / 86400) }

/-- The change of the local offset that has come into force since it was last applied is added to SOD (R101, R122). -/
def applyOffset (s : State) : State :=
  let o := offsetNow s
  { s with rtc := sodAdjust ((o - s.sched.offsetInForce) * 60) s.rtc, sched := { s.sched with offsetInForce := o } }

end Sys2Proof.Machine
end

