-- ==== Sys2Proof/Machine/Tables.lean ====
section
/-! DEFINITION. The Pin Table, the Pricking and the road-segment table (R79–R98): content, checks, changes, batches, reads
and the digest. -/

namespace Sys2Proof.Machine

/-! Entries. -/

def confZero : Bytes := zeros 64
def edgesEmpty : Bytes := ones 32
/-- An unused road-segment entry keeps its id (R91). -/
def segEmpty (id : Nat) : Bytes := le16 id ++ zeros 126

def pinConf (c : Content) (p : Nat) : Bytes := tabGetD c.pins p confZero
def pinEdges (c : Content) (p : Nat) : Bytes := tabGetD c.edges p edgesEmpty
def segEntry (c : Content) (g : Nat) : Bytes := tabGetD c.segs g (segEmpty g)

/-! Fields of Table 4.1. -/

def cKind (b : Bytes) : Nat := u8At b 10
def cTransport (b : Bytes) : Nat := u8At b 11 % 8
def cPolicy (b : Bytes) : Bool := bit (u8At b 11) 4
def cSeg (b : Bytes) : Nat := u16At b 12
def cGroups (b : Bytes) : Nat := u32At b 14
def cProfile (b : Bytes) : Nat := u16At b 18
def cZone (b : Bytes) : Nat := u16At b 20
def cMin (b : Bytes) : Nat := u16At b 22
def cMax (b : Bytes) : Nat := u16At b 24
def cCctMin (b : Bytes) : Nat := u16At b 26
def cCctMax (b : Bytes) : Nat := u16At b 28
def cFade (b : Bytes) : Nat := u16At b 30
def cListen (b : Bytes) : Nat := u16At b 32
def cKey (b : Bytes) : Nat := u8At b 34
def cHome (b : Bytes) : Nat := u8At b 35
def cMap (b : Bytes) : Nat := u32At b 36
def cModel (b : Bytes) : Nat := u16At b 40
def cWatts (b : Bytes) : Nat := u16At b 42
def cX (b : Bytes) : Int := s32At b 44
def cY (b : Bytes) : Int := s32At b 48
def cHeading (b : Bytes) : Nat := u16At b 52
def cShort (b : Bytes) : Nat := u16At b 8
def cEui (b : Bytes) : Bytes := slice b 0 8

def kUnused : Nat := 0
def kLantern : Nat := 1
def kSensor : Nat := 2
def kChainFixture : Nat := 3
def tMains : Nat := 1
def tSleepy : Nat := 2
def tChain : Nat := 3

def isRadio (b : Bytes) : Bool := cTransport b == tMains || cTransport b == tSleepy
def isChainPin (b : Bytes) : Bool := cKind b == kChainFixture

/-- The chain channel map (Table 4.2). -/
def mBoard (b : Bytes) : Nat := field (cMap b) 6 0
def mFirst (b : Bytes) : Nat := field (cMap b) 10 7
def mNch (b : Bytes) : Nat := field (cMap b) 12 11
def mLayout (b : Bytes) : Nat := field (cMap b) 15 13

/-! Road-segment entries (Table 4.8). -/

def gCount (b : Bytes) : Nat := u8At b 2
def gSolve (b : Bytes) : Bool := bit (u8At b 3) 0
def gPoints (b : Bytes) : Nat := u16At b 4
def gClass (b : Bytes) : Nat := u8At b 6
def gGeneration (b : Bytes) : Nat := u32At b 8
def gCrc (b : Bytes) : Nat := u32At b 12
/-- The Pin list: slots below the Pin count. -/
def gPins (b : Bytes) : List Nat := (upTo (min (gCount b) 32)).map fun j => u16At b (64 + 2 * j)

/-! Content under one item. -/

def applyItem (c : Content) : TabItem → Content
  | .pin p b => { c with pins := if cKind b = 0 then tabErase c.pins p else tabSet c.pins p b }
  | .clear p => { c with pins := tabErase c.pins p }
  | .clearFault _ => c
  | .edges p w => { c with edges := if w = edgesEmpty then tabErase c.edges p else tabSet c.edges p w }
  | .seg g e => { c with segs := if gCount e = 0 then tabErase c.segs g else tabSet c.segs g e }

def applyItems (l : List TabItem) (c : Content) : Content := l.foldl applyItem c

/-! Checks of Table 4.3. -/

/-- Reserved fields and bits of a configuration half. -/
def confReservedOk (b : Bytes) : Bool :=
  allZero (slice b 54 10) && u8At b 11 &&& 0xE8 == 0 && u16At b 38 == 0

/-- Kind, transport and index range (R81). -/
def confComboOk (p : Nat) (b : Bytes) : Bool :=
  match cKind b with
  | 0 => allZero b
  | 1 => cTransport b == tMains && p ≤ 8191
  | 2 => (cTransport b == tMains || cTransport b == tSleepy) && p ≤ 8191
  | 3 => cTransport b == tChain && 8192 ≤ p
  | _ => false

/-- Chain channels of a chain Pin: 16 × board + channel. -/
def chainChannels (b : Bytes) : List Nat := (upTo (mNch b + 1)).map fun k => 16 * mBoard b + mFirst b + k

def channelsClash (a b : Bytes) : Bool := (chainChannels a).any fun x => (chainChannels b).contains x

/-- The rows of Table 4.3 for one configuration half, against the tables `c` and the variant, membership apart, and R16's limit of 32 Pins
to a road segment. -/
def confCheck (variant : Nat) (c : Content) (p : Nat) (b : Bytes) : Option Nat :=
  if !confComboOk p b then some stBadPayload
  else if cKind b = 0 then none
  else
    let others := c.pins.filter fun e => e.1 != p
    first [
      (!(isRadio b) || variant != 2, stNoRadio),
      (cShort b == (if isRadio b then 0x0800 + p else 0xFFFF), stBadPayload),
      (!(isRadio b) || (cEui b != zeros 8 && cEui b != ones 8 && others.all fun e => cEui e.2 != cEui b), stConflict),
      (cTransport b != tSleepy || (others.filter fun e => cTransport e.2 == tSleepy).length < 2048, stLimit),
      (1023 < cSeg b || (others.filter fun e => cSeg e.2 == cSeg b).length < 32, stLimit),
      (if cKind b == kSensor then cSeg b == 0xFFFF else cSeg b == 0xFFFF || cSeg b ≤ 1023, stBadPayload),
      (if cKind b == kSensor then cProfile b == 0xFFFF else cProfile b ≤ 15, stBadPayload),
      (cZone b ≤ 255 || cZone b == 0xFFFF, stBadPayload),
      (cMin b ≤ cMax b && cMax b ≤ 1023, stBadPayload),
      ((cCctMin b == 0 && cCctMax b == 0) || (1700 ≤ cCctMin b && cCctMin b ≤ cCctMax b && cCctMax b ≤ 6500), stBadPayload),
      (if cTransport b == tSleepy then 10 ≤ cListen b else cListen b == 0, stBadPayload),
      (if isRadio b then cKey b ≤ 127 && cHome b ≤ 3 else cKey b == 0xFF && cHome b == 0xFF, stBadPayload),
      (!(isChainPin b) || (mLayout b ≤ 3 && mNch b == mLayout b && mFirst b + mNch b ≤ 15), stBadPayload),
      (!(isChainPin b) || (others.filter fun e => isChainPin e.2).all fun e => !channelsClash b e.2, stConflict),
      (cHeading b ≤ 35999 || cHeading b == 0xFFFF, stBadPayload)]

/-- Fields of an edge word (Table 4.6). -/
def eNeighbour (w : Nat) : Nat := field w 13 0
def eDist (w : Nat) : Nat := field w 23 14
def eDir (w : Nat) : Nat := field w 27 24
def eNoWalk (w : Nat) : Bool := bit w 31
def eVehicleOnly (w : Nat) : Bool := bit w 30
def eFootOnly (w : Nat) : Bool := bit w 29
def eCrossing (w : Nat) : Bool := bit w 28
def edgeEmpty : Nat := 0xFFFFFFFF
/-- The non-empty edge words of a Pin's 32 bytes, in slot order. -/
def edgeWords (b : Bytes) : List Nat := ((upTo 8).map fun k => u32At b (4 * k)).filter (· != edgeEmpty)

/-- R90's refusals. -/
def edgesOk (p : Nat) (b : Bytes) : Bool :=
  let l := edgeWords b
  l.all (fun w => eNeighbour w ≤ 9215 && eNeighbour w != p && eDir w ≤ 10 && ((eDist w == 0) == (eDir w == 10)) &&
    !(eVehicleOnly w && eFootOnly w)) &&
  decide (l.map eNeighbour).Nodup

/-- R91 and R130 on a written road-segment entry. -/
def segCheck (b : Bytes) : Option Nat :=
  let used := gCount b != 0
  first [
    (u8At b 3 &&& 0xFE == 0 && u8At b 7 == 0 && allZero (slice b 16 48), stBadPayload),
    (u16At b 0 ≤ 1023, stRange),
    (used || allZero (slice b 2 126), stBadPayload),
    (gCount b ≤ 32, stBadPayload),
    (!used || (gPins b).all (· ≤ 9215), stRange),
    (!used || (1 ≤ gPoints b && gPoints b ≤ 256), stBadPayload),
    (gClass b ≤ 15, stBadPayload),
    (!used || (upTo 32).all fun j => j < gCount b || u16At b (64 + 2 * j) == 0xFFFF, stBadPayload)]

/-- Pins at which membership of road segment `g` fails (R92). -/
def memberBad (c : Content) (g : Nat) : List Nat :=
  let l := gPins (segEntry c g)
  let inList := l.filter fun p =>
    let b := pinConf c p
    1 < l.count p || !(cKind b == kLantern || cKind b == kChainFixture) || cSeg b != g
  inList ++ (c.pins.filter fun e => cSeg e.2 == g && !l.contains e.1).map (·.1)

/-- Road segments that Pins or entries name. -/
def segIds (c : Content) : List Nat :=
  ((c.segs.map (·.1)) ++ ((c.pins.map fun e => cSeg e.2).filter (· ≤ 1023))).eraseDups

/-- The lowest inconsistent Pin of the tables. -/
def firstInconsistent (c : Content) : Option Nat := minNat ((segIds c).flatMap (memberBad c))

/-! Parsing the items of a write, each checked against the tables as the items before it leave them (R82, R348). -/

/-- What one item gives: its table item and the road segments whose membership it touches. -/
abbrev ItemResult := Except Nat (TabItem × List Nat)

/-- The items of a write: the position and status of the first failure, or the items, segments by item, and tables. -/
def parseItems (f : Nat → Content → List Nat → ItemResult) (index : Nat → Nat) :
    List Nat → Content → List Nat → Except (Nat × Nat) (List TabItem × List (List Nat) × Content)
  | [], c, _ => .ok ([], [], c)
  | k :: rest, c, seen =>
    match f k c seen with
    | .error st => .error (k, st)
    | .ok (it, segs) =>
      match parseItems f index rest (applyItem c it) (index k :: seen) with
      | .error e => .error e
      | .ok (l, g, c') => .ok (it :: l, segs :: g, c')

/-- A Pin index of an item: in range and distinct from those before it (R82, R95). -/
def pinItem (p : Nat) (seen : List Nat) : Option Nat := first [(p ≤ 9215, stRange), (!seen.contains p, stConflict)]

/-- A write's shape: its header's checks, its item count, and its items. -/
structure WriteForm where
  header : Bytes → Chk
  count : Bytes → Nat
  item : Nat → Bytes → Nat → Content → List Nat → ItemResult
  index : Bytes → Nat → Nat

/-- The road segment that a valid Pin's half names. -/
def segOf (b : Bytes) : List Nat := if cKind b != kUnused && cSeg b ≤ 1023 then [cSeg b] else []

/-- `u16 n, u16 0; n × size` with `n` in 1 to `most`. -/
def countHeader (most size : Nat) (p : Bytes) : Chk :=
  checks [need (4 ≤ p.length) stBadPayload, lenIs p (4 + size * u16At p 0), reserved p 2 2,
    need (1 ≤ u16At p 0 && u16At p 0 ≤ most) stBadPayload]

def pinWriteForm : WriteForm where
  header := countHeader 60 68
  count p := u16At p 0
  index p k := u16At p (4 + 68 * k)
  item variant p k c seen :=
    let pin := u16At p (4 + 68 * k)
    let b := slice p (8 + 68 * k) 64
    if u16At p (6 + 68 * k) != 0 || !confReservedOk b then .error stBadPayload
    else
      match pinItem pin seen with
      | some st => .error st
      | none =>
        match confCheck variant c pin b with
        | some st => .error st
        | none => .ok (.pin pin b, segOf (pinConf c pin) ++ segOf b)

def pinListForm (make : Nat → TabItem) : WriteForm where
  header := countHeader 1000 2
  count p := u16At p 0
  index p k := u16At p (4 + 2 * k)
  item _ p k _ seen :=
    let pin := u16At p (4 + 2 * k)
    match pinItem pin seen with
    | some st => .error st
    | none => .ok (make pin, [])

/-- The configuration half with one field of TAB_PIN_SET written. -/
def setField (fieldCode value : Nat) (b : Bytes) : Bytes :=
  match fieldCode with
  | 1 => overlay b 14 (le32 value)
  | 2 => overlay b 18 (le16 value)
  | 3 => overlay b 20 (le16 value)
  | 4 => overlay b 22 (le16 value)
  | 5 => overlay b 24 (le16 value)
  | 6 => overlay b 11 (le8 ((u8At b 11 &&& 0xEF) + 16 * (value % 2)))
  | 7 => overlay b 30 (le16 value)
  | _ => b

def pinSetForm : WriteForm where
  header p := checks [need (8 ≤ p.length) stBadPayload, lenIs p (8 + 2 * u16At p 2), reserved p 1 1,
    need (1 ≤ u8At p 0 && u8At p 0 ≤ 7 && 1 ≤ u16At p 2 && u16At p 2 ≤ 1000) stBadPayload]
  count p := u16At p 2
  index p k := u16At p (8 + 2 * k)
  item variant p k c seen :=
    let pin := u16At p (8 + 2 * k)
    match pinItem pin seen with
    | some st => .error st
    | none =>
      let b := setField (u8At p 0) (u32At p 4) (pinConf c pin)
      match confCheck variant c pin b with
      | some st => .error st
      | none => .ok (.pin pin b, [])

def edgeWriteForm : WriteForm where
  header := countHeader 112 36
  count p := u16At p 0
  index p k := u16At p (4 + 36 * k)
  item _ p k _ seen :=
    let pin := u16At p (4 + 36 * k)
    let w := slice p (8 + 36 * k) 32
    if u16At p (6 + 36 * k) != 0 then .error stBadPayload
    else
      match pinItem pin seen with
      | some st => .error st
      | none => if edgesOk pin w then .ok (.edges pin w, []) else .error stBadPayload

def segWriteForm : WriteForm where
  header := countHeader 31 128
  count p := u16At p 0
  index p k := u16At p (4 + 128 * k)
  item _ p k _ _ :=
    let e := slice p (4 + 128 * k) 128
    match segCheck e with
    | some st => .error st
    | none => .ok (.seg (u16At e 0) e, [u16At e 0])

def segClearForm : WriteForm where
  header := countHeader 1024 2
  count p := u16At p 0
  index p k := u16At p (4 + 2 * k)
  item _ p k _ _ :=
    let g := u16At p (4 + 2 * k)
    if g ≤ 1023 then .ok (.seg g (segEmpty g), [g]) else .error stRange

def parseWrite (f : WriteForm) (p : Bytes) (s : State) : Except (Nat × Nat) (List TabItem × List (List Nat) × Content) :=
  parseItems (f.item s.sys.variant p) (f.index p) (upTo (f.count p)) s.tab.projected []

/-- Membership after the write, outside a batch: the position of the first item with an inconsistent road segment. -/
def memberCheck (segs : List (List Nat)) (c : Content) : Chk :=
  match (segs.zipIdx).find? fun e => e.1.any fun g => memberBad c g != [] with
  | some (_, k) => some (stConflict, le16 k)
  | none => none

/-- Acceptance checks of a TAB write (R82, R95, R97). -/
def writeCheck (f : WriteForm) (m : Nat) (p : Bytes) (s : State) : Chk :=
  andThen (f.header p) <|
    match parseWrite f p s with
    | .error (k, st) => some (st, le16 k)
    | .ok (_, segs, c) =>
      match s.tab.batch with
      | none => memberCheck segs c
      | some b =>
        if b.mailbox == m then need (b.bytes + p.length ≤ 131072) stLimit
        else andThen (memberCheck segs c) (refuse stBatchState)

/-- An accepted TAB write: a change waiting for its boundary, or staged in its mailbox's batch. -/
def writeAccepted (f : WriteForm) (m : Nat) (seq : U32) (p : Bytes) (s : State) : State :=
  match parseWrite f p s with
  | .error _ => s
  | .ok (l, _, c) =>
    match s.tab.batch with
    | none => { s with tab := { s.tab with projected := c, changes := s.tab.changes ++ [{ seq := seq, mailbox := m, items := l, held := false }] } }
    | some b =>
      { s with tab := { s.tab with projected := c, stagedSeqs := s.tab.stagedSeqs ++ [seq],
                                   batch := some { b with staged := b.staged ++ [(seq, l)], bytes := b.bytes + p.length } } }

/-- Execution of a TAB write: STAGED in a batch; else its EFFECT with the generation at effect, 0 while it waits under R87,
or none yet, and the boundary completes it (R86, R87). -/
def writeRun (_ : Nat) (c : Cmd) (s : State) : State × CmdOutcome :=
  if s.tab.stagedSeqs.contains c.seq then
    ({ s with tab := { s.tab with stagedSeqs := s.tab.stagedSeqs.erase c.seq } }, .done stStaged [])
  else
    match s.tab.effected.find? fun e => e.1 == c.seq with
    | some (_, n, g) => ({ s with tab := { s.tab with effected := s.tab.effected.filter fun e => e.1 != c.seq } }, .effect n (leW g))
    | none =>
      match s.tab.changes.find? fun t => t.seq == c.seq with
      | some t => (s, if t.held then .effect 0 (leW 0) else .waits)
      | none => (s, .effect s.stitch.number (leW s.tab.generation))

def tabWrite (opcode : Nat) (f : WriteForm) : CmdSpec where
  opcode := opcode
  needs := rTableWrite
  check := writeCheck f
  onAccept := writeAccepted f
  run := writeRun

def execTabPinWrite (op : CmdStep) (s : State) : Out := next (mailboxCommand (tabWrite 0x0201 pinWriteForm) op s)
def execTabPinClear (op : CmdStep) (s : State) : Out := next (mailboxCommand (tabWrite 0x0202 (pinListForm .clear)) op s)
def execTabPinSet (op : CmdStep) (s : State) : Out := next (mailboxCommand (tabWrite 0x0203 pinSetForm) op s)
def execTabPinClearFault (op : CmdStep) (s : State) : Out := next (mailboxCommand (tabWrite 0x0205 (pinListForm .clearFault)) op s)
def execTabEdgeWrite (op : CmdStep) (s : State) : Out := next (mailboxCommand (tabWrite 0x0210 edgeWriteForm) op s)
def execTabSegWrite (op : CmdStep) (s : State) : Out := next (mailboxCommand (tabWrite 0x0220 segWriteForm) op s)
def execTabSegClear (op : CmdStep) (s : State) : Out := next (mailboxCommand (tabWrite 0x0221 segClearForm) op s)

/-! Batches (R97). -/

def emptyPayload (p : Bytes) : Chk := lenIs p 0

def tabBatchOpen : CmdSpec where
  opcode := 0x0230
  needs := rTableWrite
  check _ p s := checks [emptyPayload p, need s.tab.batch.isNone stBatchState]
  onAccept m seq _ s := { s with tab := { s.tab with batch := some { seq := seq, mailbox := m, staged := [], bytes := 0 } } }
  run _ _ s := (s, .effect s.stitch.number [])
def execTabBatchOpen (op : CmdStep) (s : State) : Out := next (mailboxCommand tabBatchOpen op s)

def ownBatch (m : Nat) (s : State) : Chk :=
  need (match s.tab.batch with | some b => b.mailbox == m | none => false) stBatchState

/-- The tables as every earlier accepted command will leave them: live, and the changes waiting and staged in order. -/
def reproject (s : State) : State :=
  let waiting := s.tab.changes.flatMap (·.items)
  let staged := match s.tab.batch with | some b => b.staged.flatMap (·.2) | none => []
  { s with tab := { s.tab with projected := applyItems staged (applyItems waiting s.tab.live) } }

/-- The batch ends, and its staged writes are forgotten. -/
def dropBatch (s : State) : State := reproject { s with tab := { s.tab with batch := none } }

/-- A close fixes the batch's outcome at its acceptance: a change of all its writes, or a failure with the first
inconsistent Pin. -/
def batchCloseAccepted (m : Nat) (seq : U32) (_ : Bytes) (s : State) : State :=
  match s.tab.batch with
  | none => s
  | some b =>
    let s := { s with tab := { s.tab with ended := s.tab.ended ++ [(seq, b)] } }
    match firstInconsistent s.tab.projected with
    | none =>
      { s with tab := { s.tab with batch := none,
                                   changes := s.tab.changes ++ [{ seq := seq, mailbox := m, items := b.staged.flatMap (·.2), held := false }] } }
    | some p =>
      let s := dropBatch s
      { s with tab := { s.tab with closeFail := s.tab.closeFail ++ [(seq, p)] } }

def batchCloseRun (m : Nat) (c : Cmd) (s : State) : State × CmdOutcome :=
  match s.tab.closeFail.find? fun e => e.1 == c.seq with
  | some (_, p) => ({ s with tab := { s.tab with closeFail := s.tab.closeFail.filter fun e => e.1 != c.seq } }, .done stConflict (le16 p))
  | none => writeRun m c s

def tabBatchClose : CmdSpec where
  opcode := 0x0231
  needs := rTableWrite
  check m p s := andThen (emptyPayload p) (ownBatch m s)
  onAccept := batchCloseAccepted
  run := batchCloseRun
def execTabBatchClose (op : CmdStep) (s : State) : Out := next (mailboxCommand tabBatchClose op s)

def tabBatchAbort : CmdSpec where
  opcode := 0x0232
  needs := rTableWrite
  check m p s := andThen (emptyPayload p) (ownBatch m s)
  onAccept _ seq _ s := dropBatch { s with tab := { s.tab with ended := s.tab.ended ++ s.tab.batch.toList.map fun b => (seq, b) } }
  run m _ s := (post 0x0507 m (le8 0) s, .effect s.stitch.number [])
def execTabBatchAbort (op : CmdStep) (s : State) : Out := next (mailboxCommand tabBatchAbort op s)

/-- TAB_BATCH_TIMEOUT: 300 s without a TAB command from the batch's mailbox discard it. -/
def execTabBatchTimeout (s : State) : Out :=
  match s.tab.batch with
  | none => next s
  | some b => next (post 0x0507 b.mailbox (le8 1) (dropBatch s))

/-! Reads (R96). -/

/-- The 64 bytes of a state half (Tables 4.4, 4.5). -/
def stateStatus (t : PinState) : Nat :=
  bitN t.rehomed 10 + 256 * (t.serving % 4) + bitN t.held 7 + bitN t.wakeOnly 6 + bitN t.failsafe 5 + bitN t.darnRaised 4 +
    bitN t.switchedOff 3 + bitN (t.failure != 0) 2 + bitN t.heard 1 + 1

def stateBytes (t : PinState) : Bytes :=
  le16 t.commanded ++ le16 t.target ++ le16 t.cct ++ le16 t.fadeRemaining ++ le8 t.downSeq ++ le8 t.upSeq ++ leW t.counter ++
    leW t.lastHeard ++ le8 t.linkQuality ++ le8 t.retries ++ leS16 t.drift ++ le16 (stateStatus t) ++ leW t.burnHours ++
    le16 t.power ++ leS16 t.temperature ++ le8 t.failure ++ le8 t.presence ++ le8 (if t.pending then 1 else 0) ++ le8 0 ++
    leW t.lastDelivered ++ zeros 24

def stateHalf (s : State) (p : Nat) : Bytes :=
  match tabGet s.tab.state p with
  | some t => if (tabGet s.tab.live.pins p).isSome then stateBytes t else zeros 64
  | none => zeros 64

/-- `u16 first, u16 n` with n in 1 to `most`, ending at or before `last`. -/
def rangeCheck (most last : Nat) (p : Bytes) : Chk :=
  checks [need (1 ≤ u16At p 2 && u16At p 2 ≤ most) stBadPayload, need (u16At p 0 + u16At p 2 ≤ last + 1) stRange]

def tabPinRead : CmdSpec where
  opcode := 0x0204
  needs := rTableRead
  check _ p _ := checks [lenIs p 8, reserved p 5 3, need (1 ≤ u8At p 4 && u8At p 4 ≤ 3) stBadPayload, rangeCheck 60 9215 p]
  run _ c s :=
    let halves := u8At c.payload 4
    (s, ok (leW s.tab.generation ++ (span (u16At c.payload 0) (u16At c.payload 2)).flatMap fun p =>
      (if bit halves 0 then pinConf s.tab.live p else []) ++ (if bit halves 1 then stateHalf s p else [])))
def execTabPinRead (op : CmdStep) (s : State) : Out := next (mailboxCommand tabPinRead op s)

def tabEdgeRead : CmdSpec where
  opcode := 0x0211
  needs := rTableRead
  check _ p _ := andThen (lenIs p 4) (rangeCheck 112 9215 p)
  run _ c s := (s, ok (leW s.tab.generation ++ (span (u16At c.payload 0) (u16At c.payload 2)).flatMap (pinEdges s.tab.live)))
def execTabEdgeRead (op : CmdStep) (s : State) : Out := next (mailboxCommand tabEdgeRead op s)

def tabSegRead : CmdSpec where
  opcode := 0x0222
  needs := rTableRead
  check _ p _ := andThen (lenIs p 4) (rangeCheck 31 1023 p)
  run _ c s := (s, ok (leW s.tab.generation ++ (span (u16At c.payload 0) (u16At c.payload 2)).flatMap (segEntry s.tab.live)))
def execTabSegRead (op : CmdStep) (s : State) : Out := next (mailboxCommand tabSegRead op s)

/-! Solvability (R92, R133–R136). -/

def noGround : List Ground := [default, default]
def groundsOf (s : State) (g : Nat) : List Ground := tabGetD s.tab.ground g noGround

/-- The index of the record whose generation and CRC match the entry, if one does. -/
def matchIndex (l : List Ground) (e : Bytes) : Option Nat :=
  l.findIdx? fun r => r.generation != 0 && r.generation.toNat == gGeneration e && crc32c (slice r.record 0 16384) == gCrc e

def matching (s : State) (g : Nat) : Option Ground :=
  (matchIndex (groundsOf s g) (segEntry s.tab.live g)).bind fun k => (groundsOf s g)[k]?

/-- The first failing condition of R92, from 0; `none` when the road segment is solvable. -/
def whyUnsolved (s : State) (g : Nat) : Option Nat :=
  let e := segEntry s.tab.live g
  if !gSolve e then some 0
  else if memberBad s.tab.live g != [] then some 1
  else
    match matching s g with
    | none => some 2
    | some r =>
      if !s.tab.groundDram.contains g then some 2
      else if r.pins != gCount e || r.points != gPoints e then some 3 else none

/-- R92's events: SEG_UNSOLVED once when the condition begins, SEG_SOLVED when it ends. -/
def segEvent (s : State) (g : Nat) : State :=
  let made := s.tab.unsolvedMade.contains g
  match whyUnsolved s g with
  | some k => if made then s else post 0x0501 g (le8 k) { s with tab := { s.tab with unsolvedMade := s.tab.unsolvedMade ++ [g] } }
  | none => if made then post 0x0502 g [] { s with tab := { s.tab with unsolvedMade := s.tab.unsolvedMade.erase g } } else s

def usedSegs (s : State) : List Nat := s.tab.live.segs.map (·.1)

/-- The conditions of every road segment in use, at a boundary; an entry made unused leaves the list. -/
def segEvents (s : State) : State :=
  let s := { s with tab := { s.tab with unsolvedMade := s.tab.unsolvedMade.filter (usedSegs s).contains } }
  let s := (usedSegs s).foldl segEvent s
  { s with tab := { s.tab with unsolved := s.tab.unsolvedMade } }

/-! Digest (R98). -/

def dangling (c : Content) : Nat :=
  (c.edges.map fun e => ((edgeWords e.2).filter fun w => (tabGet c.pins (eNeighbour w)).isNone).length).sum

def digestBytes (s : State) : Bytes :=
  let c := s.tab.live
  leW s.tab.generation ++ le32 (crc32c ((upTo 9216).flatMap (pinConf c))) ++ le32 (crc32c ((upTo 9216).flatMap (pinEdges c))) ++
    le32 (crc32c ((upTo 1024).flatMap (segEntry c))) ++ le16 c.pins.length ++
    le16 (c.pins.filter fun e => cTransport e.2 == tSleepy).length ++ le16 c.segs.length ++
    le16 ((usedSegs s).filter fun g => (whyUnsolved s g).isNone).length ++ le32 (dangling c) ++ le32 0

def tabDigest : CmdSpec where
  opcode := 0x0240
  needs := rTableRead
  check _ p _ := emptyPayload p
  run _ _ s := (s, ok (digestBytes s))
def execTabDigest (op : CmdStep) (s : State) : Out := next (mailboxCommand tabDigest op s)

/-! Changes at a boundary (R86, R87). -/

/-- The state half of a Pin that becomes valid: as step 5 of R94 initialises it, nothing restored. -/
def freshState (b : Bytes) : PinState :=
  { (default : PinState) with commanded := 0xFFFF, target := 0xFFFF, serving := if isRadio b then cHome b else 0 }

/-- The addressing fields of R87: EUI-64, kind and transport, key index, home Shuttle, chain channel map. -/
def addressing (b : Bytes) : Bytes := slice b 0 8 ++ slice b 10 2 ++ slice b 34 2 ++ slice b 36 4

/-- Every earlier accepted command to the Pin, and the HOME sent ahead of the change (R224), has reached its final
outcome, and no failure blocks the Pin (R87, R217). -/
def pinFree (s : State) (seq : U32) (p : Nat) : Bool :=
  !(tabGetD s.tab.state p default).held && (tabGet s.air.holdNext p).isNone &&
  (tabGetD s.fade.queues p []).all fun q => q.kind != 5 && !serialBefore q.seq seq

/-- Pins an item writes. -/
def itemPin : TabItem → Option Nat
  | .pin p _ => some p
  | .clear p => some p
  | _ => none

/-- An item changes an addressing field of a Pin, or clears it: it stands in Pin order (R87). -/
def itemOrdered (live : Content) : TabItem → Bool
  | .pin p b => addressing b != addressing (pinConf live p)
  | .clear p => (tabGet live.pins p).isSome
  | _ => false

/-- An item waits under R87. -/
def itemHeld (s : State) (seq : U32) (i : TabItem) : Bool :=
  itemOrdered s.tab.live i && (match itemPin i with | some p => !pinFree s seq p | none => false)

/-- A change of the Pin's addressing fields stands ahead of a command in Pin order: the command goes out under the new entry. -/
def behindChange (s : State) (p : Nat) (seq : U32) : Bool :=
  s.tab.changes.any fun c => serialBefore c.seq seq && c.items.any fun i => itemPin i == some p && itemOrdered s.tab.live i

/-- State halves under one item: a clear empties, a new Pin starts fresh, a clear of the fault class clears FAILED. -/
def applyState (live : Content) (st : Tab PinState) : TabItem → Tab PinState
  | .pin p b =>
    if cKind b = 0 then tabErase st p
    else if (tabGet live.pins p).isSome && (tabGet st p).isSome then st
    else tabSet st p (freshState b)
  | .clear p => tabErase st p
  | .clearFault p => tabModify st p fun t => { t with failure := 0 }
  | _ => st

/-- A change is in effect before its command has begun: what that command will answer. -/
def noteEffect (c : TabChange) (gen : U32) (s : State) : State :=
  if c.held then s else { s with tab := { s.tab with effected := s.tab.effected ++ [(c.seq, s.stitch.number, gen)] } }

/-- One change takes effect. -/
def applyChange (c : TabChange) (gen : U32) (s : State) : State :=
  let state := c.items.foldl (fun (a : Content × Tab PinState) i => (applyItem a.1 i, applyState a.1 a.2 i)) (s.tab.live, s.tab.state)
  let s := { s with tab := { s.tab with live := state.1, state := state.2, unpersisted := s.tab.unpersisted ++ [(c.seq, c.items)],
                                          applied := if c.held then s.tab.applied else s.tab.applied ++ [c] } }
  match runningCmd s c.mailbox with
  | some k =>
    if k.seq == c.seq then freeTask (.mailbox c.mailbox) (completeWith c.mailbox c.seq (.effect s.stitch.number (leW gen)) s)
    else noteEffect c gen s
  | none => noteEffect c gen s

/-- A running command whose change waits under R87 completes with generation 0. -/
def holdChange (c : TabChange) (s : State) : State :=
  match runningCmd s c.mailbox with
  | some k => if k.seq == c.seq then freeTask (.mailbox c.mailbox) (completeWith c.mailbox c.seq (.effect 0 (leW 0)) s) else s
  | none => s

/-- Accepted changes in acceptance order: each takes effect, or stays; `busy` holds the Pins of those that stay. -/
def applyChanges (gen : U32) : List TabChange → List (Nat × Bool) → State → State × List TabChange
  | [], _, s => (s, [])
  | c :: rest, busy, s =>
    let pins := c.items.filterMap itemPin
    let behind := busy.filter fun e => pins.contains e.1
    let waits := c.items.any (itemHeld s c.seq) || behind.any (·.2)
    let accepted := (box s c.mailbox).cmds.all fun k => k.seq != c.seq || k.phase != .batched
    if !accepted then
      let (s, l) := applyChanges gen rest (busy ++ pins.map (·, false)) s
      (s, c :: l)
    else if waits then
      let (s, l) := applyChanges gen rest (busy ++ pins.map (·, true)) (holdChange c s)
      (s, { c with held := true } :: l)
    else if behind != [] then
      let (s, l) := applyChanges gen rest (busy ++ pins.map (·, false)) s
      (s, c :: l)
    else applyChanges gen rest busy (applyChange c gen s)

/-- Table changes at step 3 of a boundary: together, with one step of the generation, which is saved (R86). Each takes effect at the boundary
of its acceptance whether or not its mailbox has come to its command (DEDUCED: R86 beside R331). -/
def tablesAtBoundary (s : State) : State :=
  let gen := s.tab.generation + 1
  let (t, left) := applyChanges gen s.tab.changes [] s
  if left.length == s.tab.changes.length then { t with tab := { t.tab with changes := left } }
  else { t with tab := { t.tab with changes := left, generation := gen, savedGen := if s.sys.bankOk.getD 0 false then gen else s.tab.savedGen } }

/-- TABLE_PERSIST_VERIFIED: a change in effect is written to its store, read back and verified, and its entry retires (R93). -/
def execTablePersistVerified (sequence : U32) (s : State) : Out :=
  match s.tab.unpersisted.find? fun e => e.1 == sequence with
  | none => next s
  | some (_, l) =>
    if !s.sys.bankOk.getD 0 false then next s else
    let complete := (upTo 16).all fun m => (box s m).cmds.all fun c => c.seq != sequence || c.phase == .held
    let t := { s with tab := { s.tab with stored := applyItems l s.tab.stored, storedPrev := s.tab.stored, storeGen := s.tab.storeGen + 1,
                                          unpersisted := s.tab.unpersisted.filter fun e => e.1 != sequence } }
    next (if complete then retire sequence t else t)

/-! Ground commands (R133–R136, R152). -/

def loadOf (s : State) (g : Nat) : Option GroundLoad := s.tab.loads.find? fun l => l.seg == g
def closeLoad (g : Nat) (s : State) : State := { s with tab := { s.tab with loads := s.tab.loads.filter fun l => l.seg != g } }

/-- An execution without an effect left to give: its changes were made at acceptance. -/
def effectNow (_ : Nat) (_ : Cmd) (s : State) : State × CmdOutcome := (s, .effect s.stitch.number [])

def tabGroundBegin : CmdSpec where
  opcode := 0x0250
  needs := rTableWrite
  check _ p s := checks [lenIs p 20, reserved p 3 1, reserved p 6 2, need (u16At p 0 ≤ 1023) stRange,
    need (1 ≤ u8At p 2 && u8At p 2 ≤ 32 && 1 ≤ u16At p 4 && u16At p 4 ≤ 256 && u32At p 8 != 0) stBadPayload,
    need (s.tab.loads.length < 4) stLimit, need (loadOf s (u16At p 0)).isNone stConflict]
  onAccept m _ p s := { s with tab := { s.tab with loads := s.tab.loads ++ [{
    seg := u16At p 0, mailbox := m, generation := BitVec.ofNat 32 (u32At p 8), pins := u8At p 2, points := u16At p 4,
    matrixCrc := u32At p 12, pointCrc := u32At p 16, data := zeros 16896, blocks := [] }] } }
  run := effectNow
def execTabGroundBegin (op : CmdStep) (s : State) : Out := next (mailboxCommand tabGroundBegin op s)

def groundData (p : Bytes) (l : GroundLoad) : GroundLoad :=
  { l with data := overlay l.data (64 * u16At p 2) (slice p 8 (64 * u16At p 4)),
           blocks := l.blocks ++ (span (u16At p 2) (u16At p 4)).filter fun b => !l.blocks.contains b }

def tabGroundData : CmdSpec where
  opcode := 0x0251
  needs := rTableWrite
  check _ p s := checks [need (8 ≤ p.length) stBadPayload, lenIs p (8 + 64 * u16At p 4), reserved p 6 2,
    need (1 ≤ u16At p 4 && u16At p 4 ≤ 64) stBadPayload, need (u16At p 0 ≤ 1023 && u16At p 2 + u16At p 4 ≤ 264) stRange,
    need (loadOf s (u16At p 0)).isSome stBatchState]
  onAccept _ _ p s := { s with tab := { s.tab with loads := s.tab.loads.map fun l => if l.seg == u16At p 0 then groundData p l else l } }
  run := effectNow
def execTabGroundData (op : CmdStep) (s : State) : Out := next (mailboxCommand tabGroundData op s)

def firstWhere (n : Nat) (f : Nat → Bool) : Option Nat := (upTo n).find? f

/-- R134's checks in their order: the byte offset of the first failing item. -/
def groundCheck (l : GroundLoad) : Option Nat :=
  let el := fun k => u16At l.data (2 * k)
  let bad : List (Option Nat) := [
    (firstWhere 8192 fun k => !fpFiniteNonneg 5 10 (el k)).map (2 * ·),
    (firstWhere 8192 fun k => (l.points ≤ k / 32 || l.pins ≤ k % 32) && el k != 0).map (2 * ·),
    (firstWhere l.points fun i => l.pins ≤ u8At l.data (16384 + 2 * i + 1)).map (16385 + 2 * ·),
    (firstWhere 512 fun k => l.points ≤ k / 2 && u8At l.data (16384 + k) != 0).map (16384 + ·),
    if crc32c (slice l.data 0 16384) == l.matrixCrc then none else some 0,
    if crc32c (slice l.data 16384 512) == l.pointCrc then none else some 16384,
    (firstWhere 264 fun b => !l.blocks.contains b).map (64 * ·)]
  bad.findSome? id

/-- The slot a commit replaces (R135): one whose generation is not the entry's, the earlier committed when both differ. -/
def replaceIndex (l : List Ground) (entryGen : Nat) : Nat :=
  match l with
  | [a, b] =>
    if a.generation.toNat == entryGen && a.generation != 0 then 1
    else if b.generation.toNat == entryGen && b.generation != 0 then 0
    else if a.generation = 0 then 0
    else if b.generation = 0 then 1
    else if a.order ≤ b.order then 0 else 1
  | _ => 0

/-- The two records of a road segment after one change, beside the entry `e`. -/
def dueRecords (e : Bytes) (l : List Ground) (d : GroundDue) : List Ground :=
  match d.record with
  | some r => listSet l (replaceIndex l (gGeneration e)) r
  | none =>
    let keep := if d.both then none else matchIndex l e
    l.zipIdx.map fun (r, k) => if keep == some k then r else default

/-- The two records held of a road segment: with every change whose EFFECT is committed (R135). -/
def heldRecords (s : State) (g : Nat) : List Ground :=
  (s.tab.groundDue.filter fun d => d.seg == g && d.committed).foldl (dueRecords (segEntry s.tab.live g)) (groundsOf s g)

def generationHeld (s : State) (g : Nat) (gen : U32) : Bool := (heldRecords s g).any fun r => r.generation == gen && gen != 0

def tabGroundCommit : CmdSpec where
  opcode := 0x0252
  needs := rTableWrite
  check _ p s := checks [lenIs p 4, reserved p 2 2, need (u16At p 0 ≤ 1023) stRange,
    match loadOf s (u16At p 0) with
    | none => refuse stBatchState
    | some l =>
      match groundCheck l with
      | some off => some (stBadPayload, le32 off)
      | none => need (!generationHeld s (u16At p 0) l.generation) stConflict]
  -- R134: a record refused, or whose commit is refused with CONFLICT, is discarded and its load closed
  onRefuse p st s := if p.length = 4 && u16At p 2 == 0 && (loadOf s (u16At p 0)).isSome && (st == stBadPayload || st == stConflict)
    then closeLoad (u16At p 0) s else s
  onAccept _ seq p s :=
    match loadOf s (u16At p 0) with
    | none => s
    | some l =>
      let r : Ground := { generation := l.generation, pins := l.pins, points := l.points, record := l.data, order := 0 }
      let s := closeLoad l.seg s
      { s with tab := { s.tab with commits := s.tab.commits ++ [{ seq := seq, seg := l.seg, ground := r, begun := false }] } }
  run _ c s :=
    if s.tab.commits.any fun g => g.seq == c.seq then
      ({ s with tab := { s.tab with commits := s.tab.commits.map fun g => if g.seq == c.seq then { g with begun := true } else g } }, .waits)
    else (s, .done stConflict [])
def execTabGroundCommit (op : CmdStep) (s : State) : Out := next (mailboxCommand tabGroundCommit op s)

/-- GROUND_COMMIT_VERIFIED: after verification the commit's EFFECT entry joins the open batch; a failure completes it with
STORAGE_FAULT (R135, R352). -/
def execGroundCommitVerified (seg : Nat) (okv : Bool) (s : State) : Out :=
  match s.tab.commits.find? fun g => g.seg == seg && g.begun with
  | none => next s
  | some g =>
    let m := ((upTo 16).find? fun m => (runningCmd s m).any fun c => c.seq == g.seq).getD 16
    let s := { s with tab := { s.tab with commits := s.tab.commits.filter fun k => k.seq != g.seq } }
    let finish := fun o t => next (freeTask (.mailbox m) (completeWith m g.seq o t))
    if m == 16 then next s
    else if !okv then finish (.done stStorageFault []) s
    else if generationHeld s seg g.ground.generation then finish (.done stConflict []) s
    else
      let r := { g.ground with order := s.tab.groundOrder }
      let n := nextStitch s
      finish (.effect n (leW n)) { s with tab := { s.tab with
        groundOrder := s.tab.groundOrder + 1,
        groundDue := s.tab.groundDue ++ [{ seq := g.seq, seg := seg, record := some r, both := false, committed := false }] } }

def tabGroundAbort : CmdSpec where
  opcode := 0x0253
  needs := rTableWrite
  check _ p s := checks [lenIs p 4, reserved p 2 2, need (u16At p 0 ≤ 1023) stRange, need (loadOf s (u16At p 0)).isSome stBatchState]
  onAccept _ _ p s := closeLoad (u16At p 0) s
  run := effectNow
def execTabGroundAbort (op : CmdStep) (s : State) : Out := next (mailboxCommand tabGroundAbort op s)

def recordWith (s : State) (g gen : Nat) : Option Ground := (heldRecords s g).find? fun r => r.generation != 0 && r.generation.toNat == gen

def tabGroundRead : CmdSpec where
  opcode := 0x0254
  needs := rTableRead
  check _ p s := checks [lenIs p 12, reserved p 2 2, need (u16At p 0 ≤ 1023) stRange,
    need (1 ≤ u16At p 10 && u16At p 10 ≤ 64) stBadPayload, need (u16At p 8 + u16At p 10 ≤ 264) stRange,
    need (recordWith s (u16At p 0) (u32At p 4)).isSome stRange]
  run _ c s :=
    match recordWith s (u16At c.payload 0) (u32At c.payload 4) with
    | some r => (s, ok (slice r.record (64 * u16At c.payload 8) (64 * u16At c.payload 10)))
    | none => (s, .done stRange [])
def execTabGroundRead (op : CmdStep) (s : State) : Out := next (mailboxCommand tabGroundRead op s)

/-- One road segment's 16 bytes of TAB_GROUND_STATUS. -/
def groundStatus (s : State) (g : Nat) : Bytes :=
  let l := heldRecords s g
  let k := matchIndex l (segEntry s.tab.live g)
  let r := k.bind fun k => l[k]?
  leW (l.getD 0 default).generation ++ leW (l.getD 1 default).generation ++ le8 (k.getD 0xFF) ++
    le8 ((r.map (·.pins)).getD 0) ++ le16 ((r.map (·.points)).getD 0) ++ le32 0

def tabGroundStatus : CmdSpec where
  opcode := 0x0255
  needs := rTableRead
  check _ p _ := andThen (lenIs p 4) (rangeCheck 256 1023 p)
  run _ c s := (s, ok ((span (u16At c.payload 0) (u16At c.payload 2)).flatMap (groundStatus s)))
def execTabGroundStatus (op : CmdStep) (s : State) : Out := next (mailboxCommand tabGroundStatus op s)

/-- TAB_GROUND_DELETE: both records, or the one that does not match the entry, from the boundary after its EFFECT commits. -/
def tabGroundDelete : CmdSpec where
  opcode := 0x0256
  needs := rTableWrite
  check _ p _ := checks [lenIs p 4, reserved p 3 1, need (u16At p 0 ≤ 1023) stRange, need (u8At p 2 ≤ 1) stBadPayload]
  run _ c s :=
    let g := u16At c.payload 0
    let n := nextStitch s
    ({ s with tab := { s.tab with groundDue := s.tab.groundDue ++ [{ seq := c.seq, seg := g, record := none, both := u8At c.payload 2 == 0, committed := false }] } },
      .effect n (leW n))
def execTabGroundDelete (op : CmdStep) (s : State) : Out := next (mailboxCommand tabGroundDelete op s)

/-- TAB_GROUND_DISCARD: a load without a command for 300 s is discarded and recorded. -/
def execTabGroundDiscard (seg : Nat) (s : State) : Out :=
  if (loadOf s seg).isSome then next (post 0x0508 seg [] (closeLoad seg s)) else next s

/-- Ground changes whose EFFECT entries are committed take effect at step 3 of a boundary. -/
def groundAtBoundary (s : State) : State :=
  let due := s.tab.groundDue.filter (·.committed)
  let left := s.tab.groundDue.filter fun d => !d.committed
  due.foldl (fun s d =>
    let dram := if (s.tab.groundDram).contains d.seg || s.tab.reload.contains d.seg then s.tab.groundDram else s.tab.groundDram ++ [d.seg]
    { s with tab := { s.tab with ground := tabSet s.tab.ground d.seg (dueRecords (segEntry s.tab.live d.seg) (groundsOf s d.seg) d), groundDram := dram } })
    { s with tab := { s.tab with groundDue := left } }

/-- A road segment's matching record, which failed its verification, is treated as absent (R136). -/
def dropMatching (g : Nat) (s : State) : State :=
  match matchIndex (groundsOf s g) (segEntry s.tab.live g) with
  | some k => { s with tab := { s.tab with ground := tabSet s.tab.ground g (listSet (groundsOf s g) k default) } }
  | none => s

/-- GROUND_RELOAD_DONE: the next record in ascending road-segment order is copied from the eMMC; verified, it is in DRAM; one that fails is
treated as absent (R136). -/
def execGroundReloadDone (seg : Nat) (okv : Bool) (s : State) : Out :=
  if s.tab.reload.head? == some seg && !s.sys.emmcFault then
    let s := { s with tab := { s.tab with reload := s.tab.reload.erase seg } }
    if okv then next { s with tab := { s.tab with groundDram := s.tab.groundDram ++ [seg] } }
    else next (dropMatching seg { s with tab := { s.tab with groundDram := s.tab.groundDram.erase seg } })
  else next s

end Sys2Proof.Machine
end

