-- ==== Sys2Proof/Machine/Trig.lean ====
section
/-! DEFINITION. Sine, inverse tangent and logarithm by their power series, in fixed point with 80 fraction bits, and the functions of
R109 within the accuracy it states of them. -/

namespace Sys2Proof.Machine

/-- A value cut to 80 fraction bits. -/
def fx (x : Rat) : Rat := ((x * (2 ^ 80 : Nat)).floor : Rat) / (2 ^ 80 : Nat)

/-- Sum of a power series: the k-th term gives the next one by `next`, and adds `part` of itself. -/
def seriesSum (nextTerm part : Nat → Rat → Rat) : Nat → Nat → Rat → Rat → Rat
  | 0, _, _, acc => acc
  | n + 1, k, t, acc => seriesSum nextTerm part n (k + 1) (fx (nextTerm k t)) (acc + fx (part k t))

def piValue : Rat := 3141592653589793238462643383279 / 1000000000000000000000000000000

/-- Sine of an angle in radians of at most π. -/
def sinRadians (y : Rat) : Rat := seriesSum (fun k t => -(t * y * y) / ((2 * k + 2) * (2 * k + 3) : Nat)) (fun _ t => t) 26 0 y 0

/-- A remainder in [0, m). -/
def fmodR (x m : Rat) : Rat := x - m * ((x / m).floor : Int)

def sinDegrees (x : Rat) : Rat :=
  let y := fmodR (x + 180) 360 - 180
  sinRadians (fx (y * piValue / 180))
def cosDegrees (x : Rat) : Rat := sinDegrees (90 - x)

/-- Square root of a rational in [0, 4]. -/
def fxSqrt (x : Rat) : Rat := (isqrt (x * (2 ^ 160 : Nat)).floor.toNat : Rat) / (2 ^ 80 : Nat)

/-- Inverse tangent of `t` in [0, 1], in radians: twice that of half the angle. -/
def atanUnit (t : Rat) : Rat :=
  let h := fx (t / (1 + fxSqrt (1 + t * t)))
  2 * seriesSum (fun _ u => -(u * h * h)) (fun k u => u / (2 * k + 1 : Nat)) 34 0 h 0

def absR (x : Rat) : Rat := if x < 0 then -x else x

/-- The angle of a point in degrees, in (−180, 180]; 0 of the origin. -/
def atan2Degrees (y x : Rat) : Rat :=
  if x = 0 ∧ y = 0 then 0
  else
    let a := absR y
    let b := absR x
    let q := if a ≤ b then atanUnit (a / b) else piValue / 2 - atanUnit (b / a)
    let h := if x < 0 then piValue - q else q
    fx ((if y < 0 then -h else h) * 180 / piValue)

def asinDegrees (x : Rat) : Rat :=
  let v := max (-1) (min 1 x)
  atan2Degrees v (fxSqrt (1 - v * v))

/-- Twice the inverse hyperbolic tangent of (m − 1) / (m + 1). -/
def lnNear (m : Rat) : Rat :=
  let t := fx ((m - 1) / (m + 1))
  2 * seriesSum (fun _ u => u * t * t) (fun k u => u / (2 * k + 1 : Nat)) 30 0 t 0

/-- Natural logarithm of a positive rational: the power of 2 by which it leaves [1/2, 2] apart. -/
def lnRat (x : Rat) : Rat :=
  let n := x.num.natAbs
  let up := Nat.log2 n
  let down := Nat.log2 x.den
  lnNear ((n * 2 ^ down : Nat) / (x.den * 2 ^ up : Nat)) + ((up : Int) - down : Int) * lnNear 2

/-! The functions of R109: fp32 values within 1 × 10⁻⁶ of the exact ones, which value of those is left open. -/

/-- An fp32 value within `bound` of `exact`: `free` away from it, or the nearest. -/
def within (bound exact free : Rat) : Rat :=
  let v := r32 (exact + max (-bound) (min bound free))
  if absR (v - exact) ≤ bound then v else r32 exact

/-- 1 × 10⁻⁶. R109 does not say of an inverse function in what unit: it is taken in radians (DESIGN CHOICE), since 1 × 10⁻⁶ of a degree is
finer than fp32 near 180. -/
def accuracy : Rat := 1 / 1000000
def accuracyAngle : Rat := accuracy * 180 / piValue

def fsin (x : Rat) : Rat := within accuracy (sinDegrees x) (Config.trigFree 0 x 0)
def fcos (x : Rat) : Rat := within accuracy (cosDegrees x) (Config.trigFree 1 x 0)
def fasin (x : Rat) : Rat := within accuracyAngle (asinDegrees x) (Config.trigFree 2 x 0)
def facos (x : Rat) : Rat := within accuracyAngle (90 - asinDegrees x) (Config.trigFree 3 x 0)
def fatan2 (y x : Rat) : Rat := within accuracyAngle (atan2Degrees y x) (Config.trigFree 4 y x)

end Sys2Proof.Machine
end

