-- ==== Sys2Proof/Machine/Schedule.lean ====
section
/-! DEFINITION. The schedule layer (R99–R122): profiles, sun, day plans, exceptions, zones, evaluation, and its LIT commands. -/

namespace Sys2Proof.Machine

/-! Profiles (Tables 5.1, 5.2). -/

def profile (s : State) (k : Nat) : Bytes := slice (sect s secProfiles) (208 * k) 208
def prCount (b : Bytes) : Nat := min (u8At b 1) 24
def prFloor (b : Bytes) : Nat := u16At b 2
def prCct (b : Bytes) : Nat := u16At b 4

/-- A breakpoint of a profile. -/
structure Breakpoint where
  anchor : Nat
  ramp : Bool
  days : Nat
  time : Int
  level : Nat
  cct : Nat
  deriving DecidableEq, Repr, Inhabited

def breakpoint (b : Bytes) (k : Nat) : Breakpoint :=
  let o := 16 + 8 * k
  { anchor := u8At b o, ramp := bit (u8At b (o + 1)) 7, days := u8At b (o + 1) % 128, time := s16At b (o + 2),
    level := u16At b (o + 4), cct := u16At b (o + 6) }

def cctOk (k : Nat) : Bool := k == 0 || (1700 ≤ k && k ≤ 6500)

def breakpointOk (b : Breakpoint) : Bool :=
  b.anchor ≤ 5 && b.days != 0 &&
  (if b.anchor = 0 then decide (0 ≤ b.time ∧ b.time ≤ 1439) else decide (-720 ≤ b.time ∧ b.time ≤ 720)) &&
  b.level ≤ 1023 && cctOk b.cct

/-- R104's rules. -/
def profileOk (b : Bytes) : Bool :=
  u8At b 1 ≤ 24 && allZero (b.drop (16 + 8 * u8At b 1)) && (upTo (prCount b)).all (fun k => breakpointOk (breakpoint b k)) &&
  prFloor b ≤ 1023 && cctOk (prCct b)

/-! The sun (R109, R110). Angles in degrees; every operation rounds to fp32. -/

/-- fmod(x, 360) in fp32: in [0, 360), so that a value that would round to 360 is 0. -/
def fmod360 (x : Rat) : Rat := let y := r32 (fmodR x 360); if 360 ≤ y then 0 else y
/-- In (−180, 180]. -/
def wrap180 (x : Rat) : Rat := let y := fmod360 x; if 180 < y then fsub y 360 else y

/-- Five sun events in anchor order as local seconds, and the mask of substituted ones. -/
structure SunEvents where
  events : List Nat
  substituted : Nat
  deriving DecidableEq, Repr, Inhabited

def toSecond (minutes : Rat) : Nat := (roundHalfAway (minutes * 60) % 86400).toNat

/-- Hour angle in minutes for an altitude: `none` with the sun below it (true) or above it (false) all day. -/
def halfArc (h0 lat dec : Rat) : Rat ⊕ Bool :=
  let num := fsub (fsin h0) (fmul (fsin lat) (fsin dec))
  let den := fmul (fcos lat) (fcos dec)
  let c := fdiv num den
  if den = 0 then .inr (decide (0 < num))
  else if 1 < c then .inr true
  else if c < -1 then .inr false
  else .inl (fmul 4 (facos c))

def sunEvents (lat7 lon7 : Int) (off : Int) (day : Int) : SunEvents :=
  let lat := r32 ((lat7 : Rat) / 10000000)
  let lon := r32 ((lon7 : Rat) / 10000000)
  let d : Rat := r32 ((day - 10957 : Int) : Rat)
  let n := fsub d (fdiv lon 360)
  let l := fmod360 (fadd (r32 (280460 / 1000)) (fmul (r32 (9856474 / 10000000)) n))
  let g := fmod360 (fadd (r32 (357528 / 1000)) (fmul (r32 (9856003 / 10000000)) n))
  let lam := fadd (fadd l (fmul (r32 (1915 / 1000)) (fsin g))) (fmul (r32 (20 / 1000)) (fsin (fmul 2 g)))
  let eps := fsub (r32 (23439 / 1000)) (fmul (r32 (4 / 10000000)) n)
  let dec := fasin (fmul (fsin eps) (fsin lam))
  let ra := fmod360 (fatan2 (fmul (fcos eps) (fsin lam)) (fcos lam))
  let eot := fmul 4 (wrap180 (fsub l ra))
  let noon := fadd (fsub (fsub 720 (fmul 4 lon)) eot) (off : Rat)
  let pair : Rat → (Nat × Nat × Bool) := fun h0 =>
    match halfArc h0 lat dec with
    | .inl h => (toSecond (fsub noon h), toSecond (fadd noon h), false)
    | .inr true => (toSecond noon, toSecond noon, true)
    | .inr false => (toSecond (noon + 720), toSecond (noon + 720), true)
  let (rise, set, a) := pair (r32 (-833 / 1000))
  let (dawn, dusk, b) := pair (-6)
  { events := [rise, set, dawn, dusk, toSecond noon], substituted := (if a then 3 else 0) + (if b then 12 else 0) }

/-- The sun events of a day under the site and rules in force. -/
def sunOf (s : State) (day : Int) : SunEvents :=
  sunEvents (setS32 s secSite 0) (setS32 s secSite 4) (offsetAtLocal s (day * 86400 + 43200)) day

/-! Calendar exceptions (Table 5.4). -/

def exception (s : State) (k : Nat) : Bytes := slice (sect s secExceptions) (16 * k) 16
def xAction (b : Bytes) : Nat := u8At b 8
def xArgument (b : Bytes) : Nat := u8At b 9
def xScale (b : Bytes) : Nat := u16At b 10
def xMask (b : Bytes) : Nat := u16At b 12

/-- R113's rules. -/
def exceptionOk (b : Bytes) : Bool :=
  if xAction b = 0 then allZero b
  else
    let y0 := u16At b 0
    let y1 := u16At b 4
    let dates :=
      if y0 = 0 then y1 == 0 && dateOk 2000 (u8At b 2) (u8At b 3) && dateOk 2000 (u8At b 6) (u8At b 7)
      else 2000 ≤ y0 && y0 ≤ 2199 && 2000 ≤ y1 && y1 ≤ 2199 && dateOk y0 (u8At b 2) (u8At b 3) && dateOk y1 (u8At b 6) (u8At b 7) &&
        decide (daysFromCivil y0 (u8At b 2) (u8At b 3) ≤ daysFromCivil y1 (u8At b 6) (u8At b 7))
    let action :=
      match xAction b with
      | 1 => xArgument b ≤ 6 && xScale b == 0 && xMask b == 0xFFFF
      | 2 => xArgument b ≤ 15 && xScale b == 0 && xMask b != 0
      | 3 => xArgument b == 0 && xScale b ≤ 1024 && xMask b != 0
      | _ => false
    allZero (slice b 14 2) && dates && action

/-- Whether the exception matches a day (R114); a yearly range that ends before it starts wraps over the new year. -/
def exceptionMatches (b : Bytes) (day : Int) : Bool :=
  if xAction b = 0 then false
  else if u16At b 0 = 0 then
    let (_, m, d) := civilFromDays day
    let k := 32 * m + d
    let a := 32 * u8At b 2 + u8At b 3
    let e := 32 * u8At b 6 + u8At b 7
    if a ≤ e then a ≤ k && k ≤ e else a ≤ k || k ≤ e
  else
    decide (daysFromCivil (u16At b 0) (u8At b 2) (u8At b 3) ≤ day) && decide (day ≤ daysFromCivil (u16At b 4) (u8At b 6) (u8At b 7))

/-! Day plans (R112). -/

def matchingExceptions (s : State) (day : Int) : List Bytes :=
  ((upTo 64).map (exception s)).filter fun b => exceptionMatches b day

/-- The plan of a day whose weekday is `w` where no AS_WEEKDAY exception matches. -/
def buildPlan (s : State) (day : Int) (w : Nat) : DayPlan :=
  let sun := sunOf s day
  let l := matchingExceptions s day
  let as := (l.find? fun b => xAction b == 1).map xArgument
  { day := day, events := sun.events, substituted := sun.substituted, matching := l, asWeekday := as, weekday := as.getD w }

def planOf (s : State) (day : Int) : Option DayPlan := s.sched.plans.find? fun p => p.day == day

/-- The weekday after `w`; 7, none set, stays. -/
def weekdayAfter (w : Nat) : Nat := if w = 7 then 7 else (w + 1) % 7

/-- The plans of the current and the next schedule day are built; the previous day's is kept for R116. -/
def buildPlans (s : State) : State :=
  let d := dayNow s
  let old := s.sched.plans.filter fun p => p.day == d - 1
  { s with sched := { s.sched with plans := old ++ [buildPlan s d s.rtc.wday, buildPlan s (d + 1) (weekdayAfter s.rtc.wday)] } }

/-- DAY_PLAN_BUILD: A1–A3 build the day plans. -/
def execDayPlanBuild (s : State) : Out := next (buildPlans s)

/-! Evaluation (R105–R107, R114). -/

/-- Breakpoints that apply on weekday `w`, with their instants, in R105's order. -/
def applicable (prof : Bytes) (events : List Nat) (w : Nat) : List (Int × Breakpoint) :=
  let l := ((upTo (prCount prof)).map (breakpoint prof)).filter fun b => if w = 7 then b.days == 0x7F else bit b.days w
  let inst : Breakpoint → Int := fun b =>
    let base : Int := if b.anchor = 0 then 0 else (events.getD (b.anchor - 1) 0 : Nat)
    (base + b.time * 60) % 86400
  sortBy (fun a b => decide (a.1 ≤ b.1)) (l.map fun b => (inst b, b))

/-- Effective CCT of applicable breakpoint `j` (R107): its own, or the one before it, cyclically. -/
def effectiveCct (ap : List (Int × Breakpoint)) (dflt j : Nat) : Nat :=
  let m := ap.length
  ((upTo m).findSome? fun k =>
    let c := (ap.getD ((j + m - k) % m) default).2.cct
    if c = 0 then none else some c).getD dflt

/-- R106 and R107 at schedule time `t`: level and CCT. -/
def profileValue (prof : Bytes) (events : List Nat) (w : Nat) (t : Nat) : Nat × Nat :=
  let ap := applicable prof events w
  let m := ap.length
  if m = 0 then (0, prCct prof)
  else
    let j := (upTo m).foldl (fun j k => if decide ((ap.getD k default).1 ≤ (t : Int)) then k else j) (m - 1)
    let nx := (j + 1) % m
    let p := ap.getD j default
    let q := ap.getD nx default
    let ka := effectiveCct ap (prCct prof) j
    let kb := effectiveCct ap (prCct prof) nx
    let span := (q.1 - p.1 + 86400) % 86400
    let el := ((t : Int) - p.1 + 86400) % 86400
    if m = 1 || !q.2.ramp || span == 0 then (p.2.level, ka)
    else
      let level := ((p.2.level : Int) + tdiv (((q.2.level : Int) - p.2.level) * el) span).toNat
      let cct :=
        if ka = 0 ∨ kb = 0 then ka
        else
          let ma : Int := 1000000 / ka
          let mb : Int := 1000000 / kb
          (tdiv 1000000 (ma + tdiv ((mb - ma) * el) span)).toNat
      (level, cct)

/-- The curve of a configured profile on a planned day (R114): S, CCT, evaluated profile, effective weekday, scale. -/
structure Curve where
  level : Nat
  cct : Nat
  evaluated : Nat
  weekday : Nat
  scale : Nat
  deriving DecidableEq, Repr, Inhabited

def forProfile (l : List Bytes) (action conf : Nat) : Option Bytes :=
  l.find? fun b => xAction b == action && bit (xMask b) conf

def curve (s : State) (plan : DayPlan) (conf w t : Nat) : Curve :=
  let ew := plan.asWeekday.getD w
  let ev := (forProfile plan.matching 2 conf).elim conf xArgument
  let scale := (forProfile plan.matching 3 conf).elim 1024 xScale
  let (lv, cct) := profileValue (profile s ev) plan.events ew t
  { level := lv * scale / 1024, cct := cct, evaluated := ev, weekday := ew, scale := scale }

/-! Zones (R115–R118). -/

def zoneEntry (s : State) (z : Nat) : Bytes := if z ≤ 255 then slice (sect s secZones) (16 * z) 16 else factoryZone
def zCap (b : Bytes) : Nat := u16At b 0
def zCct (b : Bytes) : Nat := u16At b 2
def zStart (b : Bytes) : Nat := u16At b 4
def zEnd (b : Bytes) : Nat := u16At b 6
def zCurfewCap (b : Bytes) : Nat := u16At b 8
def zDays (b : Bytes) : Nat := u8At b 10 % 128
def zNoStepUp (b : Bytes) : Bool := bit (u8At b 10) 7

def zoneOk (b : Bytes) : Bool :=
  zCap b ≤ 1023 && cctOk (zCct b) && zStart b ≤ 1439 && zEnd b ≤ 1439 && zCurfewCap b ≤ 1023 && allZero (slice b 11 5)

def curfewDay (b : Bytes) (w : Nat) : Bool := if w = 7 then zDays b == 0x7F else bit (zDays b) w

/-- R116 with today's and the previous day's effective weekday. -/
def curfewActive (b : Bytes) (t today before : Nat) : Bool :=
  let a := zStart b * 60
  let e := zEnd b * 60
  if zStart b == zEnd b then false
  else if a < e then a ≤ t && t < e && curfewDay b today
  else (a ≤ t && curfewDay b today) || (t < e && curfewDay b before)

/-- R118: the issued CCT of a Pin with CCT control, and whether the cap is below its minimum. -/
def issuedCct (conf zone : Bytes) (k : Nat) : Nat × Bool :=
  if cCctMin conf == 0 || cCctMax conf == 0 then (0, false)
  else
    let h := if zCct zone = 0 then cCctMax conf else min (cCctMax conf) (zCct zone)
    if h < cCctMin conf then (cCctMin conf, true)
    else (clampN (if k = 0 then h else k) (cCctMin conf) h, false)

/-! Per-Pin output (R103, R119). -/

/-- The photocell counts as dark (R103): none configured, none settled, or the settled level says dark. -/
def photocellDark (s : State) : Bool :=
  let input := setU8 s secSite 8
  if input == 0xFF then true
  else
    match s.sched.photocell with
    | none => true
    | some active => if setU8 s secSite 9 == 0 then active else !active

def isLighting (b : Bytes) : Bool := cKind b == kLantern || cKind b == kChainFixture

/-- The previous schedule day's effective weekday, from its plan. A day that has no plan, the module having started since, is reckoned
from today's weekday (DEDUCED). -/
def weekdayBefore (s : State) : Nat :=
  let d := s.sched.day - 1
  ((planOf s d).getD (buildPlan s d (if s.sched.wday = 7 then 7 else (s.sched.wday + 6) % 7))).weekday

/-- Table 5.6 for one lighting Pin: output, and the R118 condition. -/
def scheduleOutput (s : State) (plan : DayPlan) (conf : Bytes) : SchedOut × Bool :=
  let zone := zoneEntry s (cZone conf)
  let c : Curve :=
    if s.sched.noTime then
      let p := profile s (cProfile conf)
      { level := if photocellDark s then prFloor p else 0, cct := prCct p, evaluated := cProfile conf, weekday := s.sched.wday, scale := 1024 }
    else curve s plan (cProfile conf) s.sched.wday s.sched.time
  let curfew := !s.sched.noTime && curfewActive zone s.sched.time (plan.asWeekday.getD s.sched.wday) (weekdayBefore s)
  let u := min (min (cMax conf) (zCap zone)) (if curfew then zCurfewCap zone else 1023)
  let floor_ := prFloor (profile s c.evaluated)
  let (k, unmet) := issuedCct conf zone c.cct
  ({ level := if c.level = 0 then 0 else min (max c.level (cMin conf)) u,
     safeFloor := if c.level = 0 then 0 else min (max (max c.level floor_) (cMin conf)) u,
     upper := u, cct := k, noStepUp := curfew && zNoStepUp zone, lit := c.level != 0 }, unmet)

/-- One Pin's output is placed, and ZONE_CCT_UNMET is recorded when its condition begins. -/
def scheduleOne (plan : DayPlan) (s : State) (pin : Nat × Bytes) : State :=
  if !isLighting pin.2 then s
  else
    let (o, unmet) := scheduleOutput s plan pin.2
    let had := s.sched.cctUnmet.contains pin.1
    let l := if unmet then (if had then s.sched.cctUnmet else s.sched.cctUnmet ++ [pin.1]) else s.sched.cctUnmet.erase pin.1
    postIf (unmet && !had) 0x0509 pin.1 [] { s with sched := { s.sched with out := tabSet s.sched.out pin.1 o, cctUnmet := l } }

/-- A schedule, solve or Darning task of the Stitch other than `k` has not completed, or a stream is still to come. -/
def solveOutstanding (s : State) (k : TaskKind) : Bool :=
  let p := fun t : TaskSlot => t.kind != k && match t.kind with | .schedule _ | .solve _ | .darn _ => true | _ => false
  s.lace.streams != [] || s.tmb.slots.any p || s.tmb.held.any fun h => p h.task

/-- Fade shaping becomes READY once every stream's Darning task has completed (Table 2.3). It is a later task of the Stitch than
schedule evaluation (R119), so it waits for that too (DEDUCED). -/
def fadeTask (s : State) : TaskSlot := newTask .fade false (nextStitch s) 0 0
def fadeDue (s : State) (k : TaskKind) : Bool := s.lace.streamsStarted && !solveOutstanding s k

/-- Task `k` ends, the last before fade shaping or not. -/
def endBeforeFade (k : TaskKind) (s : State) : State := endTask k (if fadeDue s k then some (fadeTask s) else none) s

/-- SCHEDULE_EVALUATION: the outputs of a block of 256 Pins; a Stitch without a plan keeps the previous ones (R112, R119). -/
def execScheduleEvaluation (block : Nat) (s : State) : Out :=
  if taskRunning s (.schedule block) then
    let t := { s with sched := { s.sched with evaluated := s.sched.evaluated ++ [block] } }
    match (if s.sched.noTime then some (default : DayPlan) else planOf s s.sched.day) with
    | none => next (endBeforeFade (.schedule block) t)
    | some plan => next (endBeforeFade (.schedule block) ((s.tab.live.pins.filter fun e => e.1 / 256 == block).foldl (scheduleOne plan) t))
  else next s

/-- Step 3 of R25: time of day, weekday and date are sampled together; the day's plan follows a weekday set since it was built; NO_TIME
begins or ends; a day without a plan counts. -/
def scheduleSample (s : State) : State :=
  let noTime := s.rtc.lost && !s.time.servo.everTraceable
  let d := dayNow s
  let plans := s.sched.plans.map fun p => if p.day == d then { p with weekday := p.asWeekday.getD s.rtc.wday } else p
  let t := { s with sched := { s.sched with day := d, time := s.rtc.sod, wday := s.rtc.wday, noTime := noTime, evaluated := [], plans := plans } }
  let t := { t with sched := { t.sched with noPlan := if !noTime && (planOf t d).isNone then t.sched.noPlan + 1 else t.sched.noPlan } }
  postIf (noTime != s.sched.noTime) 0x040F noSource (edge noTime) t

/-! Events of the time-zone rules and the photocell. -/

/-- LOCAL_OFFSET_TRANSITION: the change of offset is added to SOD, the weekday following (R101). -/
def execLocalOffsetTransition (s : State) : Out := next (applyOffset s)

/-- TZ_EXPIRED: recorded once when the time base passes the valid-until instant (R100). -/
def execTzExpired (s : State) : Out :=
  if u64At (sect s secTz) 0 < taiSec s && !s.sched.tzExpired then
    next (post 0x040E noSource [] { s with sched := { s.sched with tzExpired := true } })
  else next s

/-- PHOTOCELL_SETTLED: a state of the named input that has held for 60 s counts (R103). -/
def execPhotocellSettled (level : Bool) (s : State) : Out :=
  if setU8 s secSite 8 == 0xFF then next s
  else next { s with sched := { s.sched with photocell := some level } }

/-! LIT commands (Table 5.9). -/

def litWrite (opcode id : Nat) (check : Bytes → Chk) (off : Bytes → Nat) (data : Bytes → Bytes) : CmdSpec where
  opcode := opcode
  needs := rScheduleWrite
  check _ p s := andThen (check p) (settingsRoom p s)
  onAccept := settingAccepted
  run _ c s := writeSetting id (off c.payload) (data c.payload) effectLit false c s

/-- Refuses each of `n` 16-byte items from offset 4 that breaks `good` with BAD_PAYLOAD. -/
def items16 (n : Nat) (good : Bytes → Bool) (p : Bytes) : Chk :=
  items n fun k => if good (slice p (4 + 16 * k) 16) then none else some stBadPayload

def litProfileWrite : CmdSpec := litWrite 0x0301 secProfiles
  (fun p => checks [lenIs p 208, reserved p 6 10, need (u8At p 0 ≤ 15) stRange, need (profileOk p) stBadPayload])
  (fun p => 208 * u8At p 0) id
def execLitProfileWrite (op : CmdStep) (s : State) : Out := next (mailboxCommand litProfileWrite op s)

def litProfileRead : CmdSpec where
  opcode := 0x0302
  needs := rScheduleRead
  check _ p _ := checks [lenIs p 4, reserved p 1 3, need (u8At p 0 ≤ 15) stRange]
  run _ c s := (s, ok (profile s (u8At c.payload 0)))
def execLitProfileRead (op : CmdStep) (s : State) : Out := next (mailboxCommand litProfileRead op s)

/-- A first index and a count within `total` entries. -/
def entryRange (first n total : Nat) : Chk := need (1 ≤ n && first < total && first + n ≤ total) stRange

def litExcWrite : CmdSpec := litWrite 0x0303 secExceptions
  (fun p => checks [need (4 ≤ p.length) stBadPayload, lenIs p (4 + 16 * u8At p 1), reserved p 2 2, entryRange (u8At p 0) (u8At p 1) 64,
    items16 (u8At p 1) exceptionOk p])
  (fun p => 16 * u8At p 0) (List.drop 4)
def execLitExcWrite (op : CmdStep) (s : State) : Out := next (mailboxCommand litExcWrite op s)

def litExcRead : CmdSpec where
  opcode := 0x0304
  needs := rScheduleRead
  check _ p _ := checks [lenIs p 4, reserved p 2 2, entryRange (u8At p 0) (u8At p 1) 64]
  run _ c s := (s, ok (slice (sect s secExceptions) (16 * u8At c.payload 0) (16 * u8At c.payload 1)))
def execLitExcRead (op : CmdStep) (s : State) : Out := next (mailboxCommand litExcRead op s)

def litZoneWrite : CmdSpec := litWrite 0x0305 secZones
  (fun p => checks [need (4 ≤ p.length) stBadPayload, lenIs p (4 + 16 * u16At p 2), entryRange (u16At p 0) (u16At p 2) 256,
    items16 (u16At p 2) zoneOk p])
  (fun p => 16 * u16At p 0) (List.drop 4)
def execLitZoneWrite (op : CmdStep) (s : State) : Out := next (mailboxCommand litZoneWrite op s)

def litZoneRead : CmdSpec where
  opcode := 0x0306
  needs := rScheduleRead
  check _ p _ := checks [lenIs p 4, entryRange (u16At p 0) (u16At p 2) 256]
  run _ c s := (s, ok (slice (sect s secZones) (16 * u16At c.payload 0) (16 * u16At c.payload 2)))
def execLitZoneRead (op : CmdStep) (s : State) : Out := next (mailboxCommand litZoneRead op s)

def siteOk (p : Bytes) : Bool :=
  decide (-900000000 ≤ s32At p 0 ∧ s32At p 0 ≤ 900000000) && decide (-1800000000 ≤ s32At p 4 ∧ s32At p 4 ≤ 1800000000) &&
    u8At p 9 ≤ 1

def litSiteSet : CmdSpec := litWrite 0x0307 secSite
  (fun p => checks [lenIs p 12, reserved p 10 2, need (u8At p 8 ≤ 7 || u8At p 8 == 0xFF) stRange, need (siteOk p) stBadPayload]) (fun _ => 0) id
def execLitSiteSet (op : CmdStep) (s : State) : Out := next (mailboxCommand litSiteSet op s)

def offsetOk (o : Int) : Bool := decide (-720 ≤ o ∧ o ≤ 840) && o % 15 == 0

/-- Transition `k`: reserved bytes, offset, and an instant at least 3,600 s after the one before. -/
def transitionOk (p : Bytes) (k : Nat) : Bool :=
  allZero (slice p (26 + 16 * k) 6) && offsetOk (tzTransition p k).2 && (k == 0 || (tzTransition p (k - 1)).1 + 3600 ≤ (tzTransition p k).1)

def litTzSet : CmdSpec := litWrite 0x0308 secTz
  (fun p => checks [need (16 ≤ p.length) stBadPayload, lenIs p (16 + 16 * u8At p 12), need (u8At p 13 ≤ 1) stBadPayload, reserved p 14 2,
    need (u8At p 12 ≤ 32) stRange, need (offsetOk (tzBase p) && decide (0 ≤ s16At p 10 ∧ s16At p 10 ≤ 255)) stBadPayload,
    items (u8At p 12) fun k => if transitionOk p k then none else some stBadPayload])
  (fun _ => 0) (fit 528)
def execLitTzSet (op : CmdStep) (s : State) : Out := next (mailboxCommand litTzSet op s)

/-- Year, month and day as LIT results carry them. -/
def dateBytes (day : Int) : Bytes := let (y, m, d) := civilFromDays day; le16 y ++ le8 m ++ le8 d

def litTimeRead : CmdSpec where
  opcode := 0x0309
  needs := rScheduleRead
  check _ p _ := emptyPayload p
  run _ _ s :=
    let d := dayNow s
    let ew := ((planOf s d).getD (buildPlan s d s.rtc.wday)).asWeekday.getD s.rtc.wday
    (s, ok (dateBytes d ++ le32 s.rtc.sod ++ le8 s.rtc.wday ++ le8 ew ++ leS16 (offsetNow s) ++ leS16 (taiUtc s) ++
      le8 (bitN s.sched.noTime 0 + bitN (utcFromPtp s) 1 + bitN s.sched.tzExpired 2) ++ zeros 3))
def execLitTimeRead (op : CmdStep) (s : State) : Out := next (mailboxCommand litTimeRead op s)

def yearOk (p : Bytes) (o : Nat) : Bool :=
  2000 ≤ u16At p o && u16At p o ≤ 2199 && dateOk (u16At p o) (u8At p (o + 2)) (u8At p (o + 3))

def litSunRead : CmdSpec where
  opcode := 0x030A
  needs := rScheduleRead
  check _ p _ := checks [lenIs p 4, need (yearOk p 0) stBadPayload]
  run _ c s :=
    let sun := sunOf s (daysFromCivil (u16At c.payload 0) (u8At c.payload 2) (u8At c.payload 3))
    (s, ok (sun.events.flatMap le32 ++ le8 sun.substituted ++ zeros 3))
def execLitSunRead (op : CmdStep) (s : State) : Out := next (mailboxCommand litSunRead op s)

def litSchedEval : CmdSpec where
  opcode := 0x030B
  needs := rScheduleRead
  check _ p _ := checks [lenIs p 12, reserved p 6 2, need (u8At p 0 ≤ 15) stRange,
    need (u8At p 1 ≤ 7 && yearOk p 2 && u32At p 8 < 86400) stBadPayload]
  run _ c s :=
    let p := c.payload
    let plan := buildPlan s (daysFromCivil (u16At p 2) (u8At p 4) (u8At p 5)) (u8At p 1)
    let v := curve s plan (u8At p 0) (u8At p 1) (u32At p 8)
    (s, ok (le16 v.level ++ le16 v.cct ++ le8 v.evaluated ++ le8 v.weekday ++ le16 v.scale))
def execLitSchedEval (op : CmdStep) (s : State) : Out := next (mailboxCommand litSchedEval op s)

/-- What a site or time-zone write does at its boundary beside the settings themselves (R103, R112, R122). -/
def scheduleRules (id mailbox : Nat) (s : State) : State :=
  if id == secSite then
    post 0x0410 mailbox (le16 0x0307) (buildPlans { s with sched := { s.sched with photocell := none } })
  else if id == secTz then
    post 0x0410 mailbox (le16 0x0308) (buildPlans (applyOffset { s with sched := { s.sched with tzExpired := false } }))
  else s

end Sys2Proof.Machine
end

