-- ==== Sys2Proof/Machine/Presence.lean ====
section
/-! DEFINITION. Presence reports, windows, the walk and its marks (R123–R129), and the LIT commands for speed classes, presence
reports and marks. -/

namespace Sys2Proof.Machine

/-! Reports (R124, R125). -/

def onLace (f : Lace → Lace) (s : State) : State := { s with lace := f s.lace }

/-- One report joins the open window's entry of its Pin. -/
def joinReport (pin count speed heading : Nat) (s : State) : State :=
  let w := s.lace.window
  match tabGet w pin with
  | none => onLace (fun l => { l with window := tabSet w pin { count := min count 15, speed := speed, heading := heading } }) s
  | some e =>
    let e' : Presence :=
      { count := min 15 (e.count + count), speed := max e.speed speed,
        heading := if e.speed < speed then heading else if speed < e.speed then e.heading else if e.heading = heading then heading else 15 }
    onLace (fun l => { l with window := tabSet w pin e', presMerged := l.presMerged + 1,
                              presSat := if 15 < e.count + count then l.presSat + 1 else l.presSat }) s

/-- A radio report: one from a Pin that is not a valid radio Pin is dropped (R125). -/
def radioReport (pin count speed heading : Nat) (s : State) : State :=
  if isRadio (pinConf s.tab.live pin) then joinReport pin count speed heading s
  else onLace (fun l => { l with presDrop := l.presDrop + 1 }) s

/-- Step 1 of R25: the window closes, and each Pin's presence count is written. -/
def closePresence (s : State) : State :=
  let w := s.lace.window
  { s with lace := { s.lace with closed := w, window := [] },
           tab := { s.tab with state := s.tab.state.map fun e => (e.1, { e.2 with presence := (tabGetD w e.1 default).count }) } }

/-! Speed classes (Table 6.1). -/

def speedField (s : State) (sc off : Nat) : Nat := setU16 s secSpeeds (12 * sc + off)
def spAhead (s : State) (sc : Nat) : Nat := speedField s sc 0
def spBehind (s : State) (sc : Nat) : Nat := speedField s sc 2
def spHold (s : State) (sc : Nat) : Nat := speedField s sc 4
def spFloor (s : State) (sc : Nat) : Nat := speedField s sc 6
def spStep (s : State) (sc : Nat) : Nat := setU8 s secSpeeds (12 * sc + 8)
def spMin (s : State) (sc : Nat) : Nat := setU8 s secSpeeds (12 * sc + 9)

def speedOk (b : Bytes) : Bool :=
  u16At b 0 ≤ 5000 && u16At b 2 ≤ 5000 && 1 ≤ u16At b 4 && u16At b 4 ≤ 3600 && u16At b 6 ≤ 1023 && u8At b 8 ≤ 15 &&
    1 ≤ u8At b 9 && u8At b 9 ≤ 15 && u16At b 10 == 0

/-! The walk (R127). -/

/-- R127's `follows`, with the neighbour's validity. -/
def follows (w sc c : Nat) (valid : Bool) : Bool :=
  if eNoWalk w || !valid then false
  else if eVehicleOnly w && sc < 2 then false
  else if eFootOnly w && 2 ≤ sc then false
  else if eCrossing w || 8 ≤ eDir w || c = 15 then true
  else [6, 7, 0, 1, 2].contains ((eDir w + 8 - c) % 8)

/-- A heap entry: distance, Pin, course. -/
structure WalkEntry where
  dist : Nat
  pin : Nat
  course : Nat
  deriving DecidableEq, Repr, Inhabited

/-- Inserts behind entries of equal distance and Pin. -/
def heapPush (e : WalkEntry) : List WalkEntry → List WalkEntry
  | [] => [e]
  | x :: t => if e.dist < x.dist ∨ (e.dist = x.dist ∧ e.pin < x.pin) then e :: x :: t else x :: heapPush e t

/-- The entries a marked Pin's edges give. -/
def walkEdges (s : State) (sc reach : Nat) (e : WalkEntry) : List WalkEntry :=
  (edgeWords (pinEdges s.tab.live e.pin)).filterMap fun w =>
    if !follows w sc e.course (tabGet s.tab.live.pins (eNeighbour w)).isSome then none
    else if reach < e.dist + eDist w then none
    else some { dist := e.dist + eDist w, pin := eNeighbour w, course := if 8 ≤ eDir w then e.course else eDir w }

/-- Pins marked by one walk, and whether it was cut at 64. -/
def walkLoop (s : State) (sc reach : Nat) : Nat → List WalkEntry → List Nat → List Nat × Bool
  | 0, _, seen => (seen, false)
  | fuel + 1, heap, seen =>
    match heap with
    | [] => (seen, false)
    | e :: rest =>
      if 64 ≤ seen.length then (seen, heap.any fun x => !seen.contains x.pin)
      else if seen.contains e.pin then walkLoop s sc reach fuel rest seen
      else walkLoop s sc reach fuel ((walkEdges s sc reach e).foldl (fun h x => heapPush x h) rest) (e.pin :: seen)

def walk (s : State) (src sc c0 reach : Nat) : List Nat × Bool :=
  walkLoop s sc reach 640 [{ dist := 0, pin := src, course := c0 }] []

/-- mark(p, sc): the expiry of the class at the Pin (R128). -/
def markPin (sc : Nat) (expiry : U32) (t : Tab (List (Option U32))) (p : Nat) : Tab (List (Option U32)) :=
  tabSet t p (listSet (tabGetD t p [none, none, none, none]) sc (some expiry))

/-- One walk's marks and its count under WALK_TRUNC. -/
def doWalk (src sc c0 reach : Nat) (s : State) : State :=
  let (pins, cut) := walk s src sc c0 reach
  let expiry := stitchIn s (spHold s sc * perSec s)
  onLace (fun l => { l with marks := pins.foldl (markPin sc expiry) l.marks, walkTrunc := if cut then l.walkTrunc + 1 else l.walkTrunc }) s

/-- The walks of one source. -/
def walkSource (s : State) (e : Nat × Presence) : State :=
  let (p, r) := e
  if (tabGet s.tab.live.pins p).isNone then onLace (fun l => { l with presDrop := l.presDrop + 1 }) s
  else if spMin s r.speed ≤ r.count then
    let s := onLace (fun l => { l with walkSrc := l.walkSrc + 1 }) s
    if r.heading = 15 then doWalk p r.speed 15 (spAhead s r.speed) s
    else doWalk p r.speed ((r.heading + 4) % 8) (spBehind s r.speed) (doWalk p r.speed r.heading (spAhead s r.speed) s)
  else s

/-! Marks (R128). -/

/-- Classes with an active mark. -/
def activeClasses (s : State) (p : Nat) : List Nat :=
  (upTo 4).filter fun sc =>
    match (tabGetD s.lace.marks p []).getD sc none with
    | some x => serialBefore s.stitch.number x
    | none => false

def outOf (s : State) (p : Nat) : SchedOut := tabGetD s.sched.out p default

def maxOf (l : List Nat) : Nat := l.foldl max 0

/-- Effective STEP and FLOOR, 0 under NO_STEP_UP. -/
def effStep (s : State) (p : Nat) : Nat := if (outOf s p).noStepUp then 0 else maxOf ((activeClasses s p).map (spStep s))
def effFloor (s : State) (p : Nat) : Nat := if (outOf s p).noStepUp then 0 else maxOf ((activeClasses s p).map (spFloor s))

/-- Every reset and every change of period clears the marks. -/
def clearMarks (s : State) : State := onLace (fun l => { l with marks := [] }) s

/-! LIT commands. -/

def litSpeedWrite : CmdSpec := litWrite 0x0312 secSpeeds
  (fun p => checks [lenIs p 48, items 4 fun k => if speedOk (slice p (12 * k) 12) then none else some stBadPayload]) (fun _ => 0) id
def execLitSpeedWrite (op : CmdStep) (s : State) : Out := next (mailboxCommand litSpeedWrite op s)

/-- A read of one whole section. -/
def sectionRead (opcode : Nat) (n : Needs) (id : Nat) : CmdSpec where
  opcode := opcode
  needs := n
  check _ p _ := emptyPayload p
  run _ _ s := (s, ok (sect s id))

def execLitSpeedRead (op : CmdStep) (s : State) : Out := next (mailboxCommand (sectionRead 0x0313 rScheduleRead secSpeeds) op s)

/-- One item of a LIT_PRESENCE_REPORT. -/
def reportItem (p : Bytes) (k : Nat) : Nat × Nat × Nat × Nat :=
  let o := 4 + 4 * k
  (u16At p o, u8At p (o + 2), u8At p (o + 3) % 4, field (u8At p (o + 3)) 7 4)

def reportCheck (p : Bytes) (s : State) : Chk :=
  checks [need (4 ≤ p.length) stBadPayload, lenIs p (4 + 4 * u16At p 0), reserved p 2 2, need (1 ≤ u16At p 0 && u16At p 0 ≤ 256) stRange,
    items (u16At p 0) fun k =>
      let (pin, count, _, h) := reportItem p k
      if u8At p (4 + 4 * k + 3) &&& 0x0C == 0 && 1 ≤ count && count ≤ 15 && (h ≤ 7 || h == 15) && (tabGet s.tab.projected.pins pin).isSome
      then none else some stBadPayload]

/-- LIT_PRESENCE_REPORT takes effect at the commit that accepts it (R151, R368); nothing is left to execute. -/
def litPresenceReport : CmdSpec where
  opcode := 0x0314
  needs := rPresenceWrite
  check _ p s := reportCheck p s
  run _ _ s := (s, .effect s.stitch.number (leW s.stitch.number))
def execLitPresenceReport (op : CmdStep) (s : State) : Out := next (mailboxCommand litPresenceReport op s)

/-- Its reports join the window open at the commit. -/
def presenceCommitted (p : Bytes) (s : State) : State :=
  (upTo (u16At p 0)).foldl (fun t k => let (pin, count, sc, h) := reportItem p k; joinReport pin count sc h t) s

/-- What LIT_MARK_READ gives of a Pin: active classes, STEP, FLOOR, DR. -/
def markRecord (s : State) (p : Nat) : Bytes :=
  le8 (maskOfItems 4 (activeClasses s p)) ++ le8 (effStep s p) ++ le16 (effFloor s p) ++ le16 (tabGetD s.lace.requests p 0)

def litMarkRead : CmdSpec where
  opcode := 0x0318
  needs := rScheduleRead
  check _ p _ := checks [lenIs p 4, need (1 ≤ u16At p 2 && u16At p 2 ≤ 256) stRange, entryRange (u16At p 0) (u16At p 2) 9216]
  run _ c s := (s, ok ((span (u16At c.payload 0) (u16At c.payload 2)).flatMap fun p => le16 p ++ tabGetD s.lace.markRecords p (zeros 6)))
def execLitMarkRead (op : CmdStep) (s : State) : Out := next (mailboxCommand litMarkRead op s)

end Sys2Proof.Machine
end

