-- ==== Sys2Proof/Machine/Solver.lean ====
section
/-! DEFINITION. The photometric solver and Darning (R130–R149), the Lace engines, and the LIT commands of the classes, solver
settings and solve records. -/

namespace Sys2Proof.Machine

/-! fp32 sums (R139). -/

/-- Adds a list pairwise until one value is left. -/
def pairs : List Rat → List Rat
  | a :: b :: t => fadd a b :: pairs t
  | l => l

def addTree : Nat → List Rat → Rat
  | 0, l => l.headD 0
  | k + 1, l => addTree k (pairs l)

/-- The `code`-th order of a list: each element once. -/
def permuted {α : Type} : Nat → Nat → List α → List α
  | 0, _, _ => []
  | k + 1, code, l =>
    match l[code % l.length]? with
    | none => []
    | some x => x :: permuted k (code / l.length) (l.eraseIdx (code % l.length))

/-- A sum over grid points: 32 lanes of every 32nd term in ascending order, each term added exactly and rounded, then the
fixed tree. -/
def laneSum (terms : List Rat) : Rat :=
  let lane := fun r => ((terms.zipIdx.filter fun e => e.2 % 32 == r).map (·.1)).foldl (fun acc t => r32 (acc + t)) 0
  addTree 5 ((permuted 32 Config.laneOrder (upTo 32)).map lane)

/-- Sums over columns, in ascending order. -/
def colSum (terms : List Rat) : Rat := terms.foldl (fun acc t => r32 (acc + t)) 0

/-! The model of a road segment in a Stitch. -/

/-- A Ground column (Table 6.3). -/
structure Column where
  pin : Nat
  free : Bool
  failed : Bool
  lo : Nat
  hi : Nat
  /-- Nominal power in 0.1 W of a free column, else 0. -/
  watts : Nat
  /-- Issued level of a fixed column; of a free column while COLD. -/
  fixedLevel : Nat
  a : List Rat
  deriving DecidableEq, Repr, Inhabited

def pinSampled (s : State) (p : Nat) : PinState := tabGetD s.tab.sampled p default

/-- R146 without its road-segment condition. -/
def failedClass (t : PinState) : Bool := 1 ≤ t.failure && t.failure ≤ 7 && !t.switchedOff

/-- Darning request in force for a Pin. -/
def requestOf (s : State) (p : Nat) : Nat := tabGetD s.lace.requests p 0

/-- Table 6.3's row for a Pin. -/
def columnOf (s : State) (p : Nat) (a : List Rat) : Column :=
  let o := outOf s p
  let t := pinSampled s p
  let fixed := fun m i => ({ pin := p, free := false, failed := false, lo := m, hi := m, watts := 0, fixedLevel := i, a := a } : Column)
  if !o.lit then fixed 0 0
  else if t.switchedOff then fixed o.level o.level
  else if failedClass t then { fixed 0 o.level with failed := true }
  else if t.held || t.failsafe then
    (if t.commanded = 0xFFFF then fixed 0 o.level else fixed t.commanded t.commanded)
  else
    { pin := p, free := true, failed := false, lo := min o.upper (max (max o.level (effFloor s p)) (requestOf s p)), hi := o.upper,
      watts := cWatts (pinConf s.tab.live p), fixedLevel := min o.upper (max o.safeFloor (effFloor s p)), a := a }

def watt (c : Column) : Rat := r32 ((c.watts : Rat) / 10)
def unit (level : Nat) : Rat := fdiv (level : Rat) 1023

/-- Element A[i][j] of a Ground. -/
def groundA (r : Ground) (i j : Nat) : Rat := fp16Value (u16At r.record (64 * i + 2 * j))
def groundF (r : Ground) (i : Nat) : Nat := u8At r.record (16384 + 2 * i)
def groundNc (r : Ground) (i : Nat) : Nat := u8At r.record (16385 + 2 * i)

def columnsOf (s : State) (g : Nat) (r : Ground) : List Column :=
  (gPins (segEntry s.tab.live g)).zipIdx.map fun (p, j) => columnOf s p ((upTo r.points).map fun i => groundA r i j)

/-- R131: requirement of grid point `i`. -/
def requirement (s : State) (g : Nat) (r : Ground) (i : Nat) : Rat :=
  let e := segEntry s.tab.live g
  let pin := (gPins e).getD (groundNc r i) 0
  let k := min 15 (gClass e + effStep s pin)
  fdiv (fmul (fmul (r32 (1 / 100)) (setU16 s secClasses (2 * k) : Rat)) (groundF r i : Rat)) 255

/-! Descent (R139). -/

/-- Work of the descent: x by column, e by grid point. -/
structure Descent where
  x : List Rat
  e : List Rat
  deriving DecidableEq, Repr, Inhabited

def clampR (v lo hi : Rat) : Rat := max lo (min v hi)
def zip3 {α β γ : Type} (f : α → β → γ) (a : List α) (b : List β) : List γ := List.zipWith f a b

/-- Illuminance of each grid point: Σ over columns, each product exact. -/
def illuminance (cols : List Column) (x : List Rat) (m : Nat) : List Rat :=
  (upTo m).map fun i => colSum (List.zipWith (fun c v => c.a.getD i 0 * v) cols x)

def multiplier (rho mu b e : Rat) : Rat := max 0 (fadd mu (fmul rho (fsub b e)))

/-- One coordinate step for column `j`. -/
def descentColumn (rho : Rat) (b mu : List Rat) (d : Descent) (jc : Nat × Column) : Descent :=
  let (j, c) := jc
  let dj := laneSum (c.a.map fun v => v * v)
  if !c.free || dj = 0 then d
  else
    let q := List.zipWith (fun m be => multiplier rho m be.1 be.2) mu (b.zip d.e)
    let g := fsub (watt c) (laneSum (List.zipWith (· * ·) c.a q))
    let xj := d.x.getD j 0
    let xn := clampR (fsub xj (fdiv g (fmul rho dj))) (unit c.lo) (unit c.hi)
    let dx := fsub xn xj
    { x := listSet d.x j xn, e := List.zipWith (fun e v => r32 (e + v * dx)) d.e c.a }

def descentPass (rho : Rat) (b mu : List Rat) (cols : List Column) (d : Descent) : Descent :=
  (cols.zipIdx.map fun (c, j) => (j, c)).foldl (descentColumn rho b mu) d

def iterate {α : Type} (f : α → α) : Nat → α → α
  | 0, a => a
  | n + 1, a => iterate f n (f a)

/-- x, the multipliers kept for the bound, and the new multipliers. -/
structure Descended where
  x : List Rat
  lam : List Rat
  mu : List Rat
  deriving DecidableEq, Repr, Inhabited

def descend (iter k : Nat) (cols : List Column) (b x mu : List Rat) : Descended :=
  let sb := laneSum (b.map fun v => fmul v v)
  let sw := colSum (cols.map watt)
  if sb = 0 ∨ sw = 0 then { x := cols.map fun c => unit c.lo, lam := mu, mu := mu }
  else
    let rho := fdiv (fmul (k : Rat) sw) sb
    let x0 := List.zipWith (fun v c => clampR v (unit c.lo) (unit c.hi)) x cols
    let d := iterate (descentPass rho b mu cols) iter { x := x0, e := illuminance cols x0 b.length }
    { x := d.x, lam := mu, mu := List.zipWith (fun m be => multiplier rho m be.1 be.2) mu (b.zip d.e) }

/-! Quantization and repair (R141–R143). -/

def quantum (c : Column) (x : Rat) : Nat :=
  if c.free then max c.lo (min c.hi (fsub (fmul x 1023) (1 / 64)).ceil.toNat) else c.lo

/-- Levels, illuminances, raises, and the short points' causes so far. -/
structure Repair where
  levels : List Nat
  e : List Rat
  raises : Nat
  short : List Nat
  budget : Bool
  deriving DecidableEq, Repr, Inhabited

/-- The best free column at point `i`: most light per watt, ties to the lowest. -/
def bestColumn (cols : List Column) (levels : List Nat) (i : Nat) : Option Nat :=
  (cols.zip levels).zipIdx.foldl (fun best e =>
    let ((c, l), j) := e
    if c.free && l < c.hi && decide (0 < c.a.getD i 0) then
      match best with
      | none => some j
      | some k =>
        let o := cols.getD k default
        if c.a.getD i 0 * watt o > o.a.getD i 0 * watt c then some j else best
    else best) none

/-- R143's cause at point `i`: 0 FAILED, 1 CAP, 2 LIMIT, 3 BUDGET. -/
def shortCause (cols : List Column) (levels : List Nat) (i : Nat) : Nat :=
  let lit := (cols.zip levels).filter fun e => decide (0 < e.1.a.getD i 0)
  if lit.any fun e => e.1.failed then 0
  else if lit.any fun e => e.1.free && e.1.hi < 1023 then 1
  else if lit.all fun e => !e.1.free || 1023 ≤ e.2 then 2
  else 3

/-- R141's while loop at one point. -/
def repairPoint (cols : List Column) (b : Rat) (i : Nat) : Nat → Repair → Repair
  | 0, r => r
  | fuel + 1, r =>
    let ei := r.e.getD i 0
    if fmul b (1 - 1 / 1048576) ≤ ei then r
    else if r.raises = 288 then { r with short := r.short ++ [3], budget := true }
    else
      match bestColumn cols r.levels i with
      | none => { r with short := r.short ++ [shortCause cols r.levels i] }
      | some j =>
        let c := cols.getD j default
        let l := r.levels.getD j 0
        let raise_ := min (c.hi - l) (fdiv (fmul (fsub b ei) 1023) (c.a.getD i 0)).ceil.toNat
        let dx := unit raise_
        repairPoint cols b i fuel { r with levels := listSet r.levels j (l + raise_),
                                           e := List.zipWith (fun v a => r32 (v + a * dx)) r.e c.a, raises := r.raises + 1 }

def repair (cols : List Column) (b : List Rat) (x : List Rat) : Repair :=
  let levels := List.zipWith quantum cols x
  let r0 : Repair := { levels := levels, e := illuminance cols (levels.map unit) b.length, raises := 0, short := [], budget := false }
  b.zipIdx.foldl (fun r e => repairPoint cols e.1 e.2 290 r) r0

/-! The energy gap (R144). -/

/-- P in mW over the free columns' levels, rounded up. -/
def power (cols : List Column) (levels : List Nat) : Nat :=
  let sum := (List.zipWith (fun c l => if c.free then c.watts * l * 100 else 0) cols levels).sum
  (sum + 1022) / 1023

/-- P_lb in mW, rounded down. -/
def powerBound (cols : List Column) (b lam : List Rat) : Nat :=
  let c := cols.map fun k => fsub (watt k) (laneSum (List.zipWith (· * ·) k.a lam))
  let lb := laneSum (List.zipWith fmul lam b)
  let dual := fadd lb (colSum (List.zipWith (fun k v => min (fmul v (unit k.lo)) (fmul v (unit k.hi))) cols c))
  let del := fmul (1 / 65536) (fadd lb (colSum (c.map absR)))
  let least := fmul (1 - 1 / 65536) (colSum (cols.map fun k => fmul (watt k) (unit k.lo)))
  (max (fsub dual del) least * 1000).floor.toNat

/-- Lowest e / b in 1/4096, saturating. -/
def worstRatio (b e : List Rat) : Nat :=
  let l := ((b.zip e).filter fun p => decide (0 < p.1)).map fun p => (p.2 * 4096 / p.1).floor.toNat
  match minNat l with
  | none => 65535
  | some v => min v 65535

/-! One road segment's Stitch. -/

def solverIter (s : State) (cold : Bool) : Nat := if cold then setU8 s secSolver 1 else setU8 s secSolver 0
def segState (s : State) (g : Nat) : SegState := tabGetD s.lace.segs g default

def causeMask (l : List Nat) : Nat := maskOfItems 4 l

/-- DARK: every column has LIT = 0 (R132). -/
def isDark (s : State) (g : Nat) : Bool := (gPins (segEntry s.tab.live g)).all fun p => !(outOf s p).lit

def setIssued (l : List (Nat × Nat)) (t : Tab Nat) : Tab Nat := l.foldl (fun t e => tabSet t e.1 e.2) t

/-- SHORTFALL's record when it begins or ends (R143). -/
def shortfallEvent (g : Nat) (was now : Bool) (causes points : Nat) (s : State) : State :=
  postIf (was != now) 0x0503 g (edge now ++ le8 (if now then causes else 0) ++ le16 (if now then points else 0)) s

/-- DARN_RAISED of Pins (R147). -/
def setDarnBits (l : List (Nat × Bool)) (s : State) : State :=
  { s with tab := { s.tab with state := l.foldl (fun st e => tabModify st e.1 fun x => { x with darnRaised := e.2 }) s.tab.state } }

/-- A DARK road segment issues 0 to all its Pins, and none of them is DARN_RAISED. -/
def darkSegment (g : Nat) (s : State) : State :=
  let z := segState s g
  let pins := gPins (segEntry s.tab.live g)
  let s := setDarnBits (pins.map (·, false)) (shortfallEvent g z.shortfall false 0 0 s)
  onLace (fun l => { l with issued := setIssued (pins.map (·, 0)) l.issued,
                            segs := tabSet l.segs g { z with state := 2, levels := pins.map fun _ => 0, shortfall := false, causes := 0, shortPts := 0, p := 0, plb := 0,
                                                             stitch := s.stitch.number, worst := 0, failedPins := 0, markedPins := 0,
                                                             raises := 0, drIn := false, budgetSpent := false } }) s

/-- R139–R145 for one solvable road segment. Its levels wait for the Darning task. -/
def solveSegment (g : Nat) (r : Ground) (s : State) : State :=
  let z := segState s g
  let cols := columnsOf s g r
  let b := (upTo r.points).map (requirement s g r)
  let cold := 0 < z.cold
  let first_ := z.fresh || z.x.length != cols.length || z.mu.length != b.length
  let x0 := if first_ then cols.map fun c => unit c.lo else z.x.map fun w => fp32Value w.toNat
  let mu0 := if first_ then b.map fun _ => 0 else z.mu.map fun w => fp32Value w.toNat
  let d := descend (solverIter s cold) (setU16 s secSolver 8) cols b x0 mu0
  let rp := repair cols b d.x
  let issued := (cols.zip rp.levels).map fun e => if e.1.free && !cold then e.2 else e.1.fixedLevel
  let short := rp.short.length
  let causes := causeMask rp.short
  let words := fun l : List Rat => l.map fun v => BitVec.ofNat 32 (fp32Bits v)
  let s := shortfallEvent g z.shortfall (short != 0) causes short s
  let z' : SegState :=
    { z with fresh := false, levels := issued, x := words d.x, mu := words d.mu, state := if cold then 3 else 4,
             shortfall := short != 0, causes := causes, shortPts := short, p := power cols issued,
             plb := if short != 0 then 0 else powerBound cols b d.lam, stitch := s.stitch.number, worst := worstRatio b rp.e,
             failedPins := (cols.filter (·.failed)).length, markedPins := (cols.filter fun c => activeClasses s c.pin != []).length,
             raises := rp.raises, budgetSpent := rp.budget, drIn := cols.any fun c => c.free && requestOf s c.pin != 0, solvedNow := true }
  onLace (fun l => { l with segs := tabSet l.segs g z',
                            repairRaises := l.repairRaises + BitVec.ofNat 32 rp.raises,
                            repairBudget := if rp.budget then l.repairBudget + 1 else l.repairBudget }) s

/-! Task chain (R138). -/

def halfOf (s : State) (e : Nat) : List Nat := tabGetD s.lace.halves e []

/-- A Bobbin streams a road segment's matrix into the free half of its engine's memory, and its completion makes the solve task READY
(R138). The stream takes no time here; the task's slot is taken as it starts (DESIGN CHOICE). -/
def streamSeg (s : State) (g : Nat) : State :=
  match (segState s g).engine with
  | none => s
  | some e =>
    if (halfOf s e).length < 2 then
      streamPulse (newTask (.solve g) false (nextStitch s) 0 0)
        (onLace (fun l => { l with streams := l.streams.erase g, halves := tabSet l.halves e (halfOf s e ++ [g]) }) s)
    else s

/-- Streams that find a free half begin, in ascending road-segment order. -/
def stream (s : State) : State := s.lace.streams.foldl streamSeg s

/-- A half is free once its solve has ended. -/
def freeHalf (g : Nat) (s : State) : State :=
  onLace (fun l => { l with halves := l.halves.map fun e => (e.1, e.2.filter (· != g)) }) s

/-- The Ground streams of the Stitch start: each solvable road segment that is not DARK is streamed. -/
def startStreams (s : State) : State :=
  if s.lace.streamsStarted then s
  else
    let segs := ((s.lace.segs.filter fun e => e.2.solvable && e.2.engine.isSome).map (·.1))
    let s := onLace (fun l => { l with streamsStarted := true, streams := segs.filter fun g => !isDark s g }) s
    stream ((segs.filter (isDark s)).foldl (fun t g => darkSegment g t) s)

/-- PRESENCE_WALK: sources in ascending Pin order are walked and marked; completion starts the streams (R127, R129). -/
def execPresenceWalk (s : State) : Out :=
  if taskRunning s .walk then
    let t := s.lace.closed.foldl walkSource s
    next (if t.lace.streamsStarted then freeTask .walk t else endBeforeFade .walk (startStreams t))
  else next s

/-- WALK_LATE: a walk not complete 6 ms after the release lets the streams start, and counts. -/
def execWalkLate (s : State) : Out :=
  if s.tmb.slots.any (fun t => t.kind == .walk) && !s.lace.streamsStarted then
    let s := startStreams (onLace (fun l => { l with walkLate := l.walkLate + 1 }) s)
    next (if fadeDue s .walk then postTask srcEngine (fadeTask s) s else s)
  else next s

/-- SOLVE_AND_REPAIR: one road segment's iterations, quantization, repair and bound; its Darning task becomes READY. -/
def execSolveAndRepair (seg : Nat) (s : State) : Out :=
  if taskRunning s (.solve seg) then
    let t := match matching s seg with
      | some r => if isDark s seg then darkSegment seg s else solveSegment seg r s
      | none => s
    next (stream (freeHalf seg (postFrom (.solve seg) (newTask (.darn seg) false (nextStitch t) 0 0) t)))
  else next s

/-! Darning (R146–R148). -/

/-- Road segments that are solvable, by Pin. -/
def solvableSegOf (s : State) (p : Nat) : Option Nat :=
  let b := pinConf s.tab.live p
  if isLighting b && cSeg b ≤ 1023 && (segState s (cSeg b)).solvable then some (cSeg b) else none

/-- R146. -/
def isFailed (s : State) (p : Nat) : Bool := (solvableSegOf s p).isSome && failedClass (pinSampled s p)

/-- An edge within R147's terms. -/
def darnEdge (s : State) (w : Nat) : Bool := !eNoWalk w && eDist w ≤ setU16 s secSolver 4
/-- Pins linked to `p` by such an edge in either direction. -/
def darnNeighbours (s : State) (p : Nat) : List Nat :=
  let own := ((edgeWords (pinEdges s.tab.live p)).filter (darnEdge s)).map eNeighbour
  let others := (s.tab.live.edges.filter fun e => (edgeWords e.2).any fun w => darnEdge s w && eNeighbour w == p).map (·.1)
  (own ++ others).eraseDups

/-- DARN_RAISED of one Pin of the road segment. -/
def darnBit (s : State) (p : Nat) : Bool :=
  (darnNeighbours s p).any (isFailed s) && (outOf s p).level < tabGetD s.lace.issued p 0

/-- R148: requests that one failed Pin posts. -/
def darnRequests (s : State) (g f : Nat) : List (Nat × Nat) :=
  (darnNeighbours s f).filterMap fun q =>
    match solvableSegOf s q with
    | none => none
    | some h =>
      if h != g && (columnOf s q []).free then some (q, min (outOf s q).upper ((outOf s q).level + setU16 s secSolver 6)) else none

def postRequest (t : Tab Nat) (e : Nat × Nat) : Tab Nat := tabSet t e.1 (max (tabGetD t e.1 0) e.2)

/-- The packet of a road segment's issued levels to its engine's Skein (R138): id, count, and the levels in Pin list order. The spec
gives no layout (DESIGN CHOICE). -/
def levelPacket (g : Nat) (levels : List Nat) : Bytes := le16 g ++ le16 levels.length ++ levels.flatMap le16

/-- The Darning task writes the levels of the Stitch's solve; the fade unit reads the packet as it comes. -/
def writeLevels (g : Nat) (s : State) : State :=
  let z := segState s g
  let s := onLace (fun l => { l with issued := setIssued ((gPins (segEntry s.tab.live g)).zip z.levels) l.issued }) s
  match z.engine with
  | some e => throughSkein (16 + e) (levelPacket g z.levels) s
  | none => s

/-- DARNING: the issued levels, DARN_RAISED on the road segment's Pins, requests to other segments, and the end of its chain. -/
def execDarning (seg : Nat) (s : State) : Out :=
  if taskRunning s (.darn seg) then
    let pins := gPins (segEntry s.tab.live seg)
    let s := writeLevels seg s
    let bits := pins.map fun p => (p, darnBit s p)
    let reqs := (pins.filter (isFailed s)).flatMap (darnRequests s seg)
    next (endBeforeFade (.darn seg) (onLace (fun l => { l with posted := reqs.foldl postRequest l.posted }) (setDarnBits bits s)))
  else next s

/-! At a boundary (R137, R145, R149). -/

def coldStart (reason g : Nat) (s : State) : State :=
  let z := segState s g
  post 0x0504 g (le8 reason) (onLace (fun l => { l with segs := tabSet l.segs g { z with cold := setU8 s secSolver 2, fresh := true } }) s)

def segsOn (s : State) (e : Nat) : Nat := (s.lace.segs.filter fun z => z.2.engine == some e).length
def inServiceEngines (s : State) : List Nat := (upTo 8).filter fun e => s.lace.inService.getD e false

/-- The in-service engine with the fewest road segments, the lowest-numbered on a tie. -/
def fewest (s : State) : Option Nat :=
  (inServiceEngines s).foldl (fun b e => match b with | none => some e | some k => if segsOn s e < segsOn s k then some e else b) none

def setSeg (g : Nat) (f : SegState → SegState) (s : State) : State :=
  onLace (fun l => { l with segs := tabSet l.segs g (f (segState s g)) }) s

/-- A solvable road segment without an engine gets one and becomes COLD. -/
def assignSeg (k : Option Nat) (reason g : Nat) (s : State) : State :=
  match k with
  | none => s
  | some e => coldStart reason g (setSeg g (fun z => { z with engine := some e }) s)

/-- Solvability and engine of one road segment at a boundary; `k` counts the solvable ones before it. -/
def segBoundary (acc : State × Nat) (g : Nat) : State × Nat :=
  let (s, k) := acc
  let z := segState s g
  let n := gCount (segEntry s.tab.live g)
  match whyUnsolved s g with
  | some _ =>
    let s := shortfallEvent g z.shortfall false 0 0 s
    (setSeg g (fun z => { z with solvable := false, engine := none, state := 1, shortfall := false, causes := 0, shortPts := 0, pinCount := n, cold := 0 }) s, k)
  | none =>
    let changed := z.solvable && z.engine.isSome && z.pinCount != n
    let s := setSeg g (fun z => { z with solvable := true, pinCount := n }) s
    if z.engine.isNone then
      if s.lace.assigned then (assignSeg (fewest s) 1 g s, k + 1) else (assignSeg (some (k % 8)) 0 g s, k + 1)
    else if changed then (coldStart 3 g s, k + 1)
    else (s, k + 1)

/-- Engines that failed leave service, and their road segments move and become COLD. -/
def moveSegs (s : State) : State :=
  let out := s.lace.leaving
  let s := onLace (fun l => { l with leaving := [] }) s
  if inServiceEngines s == [] then s
  else
    ((s.lace.segs.filter fun z => match z.2.engine with | some e => out.contains e | none => false).map (·.1)).foldl
      (fun t g => assignSeg (fewest (setSeg g (fun z => { z with engine := none }) t)) 2 g (setSeg g (fun z => { z with engine := none }) t)) s

/-- One road segment's LIT_SOLVE_READ record for the Stitch that ends (Table 6.9). -/
def solveRecord (g : Nat) (z : SegState) : Bytes :=
  le16 g ++ le8 z.state ++
    le8 (bitN z.shortfall 0 + 2 * z.causes + bitN z.heldByFray 5 + bitN z.drIn 6) ++ le16 z.shortPts ++
    le8 (z.engine.getD 0xFF) ++ le8 z.cold ++ le32 (satU 32 z.p) ++ le32 (satU 32 z.plb) ++ leW z.stitch ++ le16 z.worst ++
    le8 z.failedPins ++ le8 z.markedPins ++ le16 z.raises ++ zeros 6

/-- The Stitch that ends, for the lace: records, figures, and requests; a COLD Stitch has passed, solved or not (R145). `frayed` names road
segments whose task was cancelled; a solve whose stream never began Frays too. -/
def laceStitchEnd (frayed : List Nat) (s : State) : State :=
  let segs := s.lace.segs.map fun (g, z) =>
    let z := { z with heldByFray := frayed.contains g || s.lace.streams.contains g || (z.solvable && z.engine.isSome && inServiceEngines s == []),
                      cold := z.cold - 1 }
    (g, { z with record := solveRecord g z })
  let s := s.lace.streams.foldl (fun t g => fray (newTask (.solve g) false t.stitch.number 0 0) t) s
  let solved := segs.filter fun e => e.2.solvedNow
  let short := segs.filter fun e => e.2.shortfall
  let marked := ((s.lace.marks.map (·.1)) ++ (s.lace.requests.map (·.1))).eraseDups
  let recs := marked.foldl (fun t p => tabSet t p (markRecord s p)) []
  onLace (fun l => { l with
    segs := segs.map fun (g, z) => (g, { z with solvedNow := false }), markRecords := recs,
    solvedNow := solved.length, shortNow := short.length,
    shortPts := (short.map fun e => e.2.shortPts).sum, pSum := satU 32 (solved.map fun e => e.2.p).sum,
    plbSum := (solved.map fun e => e.2.plb).sum, shortCnt := l.shortCnt + BitVec.ofNat 32 short.length,
    requests := l.posted, posted := [], streamsStarted := false, streams := [], halves := [] }) s

/-- Step 3 for the lace: states are sampled, segments assigned, and DARN_RAISED cleared outside solvable road segments. -/
def laceBoundary (s : State) : State :=
  let s := { s with tab := { s.tab with sampled := s.tab.state } }
  let s := segEvents (moveSegs s)
  let used := usedSegs s
  let gone := s.lace.segs.filter fun e => !used.contains e.1
  let s := gone.foldl (fun t e => shortfallEvent e.1 e.2.shortfall false 0 0 t) s
  let s := onLace (fun l => { l with segs := l.segs.filter fun e => used.contains e.1 }) s
  let (s, _) := used.foldl segBoundary (s, 0)
  let s := onLace (fun l => { l with assigned := true, coldNow := (l.segs.filter fun e => e.2.cold != 0).length }) s
  let lit := fun p => (solvableSegOf s p).isSome
  let failed := (s.tab.state.filter fun e => isFailed s e.1).length
  { s with lace := { s.lace with darnFailed := failed },
           tab := { s.tab with state := s.tab.state.map fun e => (e.1, { e.2 with darnRaised := e.2.darnRaised && lit e.1 }) } }

/-- LACE_FAULT: the engine leaves service, recorded with its case; its road segments move at the next boundary (R149). -/
def execLaceFault (engine cause : Nat) (s : State) : Out :=
  if s.lace.inService.getD engine false && !s.lace.leaving.contains engine then
    next (post 0x0206 engine (le8 cause) (onLace (fun l => { l with leaving := l.leaving ++ [engine], inService := listSet l.inService engine false }) s))
  else next s

/-- LACE_CLEAR_STATS: the counters of the presence and solver registers return to 0 (R153). -/
def execLaceClearStats (s : State) : Out :=
  next (onLace (fun l => { l with walkSrc := 0, walkTrunc := 0, walkLate := 0, presSat := 0, presMerged := 0, presDrop := 0,
                                  shortCnt := 0, repairRaises := 0, repairBudget := 0 }) s)

/-! LIT commands (Table 6.8). -/

def litClassWrite : CmdSpec := litWrite 0x0310 secClasses (fun p => lenIs p 32) (fun _ => 0) id
def execLitClassWrite (op : CmdStep) (s : State) : Out := next (mailboxCommand litClassWrite op s)
def execLitClassRead (op : CmdStep) (s : State) : Out := next (mailboxCommand (sectionRead 0x0311 rScheduleRead secClasses) op s)

def solverOk (b : Bytes) : Bool :=
  1 ≤ u8At b 0 && u8At b 0 ≤ 16 && 8 ≤ u8At b 1 && u8At b 1 ≤ 32 && 1 ≤ u8At b 2 && u16At b 4 ≤ 1023 && u16At b 6 ≤ 1023 &&
    1 ≤ u16At b 8 && u16At b 8 ≤ 1024

def litSolverSet : CmdSpec := litWrite 0x0315 secSolver
  (fun p => checks [lenIs p 16, reserved p 3 1, reserved p 10 6, need (solverOk p) stBadPayload]) (fun _ => 0) id
def execLitSolverSet (op : CmdStep) (s : State) : Out := next (mailboxCommand litSolverSet op s)
def execLitSolverRead (op : CmdStep) (s : State) : Out := next (mailboxCommand (sectionRead 0x0316 rScheduleRead secSolver) op s)

def solveReadOf (s : State) (g : Nat) : Bytes :=
  match tabGet s.lace.segs g with
  | some z => if z.record = [] then le16 g ++ zeros 4 ++ le8 0xFF ++ zeros 25 else fit 32 z.record
  | none => le16 g ++ le8 0 ++ le8 0 ++ le16 0 ++ le8 0xFF ++ zeros 25

def litSolveRead : CmdSpec where
  opcode := 0x0317
  needs := rScheduleRead
  check _ p _ := checks [lenIs p 4, need (1 ≤ u16At p 2 && u16At p 2 ≤ 64) stRange, entryRange (u16At p 0) (u16At p 2) 1024]
  run _ c s := (s, ok ((span (u16At c.payload 0) (u16At c.payload 2)).flatMap (solveReadOf s)))
def execLitSolveRead (op : CmdStep) (s : State) : Out := next (mailboxCommand litSolveRead op s)

end Sys2Proof.Machine
end

