-- ==== Sys2Proof/Machine/Fade.lean ====
section
/-! DEFINITION. The fade curve (R154, R155), Pin command queues and their outcomes (R162, R215, R365), fade shaping (R157–R161),
the POWER class (R163), and the LIT commands of the fade settings and of outputs. -/

namespace Sys2Proof.Machine

def onFade (f : FadeUnit → FadeUnit) (s : State) : State := { s with fade := f s.fade }

/-! The fade curve (Table 7.1, R155). -/

def curveY (k : Nat) : Nat := [0, 7, 15, 28, 45, 69, 100, 140, 188, 247, 317, 399, 494, 603, 727, 866, 1023].getD k 1023

/-- Level at lightness index `u`. -/
def lvl (u : Nat) : Nat :=
  if 4096 ≤ u then 1023
  else
    let k := u / 256
    curveY k + ((curveY (k + 1) - curveY k) * (u - 256 * k) + 128) / 256

/-- Lightness index of level `v`. -/
def light (v : Nat) : Nat :=
  if 1023 ≤ v then 4096
  else
    let k := ((upTo 16).filter fun k => curveY k ≤ v).getLast?.getD 0
    let dy := curveY (k + 1) - curveY k
    256 * k + ((v - curveY k) * 256 + dy / 2) / dy

/-- Level of a fade from `a` to `b` over `total` ms, `te` ms after its start. -/
def fadeLevel (a b total te : Nat) : Nat :=
  if total ≤ te then b
  else if te = 0 then a
  else
    let ua : Int := light a
    let ub : Int := light b
    lvl (ua + tdiv ((ub - ua) * te) total).toNat

/-- Level of a fade now, on R158's reckoning. -/
def fadeNow (f : Fade) : Nat :=
  if f.fresh || f.delay != 0 then f.start else fadeLevel f.start f.target f.total f.elapsed

/-- The fade at the next boundary, `ms` later. -/
def fadeAdvance (ms : Nat) (f : Fade) : Fade :=
  if f.fresh then { f with fresh := false }
  else
    let d := min f.delay ms
    { f with delay := f.delay - d, elapsed := min f.total (f.elapsed + (ms - d)) }

def fading (f : Fade) : Bool := f.fresh || f.delay != 0 || f.elapsed < f.total
def fadeLeft (f : Fade) : Nat := (f.total - f.elapsed) / 10

/-- Level and CCT that a fade gives at the next boundary. -/
def fadeAtNext (s : State) (f : Fade) : Nat := fadeNow (fadeAdvance s.stitch.period f)

/-! Pin command queues. -/

def queueOf (s : State) (p : Nat) : List PinCmd := tabGetD s.fade.queues p []
def setQueue (p : Nat) (l : List PinCmd) (s : State) : State :=
  onFade (fun f => { f with queues := if l = [] then tabErase f.queues p else tabSet f.queues p l }) s
def modifyQueue (p : Nat) (f : PinCmd → PinCmd) (s : State) : State := setQueue p ((queueOf s p).map f) s

def pinState (s : State) (p : Nat) : PinState := tabGetD s.tab.state p default
def onPin (p : Nat) (f : PinState → PinState) (s : State) : State :=
  { s with tab := { s.tab with state := tabModify s.tab.state p f } }

def onAir (f : Air → Air) (s : State) : State := { s with air := f s.air }
def radioPin (s : State) (p : Nat) : RadioPin := tabGetD s.air.radio p default
def onRadio (p : Nat) (f : RadioPin → RadioPin) (s : State) : State :=
  onAir (fun a => { a with radio := tabSet a.radio p (f (tabGetD a.radio p default)) }) s

/-- Downlink sequence of the next command of a radio Pin: one more than the last given out (R187). -/
def nextDownSeq (s : State) (p : Nat) : Nat :=
  match (radioPin s p).lastSeq, (queueOf s p).getLast? with
  | some d, _ => (d + 1) % 256
  | none, some q => (q.downSeq + 1) % 256
  | none, none => ((pinState s p).downSeq + 1) % 256
def takeDownSeq (p d : Nat) (s : State) : State := onRadio p (fun r => { r with lastSeq := some d }) s

/-! A Pin's queue is held in the Skein of its serving Shuttle, 8–11, as journal entries (R215). -/

/-- The packet of an accepted command, once its Skein is allocated. One that finds no room waits with its writer and is not counted
(DESIGN CHOICE). -/
def queuePacket (n : Nat) (b : Bytes) (s : State) : State :=
  onSkein n (fun k => if k.en && fillOf k + wordsOf b.length ≤ 16 * k.size then placePacket b k else k) s

def packetOf (seq : U32) (p : Packet) : Bool := p.bytes.take 4 == leW seq

/-- The command's packet leaves the Skein. -/
def unqueuePacket (n : Nat) (seq : U32) (s : State) : State :=
  onSkein n (fun k => { k with packets := k.packets.filter fun p => !packetOf seq p,
                               reading := if k.packets.head?.any (packetOf seq) then none else k.reading }) s

/-- The packets of a Pin's queue move to its new serving Shuttle, in Pin order (R236). -/
def moveQueue (a b p : Nat) (s : State) : State :=
  (queueOf s p).foldl (fun t q =>
    match (skein t (8 + a)).packets.find? (packetOf q.seq) with
    | some k => queuePacket (8 + b) k.bytes (unqueuePacket (8 + a) q.seq t)
    | none => t) s

/-- A radio command's outcome, or a try left unacknowledged, passes to A1–A3 (Table 3.1): u32 sequence, u16 Pin, u8 outcome. The spec
gives no layout (DESIGN CHOICE). -/
def outcomePacket (k p code : Nat) (seq : U32) (s : State) : State := throughSkein (12 + k) (leW seq ++ le16 p ++ le8 code) s

/-- A new radio command joins the open batch and the Pin's queue (R162, R215, R224). -/
def joinRadio (p kind : Nat) (payload : Bytes) (s : State) : U32 × State :=
  let d := nextDownSeq s p
  let (seq, s) := joinWork jkPinCmd p (fun _ => le8 0 ++ le8 kind ++ le8 d ++ le8 0 ++ payload) (takeDownSeq p d s)
  let q : PinCmd := { seq := seq, chain := false, kind := kind, downSeq := d, payload := payload, committed := false, stitch := 0,
                      cycle := 0, tries := 0, due := 0, latched := false }
  (seq, setQueue p (queueOf s p ++ [q]) s)

def outDelivered : Nat := 0
def outFailed : Nat := 1
def outSuperseded : Nat := 2

/-- A Pin command is accepted: it may leave from now on, and PENDING is set. A radio command enters its Shuttle's Skein. -/
def pinAccepted (p : Nat) (n : U32) (e : JEntry) (s : State) : State :=
  if (queueOf s p).any fun q => q.seq == e.seq && !q.committed then
    let s := modifyQueue p (fun q => if q.seq == e.seq then { q with committed := true, stitch := n, cycle := s.time.cycle, due := n } else q) s
    let s := if u8At e.body 0 = 0 then queuePacket (8 + (pinState s p).serving) (entryImage e) s else s
    onPin p (fun t => { t with pending := true }) s
  else s

/-- A rising command has reached its final outcome: falls that waited for it are released (R159). -/
def orderDone (seq : U32) (s : State) : State :=
  onFade (fun f => { f with orderWait := (f.orderWait.map fun o => { o with rising := o.rising.filter (· != seq) }).filter fun o => o.rising != [] && o.seq != seq }) s

/-- The final outcome of a Pin command: its OUTCOME entry, the Pin's last delivered, its queue and PENDING. -/
def finalOutcome (p outcome : Nat) (q : PinCmd) (s : State) : State :=
  let s := joinRef q.seq jkOutcome p (le8 outcome ++ le8 q.tries ++ le16 0) s
  let left := (queueOf s p).filter fun c => c.seq != q.seq
  let s := orderDone q.seq (setQueue p left s)
  let s := if q.chain then s else outcomePacket (pinState s p).serving p outcome q.seq (unqueuePacket (8 + (pinState s p).serving) q.seq s)
  onPin p (fun t => { t with lastDelivered := q.seq, pending := left != [] }) s

/-- R218: L0 and K0 become the Pin's commanded level and CCT, and its fade is reckoned from there. -/
def resetTarget (p : Nat) (s : State) : State :=
  onFade (fun f => { f with last := tabErase f.last p, fades := tabErase f.fades p, waitingTargets := tabErase f.waitingTargets p }) s

/-- The fade unit sees a failed LEVEL from the next Stitch on (R84). -/
def resetTargets (s : State) : State := s.fade.resets.foldl (fun t p => resetTarget p t) (onFade (fun f => { f with resets := [] }) s)

/-! Fade settings (Table 7.7). -/

def upFade (s : State) : Nat := setU16 s secFade 0
def downFade (s : State) : Nat := setU16 s secFade 2
def deadband (s : State) : Nat := setU16 s secFade 4
def cctDeadband (s : State) : Nat := setU16 s secFade 6
def minGap (s : State) : Nat := setU8 s secFade 8
def ordered (s : State) : Bool := bit (setU8 s secFade 9) 0
def powerLo (s : State) : Nat := setU8 s secFade 10
def powerHi (s : State) : Nat := setU8 s secFade 11

/-! Shaping (R157–R161). -/

/-- What the fade unit decides for one Pin in a Stitch. -/
structure Shape where
  pin : Nat
  chain : Bool
  level : Nat
  cct : Nat
  /-- A command is due, PENDING apart. -/
  go : Bool
  /-- A fall is held back under R161. -/
  deferred : Bool
  rising : Bool
  falling : Bool
  known : Bool
  /-- Fade time in 10 ms. -/
  time : Nat
  seg : Option Nat
  deriving DecidableEq, Repr, Inhabited

/-- New target level and CCT of a lighting Pin: its issued level in a solvable road segment, else its schedule level, at most U (R117). -/
def targetOf (s : State) (p : Nat) : Option (Nat × Nat) :=
  (tabGet s.sched.out p).map fun o =>
    (min o.upper (if (solvableSegOf s p).isSome then tabGetD s.lace.issued p o.level else o.level), o.cct)

/-- L0 and K0. The fade unit reads what the Shuttles wrote as the Stitch sampled it (R84). -/
def lastTarget (s : State) (p : Nat) : Nat × Nat :=
  tabGetD s.fade.last p ((pinSampled s p).commanded, (pinSampled s p).cct)

def fadeTime (s : State) (conf : Bytes) (known rising falling : Bool) : Nat :=
  if !known then 0
  else if rising then min (cFade conf) (upFade s)
  else if falling then max (cFade conf) (downFade s)
  else cFade conf

def gapPassed (s : State) (p : Nat) : Bool :=
  match tabGet s.fade.lastAt p with
  | none => true
  | some n => minGap s ≤ (s.stitch.number - n).toNat

/-- R161 for a radio Pin, R162 for a chain Pin. -/
def shapeOf (s : State) (p : Nat) (conf : Bytes) : Option Shape :=
  match targetOf s p with
  | none => none
  | some (l, k) =>
    let chain := isChainPin conf
    let (l0, k0) := lastTarget s p
    let u := (outOf s p).upper
    let known := if chain then s.chain.shown.contains p && (tabGet s.fade.fades p).isSome else (pinSampled s p).commanded != 0xFFFF
    let rise := l0 < l
    let fall := l < l0
    let fallGo := fall && gapPassed s p && (l + deadband s ≤ l0 || l == 0 || u < l0)
    let cctGo := cctDeadband s ≤ absDiff k k0 || ((k == 0) != (k0 == 0))
    let go := if chain then tabGet s.fade.last p != some (l, k) else rise || fallGo || cctGo
    some { pin := p, chain := chain, level := l, cct := k, go := go, deferred := !chain && fall && !fallGo && !cctGo && !rise,
           rising := rise && known, falling := fall && known, known := known,
           time := fadeTime s conf known (rise && known) (fall && known), seg := solvableSegOf s p }

/-- Under PENDING, or while log space holds the fade unit (R369), the newest target waits: once it differs from that of the last command,
and then each new one replaces the older. -/
def waitTarget (h : Shape) (s : State) : State :=
  let new := (h.level, h.cct)
  match tabGet s.fade.waitingTargets h.pin with
  | none => if lastTarget s h.pin == new then s else onFade (fun f => { f with waitingTargets := tabSet f.waitingTargets h.pin new }) s
  | some old =>
    if old == new then s
    else onFade (fun f => { f with waitingTargets := tabSet f.waitingTargets h.pin new, cmdPendWait := f.cmdPendWait + 1 }) s

/-- The new fade starts from the level the running one has reached, capped at U. -/
def startFade (h : Shape) (delay : Nat) (s : State) : State :=
  let u := (outOf s h.pin).upper
  let now :=
    match tabGet s.fade.fades h.pin with
    | some f => fadeAtNext s f
    | none => if h.known then (pinSampled s h.pin).commanded else h.level
  let f : Fade := { start := if h.known then min now u else h.level, target := h.level, cct := h.cct, total := h.time * 10, elapsed := 0,
                    delay := delay * 10, fresh := true }
  let s := onFade (fun d => { d with fades := tabSet d.fades h.pin f, last := tabSet d.last h.pin (h.level, h.cct),
                                     lastAt := tabSet d.lastAt h.pin s.stitch.number, waitingTargets := tabErase d.waitingTargets h.pin }) s
  onPin h.pin (fun t => { t with target := h.level, fadeRemaining := h.time }) s

def levelPayload (level cct time delay : Nat) : Bytes := le8 0 ++ le16 level ++ le16 cct ++ le16 time ++ le16 delay

/-- One command is generated (R162), a radio Pin's new target through Skein 24; an older chain command is superseded in the same batch (R365). -/
def generate (h : Shape) (delay : Nat) (s : State) : U32 × State :=
  if h.chain then
    let old := queueOf s h.pin
    let (seq, s) := joinWork jkPinCmd h.pin (fun _ => le8 1 ++ le8 0 ++ le8 0 ++ le8 0 ++ le16 h.level ++ le16 h.cct) s
    let s := old.foldl (fun t q => finalOutcome h.pin outSuperseded q t) s
    let q : PinCmd := { seq := seq, chain := true, kind := 0, downSeq := 0, payload := le16 h.level ++ le16 h.cct, committed := false,
                        stitch := 0, cycle := 0, tries := 0, due := 0, latched := false }
    (seq, startFade h delay (onFade (fun f => { f with cmdChain := f.cmdChain + 1 }) (setQueue h.pin [q] s)))
  else
    let (seq, s) := joinRadio h.pin 1 (levelPayload h.level h.cct h.time delay) s
    let s := throughSkein 24 (le16 h.pin ++ levelPayload h.level h.cct h.time delay) s
    (seq, startFade h delay (onFade (fun f => { f with cmdGen := f.cmdGen + 1 }) s))

/-- Rising commands generated so far: road segment, sequence, fade time. -/
abbrev Rises := List (Nat × U32 × Nat)

def shapeRise (acc : State × Rises) (h : Shape) : State × Rises :=
  let (seq, s) := generate h 0 acc.1
  (s, match h.seg with | some g => if h.rising then acc.2 ++ [(g, seq, h.time)] else acc.2 | none => acc.2)

/-- R159: a fall waits for the longest rise of its road segment, and a radio fall for their outcomes. -/
def shapeFall (rises : Rises) (s : State) (h : Shape) : State :=
  let mine := match h.seg with | some g => rises.filter fun r => r.1 == g | none => []
  if !ordered s || mine = [] then (generate h 0 s).2
  else
    let (seq, s) := generate h (maxOf (mine.map fun r => r.2.2)) s
    if h.chain then s
    else onFade (fun f => { f with orderWait := f.orderWait ++ [{ seq := seq, pin := h.pin, rising := mine.map fun r => r.2.1 }] }) s

/-- All shapes of a Stitch: waiting and deferred ones counted, then rises before falls, each in Pin order. -/
def shapeAll (l : List Shape) (s : State) : State :=
  let blocked := fun h : Shape => s.jnl.prodHeld || (!h.chain && (pinSampled s h.pin).pending)
  let s := onFade (fun f => { f with deferred := (l.filter (·.deferred)).map (·.pin),
                                     cmdDefer := f.cmdDefer + BitVec.ofNat 32 (l.filter (·.deferred)).length }) s
  let s := (l.filter blocked).foldl (fun t h => waitTarget h t) s
  let free := (l.filter fun h => !blocked h).map (·.pin)
  let s := onFade (fun f => { f with waitingTargets := f.waitingTargets.filter fun e => !free.contains e.1 }) s
  let go := l.filter fun h => h.go && !blocked h
  let (s, rises) := (go.filter fun h => !h.falling).foldl shapeRise (s, [])
  (go.filter (·.falling)).foldl (shapeFall rises) s

def lightingPins (s : State) : List (Nat × Bytes) := s.tab.live.pins.filter fun e => isLighting e.2

/-! The chain's levels (R164). -/

/-- Level and CCT of a chain Pin at the next latch, at most U (R117); dark before its first target. -/
def chainLevel (s : State) (p : Nat) : Nat × Nat :=
  match tabGet s.fade.fades p with
  | some f => (min (outOf s p).upper (fadeAtNext s f), f.cct)
  | none => (0, 0)

/-- A packet of Skein 25: 512 Pins from `first`, each its level at the next latch and its CCT; zeros where no valid Pin stands. -/
def chainPacket (s : State) (pins : List Nat) (first : Nat) : Bytes :=
  (span first 512).flatMap fun p => if pins.contains p then le16 (chainLevel s p).1 ++ le16 (chainLevel s p).2 else zeros 4

/-- The fade unit writes the chain's levels to Skein 25, one packet for each range that holds a valid Pin, and the Chainstitch unit takes
them as they come. -/
def writeChain (s : State) : State :=
  let pins := (s.tab.live.pins.filter fun e => isChainPin e.2).map (·.1)
  let ranges := [8192, 8704].filter fun a => pins.any fun p => a ≤ p && p < a + 512
  let l := ranges.map fun a => (a, chainPacket s pins a)
  let s := l.foldl (fun t e => throughSkein 25 e.2 t) s
  { s with chain := { s.chain with packets := l, packetsAt := some s.stitch.number } }

/-- FADE_SHAPING: fades start for new targets, radio and chain commands are generated, and the chain's levels are written. -/
def execFadeShaping (s : State) : Out :=
  if taskRunning s .fade then
    next (writeChain (freeTask .fade (shapeAll ((lightingPins s).filterMap fun e => shapeOf s e.1 e.2) s)))
  else next s

/-- At a boundary every fade advances by the period that ends (R158), and the fade unit's fields follow. -/
def fadeBoundary (s : State) : State :=
  let fades := s.fade.fades.map fun e => (e.1, fadeAdvance s.stitch.period e.2)
  let s := onFade (fun f => { f with fades := fades }) s
  let shown := fun e : Nat × PinState =>
    match tabGet fades e.1 with
    | some f => (e.1, { e.2 with fadeRemaining := fadeLeft f })
    | none => (e.1, { e.2 with fadeRemaining := 0 })
  { s with tab := { s.tab with state := s.tab.state.map shown } }

/-- Fades, targets and outcomes of Pins that are no longer valid are dropped, and the R118 condition of Pins that light nothing ends. -/
def fadePrune (s : State) : State :=
  let ok := fun p => (tabGet s.tab.live.pins p).isSome
  let lit := fun p => isLighting (pinConf s.tab.live p)
  let s := { s with sched := { s.sched with cctUnmet := s.sched.cctUnmet.filter lit } }
  onFade (fun f => { f with fades := f.fades.filter fun e => ok e.1, last := f.last.filter fun e => ok e.1,
                            lastAt := f.lastAt.filter fun e => ok e.1, waitingTargets := f.waitingTargets.filter fun e => ok e.1,
                            powerOut := f.powerOut.filter fun e => ok e.1, resets := f.resets.filter ok }) s

/-! The POWER class (R163). Power reports are in 0.1 W. -/

/-- Twice the report within the band's edges, in exact arithmetic: W × L / 1023 × P / 100 ∓ 1.0 W. -/
def powerInBand (s : State) (watts level report : Nat) : Bool :=
  let lo : Rat := (watts : Rat) * level / 1023 * powerLo s / 100 - 10
  let hi : Rat := (watts : Rat) * level / 1023 * powerHi s / 100 + 10
  decide (lo ≤ (report : Rat)) && decide ((report : Rat) ≤ hi)

/-- One power report of a radio Pin. -/
def powerReport (p report : Nat) (s : State) : State :=
  let t := pinState s p
  let conf := pinConf s.tab.live p
  let steady := (match tabGet s.fade.fades p with | some f => !fading f | none => true) && t.commanded != 0xFFFF && 102 ≤ t.commanded
  if !steady || powerInBand s (cWatts conf) t.commanded report then onFade (fun f => { f with powerOut := tabErase f.powerOut p }) s
  else
    match tabGet s.fade.powerOut p with
    | none => onFade (fun f => { f with powerOut := tabSet f.powerOut p s.time.cycle }) s
    | some c =>
      if 60 * cyclesPerSec ≤ s.time.cycle - c && t.failure = 0 then onPin p (fun t => { t with failure := 4 }) s else s

/-- FADE_CLEAR_STATS: the counters of 0x0100 to 0x02FF return to 0 (R179). -/
def execFadeClearStats (s : State) : Out :=
  next { s with fade := { s.fade with cmdGen := 0, cmdChain := 0, cmdDefer := 0, cmdPendWait := 0 },
                chain := { s.chain with frames := 0, skipped := 0, crcEcho := 0, retBad := 0, seqMiss := 0, por := 0, topo := 0 } }

/-! LIT commands (Table 7.8). -/

def fadeOk (b : Bytes) : Bool :=
  1 ≤ u16At b 4 && u16At b 4 ≤ 64 && 1 ≤ u16At b 6 && u16At b 6 ≤ 1000 && 1 ≤ u8At b 8 && u8At b 9 ≤ 1 &&
    50 ≤ u8At b 10 && u8At b 10 ≤ 100 && 100 ≤ u8At b 11 && u8At b 11 ≤ 200

def litFadeSet : CmdSpec := litWrite 0x0320 secFade
  (fun p => checks [lenIs p 16, reserved p 12 4, need (fadeOk p) stBadPayload]) (fun _ => 0) id
def execLitFadeSet (op : CmdStep) (s : State) : Out := next (mailboxCommand litFadeSet op s)
def execLitFadeRead (op : CmdStep) (s : State) : Out := next (mailboxCommand (sectionRead 0x0321 rScheduleRead secFade) op s)

end Sys2Proof.Machine
end

