-- ==== Sys2Proof/Machine/Chain.lean ====
section
/-! DEFINITION. The Chainstitch port (R164–R176): the frame, colour and temperature, return words, topology, scans, faults, and
the LIT commands of models, the chain and outputs. -/

namespace Sys2Proof.Machine

def onChain (f : Chain → Chain) (s : State) : State := { s with chain := f s.chain }

def chainRate (s : State) : Nat := setU8 s secChain 0
def chnSilent (s : State) : Nat := setU8 s secChain 1
def identBoard (s : State) : Nat := setU8 s secChain 2

/-- Valid chain Pins with their configuration halves. -/
def chainPins (s : State) : List (Nat × Bytes) := s.tab.live.pins.filter fun e => isChainPin e.2

/-! Return words (Table 7.3). -/

def rwMark (w : U64) : Nat := field w.toNat 63 60
def rwCrcErr (w : U64) : Bool := bit w.toNat 59
def rwOvertemp (w : U64) : Bool := bit w.toNat 58
def rwSupply (w : U64) : Bool := bit w.toNat 57
def rwPor (w : U64) : Bool := bit w.toNat 56
def rwSeq (w : U64) : Nat := field w.toNat 55 48
def rwOpen (w : U64) : Nat := field w.toNat 47 32
def rwShort (w : U64) : Nat := field w.toNat 31 16
def rwNtc (w : U64) : Nat := field w.toNat 15 4

/-- MARK and CRC-4 are correct (R165). -/
def rwValid (w : U64) : Bool := rwMark w == 0xA && crcBitsM 4 3 60 (w.toNat / 16) 0 == w.toNat % 16

/-- Boards: the valid words received before the first invalid one. -/
def boardCount (ret : List U64) : Nat := (ret.takeWhile rwValid).length

/-! Models and colour (Table 7.5, R170). -/

def modelEntry (s : State) (k : Nat) : Bytes := slice (sect s secModels) (48 * k) 48
def mId (b : Bytes) : Nat := u16At b 0
def mdLayout (b : Bytes) : Nat := u8At b 2
def mComp (b : Bytes) : Bool := bit (u8At b 3) 0
def mWarm (b : Bytes) : Nat := u16At b 4
def mCool (b : Bytes) : Nat := u16At b 6
def mDw (b : Bytes) (c : Nat) : Nat := u16At b (8 + 2 * c)
def mDc (b : Bytes) (c : Nat) : Nat := u16At b (16 + 2 * c)
def mA (b : Bytes) (c : Nat) : Int := s16At b (24 + 2 * c)
def mB (b : Bytes) (c : Nat) : Int := s16At b (32 + 2 * c)
def mBeta (b : Bytes) : Nat := u16At b 40
def mTmax (b : Bytes) : Int := s16At b 42

/-- R169's ranges for one entry. -/
def modelOk (b : Bytes) : Bool :=
  if mId b = 0 then allZero b
  else
    mdLayout b ≤ 3 && u8At b 3 ≤ 1 &&
    (if mdLayout b == 0 then mWarm b == 0 && mCool b == 0
     else (mWarm b == 0 && mCool b == 0) || (1700 ≤ mWarm b && mWarm b ≤ mCool b && mCool b ≤ 6500)) &&
    1000 ≤ mBeta b && mBeta b ≤ 6000 && decide (-400 ≤ mTmax b) && decide (mTmax b ≤ 1500) && allZero (slice b 44 4)

/-- The entry whose id and layout are the Pin's. -/
def modelFor (s : State) (conf : Bytes) : Option Bytes :=
  ((upTo 64).map (modelEntry s)).find? fun b => mId b != 0 && mId b == cModel conf && mdLayout b == mLayout conf

def board (s : State) (k : Nat) : Board := s.chain.boards.getD k default

/-- Temperature in 0.1 °C that a Pin's board shows under its model (R170), from the mean of its last 8 valid NTC codes. -/
def boardTemperature (b : Board) (model : Option Bytes) : Int :=
  if b.ntcFault || b.codes = [] then 250
  else
    let code : Rat := (b.codes.sum : Rat) / b.codes.length
    match model with
    | none => Config.boardTemp code
    | some m =>
      roundHalfAway ((1 / (100 / 29815 + lnRat (code / (4095 - code)) / mBeta m) - 27315 / 100) * 10)

def clampF (x lo hi : Rat) : Rat := max lo (min x hi)

/-- Duties of a Pin's channels, and s in 1/65536 when it scales (R170, R171). -/
structure Drive where
  duties : List Nat
  limited : Option Nat
  deriving DecidableEq, Repr, Inhabited

def dutyWord (d : Rat) : Nat := (roundHalfEven (fmul (min 1 d) 65535)).toNat

/-- R170's duties. Where mw = mc the quotient of al is an infinity, which the clamp takes to 1 or 0, or 0 / 0, of which the spec states no
result. -/
def driveOf (model : Option Bytes) (nch level cct : Nat) (t : Int) : Drive :=
  let lv := fdiv (level : Rat) 1023
  match model with
  | none => { duties := (upTo nch).map fun _ => dutyWord lv, limited := none }
  | some m =>
    let al : Rat :=
      if cct = 0 || mWarm m = mCool m then 0
      else
        let mw : Int := (1000000 / mWarm m : Nat)
        let mc : Int := (1000000 / mCool m : Nat)
        let mk : Int := (1000000 / cct : Nat)
        if mw = mc then (if mk < mw then 1 else if mw < mk then 0 else clampF (Config.mixOfZero (mWarm m) (mCool m) cct) 0 1)
        else clampF (fdiv ((mw - mk : Int) : Rat) ((mw - mc : Int) : Rat)) 0 1
    let dt := fsub (r32 ((t : Rat) / 10)) 25
    let phi := fun c : Nat =>
      if mComp m then
        clampF (fadd (fadd 1 (fdiv (fmul (mA m c : Rat) dt) 65536)) (fdiv (fmul (fmul (mB m c : Rat) dt) dt) 16777216)) (1 / 2) (3 / 2)
      else 1
    let d := (upTo nch).map fun c =>
      fdiv (fdiv (fmul lv (fadd (fmul (fsub 1 al) (mDw m c : Rat)) (fmul al (mDc m c : Rat)))) 65535) (phi c)
    let dmax := d.foldl max 0
    let sc := if dmax ≤ 1 then 1 else fdiv 1 dmax
    { duties := d.map fun x => dutyWord (fmul sc x),
      limited := if dmax ≤ 1 then none else some (min 65535 (roundHalfEven (sc * 65536)).toNat) }

/-! The frame (R164, Table 7.2). -/

/-- Level and CCT of a chain Pin in the packets of Skein 25. -/
def packetLevel (s : State) (p : Nat) : Nat × Nat :=
  match s.chain.packets.find? fun e => e.1 ≤ p && p < e.1 + 512 with
  | some (a, b) => (u16At b (4 * (p - a)), u16At b (4 * (p - a) + 2))
  | none => (0, 0)

def driveFor (s : State) (p : Nat) (conf : Bytes) : Drive :=
  let (l, k) := packetLevel s p
  let m := modelFor s conf
  driveOf m (mNch conf + 1) l k (boardTemperature (board s (mBoard conf)) m)

def word16 (n : Nat) : Bytes := [BitVec.ofNat 8 (n / 256), BitVec.ofNat 8 n]

/-- One board's 36 bytes, most significant bit first. -/
def boardBlock (s : State) (seq position : Nat) (drives : List (Nat × Bytes × Drive)) : Bytes :=
  let mine := drives.filter fun d => mBoard d.2.1 == position
  let duties := mine.foldl (fun l d => (d.2.2.duties.zipIdx).foldl (fun l e => listSet l (mFirst d.2.1 + e.2) e.1) l) (List.replicate 16 0)
  let w0 := bitN (mine != []) 15 + bitN (identBoard s == position) 14 + seq % 256
  let b := word16 w0 ++ duties.flatMap word16
  b ++ word16 (crcBytesM 16 0x1021 0xFFFF b)

/-- The packets of this Stitch, written now where fade shaping has not run in it: its running fades go on (R158). -/
def chainPackets (s : State) : State := if s.chain.packetsAt == some s.stitch.number then s else writeChain s

/-- CHAIN_SHIFT: a frame of 128 blocks is built from the packets and shifted out; a frame released by its commit and still not
latched is dropped (R164–R167). None is built before the first fade shaping after a reset (R176). -/
def execChainShift (s : State) : Out :=
  let ch := s.chain
  let busy := match ch.frame with | some f => !f.shifted || !f.committed | none => false
  if ch.state == .off || ch.state == .scan || busy || ch.packetsAt.isNone then next s
  else
    let s := chainPackets s
    let pins := chainPins s
    let drives := pins.map fun e => (e.1, e.2, driveFor s e.1 e.2)
    let missing := (pins.filter fun e => (modelFor s e.2).isNone && !ch.modelMissing.contains e.1).map (·.1)
    let s := missing.foldl (fun t p => post 0x050A p [] t) s
    let seq := ch.built % 256
    let f : ChainFrame := { seq := seq, levels := pins.map (fun e => (e.1, packetLevel s e.1)),
                            blocks := (upTo 128).map fun k => boardBlock s seq k drives, shifted := false, committed := false, topoOk := false }
    next (onChain (fun c => { c with
      frame := some f, built := c.built + 1, skipped := if c.frame.isSome then c.skipped + 1 else c.skipped,
      modelMissing := (c.modelMissing ++ missing).filter fun p => pins.any fun e => e.1 == p && (modelFor s e.2).isNone,
      limited := drives.filterMap fun d => d.2.2.limited.map fun v => (d.1, v) }) s)

/-! Topology (R173). -/

def csCode : ChainState → Nat
  | .off => 0 | .scan => 1 | .run => 2 | .hold => 3 | .overlength => 4

def u8Sat (n : Nat) : Bytes := le8 (min n 255)

def topoEvent (old new : Nat) (st : ChainState) (s : State) : State :=
  post 0x050D noSource (u8Sat old ++ u8Sat new ++ le8 (csCode st)) (onChain (fun c => { c with topo := c.topo + 1 }) s)

def heldChain (st : ChainState) : Bool := st == .hold || st == .overlength

/-- A change of the count, and an entry to or exit from HOLD or OVERLENGTH, is recorded and counted (R173). -/
def topoChange (c : Nat) (st : ChainState) (s : State) : State :=
  let ch := s.chain
  let s := if c != ch.count || (st != ch.state && (heldChain st || heldChain ch.state)) then topoEvent ch.count c st s else s
  onChain (fun k => { k with state := st, count := c }) s

/-- The frame in hand is not latched (R167). -/
def dropFrame (s : State) : State :=
  onChain (fun c => { c with frame := none, skipped := if c.frame.isSome then c.skipped + 1 else c.skipped }) s

/-- A scan begins, with LAT withheld (R172). -/
def startScan (s : State) : State := onChain (fun c => { c with steady := 0, badZero := 0 }) (dropFrame (topoChange s.chain.count .scan s))

/-- Positions that report POR in a frame. -/
def porPositions (ret : List U64) : List Nat :=
  ((ret.zipIdx).filter fun e => rwValid e.1 && rwPor e.1).map (·.2)

/-- HOLD or OVERLENGTH after one frame with count `c`: the state, and the steady frames. -/
def heldState (ch : Chain) (c : Nat) : ChainState × Nat :=
  let good := match ch.state with | .hold => c == ch.before | .overlength => c ≤ 128 | _ => false
  let n := if good then ch.steady + 1 else 0
  if good && 4 ≤ n then (.run, 0) else (ch.state, n)

/-- The first case of R173 that applies. -/
def topologyCheck (ret : List U64) (s : State) : State :=
  let ch := s.chain
  let c := boardCount ret
  let por := porPositions (ret.take c)
  let (st, n) := if 128 < c then (ChainState.overlength, 0) else if heldChain ch.state then heldState ch c else (ch.state, 0)
  let st' := if st == .run && ch.before < c && por.any (· < ch.before) then .hold else st
  let s := if st' == .run && c < ch.before then post 0x050E noSource (u8Sat ch.before ++ u8Sat c) s else s
  let s := if st' == .run && c == ch.before then por.foldl (fun t p => post 0x050F p [] t) s else s
  onChain (fun k => { k with steady := n, before := if st' == .hold then k.before else c }) (topoChange c st' s)

/-! Return words of a frame (R162, R165, R170, R175). -/

/-- A board's record after a frame's word at its position, if any arrived valid. -/
def boardAfter (now : Nat) (b : Board) (w : Option U64) : Board :=
  match w with
  | none => { b with valid := false }
  | some w =>
    let c := rwNtc w
    if c = 0 || c = 4095 then { b with word := w, valid := true }
    else { word := w, valid := true, codes := lastN 8 (b.codes ++ [c]), codeAt := now, ntcFault := false }

/-- The valid word at a position of a frame. -/
def wordAt (ret : List U64) (k : Nat) : Option U64 :=
  match ret[k]? with
  | some w => if rwValid w then some w else none
  | none => none

/-- The board's word confirms the frame last latched: SEQ echo and a clear CRC_ERR. -/
def confirms (s : State) (w : Option U64) : Bool :=
  match s.chain.latched, w with
  | some f, some w => rwSeq w == f.seq && !rwCrcErr w
  | _, _ => false

/-- R162 for one chain Pin: delivery, or a frame that fails to show the latch, the third of which fails the command. -/
def chainDeliver (ret : List U64) (s : State) (e : Nat × Bytes) : State :=
  let (p, conf) := e
  let ok := confirms s (wordAt ret (mBoard conf))
  let lv := (s.chain.latched.bind fun f => tabGet f.levels p)
  let s := match ok, lv with
    | true, some (l, k) => onPin p (fun t => { t with commanded := l, cct := k }) s
    | _, _ => s
  match (queueOf s p).find? (·.latched) with
  | none => s
  | some q =>
    if ok then finalOutcome p outDelivered q s
    else
      let q' := { q with tries := q.tries + 1 }
      if 3 ≤ q'.tries then post 0x0602 p (leW q.seq ++ le8 0 ++ le8 0) (finalOutcome p outFailed q' s)
      else modifyQueue p (fun x => if x.seq == q.seq then q' else x) s

/-- Classes of Table 7.6 that a Pin's board shows now, SILENT apart. -/
def chainClass (s : State) (conf : Bytes) (w : U64) : Nat :=
  let chans := maskOfItems 16 ((upTo (mNch conf + 1)).map (mFirst conf + ·))
  let m := modelFor s conf
  let t := boardTemperature (board s (mBoard conf)) m
  if (rwOpen w ||| rwShort w) &&& chans != 0 then 5
  else if rwOvertemp w || (match m with | some b => decide (mTmax b < t) | none => false) then 6
  else if rwSupply w then 3
  else 0

/-- A class for a chain Pin at the next boundary, 0 where its board's word is valid and shows none; the first condition seen stays. -/
def noteClass (p cls : Nat) (s : State) : State :=
  let old := tabGetD s.chain.classes p 0
  onChain (fun c => { c with classes := tabSet c.classes p (if 2 ≤ old then old else cls) }) s

/-- Temperature and class of one chain Pin after a frame. -/
def chainPinAfter (ret : List U64) (s : State) (e : Nat × Bytes) : State :=
  let (p, conf) := e
  match wordAt ret (mBoard conf) with
  | none => s
  | some w =>
    let t := boardTemperature (board s (mBoard conf)) (modelFor s conf)
    let cls := chainClass s conf w
    let s := onChain (fun c => { c with silence := tabErase c.silence p }) s
    noteClass p cls (onPin p (fun x => { x with temperature := t }) s)

/-- R172: three consecutive frames with board 0's word invalid start a scan. -/
def scanCheck (ret : List U64) (s : State) : State :=
  let bad := (wordAt ret 0).isNone
  let n := if bad then s.chain.badZero + 1 else 0
  if 3 ≤ n then startScan s
  else onChain (fun c => { c with badZero := n }) s

/-- CHAIN_SHIFT_DONE: return words are checked and counted, commands reach their outcomes, and the topology checks decide
whether this frame may be latched. -/
def execChainShiftDone (ret : List U64) (s : State) : Out :=
  match s.chain.frame with
  | none => next s
  | some f =>
    if f.shifted then next s
    else
      let c := boardCount ret
      let words := (upTo 128).map (wordAt ret)
      let seen := words.filterMap id
      let bad := (span 0 (min s.chain.count 128)).filter fun k => (wordAt ret k).isNone
      let miss := if s.chain.latched.isSome then ((upTo (min c 128)).filter fun k => !confirms s (wordAt ret k)).length else 0
      let s := onChain (fun k => { k with
        boards := List.zipWith (boardAfter s.time.cycle) k.boards words,
        crcEcho := k.crcEcho + BitVec.ofNat 32 (seen.filter rwCrcErr).length, por := k.por + BitVec.ofNat 32 (seen.filter rwPor).length,
        retBad := k.retBad + BitVec.ofNat 32 bad.length, seqMiss := k.seqMiss + BitVec.ofNat 32 miss }) s
      let s := (chainPins s).foldl (chainDeliver ret) s
      let s := (chainPins s).foldl (chainPinAfter ret) s
      let s := if s.chain.lost && seen != [] then post 0x050C noSource (u8Sat c) (onChain (fun k => { k with lost := false }) s) else s
      let s := topologyCheck ret s
      next (scanCheck ret (onChain (fun k => { k with frame := some { f with shifted := true, topoOk := k.state == .run } }) s))

/-- CHAIN_LATCH: LAT rises for a frame whose shift is done, whose commit has completed and whose topology checks passed. -/
def execChainLatch (s : State) : Out :=
  match s.chain.frame with
  | none => next s
  | some f =>
    if f.shifted && f.committed && f.topoOk && s.chain.state == .run then
      let s := onChain (fun c => { c with frame := none, latched := some f, frames := c.frames + 1,
                                          shown := c.shown ++ (f.levels.map (·.1)).filter fun p => !c.shown.contains p }) s
      next ((chainPins s).foldl (fun t e => modifyQueue e.1 (fun q => if q.committed then { q with latched := true } else q) t) s)
    else next s

/-- Completes the commands that wait for a scan with the board count (R178). -/
def completeAccepts (boards : Nat) (s : State) : State :=
  let l := s.chain.accepts
  let s := onChain (fun c => { c with accepts := [] }) s
  l.foldl (fun t a => freeTask (.mailbox a.1) (completeWith a.1 a.2 (.effect t.stitch.number (u8Sat boards ++ zeros 3)) t)) s

/-- The ranges of consecutive delays in an ascending list: first and last. -/
def delayRanges : List Nat → List (Nat × Nat)
  | [] => []
  | d :: rest =>
    match delayRanges rest with
    | (a, b) :: l => if a = d + 1 then (d, b) :: l else (d, d) :: (a, b) :: l
    | [] => [(d, d)]

/-- Centre of the widest range: the lowest range of that width, and the lower of two centres (DESIGN CHOICE). -/
def scanDelay (delays : List Nat) : Option Nat :=
  let l := delayRanges ((upTo 256).filter delays.contains)
  (l.foldl (fun best e => match best with | none => some e | some w => if w.2 - w.1 < e.2 - e.1 then some e else best) none).map fun e => (e.1 + e.2) / 2

/-- CHAIN_SCAN: four frames with LAT withheld set RET_DELAY and the count, or leave the chain LOST (R172). `delays` are those at which
every word of the four frames reads valid. -/
def execChainScan (ret : List (List U64)) (delays : List Nat) (s : State) : Out :=
  if s.chain.state != .scan then next s
  else
    let frames := ret.take 4
    let c := boardCount (frames.getLast?.getD [])
    let any := frames.any fun l => l.any rwValid
    let st := if 128 < c then ChainState.overlength else .run
    let s := topoChange c st s
    let s := if !any && !s.chain.lost then post 0x050B noSource [] s
      else if any && s.chain.lost then post 0x050C noSource (u8Sat c) s else s
    let s := onChain (fun k => { k with lost := !any, before := c, steady := 0, badZero := 0,
                                        retDelay := if any then (scanDelay delays).getD k.retDelay else k.retDelay }) (dropFrame s)
    next (completeAccepts c s)

/-- CHAIN_BOARD_SILENT: Pins of a board without a valid word for CHN_SILENT Stitches receive SILENT (R175). -/
def execChainBoardSilent (board : Nat) (s : State) : Out :=
  next ((chainPins s).foldl (fun t e =>
    if mBoard e.2 == board && chnSilent t ≤ tabGetD t.chain.silence e.1 0 && !(pinState t e.1).switchedOff && (pinState t e.1).failure == 0
    then noteClass e.1 1 t else t) s)

/-- NTC_FAULT: a board without a valid code for 60 s takes 25.0 °C (R170). -/
def execNtcFault (board : Nat) (s : State) : Out :=
  let b := s.chain.boards.getD board default
  if board < 128 && !b.ntcFault && 60 * cyclesPerSec ≤ s.time.cycle - b.codeAt then
    let s := onChain (fun c => { c with boards := listModify c.boards board fun b => { b with ntcFault := true } }) s
    next ((chainPins s).foldl (fun t e => if mBoard e.2 == board then onPin e.1 (fun x => { x with temperature := 250 }) t else t) s)
  else next s

/-! At a boundary. -/

/-- A frame released by an earlier commit and not latched is skipped (R167); silence counts by Stitch while the chain runs. -/
def chainStitchEnd (s : State) : State :=
  let late := match s.chain.frame with | some f => f.committed | none => false
  let s := if late then dropFrame s else s
  let pins := chainPins s
  let count := fun p : Nat => if (pinState s p).switchedOff then 0 else tabGetD s.chain.silence p 0 + 1
  if s.chain.state == .off then s
  else onChain (fun c => { c with silence := pins.map fun e => (e.1, count e.1) }) s

/-- One chain Pin's class (R175); SILENT ends once its board's word is valid, and is not given to a Pin SWITCHED_OFF. -/
def chainClassOf (s : State) (e : Nat × Nat) : State :=
  onPin e.1 (fun x =>
    let f := if x.failure = 1 && e.2 != 1 then 0 else x.failure
    { x with failure := if f = 0 && !(e.2 = 1 && x.switchedOff) then e.2 else f }) s

/-- Classes seen in the Stitch that ends are set (R175). -/
def chainClasses (s : State) : State :=
  onChain (fun c => { c with classes := [] }) ((s.chain.classes.filter fun e => isChainPin (pinConf s.tab.live e.1)).foldl chainClassOf s)

/-- The commit of the boundary releases the frame shaped in the Stitch that ended (R167). -/
def chainCommit (s : State) : State :=
  onChain (fun c => { c with frame := c.frame.map fun f => { f with committed := true } }) s

/-- A change of rate takes effect: OFF idles the lines, any other rate starts a scan (R172, R178). -/
def chainRateChanged (old : Nat) (s : State) : State :=
  let r := chainRate s
  if r = old then s
  else if r = 0 then completeAccepts 0 (onChain (fun c => { c with steady := 0, badZero := 0 }) (dropFrame (topoChange s.chain.count .off s)))
  else startScan s

/-! LIT commands (Table 7.8). -/

/-- Duplicate non-zero ids among the 64 entries that a write would leave. -/
def modelIdsDistinct (b : Bytes) : Bool :=
  decide (((upTo 64).map fun k => u16At b (48 * k)).filter (· != 0)).Nodup

/-- A section as every accepted write will leave it: the working copy with the writes due and those not yet executed,
whose opcode and place are given. -/
def sectProjected (s : State) (id opcode : Nat) (place : Bytes → Nat) (data : Bytes → Bytes) : Bytes :=
  let waiting := s.mbx.boxes.flatMap fun b => b.cmds.filter fun c => c.opcode == opcode && (c.phase == .batched || c.phase == .waiting || c.phase == .running)
  let due := s.set.due.foldl (fun b d =>
    match d.change with
    | .settings i off data => if i = id then overlay b off data else b
    | _ => b) (sect s id)
  waiting.foldl (fun b c => overlay b (place c.payload) (data c.payload)) due

def litModelWrite : CmdSpec := { litWrite 0x0322 secModels (fun _ => none) (fun p => 48 * u8At p 0) (fun p => p.drop 4) with
  check := fun _ p s => checks [need (4 ≤ p.length) stBadPayload, lenIs p (4 + 48 * u8At p 1), reserved p 2 2,
    need (1 ≤ u8At p 1 && u8At p 0 + u8At p 1 ≤ 64) stRange,
    items (u8At p 1) fun k => if modelOk (slice p (4 + 48 * k) 48) then none else some stBadPayload,
    need (modelIdsDistinct (overlay (sectProjected s secModels 0x0322 (fun q => 48 * u8At q 0) (·.drop 4)) (48 * u8At p 0) (p.drop 4))) stConflict, settingsRoom p s] }
def execLitModelWrite (op : CmdStep) (s : State) : Out := next (mailboxCommand litModelWrite op s)

def litModelRead : CmdSpec where
  opcode := 0x0323
  needs := rScheduleRead
  check _ p _ := checks [lenIs p 4, reserved p 2 2, need (1 ≤ u8At p 1 && u8At p 0 + u8At p 1 ≤ 64) stRange]
  run _ c s := (s, ok (slice (sect s secModels) (48 * u8At c.payload 0) (48 * u8At c.payload 1)))
def execLitModelRead (op : CmdStep) (s : State) : Out := next (mailboxCommand litModelRead op s)

def chainSetOk (p : Bytes) : Bool := u8At p 0 ≤ 2 && 4 ≤ u8At p 1 && (u8At p 2 ≤ 127 || u8At p 2 == 0xFF) && u8At p 3 == 0
def litChainSet : CmdSpec := litWrite 0x0324 secChain
  (fun p => checks [lenIs p 4, need (chainSetOk p) stBadPayload]) (fun _ => 0) id
def execLitChainSet (op : CmdStep) (s : State) : Out := next (mailboxCommand litChainSet op s)

def litChainStatus : CmdSpec where
  opcode := 0x0325
  needs := rScheduleRead
  check _ p _ := checks [lenIs p 4, reserved p 2 2, need (1 ≤ u8At p 1 && u8At p 0 + u8At p 1 ≤ 128) stRange]
  run _ c s :=
    (s, ok (le8 (csCode s.chain.state) ++ u8Sat s.chain.count ++ le8 (chainRate s) ++ le8 s.chain.retDelay ++
      (span (u8At c.payload 0) (u8At c.payload 1)).flatMap fun k => le64 (board s k).word.toNat))
def execLitChainStatus (op : CmdStep) (s : State) : Out := next (mailboxCommand litChainStatus op s)

/-- LIT_CHAIN_ACCEPT rescans the chain and completes with the new count when the scan ends. -/
def litChainAccept : CmdSpec where
  opcode := 0x0326
  needs := rTableWrite
  check _ p s := checks [emptyPayload p, need (s.chain.state == .hold || (s.chain.state == .overlength && s.chain.count ≤ 128)) stConflict]
  run m c s :=
    if s.chain.state == .off then (s, .effect s.stitch.number (zeros 4))
    else (onChain (fun k => { k with accepts := k.accepts ++ [(m, c.seq)] }) (startScan s), .waits)
def execLitChainAccept (op : CmdStep) (s : State) : Out := next (mailboxCommand litChainAccept op s)

/-- One Pin of LIT_OUT_READ. -/
def outRecord (s : State) (p : Nat) : Bytes :=
  let t := pinState s p
  let conf := pinConf s.tab.live p
  let f := tabGet s.fade.fades p
  let target := if (tabGet s.tab.state p).isSome then t.target else 0xFFFF
  let now := match f with | some f => fadeNow f | none => if (tabGet s.tab.state p).isSome then t.commanded else 0xFFFF
  let fadingNow := match f with | some f => fading f | none => false
  let sc := (tabGet s.chain.limited p).getD 65535
  le16 p ++ le16 target ++ le16 now ++ le16 ((f.map (·.cct)).getD t.cct) ++ le16 ((f.map fadeLeft).getD 0) ++
    le16 ((f.map fun f => f.delay / 10).getD 0) ++ le16 sc ++
    le8 (bitN fadingNow 0 + bitN (s.fade.deferred.contains p) 1 + bitN (s.fade.orderWait.any (·.pin == p)) 2 +
      bitN (tabGet s.chain.limited p).isSome 3 + bitN (s.chain.modelMissing.contains p) 4 +
      bitN (isChainPin conf && (board s (mBoard conf)).ntcFault) 5) ++ le8 0

def litOutRead : CmdSpec where
  opcode := 0x0327
  needs := rScheduleRead
  check _ p _ := checks [lenIs p 4, need (1 ≤ u16At p 2 && u16At p 2 ≤ 256) stRange, entryRange (u16At p 0) (u16At p 2) 9216]
  run _ c s := (s, ok ((span (u16At c.payload 0) (u16At c.payload 2)).flatMap (outRecord s)))
def execLitOutRead (op : CmdStep) (s : State) : Out := next (mailboxCommand litOutRead op s)

end Sys2Proof.Machine
end

