-- ==== Sys2Proof/Machine/Radio.lean ====
section
/-! DEFINITION. Radios and frames (R180–R205): airtime and duty, security counters, receive checks, uplink payloads, Enh-Acks,
and the final outcomes of radio commands (R215–R219). -/

namespace Sys2Proof.Machine

def shuttle (s : State) (k : Nat) : Shuttle := s.air.shuttles.getD k default
def onShuttle (k : Nat) (f : Shuttle → Shuttle) (s : State) : State :=
  onAir (fun a => { a with shuttles := listModify a.shuttles k f }) s

/-! The region profile and the Air settings in force (Tables 8.3, 9.6). -/

def pfLoaded (s : State) : Bool := !allZero (sect s secRegion)
def pfId (b : Bytes) : Nat := u16At b 0
def pfCentre (b : Bytes) (k : Nat) : Nat := u32At b (16 + 16 * k)
def pfMode (b : Bytes) (k : Nat) : Nat := u8At b (20 + 16 * k)
def pfPower (b : Bytes) (k : Nat) : Nat := u8At b (21 + 16 * k)
def pfDuty (b : Bytes) (k : Nat) : Nat := u16At b (22 + 16 * k)
def pfEn (b : Bytes) (k : Nat) : Bool := bit (u8At b (24 + 16 * k)) 0
def pfWakeCentre (b : Bytes) : Nat := u32At b 80
def pfWakePower (b : Bytes) : Nat := u8At b 84
def pfRepeats (b : Bytes) : Nat := u8At b 85
def pfWakeDuty (b : Bytes) : Nat := u16At b 86
def pfWakeEn (b : Bytes) : Bool := bit (u8At b 88) 0

def region (s : State) : Bytes := sect s secRegion
def airPan (s : State) : Nat := setU16 s secAir 0
def netKey (s : State) : Nat := setU8 s secAir 2
def airEn (s : State) : Bool := bit (setU8 s secAir 3) 0
def groupDispatch (s : State) : Bool := bit (setU8 s secAir 3) 1
def keepalive (s : State) : Nat := setU16 s secAir 4
def silentMains (s : State) : Nat := setU16 s secAir 6
def silentSleepy (s : State) : Nat := setU8 s secAir 8
def groupMin (s : State) : Nat := setU8 s secAir 9
def imageRate (s : State) : Nat := setU8 s secAir 10
def bchk (s : State) : Nat := setU8 s secAir 11
def wakeAfter (s : State) : Nat := setU16 s secAir 12
def repairPct (s : State) : Nat := setU8 s secAir 14

def hasRadio (s : State) : Bool := s.sys.variant != 2

/-- The Air tile runs: fitted, enabled, a profile in force, the radio clock present. -/
def airOn (s : State) : Bool := hasRadio s && running s && airEn s && pfLoaded s && !s.time.radiosHeld
/-- A Shuttle may transmit: its EN is set and it is in service. -/
def shuttleOn (s : State) (k : Nat) : Bool := k < 4 && airOn s && pfEn (region s) k && !(shuttle s k).failed
/-- R235's set A. -/
def inServiceShuttles (s : State) : List Nat :=
  if hasRadio s then (upTo 4).filter fun k => pfEn (region s) k && !(shuttle s k).failed else []

/-! Airtime and duty (R182, R185, R213). -/

def fskRate : Nat → Option Nat
  | 1 => some 50 | 2 => some 100 | 3 => some 150 | 4 => some 200
  | _ => none

/-- Airtime of a PSDU in ns, with preamble, SFD and PHR. -/
def airtime (mode psdu : Nat) : Nat :=
  match fskRate mode with
  | some r => (12 + psdu) * 8000000 / r
  | none => Config.ofdmAirtime mode psdu

/-- Preamble and SFD of a mode in ns. -/
def sfdTime (mode : Nat) : Nat :=
  match fskRate mode with
  | some r => 10 * 8000000 / r
  | none => Config.ofdmAirtime mode 0

def modeOf (s : State) (k : Nat) : Nat := pfMode (region s) k
def ackAirtime (s : State) (k : Nat) : Nat := airtime (modeOf s k) 33
/-- R213 for a frame with AR 1. -/
def exchange (s : State) (k psdu : Nat) : Nat := airtime (modeOf s k) psdu + 1300000 + ackAirtime s k

def binTotal (t : Tab Nat) : Nat := (t.map (·.2)).sum
def addBin (second ns : Nat) (t : Tab Nat) : Tab Nat := tabSet t second (tabGetD t second 0 + ns)
/-- Airtime in ns that a limit in 0.01 % allows in 3,600 s. -/
def dutyLimit (d : Nat) : Nat := d * 360000000

/-- The holds of R185 follow the total; there is no limit while no profile is in force. -/
def dutyUpdate (k : Nat) (s : State) : State :=
  let lim := dutyLimit (pfDuty (region s) k)
  let loaded := pfLoaded s
  onShuttle k (fun h =>
    let t := binTotal h.bins
    let tx := loaded && lim * 9 ≤ t * 10
    { h with holdTx := tx, holdAck := loaded && lim ≤ t, dutyHold := if tx && !h.holdTx then h.dutyHold + 1 else h.dutyHold }) s

def addAirtime (k ns : Nat) (s : State) : State :=
  dutyUpdate k (onShuttle k (fun h => { h with bins := addBin (upSec s) ns h.bins }) s)

def wakeHeld (s : State) : Bool := dutyLimit (pfWakeDuty (region s)) ≤ binTotal s.air.wakeBins

/-- DUTY_BIN_ROLL: bins older than 3,600 s leave the totals, and holds begin or end. -/
def execDutyBinRoll (shuttle : Nat) (s : State) : Out :=
  let keep := fun t : Tab Nat => t.filter fun e => upSec s < e.1 + 3600
  if shuttle < 4 then
    next (dutyUpdate shuttle (onAir (fun a => { a with wakeBins := keep a.wakeBins })
      (onShuttle shuttle (fun h => { h with bins := keep h.bins }) s)))
  else next s

/-! Outgoing frame counters (R190). -/

def keySlot (s : State) (k : Nat) : KeySlot := s.sec.slots.getD k default
def onKey (k : Nat) (f : KeySlot → KeySlot) (s : State) : State := { s with sec.slots := listModify s.sec.slots k f }

/-- The next counter of a slot; none when the slot is empty or exhausted. Each frame not sent for that is recorded. -/
def useKey (k : Nat) (s : State) : Option U32 × State :=
  let z := keySlot s k
  if z.key.isNone then (none, s)
  else if z.counter = 0xFFFFFFFF then
    (none, post 0x0308 k [] (onKey k (fun z => { z with exhausted := true }) s))
  else
    let n := z.counter.toNat + 1
    let low := 0xFFFF0000 < n && !z.lowMade
    let mark := if z.reserved.toNat ≤ n then min 0xFFFFFFFF (n + 4096) else z.reserved.toNat
    (some z.counter, postIf low 0x0307 k []
      (onKey k (fun z => { z with counter := z.counter + 1, reserved := BitVec.ofNat 32 mark, lowMade := z.lowMade || low }) s))

/-! Sending. -/

def fcUnicast : Nat := 0xA869
def fcNoAck : Nat := 0xA849
def fcAck : Nat := 0xAA4A
def fcAckPending : Nat := 0xAA5A
def fcBeacon : Nat := 0xA008

/-- A frame before its counter is known (Table 8.4): the source is the coordinator 0x0000. -/
def plainFrame (k control seq pan : Nat) (dst : Option Nat) (security slot : Nat) (ies payload : Bytes) : AirFrame :=
  { shuttle := k, control := control, seq := seq % 256, pan := pan, dst := dst, src := 0, security := security, keyIndex := slot + 1,
    counter := 0, ies := ies, payload := payload, nonce := [], secured := [] }

/-- The MAC header as sent, with its auxiliary security header and header IEs. -/
def macHeader (f : AirFrame) : Bytes :=
  le16 f.control ++ le8 f.seq ++ le16 f.pan ++ (match f.dst with | some d => le16 d | none => []) ++ le16 f.src ++
    le8 f.security ++ leW f.counter ++ le8 f.keyIndex ++ f.ies

/-- R189's nonce: the originator's EUI-64, the counter most significant octet first, the security level (PRESUMED: the order of IEEE
802.15.4). -/
def frameNonce (eui : Bytes) (counter : U32) (security : Nat) : Bytes := eui ++ (leW counter).reverse ++ le8 (security % 8)

/-- The frame with its counter, secured under its key slot. -/
def secureFrame (key : Bytes) (c : U32) (f : AirFrame) : AirFrame :=
  let f := { f with counter := c, nonce := frameNonce Config.eui64 c f.security }
  { f with secured := fit (f.payload.length + 4) (Config.ccmStar key f.nonce (macHeader f) f.payload (f.security % 8)) }

/-- The transceiver sends, or leaves its channel, for `ns` from a TAI instant on (R180). -/
def transmit (k start ns : Nat) (s : State) : State := onShuttle k (fun h => { h with txFrom := start, txTo := start + ns }) s

/-- Secures a frame and sends it on its Shuttle's channel from a TAI instant on, `mode` and PSDU octets giving its airtime: its counter,
or none when it cannot be built. -/
def sendFrame (start mode psdu : Nat) (f : AirFrame) (s : State) : Option U32 × State :=
  match useKey (f.keyIndex - 1) s with
  | (none, s) => (none, s)
  | (some c, s) =>
    let key := ((keySlot s (f.keyIndex - 1)).key).getD []
    let s := onAir (fun a => { a with sent := a.sent ++ [secureFrame key c f] }) s
    (some c, addAirtime f.shuttle (airtime mode psdu) (transmit f.shuttle start (airtime mode psdu) s))

/-- A data frame sent now; TX_FRAMES counts it, and its exchange occupies the Shuttle (R213). -/
def sendData (k control seq dst slot : Nat) (payload : Bytes) (s : State) : Option U32 × State :=
  let psdu := 23 + payload.length
  let busy := if control = fcUnicast then exchange s k psdu else airtime (modeOf s k) psdu + 200000
  let (c, t) := sendFrame (taiNs s) (modeOf s k) psdu (plainFrame k control seq (airPan s) (some dst) 0x0D slot [] payload) s
  (c, if c.isSome then onShuttle k (fun h => { h with txFrames := h.txFrames + 1, freeAt := taiNs s + busy }) t else t)

/-! Receive checks (R194, Table 8.5). -/

/-- The Pin of a source address, when its filter entry is valid. -/
def sourcePin (s : State) (src : Nat) : Option Nat :=
  if 0x0800 ≤ src && src ≤ 0x27FF && isRadio (pinConf s.tab.live (src - 0x0800)) then some (src - 0x0800) else none

/-- Counters of dropped frames, by the check that failed. -/
inductive RxDrop where
  | fcs | format | filter | sec | replay | mic
  deriving DecidableEq, Repr

def countDrop (k : Nat) (d : RxDrop) (s : State) : State :=
  onShuttle k (fun h =>
    match d with
    | .fcs => { h with rxFcs := h.rxFcs + 1 }
    | .format => { h with rxFormat := h.rxFormat + 1 }
    | .filter => { h with rxFilter := h.rxFilter + 1 }
    | .sec => { h with rxSec := h.rxSec + 1 }
    | .replay => { h with rxReplay := h.rxReplay + 1 }
    | .mic => { h with rxMic := h.rxMic + 1 }) s

/-- PSDU octets of a received frame. -/
def rxPsdu (f : RxFrame) (ack : Bool) : Nat := 23 + f.payload.length + (if ack then 6 else 0)

/-- TAI ns from the start of the preamble to the end of a received frame. -/
def rxSpan (f : RxFrame) (ack : Bool) (s : State) : Nat × Nat :=
  let m := modeOf s f.shuttle
  (f.sfdEnd - sfdTime m, f.sfdEnd - sfdTime m + airtime m (rxPsdu f ack))

/-- The Shuttle receives the frame: its transceiver neither sent nor was off its channel meanwhile (R180, R214), and an FSK preamble had
its 4 octets (R182). -/
def hears (f : RxFrame) (ack : Bool) (s : State) : Bool :=
  let h := shuttle s f.shuttle
  let (a, e) := rxSpan f ack s
  !(h.txFrom < e && a < h.txTo) && ((fskRate (modeOf s f.shuttle)).isNone || 4 ≤ f.preamble)

/-- R182: a PHR with mode switch 1 or FCS type 1. -/
def badPhr (f : RxFrame) (s : State) : Bool := (fskRate (modeOf s f.shuttle)).isSome && (f.modeSwitch || f.fcsShort)

/-- The checks in order: the Pin, or the first that fails. No MIC is right under an empty key slot. -/
def rxCheck (f : RxFrame) (ack : Bool) (s : State) : Except RxDrop Nat :=
  if badPhr f s || 255 < rxPsdu f ack then .error .format
  else if !f.fcsOk then .error .fcs
  else if f.frameControl.toNat != (if ack then fcAck else fcUnicast) || f.pan.toNat != airPan s then .error .format
  else if f.dst != 0 then .error .format
  else
    match sourcePin s f.src.toNat with
    | none => .error .filter
    | some p =>
      if f.security.toNat != (if ack then 0x09 else 0x0D) || f.keyIndex != cKey (pinConf s.tab.live p) + 1 then .error .sec
      else if f.counter.toNat ≤ (pinState s p).counter.toNat then .error .replay
      else if !f.micOk || (keySlot s (cKey (pinConf s.tab.live p))).key.isNone then .error .mic
      else .ok p

/-- R203. -/
def linkQuality (known : Bool) (old : Nat) (rssi : Int) : Nat :=
  let q := clampI (2 * (rssi + 127)) 0 255
  if known then ((old : Int) + tdiv (q - old) 8).toNat else q.toNat

/-- An accepted frame: counters, last heard and link quality. -/
def rxAccept (f : RxFrame) (p : Nat) (s : State) : State :=
  let known := (radioPin s p).lqKnown
  let off := (pinState s p).serving != f.shuttle
  let s := onShuttle f.shuttle (fun h => { h with rxOk := h.rxOk + 1, rxOffhome := if off then h.rxOffhome + 1 else h.rxOffhome }) s
  let s := onPin p (fun t => { t with counter := f.counter, lastHeard := BitVec.ofNat 32 (opSec s), heard := true,
                                      linkQuality := linkQuality known t.linkQuality f.rssi }) s
  let s := onRadio p (fun r => { r with heardAt := some s.time.cycle, heardStitch := s.stitch.number, lqKnown := true, missedInstants := 0 }) s
  onAir (fun a => { a with heardNow := if a.heardNow.contains p then a.heardNow else a.heardNow ++ [p] }) s

/-! Delivery (R215–R219). -/

/-- The Pin's queue is stopped by a failure (R217). -/
def pinStopped (s : State) (p : Nat) : Bool := (pinState s p).held || (tabGet s.air.holdNext p).isSome

def suspended (s : State) (p : Nat) : Bool :=
  match (radioPin s p).suspended with
  | some n => serialBefore s.stitch.number n
  | none => false

/-- A frame of this Pin is being answered now on some Shuttle. -/
def inFlight (s : State) (p : Nat) : Bool := s.air.shuttles.any fun h => match h.awaiting with | some a => a.pin == p | none => false

/-- The command at the head of a Pin's queue, when a try of it may be made in this Stitch. -/
def readyHead (s : State) (p : Nat) : Option PinCmd :=
  match queueOf s p with
  | [] => none
  | q :: _ =>
    if q.committed && !pinStopped s p && !suspended s p && !inFlight s p && s.fade.orderWait.all (fun o => o.seq != q.seq) &&
       serialAtOrBefore q.due s.stitch.number && (q.kind == 5 || !behindChange s p q.seq)
    then some q else none

/-- Sequence and retries of a command that has reached its outcome. -/
def writeDelivery (p : Nat) (q : PinCmd) (s : State) : State :=
  onPin p (fun t => { t with downSeq := q.downSeq, retries := q.tries - 1 }) (onRadio p (fun r => { r with woken := false }) s)

/-- A command FAILED (R216–R219): its records, its policy, and L0 and K0 after a LEVEL. -/
def failCommand (k p : Nat) (q : PinCmd) (s : State) : State :=
  let supersede := cPolicy (pinConf s.tab.live p)
  let s := onShuttle k (fun h => { h with cmdFailed := h.cmdFailed + 1 }) s
  let s := post 0x0602 p (leW q.seq ++ le8 q.kind ++ le8 (if supersede then 1 else 0)) s
  let s := finalOutcome p outFailed q (writeDelivery p q s)
  let s := if q.kind = 1 then onFade (fun f => { f with resets := p :: f.resets.filter (· != p) }) s else s
  if q.kind = 1 && supersede then s
  else onAir (fun a => { a with holdNext := tabSet a.holdNext p (q.seq, !supersede) }) s

/-- A command DELIVERED: a LEVEL's level and CCT become the commanded ones. -/
def deliverCommand (k p : Nat) (q : PinCmd) (s : State) : State :=
  let s := onShuttle k (fun h => { h with tryAcked := h.tryAcked + 1 }) s
  let s := writeDelivery p q s
  let s := if q.kind = 1 then onPin p (fun t => { t with commanded := u16At q.payload 1, cct := u16At q.payload 3 }) s else s
  finalOutcome p outDelivered q s

/-- A SYNC accepted: the last sync is its SFD (R227, R228). -/
def syncDone (p : Nat) (a : Awaiting) (s : State) : State :=
  let s := onRadio p (fun r => { r with lastSync := some a.sfdAt, resync := false, missedRow := 0 }) s
  let s := if queueOf s p = [] then onPin p (fun t => { t with downSeq := a.seq }) s else s
  onAir (fun x => { x with syncedNow := x.syncedNow ++ [p] }) s

def commandOf (s : State) (p : Nat) (seq : U32) : Option PinCmd := (queueOf s p).find? fun q => q.seq == seq

/-- R196: the Enh-Ack's SFD ends within the window that the frame opened, in the frame's mode (R184). -/
def ackInTime (a : Awaiting) (sfdEnd : Nat) : Bool :=
  let d := sfdTime a.mode
  a.sentEnd + 950000 + d ≤ sfdEnd && sfdEnd ≤ a.sentEnd + 1050000 + d

/-- R193's match with the frame last sent, within its window. -/
def ackMatches (p : Nat) (f : RxFrame) (a : Awaiting) : Bool :=
  a.pin == p && a.seq == f.seq.toNat && a.keyIndex == f.keyIndex && f.payload == leW a.counter && ackInTime a f.sfdEnd

/-- A Shuttle receives: it may transmit, or it finishes an exchange begun under the profile before (R184). -/
def receives (s : State) (k : Nat) : Bool :=
  shuttleOn s k || (k < 4 && airOn s && !(shuttle s k).failed && (shuttle s k).awaiting.isSome)

/-- The Enh-Ack of the frame a Shuttle awaits one for. -/
def ackTaken (frame : RxFrame) (p : Nat) (a : Awaiting) (s : State) : State :=
  let s := onShuttle frame.shuttle (fun h => { h with awaiting := none }) (rxAccept frame p s)
  match a.command with
  | some seq =>
    match commandOf s p seq with
    | some q => deliverCommand frame.shuttle p q s
    | none => s
  | none => if a.sync then syncDone p a s else s

/-- NODE_ENH_ACK: an Enh-Ack that passes the checks and matches is accepted and ends its try; one that does not is ignored. -/
def execNodeEnhAck (frame : RxFrame) (s : State) : Out :=
  if !receives s frame.shuttle || !hears frame true s then next s
  else
    match rxCheck frame true s with
    | .error d => next (countDrop frame.shuttle d s)
    | .ok p =>
      match (shuttle s frame.shuttle).awaiting with
      | some a => next (if ackMatches p frame a then ackTaken frame p a s else s)
      | none => next s

/-- A try left unacknowledged at the end of its window (R196, R216, R220). The next Picot rule counts from here (R229). -/
def tryMissed (k : Nat) (a : Awaiting) (s : State) : State :=
  let s := onShuttle k (fun h => { h with awaiting := none, ackMiss := h.ackMiss + 1 }) s
  match a.command with
  | none =>
    if a.sync then s
    else onRadio a.pin (fun r => { r with probeAt := s.time.cycle + keepalive s * cyclesPerSec / 4 })
      (onShuttle k (fun h => { h with probeMiss := h.probeMiss + 1 }) s)
  | some seq =>
    match commandOf s a.pin seq with
    | none => s
    | some q =>
      let s := onRadio a.pin (fun r => { r with woken := false }) s
      if 4 ≤ q.tries then failCommand k a.pin q s
      else
        outcomePacket k a.pin 3 seq
          (modifyQueue a.pin (fun x => if x.seq == seq then { x with due := s.stitch.number + 1, cycle := s.time.cycle } else x) s)

/-- ENH_ACK_TIMEOUT: no acceptable Enh-Ack by the end of the window. -/
def execEnhAckTimeout (shuttle : Nat) (s : State) : Out :=
  match (Sys2Proof.Machine.shuttle s shuttle).awaiting with
  | some a => next (tryMissed shuttle a s)
  | none => next s

/-! Enh-Acks of the module (R195, R196, R198). -/

def clampOffset (o : Int) : Int := clampI o (-2047) 2047

/-- Header IEs: Time Correction, then Header Termination 1. -/
def ackIes (o : Int) : Bytes := [0x02, 0x0F] ++ le16 (unsignedOf 12 o) ++ [0x00, 0x3F]

/-- ENH_ACK_SEND: the Enh-Ack owed is sent in the mode of its frame (R184), unless the duty limit forbids it; a pending frame to a sleepy
Pin follows. -/
def execEnhAckSend (shuttle : Nat) (s : State) : Out :=
  let h := Sys2Proof.Machine.shuttle s shuttle
  match h.owed with
  | none => next s
  | some o =>
    let s := onShuttle shuttle (fun h => { h with owed := none }) s
    if h.holdAck || !airOn s || h.failed then next s
    else
      let control := if o.pending then fcAckPending else fcAck
      let f := plainFrame shuttle control o.seq (airPan s) (some (0x0800 + o.pin)) 0x09 (o.keyIndex - 1) (ackIes o.offset) (leW o.counter)
      match sendFrame (taiNs s) o.mode 33 f s with
      | (none, s) => next s
      | (some _, s) =>
        next (onShuttle shuttle (fun h => { h with
          ackSent := h.ackSent + 1, ackPend := if o.pending then h.ackPend + 1 else h.ackPend,
          follow := if o.pending && o.sleepy then some { pin := o.pin, sync := o.sync } else h.follow }) s)

/-! Uplinks (R188, R194, R199). -/

/-- The window that a frame falls in, if it is expected (R226). -/
def expectedWindow (s : State) (p k sfdEnd : Nat) : Option RxWindow :=
  s.air.windows.find? fun w => w.pin == p && w.shuttle == k && w.instant ≤ sfdEnd + w.guard && sfdEnd ≤ w.instant + w.guard

/-- R227's estimate from an expected frame. -/
def driftUpdate (valid : Bool) (drift o : Int) (es : Nat) : Int :=
  let mv := clampI (tdiv (16 * o) (max es 1)) (-32768) 32767
  if valid then drift + tdiv (mv - drift) 4 else mv

/-- An expected frame corrects the Pin's estimate and closes its window. -/
def expectedFrame (p : Nat) (w : RxWindow) (sfdEnd : Nat) (s : State) : State :=
  let r := radioPin s p
  let o := tdiv ((sfdEnd : Int) - w.instant) 1000
  let es := match r.lastSync with | some t => (w.instant - t) / 1000000000 | none => 1
  let d := driftUpdate r.driftValid (pinState s p).drift o es
  let s := onPin p (fun t => { t with drift := d }) s
  let s := onRadio p (fun r => { r with driftValid := true, lastSync := some w.instant, missedRow := 0 }) s
  onAir (fun a => { a with windows := a.windows.filter (· != w), syncedNow := a.syncedNow ++ [p] }) s

/-- R195's PENDING: the serving Shuttle holds a frame for the Pin that is ready to send. -/
def framePending (s : State) (p : Nat) : Bool :=
  (readyHead s p).isSome || (cTransport (pinConf s.tab.live p) == tSleepy && (radioPin s p).resync)

/-- The Enh-Ack owed for an accepted frame, with the pending bit of R195. -/
def oweAck (f : RxFrame) (p : Nat) (offset : Int) (s : State) : State :=
  let sleepy := cTransport (pinConf s.tab.live p) == tSleepy
  let serving := (pinState s p).serving == f.shuttle
  let sync := sleepy && (radioPin s p).resync
  let pending := serving && framePending s p
  onShuttle f.shuttle (fun h => { h with owed := some {
    pin := p, seq := f.seq.toNat, keyIndex := f.keyIndex, counter := f.counter, mode := modeOf s f.shuttle, pending := pending, sleepy := sleepy, sync := sync,
    offset := offset } }) s

/-- Checks, acceptance, acknowledgement and duplicates of an uplink frame; `handle` takes new content. -/
def uplink (f : RxFrame) (handle : Nat → State → State) (s : State) : State :=
  if !(f.shuttle < 4 && hasRadio s && running s && pfEn (region s) f.shuttle && !(shuttle s f.shuttle).failed && !s.time.radiosHeld && hears f false s) then s
  else
    match rxCheck f false s with
    | .error d => countDrop f.shuttle d s
    | .ok p =>
      let r := radioPin s p
      let dup := f.seq.toNat == (pinState s p).upSeq &&
        (match r.heardAt with | some c => s.time.cycle - c ≤ 10 * cyclesPerSec | none => false)
      let w := expectedWindow s p f.shuttle f.sfdEnd
      let s := rxAccept f p s
      let s := match w with | some w => expectedFrame p w f.sfdEnd s | none => s
      let offset := match w with | some w => clampOffset (tdiv ((f.sfdEnd : Int) - w.instant) 1000) | none => 0
      let s := oweAck f p offset s
      if dup then onShuttle f.shuttle (fun h => { h with rxDup := h.rxDup + 1 }) s
      else handle p (onPin p (fun t => { t with upSeq := f.seq.toNat }) s)

def kindIs (f : RxFrame) (k : Nat) : Bool := u8At f.payload 0 == k
/-- Kinds that another row of the table takes. -/
def otherKind (f : RxFrame) (k : Nat) : Bool := !kindIs f k && [0x20, 0x21, 0x0E].contains (u8At f.payload 0)

/-- A frame of an unknown kind is dropped after its acknowledgement. -/
def ofKind (f : RxFrame) (k : Nat) (handle : Nat → State → State) (p : Nat) (s : State) : State :=
  if kindIs f k then handle p s else countDrop f.shuttle .format s

/-- UPLINK_POLL: a POLL is checked and acknowledged, and corrects the sensor's window state. -/
def execUplinkPoll (frame : RxFrame) (s : State) : Out :=
  if otherKind frame 0x20 then next s else next (uplink frame (ofKind frame 0x20 fun _ s => s) s)

/-! REPORT records (Table 8.8). -/

/-- A presence report of a frame that began before the last boundary joins the window that closed there (R26), until the boundary samples
its inputs (R25). Once they are sampled they stay fixed, and the report joins the open window, the first that is still walked (DESIGN
CHOICE: R25 against R26 for a frame that ends so late). -/
def reportOf (early : Bool) (pin count speed heading : Nat) (s : State) : State :=
  if early && s.stitch.busy then
    let open_ := s.lace.window
    let t := radioReport pin count speed heading (onLace (fun l => { l with window := l.closed }) s)
    let t := onPin pin (fun x => { x with presence := (tabGetD t.lace.window pin default).count }) t
    onLace (fun l => { l with closed := l.window, window := open_ }) t
  else radioReport pin count speed heading s

/-- A presence report's packet to the walker, which reads it as it comes (Table 3.1): u16 Pin, u8 count, u8 speed class, u8 heading. The
spec gives no layout (DESIGN CHOICE). -/
def presencePacket (k p count speed heading : Nat) (s : State) : State :=
  throughSkein k (le16 p ++ le8 count ++ le8 speed ++ le8 heading) s

def presenceRecord (k : Nat) (early : Bool) (p : Nat) (d : Bytes) (s : State) : State :=
  let h := field (u8At d 1) 7 4
  if u8At d 0 = 0 || (8 ≤ h && h ≤ 14) then onLace (fun l => { l with presDrop := l.presDrop + 1 }) s
  else reportOf early p (u8At d 0) (u8At d 1 % 4) h (presencePacket k p (u8At d 0) (u8At d 1 % 4) h s)

/-- The class that a STATUS record's flags give: DRIVER, LAMP or OVERTEMP, the first that is set. -/
def statusClass (flags : Nat) : Nat := if bit flags 2 then 3 else if bit flags 1 then 2 else if bit flags 3 then 6 else 0

def statusRecord (p : Nat) (d : Bytes) (s : State) : State :=
  let fl := u8At d 4
  let s := onPin p (fun t => { t with burnHours := BitVec.ofNat 32 (u32At d 6), power := u16At d 10, temperature := s16At d 12,
                                      failsafe := bit fl 0, failure := if t.failure = 0 then statusClass fl else t.failure }) s
  powerReport p (u16At d 10) s

/-- A telemetry sample packet enters the Shuttle's Skein, or is dropped for want of room (Table 3.1): u16 Pin, u64 SFD
timestamp, the record's data. -/
def telemetryRecord (k p sfdEnd : Nat) (d : Bytes) (s : State) : State :=
  if 4 < u8At d 0 then onAir (fun a => { a with unkRec := a.unkRec + 1 }) s
  else
    let n := 4 + k
    let b := le16 p ++ le64 sfdEnd ++ d
    if 16 * (fillOf (skein s n) + wordsOf b.length) ≤ 256 * (skein s n).size then packetVisible n b s
    else onSkein n (fun q => { q with drop := q.drop + 1 }) s

/-- The data length a record type asks for. -/
def recordLengthOk (ty len : Nat) : Bool :=
  match ty with
  | 1 => len == 2 | 2 => len == 14 | 3 => 6 ≤ len | 4 => len == 2
  | _ => true

/-- Records in order; one whose length is wrong ends the frame. -/
def reportRecords (f : RxFrame) (early : Bool) (p : Nat) : Nat → Bytes → State → State
  | 0, _, s => s
  | n + 1, b, s =>
    let ty := u8At b 0
    let len := u8At b 1
    if b.length < 2 + len || b.length < 2 || !recordLengthOk ty len then countDrop f.shuttle .format s
    else
      let d := (b.drop 2).take len
      let s :=
        match ty with
        | 1 => presenceRecord f.shuttle early p d s
        | 2 => statusRecord p d s
        | 3 => telemetryRecord f.shuttle p f.sfdEnd d s
        | 4 => s
        | _ => onAir (fun a => { a with unkRec := a.unkRec + 1 }) s
      reportRecords f early p n (b.drop (2 + len)) s

/-- A report's frame starts at its SFD timestamp less preamble and SFD (DESIGN CHOICE: R26's start of the frame). -/
def handleReport (f : RxFrame) (p : Nat) (s : State) : State :=
  let n := u8At f.payload 1
  let early := f.sfdEnd < s.stitch.lastBoundary + sfdTime (modeOf s f.shuttle)
  if n = 0 || 16 < n then countDrop f.shuttle .format s else reportRecords f early p n (f.payload.drop 2) s

/-- UPLINK_REPORT: a REPORT is accepted, acknowledged, and its records processed in order (R201). -/
def execUplinkReport (frame : RxFrame) (s : State) : Out :=
  if otherKind frame 0x21 then next s else next (uplink frame (ofKind frame 0x21 (handleReport frame)) s)

/-- UPLINK_IMAGE_STATE: the Pin's last IMAGE_STATE is kept (R240). -/
def execUplinkImageState (frame : RxFrame) (s : State) : Out :=
  if otherKind frame 0x0E then next s
  else next (uplink frame (ofKind frame 0x0E fun p s =>
    onRadio p (fun r => { r with image := some (u8At frame.payload 2, BitVec.ofNat 32 (u32At frame.payload 5)) }) s) s)

/-! Telemetry decoding (R202). -/

def bitsOf (b : Bytes) : List Bool := b.flatMap fun x => [7, 6, 5, 4, 3, 2, 1, 0].map (bit x.toNat)

def natOfBits (l : List Bool) : Nat := l.foldl (fun a b => 2 * a + (if b then 1 else 0)) 0

/-- One code: its value v and the bits left. -/
def tlmCode (l : List Bool) : Option (Nat × List Bool) :=
  let z := (l.takeWhile (!·)).length
  let r := l.drop z
  if 17 < z || r.length < z + 1 then none else some (natOfBits (r.take (z + 1)), r.drop (z + 1))

/-- The samples after `x`, or none when the block is rejected. -/
def tlmSamples : Nat → Int → List Bool → Option (List Int)
  | 0, _, l => if l.length < 8 && l.all (!·) then some [] else none
  | n + 1, x, l =>
    match tlmCode l with
    | none => none
    | some (v, rest) =>
      let z : Int := (v : Int) - 1
      let d : Int := if z % 2 = 0 then z / 2 else -((z + 1) / 2)
      let y := x + d
      if -32768 ≤ y ∧ y ≤ 32767 then (tlmSamples n y rest).map (y :: ·) else none

def tlmBlock (d : Bytes) : Option (List Int) :=
  let n := u8At d 1
  if n = 0 || 16 < n then none else (tlmSamples (n - 1) (s16At d 4) (bitsOf (d.drop 6))).map (s16At d 4 :: ·)

/-- Sample k is stamped with the SFD timestamp less (n − 1 − k) × interval. -/
def tlmStamped (pin sfd : Nat) (d : Bytes) (l : List Int) : List TlmSample :=
  l.zipIdx.map fun (v, k) => { pin := pin, channel := u8At d 0, stamp := sfd - (l.length - 1 - k) * u16At d 2 * 1000000000, value := v }

/-- Reader `r` reads one packet of a Skein, word after word, under the ECC outcome of `a` (R61–R63, R66). No bytes where nothing is
returned or the bad-packet marker comes. -/
def readWhole (n r : Nat) (a : BusAccess) : Nat → Nat → Bytes → State → Option Bytes × State
  | 0, _, _, s => (none, s)
  | fuel + 1, k, acc, s =>
    let (d, tag, s) := popSkein n r (eccOf a k) s
    if tag / 128 = 0 || tag % 32 = 0 then (none, s)
    else
      let acc := acc ++ d.take (tag % 32)
      if tag / 64 % 2 = 1 then (some acc, s) else readWhole n r a fuel (k + 1) acc s

/-- The fabric initiator of the engine that runs a task of the list APP: A1–A3 are engines 14–16. -/
def appInitiator (s : State) (k : TaskKind) : Nat :=
  ((s.tmb.slots.find? fun t => t.kind == k && t.state == .running).elim 14 (·.engine)) - 13

/-- TELEMETRY_DECODE: the engine that has the task reads the oldest packet of the Shuttle's Skein and decodes it, or counts it in TLM_BAD. -/
def execTelemetryDecode (read : TelemetryRead) (s : State) : Out :=
  let shuttle := read.shuttle
  if taskRunning s (.telemetry shuttle) then
    let (q, s) := readWhole (4 + shuttle) (appInitiator s (.telemetry shuttle)) read.access maxWords 0 [] s
    let s := freeTask (.telemetry shuttle) s
    match q with
    | none => next s
    | some b =>
      match tlmBlock (b.drop 10) with
      | none => next (onAir (fun a => { a with tlmBad := a.tlmBad + 1 }) s)
      | some l => next (onAir (fun a => { a with telemetry := a.telemetry ++ tlmStamped (u16At b 0) (u64At b 2) (b.drop 10) l }) s)
  else next s

/-! Other coordinators (R19). -/

/-- FOREIGN_BEACON: a beacon with the module's own PAN ID is counted, and recorded at most once a minute. -/
def execForeignBeacon (shuttle : Nat) (pan : U16) (s : State) : Out :=
  if pan.toNat != airPan s || !hasRadio s || !pfEn (region s) shuttle then next s
  else
    let a := s.air
    let due := match a.panMinute with | none => true | some c => 60 * cyclesPerSec ≤ s.time.cycle - c
    let s := onAir (fun a => { a with panConflict := a.panConflict + 1, panCount := a.panCount + 1 }) s
    if due then
      next (post 0x0601 shuttle (le16 (min 65535 s.air.panCount))
        (onAir (fun a => { a with panCount := 0, panMinute := some s.time.cycle }) s))
    else next s

end Sys2Proof.Machine
end

