-- ==== Sys2Proof/Machine/Course.lean ====
section
/-! DEFINITION. Beacons (R207, R208, R233), Courses (R211–R214), tries, probes, Picots and group frames, sleepy sensors (R225–R231),
Shuttle failure and re-homing (R234–R236), and node settings frames (R224). -/

namespace Sys2Proof.Machine

/-! Sleepy sensors. -/

/-- R225: listen interval and phase in ms. -/
def listenMs (b : Bytes) : Nat := cListen b * 100
def listenPhase (p : Nat) (b : Bytes) : Nat := if listenMs b = 0 then 0 else p * 97 % listenMs b

/-- The first listen instant whose ms count is above `m`. -/
def nextInstant (p : Nat) (b : Bytes) (m : Nat) : Nat :=
  let l := listenMs b
  if l = 0 then m + 1
  else
    let ph := listenPhase p b
    let r := (m + l - ph % l) % l
    m + (l - r)

/-- Listen instants in ms with `a < m ≤ e`. -/
def instantsIn (p : Nat) (b : Bytes) (a e : Nat) : List Nat :=
  if listenMs b = 0 then []
  else
    let f := nextInstant p b a
    (upTo ((e + listenMs b - f) / listenMs b)).map fun k => f + k * listenMs b

/-- R227's guard in µs for a listen instant in ms; none when no sync is known. -/
def guardAt (s : State) (p instant : Nat) : Option Nat :=
  let r := radioPin s p
  match r.lastSync with
  | none => none
  | some t =>
    let e := (instant * 1000000 - t) / 1000000000
    some (if r.driftValid then 2000 + (pinState s p).drift.natAbs * e / 16 else 2000 + 800 * e / 16)

/-- R228, R231: a Picot takes the place of the window. -/
def picotMode (s : State) (p instant : Nat) : Bool :=
  (pinState s p).wakeOnly || (match guardAt s p instant with | none => true | some g => 40000 < g)

def wakeAllowed (s : State) : Bool := airOn s && pfWakeEn (region s)

/-- A Picot request joins the queue unless the same one waits already. -/
def requestPicot (pin reason : Nat) (s : State) : State :=
  if !wakeAllowed s || s.air.picots.any (fun r => r.pin == pin && r.reason == reason) then s
  else onAir (fun a => { a with picots := a.picots ++ [{ pin := pin, reason := reason, due := s.stitch.number }] }) s

/-- Pins that a Shuttle serves, with their configuration halves: none while no Shuttle is in service (R235). -/
def servedPins (s : State) (k : Nat) : List (Nat × Bytes) :=
  if inServiceShuttles s == [] then [] else s.tab.live.pins.filter fun e => isRadio e.2 && (pinState s e.1).serving == k
def servedSleepy (s : State) (k : Nat) : List (Nat × Bytes) := (servedPins s k).filter fun e => cTransport e.2 == tSleepy

/-- What a window occupies: start and end in TAI ns, with the exchange of its POLL and a follow-up (R226). -/
def windowSpan (s : State) (k : Nat) (w : RxWindow) : Nat × Nat :=
  let m := modeOf s k
  let follow := match readyHead s w.pin with | some q => 10000000 + exchange s k (24 + q.payload.length) | none => 0
  (w.instant - w.guard - sfdTime m, w.instant + w.guard + (airtime m 25 - sfdTime m) + 1300000 + ackAirtime s k + follow)

/-- One listen instant: a window, or a RESYNC Picot. -/
def planInstant (k : Nat) (s : State) (e : Nat × Nat) : State :=
  let (p, m) := e
  if picotMode s p m then requestPicot p 1 s
  else
    let w : RxWindow := { pin := p, shuttle := k, instant := m * 1000000, guard := (guardAt s p m).getD 0 * 1000 }
    onShuttle k (fun h => { h with winPlanned := h.winPlanned + 1 }) (onAir (fun a => { a with windows := a.windows ++ [w] }) s)

/-- R229: a command for a sleepy sensor asks for a COMMAND Picot when no listen instant falls near its commit, or, for a retry, near the
try that was missed. -/
def wakeForCommand (s : State) (e : Nat × Bytes) : State :=
  let (p, b) := e
  match readyHead s p with
  | none => s
  | some q =>
    let from_ := (taiNs s - (s.time.cycle - q.cycle) * 1000000000 / cyclesPerSec) / 1000000
    if (radioPin s p).woken || (!picotMode s p (nextInstant p b (taiNs s / 1000000)) && nextInstant p b from_ ≤ from_ + wakeAfter s * 1000) then s
    else onRadio p (fun r => { r with woken := true }) (requestPicot p 0 s)

/-- Windows and Picots of the listen instants from the last plan to 2 ms past the next boundary. -/
def planSleepy (k : Nat) (s : State) : State :=
  let limit := s.stitch.nextBoundary / 1000000 + 2
  let from_ := max (shuttle s k).plannedTo (s.stitch.lastBoundary / 1000000)
  let pins := (servedSleepy s k).filter fun e => !suspended s e.1
  let l := pins.flatMap fun e => (instantsIn e.1 e.2 from_ limit).map fun m => (e.1, m)
  let s := l.foldl (planInstant k) (onShuttle k (fun h => { h with plannedTo := limit }) s)
  pins.foldl wakeForCommand s

/-- RECEIVE_WINDOW_END: a window in which no frame of the Pin was accepted is missed; three in a row set WAKE_ONLY (R226, R231). -/
def execReceiveWindowEnd (pin : Nat) (collided : Bool) (s : State) : Out :=
  match s.air.windows.find? fun w => w.pin == pin with
  | none => next s
  | some w =>
    let s := onAir (fun a => { a with windows := a.windows.filter (· != w) }) s
    if collided then next (onShuttle w.shuttle (fun h => { h with winCollide := h.winCollide + 1 }) s)
    else
      let off := (pinState s pin).switchedOff
      let s := onShuttle w.shuttle (fun h => { h with winMissed := h.winMissed + 1 }) s
      let s := onRadio pin (fun r => { r with missedRow := r.missedRow + 1, missedInstants := if off then r.missedInstants else r.missedInstants + 1 }) s
      next (if 3 ≤ (radioPin s pin).missedRow then onPin pin (fun t => { t with wakeOnly := true }) s else s)

/-! Planning (R212, R213). -/

/-- A candidate item: due Stitch, kind order, acceptance sequence, Pin, the item and the time it takes. -/
structure Candidate where
  due : U32
  order : Nat
  seq : U32
  pin : Nat
  item : CourseItem
  length : Nat
  deriving DecidableEq, Repr, Inhabited

def candBefore (a b : Candidate) : Bool :=
  if a.due != b.due then serialBefore a.due b.due
  else if a.order != b.order then a.order < b.order
  else if a.seq != b.seq then serialBefore a.seq b.seq
  else a.pin ≤ b.pin

/-- The Shuttle that sends a Picot: the Pin's serving Shuttle, or the lowest-numbered in service. -/
def picotShuttle (s : State) (r : PicotReq) : Option Nat :=
  if r.pin = 0xFFFF then (inServiceShuttles s).head? else some (pinState s r.pin).serving

def picotLength (s : State) : Nat := 8000000 * pfRepeats (region s) + 2000000

def picotItems (s : State) (k : Nat) : List Candidate :=
  (s.air.picots.filter fun r => picotShuttle s r == some k).map fun r =>
    { due := r.due, order := 1, seq := 0, pin := r.pin, item := .picot r.pin r.reason, length := picotLength s }

def tryItems (s : State) (k : Nat) : List Candidate :=
  ((servedPins s k).filter fun e => cTransport e.2 == tMains).filterMap fun e =>
    (readyHead s e.1).map fun q =>
      { due := q.due, order := 2, seq := q.seq, pin := e.1, item := .try_ e.1 q.seq, length := exchange s k (24 + q.payload.length) }

def probeItems (s : State) (k : Nat) : List Candidate :=
  (s.air.probes.filter fun e => (pinState s e.1).serving == k && queueOf s e.1 == [] && !inFlight s e.1 && !suspended s e.1).map fun e =>
    { due := e.2, order := 3, seq := 0, pin := e.1, item := .probe e.1, length := exchange s k 33 }

/-- The LEVEL at the head of a Pin's queue that was committed at this boundary. -/
def freshLevel (s : State) (p : Nat) : Option Bytes :=
  match queueOf s p with
  | q :: _ => if q.kind == 1 && q.committed && q.stitch == s.stitch.number && q.tries == 0 then some q.payload else none
  | [] => none

/-- R222 for one group on one Shuttle: the payload to dispatch. -/
def groupPayload (s : State) (k g : Nat) : Option Bytes :=
  let pins := (servedPins s k).filter fun e => bit (cGroups e.2) g
  let members := pins.filter fun e => cKind e.2 == kLantern
  let since := s.stitch.number - BitVec.ofNat 32 (s.stitch.number.toNat % 64) - 64
  let moved := pins.any fun e => match (radioPin s e.1).rehomedAt with | some n => serialAtOrBefore since n | none => false
  match members with
  | [] => none
  | m :: _ =>
    match freshLevel s m.1 with
    | none => none
    | some pl => if groupMin s ≤ members.length && !moved && members.all (fun e => freshLevel s e.1 == some pl) then some pl else none

/-- Dispatches that fall due at this boundary. -/
def newGroups (s : State) (k : Nat) : List (U32 × Nat × Bytes) :=
  if !groupDispatch s then [] else (upTo 32).filterMap fun g => (groupPayload s k g).map fun pl => (s.stitch.number, g, pl)

/-- GROUP_LEVEL dispatches waiting, those that a Course before deferred among them. -/
def groupItems (s : State) (k : Nat) : List Candidate :=
  (shuttle s k).groups.map fun (due, g, pl) =>
    { due := due, order := 4, seq := 0, pin := g, item := .group g pl, length := airtime (modeOf s k) (24 + pl.length) + 200000 }

/-! Image symbols (R238, R239). -/

def ceilDiv (a b : Nat) : Nat := if b = 0 then 0 else (a + b - 1) / b

def imgKt (l : ImageLoad) : Nat := ceilDiv l.length l.symbol
def imgZ (l : ImageLoad) : Nat := max 1 (ceilDiv (imgKt l) 8192)
/-- Blocks of the longer kind (RFC 6330's Partition), and the two block sizes. -/
def imgLong (l : ImageLoad) : Nat := imgKt l - (imgKt l / imgZ l) * imgZ l
def imgBlockK (l : ImageLoad) (b : Nat) : Nat := imgKt l / imgZ l + (if b < imgLong l then 1 else 0)
/-- Symbols sent of a block of K source symbols. -/
def imgCount (pct k : Nat) : Nat := k + k * pct / 100
def imgTotal (pct : Nat) (l : ImageLoad) : Nat := ((upTo (imgZ l)).map fun b => imgCount pct (imgBlockK l b)).sum

/-- The n-th symbol of the session: source block and ESI, blocks in turn. -/
def imgSymbol (pct : Nat) (l : ImageLoad) (n : Nat) : Nat × Nat :=
  let z := imgZ l
  let short := imgCount pct (imgKt l / z)
  if n < short * z then (n % z, n / z)
  else
    let m := n - short * z
    let j := max 1 (imgLong l)
    (m % j, short + m / j)

def targetBroadcast (t : Nat) : Bool := bit t 7
def targetPin (t : Nat) (e : Nat × Bytes) : Bool := isRadio e.2 && (targetBroadcast t || bit (cGroups e.2) (t % 32))
def imageTargets (s : State) (z : ImageSession) : List (Nat × Bytes) := s.tab.live.pins.filter (targetPin z.load.target)

def imageShuttles (s : State) (z : ImageSession) : List Nat :=
  (inServiceShuttles s).filter fun k => (imageTargets s z).any fun e => (pinState s e.1).serving == k

/-- Symbols that a Shuttle may send now: left in the session, and of blocks encoded. -/
def imageReady (s : State) (k : Nat) (z : ImageSession) : Nat :=
  let left := imgTotal (repairPct s) z.load - (shuttle s k).imageSent
  let n := min (imageRate s) left
  ((upTo n).takeWhile fun i => z.encoded.contains (imgSymbol (repairPct s) z.load ((shuttle s k).imageSent + i)).1).length

def imageItems (s : State) (k : Nat) : List Candidate :=
  match s.air.session with
  | some z =>
    if z.sending && (imageShuttles s z).contains k then
      List.replicate (imageReady s k z)
        { due := s.stitch.number, order := 5, seq := 0, pin := 0, item := .image, length := airtime (modeOf s k) (29 + z.load.symbol) + 200000 }
    else []
  | none => []

def candidates (s : State) (k : Nat) : List Candidate :=
  sortBy candBefore (picotItems s k ++ tryItems s k ++ probeItems s k ++ groupItems s k ++ imageItems s k)

/-- A Pin of an item, for the rule of one ordered item per Pin. -/
def itemOf : CourseItem → Option Nat
  | .picot p _ => if p = 0xFFFF then none else some p
  | .try_ p _ => some p
  | .probe p => some p
  | _ => none

/-- Gaps of the Course between fixed spans, in time order. -/
def gapsOf (a e : Nat) : List (Nat × Nat) → List (Nat × Nat)
  | [] => [(a, e)]
  | (x, y) :: rest => if x ≤ a then gapsOf (max a y) e rest else (a, min x e) :: gapsOf (max a y) e rest

/-- The first gap with room takes the item: its start, and the gaps left. -/
def takeGap (n : Nat) : List (Nat × Nat) → Option (Nat × List (Nat × Nat))
  | [] => none
  | (a, e) :: rest =>
    if a + n ≤ e then some (a, (a + n, e) :: rest)
    else (takeGap n rest).map fun (t, l) => (t, (a, e) :: l)

/-- Places items in order: placed with start, and the number deferred. -/
def place : List Candidate → List (Nat × Nat) → List Nat → List (Nat × PlanItem) × Nat
  | [], _, _ => ([], 0)
  | c :: rest, gaps, pins =>
    let again := match itemOf c.item with | some p => pins.contains p | none => false
    if again then let (l, d) := place rest gaps pins; (l, d + 1)
    else
      match takeGap c.length gaps with
      | some (t, g) =>
        let (l, d) := place rest g (match itemOf c.item with | some p => p :: pins | none => pins)
        ((t, { item := c.item, start := t, length := c.length }) :: l, d)
      | none =>
        let (l, d) := place rest gaps pins
        (l, d + 1)

def courseEnd (s : State) : Nat := s.stitch.nextBoundary - 1500000
/-- The descriptor is carried: the session runs, or has ended within 64 beacon Stitches, from its first beacon on. -/
def descriptorOn (s : State) : Option ImageSession :=
  s.air.session.filter fun z => z.begun && serialAtOrBefore z.first s.stitch.number && (z.sending || z.left != 0)

/-- PSDU octets of a beacon (Table 9.1). -/
def beaconPsdu (s : State) : Nat := if (descriptorOn s).isSome then 101 else 73

/-- The SFD of a beacon ends 3,000 µs after the boundary (R207): the start of its preamble, and its end. -/
def beaconStart (s : State) (k : Nat) : Nat := s.stitch.lastBoundary + 3000000 - sfdTime (modeOf s k)
def beaconEnd (s : State) (k : Nat) : Nat := beaconStart s k + airtime (modeOf s k) (beaconPsdu s)

/-- The Course begins once the commit is complete, and in a beacon Stitch at the end of the beacon (R211). -/
def courseStart (s : State) (k : Nat) : Nat := if isBeacon s.stitch.number then max (taiNs s) (beaconEnd s k) else taiNs s

/-- COURSE_PLANNING: windows and Picots of listen instants, then the ordered items; the Course becomes READY. -/
def execCoursePlanning (shuttle : Nat) (s : State) : Out :=
  if !taskRunning s (.planning shuttle) then next s
  else
    if !shuttleOn s shuttle then next (freeTask (.planning shuttle) s)
    else
      let s := planSleepy shuttle s
      let fresh := newGroups s shuttle
      let s := onShuttle shuttle (fun h => { h with groups := h.groups ++ fresh }) s
      let a := courseStart s shuttle
      let e := courseEnd s
      let fixed := sortBy (fun x y => x.1 ≤ y.1) ((s.air.windows.filter fun w => w.shuttle == shuttle).map (windowSpan s shuttle))
      let (l, d) := place (candidates s shuttle) (if a < e then gapsOf a e (fixed.filter fun w => a < w.2 && w.1 < e) else []) []
      let plan := (sortBy (fun x y => x.1 ≤ y.1) l).map (·.2)
      let s := onShuttle shuttle (fun h => { h with plan := plan, inCourse := true, itemsLast := plan.length, itemsMax := max h.itemsMax plan.length,
                                                    deferCourse := h.deferCourse + BitVec.ofNat 32 d }) s
      next (postFrom (.planning shuttle) (newTask (.course shuttle) true s.stitch.number ((e - s.stitch.lastBoundary) / 1000) 0) s)

/-! Running a Course (R211, R214). -/

def deferItem (k n : Nat) (s : State) : State := onShuttle k (fun h => { h with deferCourse := h.deferCourse + BitVec.ofNat 32 n }) s

/-- The instant at which a frame begun now ends. -/
def frameEnd (s : State) (k psdu : Nat) : Nat := taiNs s + airtime (modeOf s k) psdu

/-- A try of a command is sent (R216); one that cannot be built fails the command. -/
def sendTry (k p : Nat) (q : PinCmd) (s : State) : State :=
  let slot := cKey (pinConf s.tab.live p)
  let pl := le8 q.kind ++ q.payload
  match sendData k fcUnicast q.downSeq (0x0800 + p) slot pl s with
  | (none, s) => failCommand k p q s
  | (some c, s) =>
    let s := modifyQueue p (fun x => if x.seq == q.seq then { x with tries := x.tries + 1 } else x) s
    let s := onPin p (fun t => { t with retries := q.tries }) s
    let a : Awaiting := { pin := p, command := some q.seq, sync := false, seq := q.downSeq, keyIndex := slot + 1, counter := c,
                          mode := modeOf s k, sfdAt := taiNs s + sfdTime (modeOf s k), sentEnd := frameEnd s k (23 + pl.length) }
    onShuttle k (fun h => { h with trySent := h.trySent + 1, awaiting := some a }) s

/-- A probe (R220): the Pin's current sequence, level, CCT and default fade. -/
def sendProbe (k p : Nat) (s : State) : State :=
  let t := pinState s p
  let conf := pinConf s.tab.live p
  let level := if t.commanded = 0xFFFF then t.target else t.commanded
  let pl := le8 1 ++ levelPayload level t.cct (cFade conf) 0
  match sendData k fcUnicast t.downSeq (0x0800 + p) (cKey conf) pl s with
  | (none, s) => s
  | (some c, s) =>
    let a : Awaiting := { pin := p, command := none, sync := false, seq := t.downSeq, keyIndex := cKey conf + 1, counter := c,
                          mode := modeOf s k, sfdAt := taiNs s + sfdTime (modeOf s k), sentEnd := frameEnd s k (23 + pl.length) }
    onShuttle k (fun h => { h with awaiting := some a }) (onAir (fun x => { x with probes := x.probes.filter fun e => e.1 != p }) s)

/-- A SYNC (R224, R228): the instant at which its SFD ends. -/
def sendSync (k p : Nat) (s : State) : State :=
  let slot := cKey (pinConf s.tab.live p)
  let sfd := taiNs s + sfdTime (modeOf s k)
  let d := nextDownSeq s p
  let pl := le8 4 ++ leBytes 6 (sfd / 1000000000) ++ le32 (sfd % 1000000000)
  match sendData k fcUnicast d (0x0800 + p) slot pl s with
  | (none, s) => s
  | (some c, s) =>
    let a : Awaiting := { pin := p, command := none, sync := true, seq := d, keyIndex := slot + 1, counter := c,
                          mode := modeOf s k, sfdAt := sfd, sentEnd := frameEnd s k (23 + pl.length) }
    onShuttle k (fun h => { h with awaiting := some a }) (takeDownSeq p d s)

/-- NODATA, AR 0, to a sleepy sensor whose pending frame was withdrawn (R197). -/
def sendNodata (k p : Nat) (s : State) : State :=
  (sendData k fcNoAck (pinState s p).downSeq (0x0800 + p) (cKey (pinConf s.tab.live p)) (le8 3 ++ le8 0) s).2

/-- The frame after an Enh-Ack with pending 1. -/
def sendFollow (k : Nat) (f : FollowUp) (s : State) : State :=
  let s := onShuttle k (fun h => { h with follow := none }) s
  if f.sync then sendSync k f.pin s
  else
    match readyHead s f.pin with
    | some q => sendTry k f.pin q s
    | none => sendNodata k f.pin s

/-- A wake frame (Table 8.9), its fields most significant bit first: PAN ID, address, reason, copies to follow. -/
def wakeFrame (pan addr reason left : Nat) : Bytes :=
  let body := word16 pan ++ word16 addr ++ le8 (16 * (reason % 16) + left % 8)
  word16 0xAAAA ++ word16 0xD391 ++ body ++ [BitVec.ofNat 8 (crcBytesM 8 0x07 0 body)]

/-- The copies of a Picot, REPEATS − 1 down to 0 still to follow. -/
def wakeFrames (pan addr reason repeats : Nat) : List Bytes := (upTo repeats).map fun i => wakeFrame pan addr reason (repeats - 1 - i)

/-- A Picot (R204): the transceiver is off its channel until 2 ms past its end, the wake channel's airtime counts, and a quiet time follows
a unicast one (R231). -/
def sendPicot (k p reason : Nat) (s : State) : State :=
  let n := pfRepeats (region s)
  let now := taiNs s
  let dur := 8000000 * n
  let req : PicotReq → Bool := fun r => r.pin == p && r.reason == reason
  let addr := if p = 0xFFFF then 0xFFFF else 0x0800 + p
  let s := onAir (fun a => { a with wakeBins := addBin (upSec s) dur a.wakeBins, wakeBusy := now + dur, picotSent := a.picotSent + 1,
                                    picots := a.picots.filter fun r => !req r,
                                    picotLog := a.picotLog ++ [{ shuttle := k, address := addr, reason := reason, copies := wakeFrames (airPan s) addr reason n }] })
    (onShuttle k (fun h => { h with freeAt := now + dur + 2000000 }) (transmit k now (dur + 2000000) s))
  if p = 0xFFFF then
    if reason = 1 then (s.tab.live.pins.filter fun e => cTransport e.2 == tSleepy).foldl (fun t e => onRadio e.1 (fun r => { r with resync := true }) t) s
    else s
  else
    let s := onShuttle k (fun h => { h with quietFrom := now + dur + 5000000, quietTo := now + dur + 50000000 }) s
    if reason = 1 then onRadio p (fun r => { r with resync := true }) s else s

/-- A group or broadcast frame under the NET_KEY slot, with its destination's own count (R187). -/
def sendGroup (k dst : Nat) (pl : Bytes) (s : State) : Bool × State :=
  let n := tabGetD s.air.groupSeq dst 0
  match sendData k fcNoAck n dst (netKey s) pl s with
  | (none, s) => (false, s)
  | (some _, s) => (true, onAir (fun a => { a with groupSeq := tabSet a.groupSeq dst ((n + 1) % 256) }) s)

/-- The next IMAGE frame of the session on this Shuttle; the session ends once every target Shuttle has sent all symbols. -/
def sendImage (k : Nat) (s : State) : State :=
  match s.air.session with
  | none => s
  | some z =>
    if !z.sending then s
    else
      let n := (shuttle s k).imageSent
      let (b, esi) := imgSymbol (repairPct s) z.load n
      let pl := le8 0x10 ++ le8 z.load.session ++ le8 b ++ [BitVec.ofNat 8 (esi / 65536), BitVec.ofNat 8 (esi / 256), BitVec.ofNat 8 esi] ++
        fit z.load.symbol (Config.raptorq z.load.data z.load.symbol b esi)
      match sendGroup k (if targetBroadcast z.load.target then 0xFFFF else 0x0100 + z.load.target % 32) pl s with
      | (false, s) => s
      | (true, s) =>
        let s := onShuttle k (fun h => { h with imageSent := n + 1, imageFrames := h.imageFrames + 1 }) s
        let total := imgTotal (repairPct s) z.load
        let done := (imageShuttles s z).all fun j => total ≤ (shuttle s j).imageSent
        let sent := maxOf (s.air.shuttles.map (·.imageSent))
        onAir (fun a => { a with session := some { z with symbols := BitVec.ofNat 32 sent, sending := !done, left := if done then 64 else z.left } }) s

/-- The oldest dispatch of that group and payload is sent. -/
def dropGroup (g : Nat) (pl : Bytes) (l : List (U32 × Nat × Bytes)) : List (U32 × Nat × Bytes) :=
  match l.find? fun e => e.2 == (g, pl) with | some e => l.erase e | none => l

/-- Picot requests of all Shuttles go in due-Stitch order (R231). -/
def picotTurn (s : State) (p reason : Nat) : Bool :=
  match s.air.picots.find? fun r => r.pin == p && r.reason == reason with
  | some r => s.air.picots.all fun x => !serialBefore x.due r.due
  | none => false

/-- One item is begun, or deferred when it may not be. -/
def runItem (k : Nat) (i : PlanItem) (s : State) : State :=
  match i.item with
  | .picot p reason => if s.air.wakeBusy ≤ taiNs s && !wakeHeld s && wakeAllowed s && picotTurn s p reason then sendPicot k p reason s else deferItem k 1 s
  | .try_ p seq =>
    match readyHead s p with
    | some q => if q.seq == seq && (pinState s p).serving == k then sendTry k p q s else s
    | none => s
  | .probe p => if queueOf s p == [] then sendProbe k p s else s
  | .group g pl =>
    let (okv, s) := sendGroup k (0x0100 + g) (le8 2 ++ pl) (onShuttle k (fun h => { h with groups := dropGroup g pl h.groups }) s)
    if okv then onShuttle k (fun h => { h with groupSent := h.groupSent + 1 }) s else s
  | .image => sendImage k s

/-- The Course ends: what is left is deferred. -/
def endCourse (k : Nat) (s : State) : State :=
  let n := (shuttle s k).plan.length
  freeTask (.course k) (deferItem k n (onShuttle k (fun h => { h with plan := [], inCourse := false, crsRun := h.crsRun + 1 }) s))

/-- An instant moved past the spans, in time order, that an item of `len` ns begun there would meet. -/
def pastSpans (len : Nat) : List (Nat × Nat) → Nat → Nat
  | [], t => t
  | (a, e) :: rest, t => pastSpans len rest (if t < e && a < t + len then e else t)

/-- The earliest instant from now on at which a planned item may begin: at its place or later, with the Shuttle free, outside the quiet
time after a Picot (R231), and clear of the receive windows (R212, R214). -/
def itemStart (s : State) (k : Nat) (i : PlanItem) : Nat :=
  let h := shuttle s k
  let t := max (max (taiNs s) i.start) h.freeAt
  let t := if h.quietFrom ≤ t && t < h.quietTo then h.quietTo else t
  pastSpans i.length (sortBy (fun x y => x.1 ≤ y.1) ((s.air.windows.filter fun w => w.shuttle == k).map (windowSpan s k))) t

/-- An item can still be sent whole in this Course, and no duty hold stops it. -/
def itemFits (s : State) (k : Nat) (i : PlanItem) : Bool := !(shuttle s k).holdTx && itemStart s k i + i.length ≤ courseEnd s

/-- The items that can no longer be sent are deferred; then the next one begins when its instant has come, and with none left the Course
ends. -/
def courseNext (k : Nat) (s : State) : State :=
  let plan := (shuttle s k).plan
  let left := plan.filter (itemFits s k)
  let t := deferItem k (plan.length - left.length) (onShuttle k (fun h => { h with plan := left }) s)
  match left with
  | [] => endCourse k t
  | i :: rest => if taiNs s < itemStart s k i then t else runItem k i (onShuttle k (fun h => { h with plan := rest }) t)

/-- COURSE_RUN: the follow-up owed, else the next item of the plan, else the Course's end. The transceiver sending, a try outstanding or an
Enh-Ack owed makes the Course wait. The follow-up of R197 and R228 answers a POLL within 10 ms, in the quiet time of R231 too (DEDUCED:
a Picot is sent to bring that POLL). -/
def execCourseRun (shuttle : Nat) (s : State) : Out :=
  let h := Sys2Proof.Machine.shuttle s shuttle
  if !shuttleOn s shuttle then
    next (if taskRunning s (.course shuttle) then endCourse shuttle (onShuttle shuttle (fun h => { h with follow := none }) s) else s)
  else if h.owed.isSome || h.awaiting.isSome || taiNs s < h.txTo then next s
  else
    match h.follow with
    | some f => next (if h.holdTx then onShuttle shuttle (fun h => { h with follow := none }) s else sendFollow shuttle f s)
    | none =>
      next (if taskRunning s (.course shuttle) then courseNext shuttle s else s)

/-! Beacons (Table 9.1). -/

/-- Code of a Stitch period (Table 2.8). -/
def periodCode (ms : Nat) : Nat := match ms with | 10 => 0 | 20 => 1 | 25 => 2 | 40 => 3 | _ => 4

def shuttleState (s : State) (k : Nat) : Nat :=
  if (shuttle s k).failed then 2 else if pfEn (region s) k then 1 else 0

def descriptorBytes (z : ImageSession) : Bytes :=
  le8 z.load.session ++ le8 z.load.target ++ le16 z.load.hardware ++ leBytes 5 z.load.length ++ le8 0 ++ le16 z.load.symbol ++
    le8 (imgZ z.load) ++ le16 1 ++ le8 4 ++ le32 z.load.crc ++ leW z.load.version ++ leW z.activation

def beaconPayload (s : State) (k : Nat) : Bytes :=
  let ms := s.stitch.lastBoundary / 1000000
  let sec := ms / 1000
  let d := descriptorOn s
  le8 1 ++ le8 (bitN ((shuttle s k).beacons < 64) 0 + bitN s.time.servo.traceable 1 + bitN d.isSome 2 + bitN (pfWakeEn (region s)) 3) ++
    le8 k ++ le8 (periodCode s.stitch.period) ++ leW s.stitch.number ++ leBytes 6 sec ++ le16 (ms % 1000) ++ leS16 (taiUtc s) ++
    leS16 (offsetAt (sect s secTz) sec) ++ le8 s.rtc.wday ++ zeros 3 ++
    (upTo 4).flatMap (fun j => le32 (pfCentre (region s) j) ++ le8 (modeOf s j) ++ le8 (shuttleState s j)) ++
    le32 (pfWakeCentre (region s)) ++ (match d with | some z => descriptorBytes z | none => [])

/-- One Shuttle's beacon: sent, or withheld under R185. Answers whether it was sent. -/
def sendBeacon (acc : Bool × State) (k : Nat) : Bool × State :=
  let (any, s) := acc
  if (shuttle s k).holdTx then (any, onShuttle k (fun h => { h with beaconHeld := h.beaconHeld + 1 }) s)
  else
    let pl := beaconPayload s k
    match sendFrame (beaconStart s k) (modeOf s k) (21 + pl.length) (plainFrame k fcBeacon (shuttle s k).beacons (airPan s) none 0x09 (netKey s) [] pl) s with
    | (none, s) => (any, s)
    | (some _, s) =>
      (true, onShuttle k (fun h => { h with beacons := h.beacons + 1, beaconSent := h.beaconSent + 1, txFrames := h.txFrames + 1 }) s)

/-- A run of beacon Stitches without a beacon begins, goes on, or ends with its record (R233). -/
def beaconGap (any : Bool) (s : State) : State :=
  if any then
    if s.air.gapRun = 0 then s
    else post 0x0606 noSource (leW s.air.gapFirst ++ le16 (min 65535 s.air.gapRun)) (onAir (fun a => { a with gapRun := 0 }) s)
  else onAir (fun a => { a with beaconGap := a.beaconGap + 1, gapRun := a.gapRun + 1,
                                gapFirst := if a.gapRun = 0 then s.stitch.number else a.gapFirst }) s

/-- The descriptor's remaining beacon Stitches, once the session has ended. -/
def descriptorStep (s : State) : State :=
  onAir (fun a => { a with session := a.session.map fun z => if z.sending || !z.begun then z else { z with left := z.left - 1 } }) s

/-- Beacons are due: the Air tile is enabled and a profile in force (R207), the radio clock lost or not (R233). -/
def beaconsDue (s : State) : Bool := hasRadio s && running s && airEn s && pfLoaded s

/-- BEACON: in a beacon Stitch every enabled Shuttle in service sends its beacon (R207); the loss of PLL R stops all four. -/
def execBeacon (s : State) : Out :=
  if !beaconsDue s || !isBeacon s.stitch.number || s.air.beaconAt == some s.stitch.number then next s
  else
    let (any, s) := (if s.time.radiosHeld then [] else inServiceShuttles s).foldl sendBeacon (false, s)
    next (onAir (fun a => { a with beaconAt := some s.stitch.number }) (descriptorStep (beaconGap any s)))

/-! Probes and silence (R220, R221). -/

/-- TIME cycle from which a Pin's silence counts. -/
def silentFrom (s : State) (p : Nat) : Nat := max ((radioPin s p).heardAt.getD s.sys.startCycle) (radioPin s p).silentBase

/-- PROBE_DUE: a mains Pin not heard for KEEPALIVE seconds, its PENDING clear, gets a probe in the next Course. -/
def execProbeDue (pin : Nat) (s : State) : Out :=
  let conf := pinConf s.tab.live pin
  let r := radioPin s pin
  let t := pinState s pin
  if cTransport conf == tMains && isRadio conf && !t.pending &&
     s.air.probes.all (fun e => e.1 != pin) && !inFlight s pin && r.probeAt ≤ s.time.cycle &&
     keepalive s ≤ secSince s (r.heardAt.getD s.sys.startCycle)
  then next (onAir (fun a => { a with probes := a.probes ++ [(pin, s.stitch.number)] }) s)
  else next s

/-- PIN_SILENT: the silence times of R221 give class SILENT. -/
def execPinSilent (pin : Nat) (s : State) : Out :=
  let conf := pinConf s.tab.live pin
  let t := pinState s pin
  let late :=
    if cTransport conf == tMains then silentMains s ≤ secSince s (silentFrom s pin)
    else silentSleepy s ≤ (radioPin s pin).missedInstants
  if isRadio conf && !t.switchedOff && t.failure == 0 && late then
    next (onAir (fun a => { a with heardNow := a.heardNow.filter (· != pin) }) (onPin pin (fun t => { t with failure := 1 }) s))
  else next s

/-! Failure and re-homing (R234–R236). -/

/-- SHUTTLE_FAULT: recorded with its case; the Shuttle leaves service at the next boundary. -/
def execShuttleFault (shuttle : Nat) (cause : Nat) (s : State) : Out :=
  let h := Sys2Proof.Machine.shuttle s shuttle
  if shuttle < 4 && hasRadio s && !h.failed && !h.leaving then
    next (post 0x0207 shuttle (le8 cause) (onShuttle shuttle (fun h => { h with leaving := true }) s))
  else next s

/-- R235's serving Shuttle. -/
def servingOf (a : List Nat) (p home : Nat) : Option Nat :=
  if a = [] then none else if a.contains home then some home else a[p % a.length]?

/-- The second beacon Stitch strictly after `n`. -/
def secondBeacon (n : U32) : U32 := beaconFrom (n + 1) + 64

/-- One Pin's serving Shuttle at a boundary: its queue moves with it, and it is suspended (R236). -/
def rehomePin (a : List Nat) (s : State) (e : Nat × Bytes) : State :=
  let (p, conf) := e
  if !isRadio conf then s
  else
    match servingOf a p (cHome conf) with
    | none => s
    | some k =>
      let away := k != cHome conf
      if (pinState s p).serving == k then onPin p (fun t => { t with rehomed := away }) s
      else
        let s := onPin p (fun t => { t with serving := k, rehomed := away, drift := 0 }) (moveQueue (pinState s p).serving k p s)
        let s := onRadio p (fun r => { r with driftValid := false, suspended := some (secondBeacon s.stitch.number), rehomedAt := some s.stitch.number }) s
        onAir (fun x => { x with windows := x.windows.filter fun w => w.pin != p }) s

/-- A Shuttle out of service: its frame in flight counts as unacknowledged, its plan is dropped. -/
def retireShuttle (s : State) (k : Nat) : State :=
  let s := match (shuttle s k).awaiting with | some a => tryMissed k a s | none => s
  onShuttle k (fun h => { h with failed := true, leaving := false, plan := [], inCourse := false, owed := none, follow := none }) s

/-- Shuttles leave service, Pins move, and AIR_DOWN is recorded once when no Shuttle is in service. -/
def rehomeBoundary (s : State) : State :=
  let out := (upTo 4).filter fun k => (shuttle s k).leaving
  let s := out.foldl retireShuttle s
  let a := inServiceShuttles s
  let down := hasRadio s && a == []
  let s := postIf (down && !s.air.airDown) 0x020B noSource [] s
  let s := onAir (fun x => { x with airDown := down }) s
  if pfLoaded s then s.tab.live.pins.foldl (rehomePin a) s else s

/-! At a boundary. -/

/-- HELD is set at the boundary after a failure (R217). -/
def holdPins (s : State) : State :=
  let l := s.air.holdNext
  let s := onAir (fun a => { a with holdNext := [] }) s
  l.foldl (fun t (p, q, hold) => postIf hold 0x0603 p (leW q) (onPin p (fun x => { x with held := true }) t)) s

/-- SILENT of a Pin heard since it was set, WAKE_ONLY of one synchronised, and HEARD within 192 Stitches. -/
def hearPins (s : State) : State :=
  let s := s.air.heardNow.foldl (fun t p =>
    if (pinState t p).failure = 1 && isRadio (pinConf t.tab.live p) then
      post 0x0605 p [] (onPin p (fun x => { x with failure := 0 }) (onRadio p (fun r => { r with missedInstants := 0 }) t)) else t) s
  let s := s.air.syncedNow.foldl (fun t p => onPin p (fun x => { x with wakeOnly := false }) (onRadio p (fun r => { r with missedRow := 0 }) t)) s
  let s := onAir (fun a => { a with heardNow := [], syncedNow := [] }) s
  let near := fun p : Nat => match tabGet s.air.radio p with
    | some r => r.heardAt.isSome && (s.stitch.number - r.heardStitch).toNat ≤ 192
    | none => false
  { s with tab := { s.tab with state := s.tab.state.map fun e => (e.1, { e.2 with heard := near e.1 }) } }

/-- One Pin's release: HELD clears, its queue resumes, L0 and K0 are set (R217, R218). -/
def releasePin (s : State) (p : Nat) : State :=
  post 0x0604 p [] (resetTarget p (onPin p (fun t => { t with held := false }) s))

/-- Releases take effect at the boundary of their commit (R217). -/
def releaseBoundary (s : State) : State :=
  s.air.releases.foldl (fun t r =>
    if r.done.isNone && (box t r.mailbox).cmds.all (fun c => c.seq != r.seq || c.phase != .batched) then
      let t := r.pins.foldl releasePin t
      onAir (fun a => { a with releases := if r.ready then a.releases.filter fun x => x.seq != r.seq
                                           else a.releases.map fun x => if x.seq == r.seq then { x with done := some t.stitch.number } else x }) t
    else t) s

/-! Node settings frames (Table 9.4). -/

def listenPayload (s : State) (p : Nat) (b : Bytes) : Bytes := le16 (cListen b) ++ le32 (listenPhase p b) ++ le8 (bchk s)
def failsafePayload (s : State) : Bytes := slice (sect s secFailsafe) 0 20

/-- A settings frame is accepted at the commit of the change that generates it, the one just completed (R224); its own journal entry
follows with the next. -/
def joinSetting (p kind : Nat) (pl : Bytes) (s : State) : State :=
  let (seq, s) := joinRadio p kind pl s
  match s.jnl.batch.find? fun e => e.seq == seq with
  | some e => pinAccepted p s.stitch.number e s
  | none => s

/-- The HOME frame ahead of one Pin's change of home Shuttle, once: it may already stand in the queue after a reset. -/
def homeFrame (seq : U32) (p : Nat) (b : Bytes) (s : State) : State :=
  let o := pinConf s.tab.live p
  if !(isRadio o && isRadio b && cHome o != cHome b) || s.air.homed.contains (seq, p) then s
  else
    let s := onAir (fun a => { a with homed := a.homed ++ [(seq, p)] }) s
    if (queueOf s p).any (fun q => q.kind == 5 && q.payload == le8 (cHome b)) then s else joinSetting p 5 (le8 (cHome b)) s

/-- HOME frames ahead of the accepted changes that a boundary finds first of a Pin's changes (R87, R224). -/
def homeFrames (s : State) : State :=
  (s.tab.changes.foldl (fun (a : State × List Nat) c =>
    let (t, earlier) := a
    let accepted := (box t c.mailbox).cmds.all fun k => k.seq != c.seq || k.phase != .batched
    let t :=
      if !accepted then t
      else c.items.foldl (fun t i =>
        match i with
        | .pin p b => if earlier.contains p then t else homeFrame c.seq p b t
        | _ => t) t
    (t, earlier ++ c.items.filterMap itemPin)) (s, [])).1

/-- Frames that a Pin's new configuration calls for. -/
def pinFrames (old : Content) (s : State) (e : Nat × Bytes) : State :=
  let (p, b) := e
  if !isRadio b then s
  else
    let o := pinConf old p
    let fresh := !isRadio o
    let s := if fresh || cGroups o != cGroups b then joinSetting p 6 (le32 (cGroups b)) s else s
    let s := if cTransport b == tSleepy && (fresh || cTransport o != tSleepy || cListen o != cListen b) then joinSetting p 7 (listenPayload s p b) s else s
    if cKind b == kLantern && (fresh || cKind o != kLantern) then joinSetting p 8 (failsafePayload s) s else s

/-- Frames after table changes, and what is kept of Pins that are no longer valid radio Pins. -/
def settingsFrames (old : Content) (s : State) : State :=
  let s := (s.tab.live.pins.filter fun e => pinConf old e.1 != e.2).foldl (pinFrames old) s
  let ok := fun p => isRadio (pinConf s.tab.live p)
  onAir (fun a => { a with radio := a.radio.filter fun e => ok e.1, probes := a.probes.filter fun e => ok e.1,
                           windows := a.windows.filter fun w => ok w.pin, picots := a.picots.filter fun r => r.pin = 0xFFFF || ok r.pin,
                           holdNext := a.holdNext.filter fun e => ok e.1,
                           homed := a.homed.filter fun q => s.tab.changes.any fun c => c.seq == q.1 }) s

/-- LISTEN frames after Air settings take effect that change BCHK (R224). -/
def airSettingsChanged (oldAir : Bytes) (s : State) : State :=
  if u8At oldAir 11 == bchk s then s
  else (s.tab.live.pins.filter fun e => cTransport e.2 == tSleepy).foldl (fun t e => joinSetting e.1 7 (listenPayload t e.1 e.2) t) s

/-- FAILSAFE frames to every LANTERN when failsafe settings take effect (R224). -/
def failsafeFrames (s : State) : State :=
  (s.tab.live.pins.filter fun e => isRadio e.2 && cKind e.2 == kLantern).foldl (fun t e => joinSetting e.1 8 (failsafePayload t) t) s

/-! Counters (R206, R244). -/

/-- AIR_CLEAR_STATS: the radio and filter counters return to 0. -/
def execAirClearStats (s : State) : Out :=
  next (onAir (fun a => { a with
    tlmBad := 0, unkRec := 0, picotSent := 0,
    shuttles := a.shuttles.map fun h => { h with rxOk := 0, rxFcs := 0, rxFormat := 0, rxFilter := 0, rxSec := 0, rxMic := 0, rxReplay := 0, rxDup := 0,
                                                 rxOffhome := 0, txFrames := 0, ackSent := 0, ackPend := 0, ackMiss := 0, dutyHold := 0 } }) s)

/-- CRS_CLEAR_STATS: the Course counters return to 0. -/
def execCrsClearStats (s : State) : Out :=
  next (onAir (fun a => { a with
    panConflict := 0, beaconGap := 0,
    shuttles := a.shuttles.map fun h => { h with crsRun := 0, trySent := 0, tryAcked := 0, cmdFailed := 0, deferCourse := 0, beaconSent := 0, beaconHeld := 0,
                                                 winPlanned := 0, winMissed := 0, winCollide := 0, probeMiss := 0, groupSent := 0, imageFrames := 0,
                                                 itemsMax := h.itemsLast } }) s)

end Sys2Proof.Machine
end

