-- ==== Sys2Proof/Machine/Image.lean ====
section
/-! DEFINITION. Node image sessions (R238–R240) and the AIR commands (R183, R241–R243). -/

namespace Sys2Proof.Machine

/-- In the WZB-8640-W every AIR command is accepted and completes with NO_RADIO, changing nothing (R5). -/
def airCmd (c : CmdSpec) : CmdSpec := { c with
  check := fun m p s => if hasRadio s then c.check m p s else none
  onAccept := fun m q p s => if hasRadio s then c.onAccept m q p s else s
  run := fun m k s => if hasRadio s then c.run m k s else (s, .done stNoRadio []) }

/-! Profile checks (R183). -/

/-- Channel spacing in kHz of a mode code; none for an invalid one (Tables 8.1, 8.2). -/
def spacing (mode : Nat) : Option Nat :=
  if mode = 1 then some 200
  else if 2 ≤ mode ∧ mode ≤ 4 then some 400
  else if 0x80 ≤ mode then
    let o := (mode - 0x80) / 16
    let m := mode % 16
    match o with
    | 0 => if m ≤ 3 then some 1200 else none
    | 1 => if m ≤ 5 then some 800 else none
    | 2 => if 1 ≤ m ∧ m ≤ 6 then some 400 else none
    | 3 => if 2 ≤ m ∧ m ≤ 6 then some 200 else none
    | _ => none
  else none

/-- The variant's band in kHz (R4). -/
def bandOf (variant : Nat) : Nat × Nat := if variant = 0 then (863000, 870000) else (902000, 928000)

/-- A span `centre ± half` (twice the half, in kHz) lies in the band. -/
def spanIn (variant centre width : Nat) : Bool :=
  let (lo, hi) := bandOf variant
  2 * lo + width ≤ 2 * centre && 2 * centre + width ≤ 2 * hi

def profileReserved (p : Bytes) : Bool :=
  allZero (slice p 2 14) && (upTo 4).all (fun k => u8At p (24 + 16 * k) ≤ 1 && allZero (slice p (25 + 16 * k) 7)) && u8At p 88 ≤ 1 &&
    allZero (slice p 89 7)

/-- Every Shuttle channel and the wake channel, used or not, is held to the variant's band (R183). A channel with no valid mode has no span. -/
def spansIn (variant : Nat) (p : Bytes) : Bool :=
  (upTo 4).all (fun k => (spacing (pfMode p k)).all fun w => spanIn variant (pfCentre p k) w) && spanIn variant (pfWakeCentre p) 100

def enabledIn (p : Bytes) : List Nat := (upTo 4).filter (pfEn p)

/-- Centres of two enabled Shuttles are at least the sum of their spacings apart. -/
def centresApart (p : Bytes) : Bool :=
  (enabledIn p).all fun a => (enabledIn p).all fun b =>
    a == b || (spacing (pfMode p a)).getD 0 + (spacing (pfMode p b)).getD 0 ≤ absDiff (pfCentre p a) (pfCentre p b)

/-- R183's checks. Only that of the distance between centres is for enabled Shuttles alone. -/
def profileCheck (variant : Nat) (p : Bytes) : Chk :=
  let dutyOk := fun d : Nat => 1 ≤ d && d ≤ 10000
  checks [
    need (profileReserved p) stBadPayload,
    need (spansIn variant p) stNoRegion,
    need ((upTo 4).all fun k => (spacing (pfMode p k)).isSome) stBadPayload,
    need ((upTo 4).all (fun k => pfPower p k ≤ 148) && pfWakePower p ≤ 148) stBadPayload,
    need ((upTo 4).all (fun k => dutyOk (pfDuty p k)) && dutyOk (pfWakeDuty p)) stBadPayload,
    need (1 ≤ pfRepeats p && pfRepeats p ≤ 8) stBadPayload,
    need (centresApart p) stBadPayload]

/-- A write of one Air section: it takes effect at the first beacon Stitch after its commit (R184, R241). -/
def airWrite (opcode id : Nat) (check : Bytes → State → Chk) : CmdSpec := airCmd {
  opcode := opcode
  needs := rRadioWrite
  check := fun _ p s => andThen (check p s) (settingsRoom p s)
  onAccept := settingAccepted
  run := fun _ c s => writeSetting id 0 c.payload effectBeacon true c s }

def airProfileSet : CmdSpec := airWrite 0x0401 secRegion fun p s => andThen (lenIs p 96) (profileCheck s.sys.variant p)
def execAirProfileSet (op : CmdStep) (s : State) : Out := next (mailboxCommand airProfileSet op s)
def execAirProfileRead (op : CmdStep) (s : State) : Out := next (mailboxCommand (airCmd (sectionRead 0x0402 rRadioRead secRegion)) op s)

/-- Table 9.6's ranges. -/
def airOk (b : Bytes) : Bool :=
  u16At b 0 != 0xFFFF && u8At b 2 ≤ 127 && 10 ≤ u16At b 4 && u16At b 4 ≤ 3600 && 60 ≤ u16At b 6 && 3 ≤ u8At b 8 && 2 ≤ u8At b 9 &&
    1 ≤ u8At b 10 && u8At b 10 ≤ 16 && 1 ≤ u8At b 11 && 1 ≤ u16At b 12 && u16At b 12 ≤ 3600 && u8At b 14 ≤ 200

def airSet : CmdSpec := airWrite 0x0403 secAir fun p _ =>
  checks [lenIs p 32, need (u8At p 3 ≤ 3) stBadPayload, reserved p 15 17, need (airOk p) stBadPayload]
def execAirSet (op : CmdStep) (s : State) : Out := next (mailboxCommand airSet op s)
def execAirRead (op : CmdStep) (s : State) : Out := next (mailboxCommand (airCmd (sectionRead 0x0404 rRadioRead secAir)) op s)

/-- R242. -/
def failsafeOk (b : Bytes) : Bool :=
  let n := u8At b 2
  10 ≤ u16At b 0 && u16At b 0 ≤ 3600 && n ≤ 4 &&
    (upTo 4).all (fun i => u16At b (4 + 4 * i) ≤ 1439 && u16At b (6 + 4 * i) ≤ 1023) &&
    (upTo (n - 1)).all fun i => u16At b (4 + 4 * i) < u16At b (8 + 4 * i)

def airFailsafeSet : CmdSpec := airWrite 0x0405 secFailsafe fun p _ =>
  checks [lenIs p 24, reserved p 3 1, reserved p 20 4, need (failsafeOk p) stBadPayload]
def execAirFailsafeSet (op : CmdStep) (s : State) : Out := next (mailboxCommand airFailsafeSet op s)
def execAirFailsafeRead (op : CmdStep) (s : State) : Out := next (mailboxCommand (airCmd (sectionRead 0x0406 rRadioRead secFailsafe)) op s)

/-! Pins (R217, R243). -/

/-- HELD, as releases already accepted will leave it. -/
def heldForRelease (s : State) (p : Nat) : Bool :=
  (pinState s p).held && s.air.releases.all fun r => r.done.isSome || !r.pins.contains p

def airPinRelease : CmdSpec := airCmd {
  opcode := 0x0407
  needs := rRadioWrite
  check := fun _ p s => checks [need (4 ≤ p.length) stBadPayload, lenIs p (4 + 2 * u16At p 0), reserved p 2 2,
    need (1 ≤ u16At p 0 && u16At p 0 ≤ 1000) stRange,
    items (u16At p 0) fun k => first [(u16At p (4 + 2 * k) ≤ 8191, stRange), (heldForRelease s (u16At p (4 + 2 * k)), stConflict)]]
  onAccept := fun m q p s => onAir (fun a => { a with releases := a.releases ++ [{
    mailbox := m, seq := q, pins := (upTo (u16At p 0)).map fun k => u16At p (4 + 2 * k), ready := false, done := none }] }) s
  run := fun _ c s =>
    match s.air.releases.find? fun r => r.seq == c.seq with
    | some r =>
      match r.done with
      | some n => (onAir (fun a => { a with releases := a.releases.filter fun x => x.seq != c.seq }) s, .effect n (leW n))
      | none =>
        (onAir (fun a => { a with releases := a.releases.map fun x => if x.seq == c.seq then { x with ready := true } else x }) s,
          .effect (nextStitch s) (leW (nextStitch s)))
    | none => (s, .effect s.stitch.number (leW s.stitch.number)) }
def execAirPinRelease (op : CmdStep) (s : State) : Out := next (mailboxCommand airPinRelease op s)

/-- Table 9.9. -/
def pinStateRecord (s : State) (p : Nat) : Bytes :=
  let conf := pinConf s.tab.live p
  if !isRadio conf then le16 p ++ le8 0 ++ le8 0xFF ++ zeros 12
  else
    let t := pinState s p
    let q := queueOf s p
    let sleepy := cTransport conf == tSleepy
    let i := nextInstant p conf (taiNs s / 1000000)
    let pm := sleepy && picotMode s p i
    let g := if !sleepy then 0 else if pm then 0xFFFF else min ((guardAt s p i).getD 0) 0xFFFF
    le16 p ++ le8 (1 + bitN t.held 1 + bitN t.rehomed 2 + bitN t.wakeOnly 3 + bitN pm 4 + bitN (suspended s p) 5) ++
      le8 (if inServiceShuttles s == [] then 0xFF else t.serving) ++ le16 (min q.length 65535) ++ le8 ((q.head?.map (·.tries)).getD 0) ++
      le8 t.linkQuality ++ leW ((q.head?.map (·.seq)).getD 0) ++ le16 g ++ leS16 t.drift

def airPinState : CmdSpec := airCmd {
  opcode := 0x0408
  needs := rRadioRead
  check := fun _ p _ => checks [lenIs p 4, need (1 ≤ u16At p 2 && u16At p 2 ≤ 256) stRange, entryRange (u16At p 0) (u16At p 2) 8192]
  run := fun _ c s => (s, ok ((span (u16At c.payload 0) (u16At c.payload 2)).flatMap (pinStateRecord s))) }
def execAirPinState (op : CmdStep) (s : State) : Out := next (mailboxCommand airPinState op s)

/-- AIR_WAKE: a RESYNC Picot to one sleepy sensor, or to all. -/
def airWake : CmdSpec := airCmd {
  opcode := 0x0409
  needs := rRadioWrite
  check := fun _ p s => checks [lenIs p 4, reserved p 2 2,
    need (u16At p 0 == 0xFFFF || u16At p 0 ≤ 8191) stRange,
    need (u16At p 0 == 0xFFFF || cTransport (pinConf s.tab.projected (u16At p 0)) == tSleepy) stBadPayload]
  run := fun _ c s => (requestPicot (u16At c.payload 0) 1 s, .effect s.stitch.number []) }
def execAirWake (op : CmdStep) (s : State) : Out := next (mailboxCommand airWake op s)

/-! Image load and session. -/

/-- A session is one that sends, or has ended and still leaves its descriptor in beacons. -/
def sessionExists (s : State) : Bool := match s.air.session with | some z => !z.begun || z.sending || z.left != 0 | none => false

def airImageBegin : CmdSpec := airCmd {
  opcode := 0x0410
  needs := rNodeImage
  check := fun _ p s => checks [lenIs p 20, reserved p 18 2, need (u8At p 1 &&& 0x60 == 0) stBadPayload,
    need (1 ≤ u8At p 0) stRange, need (1 ≤ u32At p 4) stBadPayload, need (u32At p 4 ≤ 1048576) stLimit,
    need (u16At p 16 % 4 == 0 && 16 ≤ u16At p 16 && u16At p 16 ≤ 224) stBadPayload,
    need (s.air.load.isNone && !sessionExists s) stConflict]
  onAccept := fun _ _ p s => onAir (fun a => { a with load := some {
    session := u8At p 0, target := u8At p 1, hardware := u16At p 2, length := u32At p 4, crc := u32At p 8, version := BitVec.ofNat 32 (u32At p 12),
    symbol := u16At p 16, data := [], ranges := [] } }) s
  run := effectNow }
def execAirImageBegin (op : CmdStep) (s : State) : Out := next (mailboxCommand airImageBegin op s)

/-- Joins a range to those written, in ascending order and merged. -/
def addRange (a n : Nat) : List (Nat × Nat) → List (Nat × Nat)
  | [] => [(a, n)]
  | (b, m) :: t =>
    if a + n < b then (a, n) :: (b, m) :: t
    else if b + m < a then (b, m) :: addRange a n t
    else addRange (min a b) (max (a + n) (b + m) - min a b) t

/-- Bytes from `off` on, the string grown with zeros as needed. -/
def storeAt (off : Nat) (d b : Bytes) : Bytes :=
  let b := if b.length < off + d.length then b ++ zeros (off + d.length - b.length) else b
  b.take off ++ d ++ b.drop (off + d.length)

def covered (n : Nat) (l : List (Nat × Nat)) : Bool := l == [(0, n)]

def airImageData : CmdSpec := airCmd {
  opcode := 0x0411
  needs := rNodeImage
  check := fun _ p s => checks [need (8 ≤ p.length) stBadPayload, lenIs p (8 + u16At p 4), reserved p 6 2,
    need (1 ≤ u16At p 4 && u16At p 4 ≤ 4096) stRange,
    match s.air.load with
    | none => refuse stConflict
    | some l => need (u32At p 0 + u16At p 4 ≤ l.length) stRange]
  onAccept := fun _ _ p s => onAir (fun a => { a with load := a.load.map fun l =>
    { l with data := storeAt (u32At p 0) (p.drop 8) l.data, ranges := addRange (u32At p 0) (u16At p 4) l.ranges } }) s
  run := effectNow }
def execAirImageData (op : CmdStep) (s : State) : Out := next (mailboxCommand airImageData op s)

/-- First beacon Stitch that can carry a descriptor fixed now. -/
def firstBeacon (c : Cmd) (s : State) : U32 := effectBeacon c s

def airImageStart : CmdSpec := airCmd {
  opcode := 0x0412
  needs := rNodeImage
  check := fun _ p s => checks [lenIs p 4, reserved p 1 3,
    match s.air.load with
    | none => refuse stConflict
    | some l => need (l.session == u8At p 0 && covered l.length l.ranges && crc32c l.data == l.crc) stConflict]
  onAccept := fun _ _ _ s =>
    match s.air.load with
    | none => s
    | some l => onAir (fun a => { a with load := none, shuttles := a.shuttles.map fun h => { h with imageSent := 0 }, session := some {
        load := l, begun := false, sending := false, first := 0, activation := 0, activationDue := none, encoded := [], left := 0, symbols := 0,
        picotAt := s.time.cycle } }) s
  run := fun _ c s =>
    match s.air.session with
    | none => (s, .effect s.stitch.number (leW s.stitch.number))
    | some z =>
      let n := firstBeacon c s
      let s := onAir (fun a => { a with session := some { z with begun := true, sending := true, first := n, picotAt := s.time.cycle } }) s
      let s := (upTo (imgZ z.load)).foldl (fun t b => postTask 3 (newTask (.raptorq b) true n 0 0) t) s
      let s := if (imageTargets s z).any fun e => cTransport e.2 == tSleepy then requestPicot 0xFFFF 2 s else s
      (s, .effect n (leW n)) }
def execAirImageStart (op : CmdStep) (s : State) : Out := next (mailboxCommand airImageStart op s)

/-- RAPTORQ_ENCODING: a block of the image is encoded and may be sent (R238). -/
def execRaptorqEncoding (block : Nat) (s : State) : Out :=
  if taskRunning s (.raptorq block) then
    next (onAir (fun a => { a with session := a.session.map fun z => { z with encoded := if z.encoded.contains block then z.encoded else z.encoded ++ [block] } })
      (freeTask (.raptorq block) s))
  else next s

def ownSession (p : Bytes) (s : State) : Bool :=
  match s.air.session with | some z => z.load.session == u8At p 0 && (!z.begun || z.sending || z.left != 0) | none => false

def airImageActivate : CmdSpec := airCmd {
  opcode := 0x0413
  needs := rNodeImage
  check := fun _ p s => checks [lenIs p 8, reserved p 1 3,
    need (serialBefore (beaconFrom (s.stitch.number + 1)) (BitVec.ofNat 32 (u32At p 4))) stBadPayload, need (ownSession p s) stConflict]
  run := fun _ c s =>
    let n := effectBeacon c s
    (onAir (fun a => { a with session := a.session.map fun z => { z with activationDue := some (n, BitVec.ofNat 32 (u32At c.payload 4)) } }) s,
      .effect n (leW n)) }
def execAirImageActivate (op : CmdStep) (s : State) : Out := next (mailboxCommand airImageActivate op s)

/-- The session ends; beacons carry its descriptor for 64 more beacon Stitches (R239). -/
def endSession (s : State) : State :=
  onAir (fun a => { a with session := a.session.map fun z => if z.sending then { z with sending := false, left := 64 } else z }) s

def airImageStop : CmdSpec := airCmd {
  opcode := 0x0414
  needs := rNodeImage
  check := fun _ p s => checks [lenIs p 4, reserved p 1 3, need (ownSession p s) stConflict]
  run := fun _ _ s => (endSession s, .effect s.stitch.number []) }
def execAirImageStop (op : CmdStep) (s : State) : Out := next (mailboxCommand airImageStop op s)

def imageStateCode (s : State) : Nat :=
  if s.air.load.isSome then 1
  else match s.air.session with | some z => if !z.begun then 1 else if z.sending then 2 else 3 | none => 0
def imageSymbols (s : State) : U32 := match s.air.session with | some z => z.symbols | none => 0

def airImageStatus : CmdSpec := airCmd {
  opcode := 0x0415
  needs := rRadioRead
  check := fun _ p _ => checks [lenIs p 4, need (1 ≤ u16At p 2 && u16At p 2 ≤ 256) stRange, entryRange (u16At p 0) (u16At p 2) 8192]
  run := fun _ c s =>
    let id := match s.air.load with | some l => l.session | none => match s.air.session with | some z => z.load.session | none => 0
    let one := fun p : Nat =>
      match (radioPin s p).image with
      | some (st, v) => le16 p ++ le8 st ++ le8 0 ++ leW v
      | none => le16 p ++ le8 0xFF ++ le8 0 ++ leW 0
    (s, ok (le8 id ++ le8 (imageStateCode s) ++ le16 0 ++ leW (imageSymbols s) ++ (span (u16At c.payload 0) (u16At c.payload 2)).flatMap one)) }
def execAirImageStatus (op : CmdStep) (s : State) : Out := next (mailboxCommand airImageStatus op s)

/-- IMAGE_PICOT_TIMER: every 60 s of a session that targets sleepy sensors, an IMAGE Picot to 0xFFFF (Table 9.5). -/
def execImagePicotTimer (s : State) : Out :=
  match s.air.session with
  | none => next s
  | some z =>
    if z.sending && (imageTargets s z).any (fun e => cTransport e.2 == tSleepy) && 60 * cyclesPerSec ≤ s.time.cycle - z.picotAt then
      next (requestPicot 0xFFFF 2 (onAir (fun a => { a with session := some { z with picotAt := s.time.cycle } }) s))
    else next s

/-- An activation due takes effect at its boundary. -/
def activationBoundary (s : State) : State :=
  onAir (fun a => { a with session := a.session.map fun z =>
    match z.activationDue with
    | some (n, v) => if serialAtOrBefore n s.stitch.number then { z with activation := v, activationDue := none } else z
    | none => z }) s

end Sys2Proof.Machine
end

