-- ==== Sys2Proof/Machine/Decim.lean ====
section
/-! DEFINITION. From a modulator's bits to samples: the sinc3 decimator (R247), the fractional delay (R249) and the high-pass filter
(R251). -/

namespace Sys2Proof.Machine

/-! The decimator (R247). -/

/-- The combs of a path after an edge at which the last integrator holds `i3`; every `n` edges, their output. -/
def combEdge (n : Nat) (i3 : U64) (c : Comb) : Comb × Option Int :=
  if c.count + 1 < n then ({ c with count := c.count + 1 }, none)
  else
    let c1 := i3 - c.d1
    let c2 := c1 - c.d2
    let c3 := c2 - c.d3
    ({ count := 0, d1 := i3, d2 := c1, d3 := c2 }, some c3.toInt)

def sgn (x : Int) : Int := if 0 < x then 1 else if x < 0 then -1 else 0

/-- Main sample r and fast sample q of a comb's output. -/
def mainCode (c3 : Int) : Int := tdiv (c3 * 8388607 + sgn c3 * 976562500) 1953125000
def fastCode (c3 : Int) : Int := clampI (c3 / 8) (-32767) 32767

/-- One rising MET edge with bit `b`; the main samples completed so far, newest first, follow. -/
def decimEdge (a : Decimator × List Int) (b : Bool) : Decimator × List Int :=
  let d := a.1
  let i1 := d.i1 + (if b then 1 else -1)
  let i2 := d.i2 + i1
  let i3 := d.i3 + i2
  let (main, r) := combEdge 1250 i3 d.main
  let (fast, q) := combEdge 64 i3 d.fast
  ({ i1 := i1, i2 := i2, i3 := i3, main := main, fast := fast, recent := q.elim d.recent fun q => (fastCode q :: d.recent).take 64 },
   r.elim a.2 fun r => mainCode r :: a.2)

/-- A decimator after the edges with these bits, and the main samples they complete, oldest first. -/
def decimate (d : Decimator) (bits : List Bool) : Decimator × List Int :=
  let (d, l) := bits.foldl decimEdge (d, [])
  (d, l.reverse)

/-! The filters (R249, R251). -/

/-- The response of the taps `h` at `f` Hz, 8,000 samples a second, turned forward by a delay of `d` ns. -/
def firResponse (h : List Rat) (d f : Nat) : Rat × Rat :=
  let angle := fun j : Nat => 360 * (f : Rat) * (125000 * j - d : Int) / 1000000000
  ((h.zipIdx.map fun e => e.1 * cosDegrees (angle e.2)).sum, -(h.zipIdx.map fun e => e.1 * sinDegrees (angle e.2)).sum)

/-- R249's bounds at `f` Hz: amplitude within 0.01 %, delay within 20 ns. -/
def firMeetsAt (h : List Rat) (d f : Nat) : Bool :=
  let (re, im) := firResponse h d f
  let g := re * re + im * im
  let turn := absR (atan2Degrees im re)
  (9999 / 10000) * (9999 / 10000) < g && g < (10001 / 10000) * (10001 / 10000) && (turn < 360 * (f : Rat) * 20 / 1000000000 || turn == 0)

def firMeets (h : List Rat) (d : Nat) : Bool := h.length == 8 && (List.range 3001).all (firMeetsAt h d)

/-- The delayed value: by the module's taps where those keep R249's bounds. -/
def delayed (k channel d : Nat) (values : List Rat) : Rat :=
  let h := Config.firTaps d
  if firMeets h d then r32 (List.zipWith (· * ·) h values).sum else Config.delayedFree k channel values

/-- The pole of the first-order high-pass filter with its corner at 0.2 Hz, by the bilinear transform (DESIGN CHOICE). -/
def highPole : Rat :=
  let t := sinDegrees (45 / 10000) / cosDegrees (45 / 10000)
  fx ((1 - t) / (1 + t))

/-- One calibrated value through the delay of `d` ns and the high-pass filter; the filter's output is its `y`. -/
def filterValue (k channel d : Nat) (v : Rat) (f : Filter) : Filter :=
  let values := (v :: f.values).take 8
  let x := delayed k channel d values
  { values := values, x := x, y := r32 (highPole * f.y + (1 + highPole) / 2 * (x - f.x)) }

/-- A block's values through the filters. -/
def filterBlock (k channel d : Nat) : List Rat → Filter → List Rat × Filter
  | [], f => ([], f)
  | v :: rest, f =>
    let f := filterValue k channel d v f
    let (l, g) := filterBlock k channel d rest f
    (f.y :: l, g)

end Sys2Proof.Machine
end

