-- ==== Sys2Proof/Machine/Quantity.lean ====
section
/-! DEFINITION. Zero crossings and the quantities of a measurement window (R252–R254, Table 10.2). -/

namespace Sys2Proof.Machine

/-- Positive-going zero crossings: the index of the sample before each, and its place between samples by linear interpolation. -/
def crossings : Nat → List Rat → List (Nat × Rat)
  | i, a :: b :: rest =>
    if a < 0 && 0 ≤ b then (i, (i : Rat) + a / (a - b)) :: crossings (i + 1) (b :: rest) else crossings (i + 1) (b :: rest)
  | _, _ => []

/-- Crossings in either direction. -/
def crossingsBoth (l : List Rat) : List (Nat × Rat) :=
  sortBy (fun a b => a.1 ≤ b.1) (crossings 0 l ++ crossings 0 (l.map fun x => -x))

def meanSquare (l : List Rat) : Rat := (l.map fun x => x * x).sum / (l.length : Rat)
def meanProduct (u i : List Rat) : Rat := (List.zipWith (· * ·) u i).sum / (u.length : Rat)

/-- X_h: the peak phasor of the samples at `f` Hz. -/
def phasor (f : Rat) (l : List Rat) : Rat × Rat :=
  let angle := fun n : Nat => 360 * f * n / 8000
  let n := (l.length : Rat)
  (2 * (l.zipIdx.map fun e => e.1 * cosDegrees (angle e.2)).sum / n, -(2 * (l.zipIdx.map fun e => e.1 * sinDegrees (angle e.2)).sum / n))

/-- |X_h|² of a channel. -/
def harmonicSquare (f : Rat) (l : List Rat) (h : Nat) : Rat :=
  let (re, im) := phasor (h * f) l
  re * re + im * im

/-- Square root of a non-negative rational to 2⁻⁸⁰ of its power of 4. -/
def rootRat (x : Rat) : Rat :=
  if x ≤ 0 then 0
  else
    let n := x.num.natAbs * 2 ^ 400 / x.den
    (isqrt n : Rat) / (2 ^ 200 : Nat)

/-- A quantity as the module's processing gives it: within `bound` of the exact value under R254's conditions, and anywhere near it
outside them. -/
def metered (cond : Bool) (bound exact free : Rat) : Rat := exact + (if cond then max (-bound) (min bound free) else free)

/-- The quantities of one voltage set's window: the frequency in Hz; RMS, and THD as a ratio, by local channel; P, Q, S and the
power factor by feeder and phase, 3 × feeder + phase. -/
structure Quantities where
  frequency : Rat
  rms : List Rat
  thd : List (Option Rat)
  active : List Rat
  reactive : List Rat
  apparent : List Rat
  factor : List (Option Rat)
  deriving DecidableEq, Repr, Inhabited

/-- Frequency in Hz from the interpolated crossings of a window; open where it has fewer than two. -/
def crossingFrequency (k : Nat) (at_ : List Rat) : Rat :=
  match at_.head?, at_.getLast? with
  | some a, some b => if a < b then 8000 * ((at_.length - 1 : Nat) : Rat) / (b - a) else Config.frequencyFree k
  | _, _ => Config.frequencyFree k

/-- R254's conditions on the inputs: the fundamental, and a channel's RMS against its full scale. -/
def fundamentalOk (f : Rat) : Bool := 45 ≤ f && f ≤ 65
def inputOk (fs rms : Rat) : Bool := fs / 200 ≤ rms && rms ≤ fs
/-- Power factor from 0.5 lagging to 0.8 leading; the current lags where Q is positive. -/
def factorOk (p q s : Rat) : Bool := if 0 ≤ q then s / 2 ≤ absR p else s * 4 / 5 ≤ absR p

/-- Table 10.2 over a window's samples of the 28 channels, each within the bounds of Table 10.3. `at_` are its crossings, `fs` the channels'
full scales, `k` the use of the free counter. -/
def quantitiesOf (k : Nat) (nominal : Nat) (at_ fs : List Rat) (samples : List (List Rat)) : Quantities :=
  let free := fun kind i : Nat => Config.meterFree k kind i
  let f := crossingFrequency k at_
  let f0 := if f ≤ 0 then (nominal : Rat) else f
  let ch := fun c : Nat => samples.getD c []
  let exactRms := fun c : Nat => rootRat (meanSquare (ch c))
  let ok := fun c : Nat => fundamentalOk f0 && inputOk (fs.getD c 0) (exactRms c)
  let first := (List.range 28).map fun c => phasor f0 (ch c)
  let u := fun i : Nat => i % 3
  let c := fun i : Nat => 4 + 4 * (i / 3) + i % 3
  let p := fun i : Nat => meanProduct (ch (u i)) (ch (c i))
  let q := fun i : Nat =>
    let a := first.getD (u i) (0, 0)
    let b := first.getD (c i) (0, 0)
    (a.2 * b.1 - a.1 * b.2) / 2
  let sva := fun i : Nat => exactRms (u i) * exactRms (c i)
  let okp := fun i : Nat => ok (u i) && ok (c i) && factorOk (p i) (q i) (sva i)
  { frequency := metered (fundamentalOk f0) (1 / 1000) f (free 0 0)
    rms := (List.range 28).map fun i => metered (ok i) (exactRms i / 10000) (exactRms i) (free 1 i)
    thd := (List.range 28).map fun i =>
      let x1 := harmonicSquare f0 (ch i) 1
      if x1 ≤ 0 then none
      else some (metered (ok i) (1 / 1000) (rootRat ((((List.range 49).map fun h => harmonicSquare f0 (ch i) (h + 2)).sum) / x1)) (free 2 i))
    active := (List.range 18).map fun i => metered (okp i) (absR (p i) / 5000) (p i) (free 3 i)
    reactive := (List.range 18).map fun i => metered (okp i) (absR (q i) / 2000) (q i) (free 4 i)
    apparent := (List.range 18).map fun i => metered (okp i) (sva i / 5000) (sva i) (free 5 i)
    factor := (List.range 18).map fun i => if sva i ≤ 0 then none else some (metered (okp i) (2 / 10000) (p i / sva i) (free 6 i)) }

end Sys2Proof.Machine
end

