-- ==== Sys2Proof/Machine/Meter.lean ====
section
/-! DEFINITION. Metering: channels and calibration (R245, R251), energy registration (R253, R276, R277), spans (R285, R286), measurement
windows (R252, R253), peaks (R256), DFC outputs (R269, R270), modes (R268) and harnesses (R271, R272). -/

namespace Sys2Proof.Machine

def onMet (f : Met → Met) (s : State) : State := { s with met := f s.met }
def onHarness (h : Nat) (f : Harness → Harness) (s : State) : State := onMet (fun m => { m with harnesses := listModify m.harnesses h f }) s
def onFeeder (n : Nat) (f : Feeder → Feeder) (s : State) : State := onMet (fun m => { m with feeders := listModify m.feeders n f }) s
def onSet (h : Nat) (f : VoltSet → VoltSet) (s : State) : State := onMet (fun m => { m with sets := listModify m.sets h f }) s
def onOutput (n : Nat) (f : Contactor → Contactor) (s : State) : State := onMet (fun m => { m with outputs := listModify m.outputs n f }) s
def onDfc (n : Nat) (f : Dfc → Dfc) (s : State) : State := onMet (fun m => { m with dfc := listModify m.dfc n f }) s

def harness (s : State) (h : Nat) : Harness := s.met.harnesses.getD h default
def feeder (s : State) (n : Nat) : Feeder := s.met.feeders.getD n default
def voltSet (s : State) (h : Nat) : VoltSet := s.met.sets.getD h default
def harnessRuns (s : State) (h : Nat) : Bool := (harness s h).state == .run
/-- The six feeders of a harness. -/
def feedersOf (h : Nat) : List Nat := span (6 * h) 6

/-! Channels (R245) and calibration (Table 10.1). -/

def uChan (feeder phase : Nat) : Nat := 28 * (feeder / 6) + phase
def iChan (feeder conductor : Nat) : Nat := 28 * (feeder / 6) + 4 + 4 * (feeder % 6) + conductor

def calEntry (s : State) (c : Nat) : Bytes := slice (sect s secCal) (16 * c) 16
def calFs (b : Bytes) : Nat := u32At b 0
def calGain (b : Bytes) : Nat := u32At b 4
def calOffset (b : Bytes) : Int := s32At b 8
def calDelay (b : Bytes) : Nat := u16At b 12
/-- Full scale of a channel in volts or amperes: fs with the gain. -/
def fullScale (b : Bytes) : Rat := fp32Value (calFs b) * (calGain b : Rat) / 1073741824

/-- R251's value of a main sample. -/
def sampleValue (b : Bytes) (r : Int) : Rat :=
  fdiv (fmul (fmul (r32 ((r - calOffset b : Int) : Rat)) (fdiv (r32 (calGain b : Rat)) 1073741824)) (fp32Value (calFs b))) 8388607

/-- Harness settings (Table 10.9). -/
def hsFitted (s : State) (h : Nat) : Bool := bit (setU8 s secHarness (16 * h)) 0
def hsSnap (s : State) (h : Nat) : Bool := bit (setU8 s secHarness (16 * h)) 1
def hsNominal (s : State) (h : Nat) : Nat := setU8 s secHarness (16 * h + 1)
def hsSag (s : State) (h : Nat) : Nat := setU16 s secHarness (16 * h + 2)
def hsSwell (s : State) (h : Nat) : Nat := setU16 s secHarness (16 * h + 4)
def hsHalves (s : State) (h : Nat) : Nat := setU8 s secHarness (16 * h + 6)

/-- A phase is valid while neither its voltage nor its current channel is faulty (R255). -/
def phaseValid (s : State) (n p : Nat) : Bool :=
  !s.met.chanFault.getD (uChan n p) false && !s.met.chanFault.getD (iChan n p) false

/-! Interval flags (R281): a condition that holds at any time within the interval. -/

def ifTest : Nat := 0
def ifPartial : Nat := 1
def ifStep : Nat := 2
def ifUncal : Nat := 3
def ifFreq : Nat := 4
def ifRecovery : Nat := 5
def ifResumed : Nat := 6

def flagsNow (s : State) : Nat :=
  bitN (s.met.mode == .test) ifTest + bitN (!s.met.calValid) ifUncal + bitN (s.met.sets.any (·.freqOut)) ifFreq +
    bitN (s.met.mode == .recovery) ifRecovery

def noteFlags (s : State) : State :=
  onMet (fun m => { m with interval := { m.interval with flags := m.interval.flags ||| flagsNow s } }) s

/-! Modes (R268). -/

def modeCode : MetMode → Nat
  | .startUp => 0 | .service => 1 | .test => 2 | .recovery => 3

/-- A change of mode; entering SERVICE ends every assignment (R269). -/
def modeTo (new : MetMode) (s : State) : State :=
  if s.met.mode == new then s
  else
    let t := onMet (fun m => { m with
      mode := new
      dfc := if new == .service then m.dfc.map fun d => if d.assigned then { d with assigned := false, clear := true } else d else m.dfc }) s
    noteFlags (post 0x070D noSource (le8 (modeCode s.met.mode) ++ le8 (modeCode new)) t)

/-- The conditions that end START_UP: saves restored, every fitted harness in RUN or found ABSENT, CAL_VALID. A presence pin counts
as found inactive once the 50 ms of Table 10.8 have passed. -/
def startUpOver (s : State) : Bool :=
  s.met.restored && s.met.calValid && (upTo 2).all fun h =>
    let x := harness s h
    !hsFitted s h || x.state == .run || (x.state == .absent && 20000000 ≤ s.time.cycle - x.since)

/-- The mode in which START_UP ends. -/
def afterStartUp (s : State) : MetMode := if s.met.prevLgOk then .service else .recovery

def checkStartUp (s : State) : State := if s.met.mode == .startUp && startUpOver s then modeTo (afterStartUp s) s else s

/-- TEST_MODE_EXPIRE: the mode returns to the one TEST was entered from, or moves on (R268). A RECOVERY that ran out meanwhile has
become SERVICE in `testFrom`. -/
def execTestModeExpire (s : State) : Out :=
  if s.met.mode == .test then
    next (if s.met.testFrom == .startUp && startUpOver s then modeTo (afterStartUp s) s else modeTo s.met.testFrom s)
  else next s

/-- RECOVERY_EXPIRE: 3,600 s after it began RECOVERY ends in SERVICE; one that runs on under TEST ends when TEST does (R268). -/
def execRecoveryExpire (s : State) : Out :=
  if s.met.mode == .recovery then next (modeTo .service s)
  else if s.met.mode == .test && s.met.testFrom == .recovery then next (onMet (fun m => { m with testFrom := .service }) s)
  else next s

/-! Spans (R285, R286). -/

/-- Open spans of a feeder. -/
def spansOf (s : State) (n : Nat) : List Span := s.met.spans.filter fun x => x.feeder == n
/-- Mask of a feeder's phases in open spans. -/
def openPhases (s : State) (n : Nat) : Nat := (spansOf s n).foldl (fun m x => m ||| x.phases) 0

/-- 2²⁰ units of 1 µWh. -/
def subUnit : Nat := 1048576

/-- Mean power in mW of an energy in 2⁻²⁰ µWh over `ms`; absent under 1 s. -/
def meanPower (l : List PowerSec) : Option Int :=
  let ms := (l.map (·.ms)).sum
  if ms < 1000 then none else some (tdiv ((l.map (·.energy)).sum * 3600) ((subUnit * ms : Nat) : Int))

/-- The sum of the means of the phases that a mask names; absent if one is. -/
def maskPower (phases : Nat) (f : Nat → Option Int) : Option Int :=
  (itemsOf 3 phases).foldl (fun a p => a.bind fun x => (f p).map (x + ·)) (some 0)

/-- P_b: over the last 60 s of measurement. -/
def powerBefore (s : State) (n phases : Nat) : Option Int :=
  maskPower phases fun p => meanPower ((feeder s n).secs.getD p [])

/-- The voltage set of the feeder is below SAG_V: its last half-cycle was, on any of L1–L3. -/
def darkNow (s : State) (n : Nat) : Bool := (voltSet s (n / 6)).below.any (· != 0)

/-- A span opens for the phases not yet in one. A minute of power after an earlier span of the feeder is interrupted; beyond 64
open spans it merges into the oldest of the same feeder and cause (R286). -/
def openSpan (n phases cause start : Nat) (s : State) : State :=
  let ph := maskOf ((upTo 3).map fun p => bit phases p && !bit (openPhases s n) p)
  if ph = 0 then s
  else
    let x : Span := { feeder := n, phases := ph, cause := cause, start := start, pb := powerBefore s n ph, dark := darkNow s n, merged := false }
    let m := s.met
    let spans :=
      match (if 64 ≤ m.spans.length then m.spans.findIdx? fun y => y.feeder == n && y.cause == cause else none) with
      | some k => listModify m.spans k fun y => { y with phases := y.phases ||| ph, merged := true }
      | none => m.spans ++ [x]
    onMet (fun m => { m with spans := spans, closed := m.closed.map fun c => if c.span.feeder == n then { c with interrupted := true } else c }) s

/-- Milliseconds of `[a, b)` in TAI ns. -/
def msBetween (a b : Nat) : Nat := (b - a) / 1000000

/-- What the closing of a span from `start` to `finish` adds to the feeder's unmeasured time of the running interval: the part that
no span still open covers. -/
def gapPart (s : State) (n start finish : Nat) : Nat :=
  let others := (spansOf s n).foldl (fun a x => min a x.start) finish
  msBetween (max start (s.met.interval.start * 1000000000)) others

/-- The phases `done` of an open span are registered again: their part of the span closes at `finish`, and the rest stays open. -/
def closeSpan (x : Span) (done finish : Nat) (late : Bool) (s : State) : State :=
  let rest := maskOf ((upTo 3).map fun p => bit x.phases p && !bit done p)
  let left := s.met.spans.filterMap fun y => if y == x then (if rest = 0 then none else some { y with phases := rest }) else some y
  let s := onMet (fun m => { m with spans := left }) s
  let c : ClosedSpan := { span := { x with phases := maskOf ((upTo 3).map fun p => bit x.phases p && bit done p) }, finish := finish,
                          after := List.replicate 3 { energy := 0, ms := 0 }, interrupted := false, late := late }
  let g := gapPart s x.feeder x.start finish
  onFeeder x.feeder (fun f => { f with unmeasured := if late then f.unmeasured else f.unmeasured + BitVec.ofNat 64 (msBetween x.start finish), gap := f.gap + g })
    (onMet (fun m => { m with closed := m.closed ++ [c] }) s)

/-! Energy (R253, R277). -/

/-- Adds a net block energy to a register pair under its residue. -/
def addNet (rho e : Int) (imp exp : U64) : Int × U64 × U64 :=
  let a := rho + e
  let w := a / (subUnit : Int)
  (a - w * (subUnit : Int), if 0 < w then imp + BitVec.ofNat 64 w.toNat else imp, if w < 0 then exp + BitVec.ofNat 64 (-w).toNat else exp)

/-- Energy of one phase in one block, 2⁻²⁰ µWh: active from the samples, reactive and apparent from the last window. -/
structure PhaseEnergy where
  active : Int
  reactive : Int
  apparent : Nat
  deriving DecidableEq, Repr, Inhabited

/-- Energy of a mean power in W over 1 ms. -/
def msEnergy (w : Rat) : Int := roundHalfEven (w * subUnit * 1000 / 3600)

/-- Active energy of a block's products u × i, 8,000 samples a second. -/
def blockActive (u i : List Rat) : Int := roundHalfEven ((List.zipWith (· * ·) u i).sum * subUnit * 1000000 / 28800000)

def phaseEnergy (s : State) (n p : Nat) (u i : List Rat) : PhaseEnergy :=
  let f := feeder s n
  if phaseValid s n p then
    { active := blockActive u i, reactive := msEnergy (fp32Value (f.q1.getD p 0).toNat), apparent := (msEnergy (fp32Value (f.s1.getD p 0).toNat)).toNat }
  else { active := 0, reactive := 0, apparent := 0 }

/-- One more ms of a phase's measured power; at most 60 whole seconds and the running one are kept. -/
def pushPower (e : Int) (l : List PowerSec) : List PowerSec :=
  match l.getLast? with
  | some x => if x.ms < 1000 then l.dropLast ++ [{ energy := x.energy + e, ms := x.ms + 1 }] else lastN 60 l ++ [{ energy := e, ms := 1 }]
  | none => [{ energy := e, ms := 1 }]

/-- One more ms of the minute after a span. -/
def pushAfter (e : Int) (x : PowerSec) : PowerSec := if x.ms < 60000 then { energy := x.energy + e, ms := x.ms + 1 } else x

/-- A feeder's block: registers, and the means of its valid phases. -/
def registerFeeder (n : Nat) (es : List PhaseEnergy) (s : State) : State :=
  let f := feeder s n
  let (ra, ai, ae) := addNet f.rhoA (es.map (·.active)).sum f.ai f.ae
  let (rr, ri, re) := addNet f.rhoR (es.map (·.reactive)).sum f.ri f.re
  let a := f.rhoP + (es.map (·.apparent)).sum
  let act := fun p => (es.getD p default).active
  let secs := (upTo 3).map fun p => if phaseValid s n p then pushPower (act p) (f.secs.getD p []) else f.secs.getD p []
  let m := s.met
  let closed := m.closed.map fun c =>
    if c.span.feeder == n && !c.interrupted then
      { c with after := (upTo 3).map fun p => if phaseValid s n p then pushAfter (act p) (c.after.getD p default) else c.after.getD p default }
    else c
  onFeeder n (fun f => { f with ai := ai, ae := ae, rhoA := ra, ri := ri, re := re, rhoR := rr, rhoP := a % subUnit,
                                ap := f.ap + BitVec.ofNat 64 (a / subUnit), secs := secs }) (onMet (fun m => { m with closed := closed }) s)

/-- Spans of a feeder before its block: those of its valid phases close at the block's start, and one opens for its invalid phases. -/
def spanBlock (start n : Nat) (s : State) : State :=
  let good := maskOf ((upTo 3).map (phaseValid s n))
  let s := ((spansOf s n).filter fun x => (x.phases &&& good) != 0).foldl (fun t x =>
    closeSpan x good start (x.cause ≤ 2 && t.rtc.lost && !t.time.servo.traceable) t) s
  if good = 7 then s else openSpan n (7 - good) 6 start s

/-! DFC outputs (R269, R270). -/

def dfcC (s : State) (d : Nat) : Nat := let x := s.met.dfc.getD d default; if x.assigned then x.c else setU32 s secDfc (8 * d)
def dfcW (s : State) (d : Nat) : Nat := let x := s.met.dfc.getD d default; if x.assigned then x.w else setU16 s secDfc (8 * d + 4)
/-- Quantity code in force: the sealed binding, or the assignment. -/
def dfcCode (s : State) (d : Nat) : Nat := let x := s.met.dfc.getD d default; if x.assigned then x.code else d * 4096 + 512

/-- What a register of a quantity gained from `old` to `new`. -/
def gained (q : Nat) (old new : Feeder) : Nat :=
  match q with
  | 0 => (new.ai - old.ai).toNat
  | 1 => (new.ae - old.ae).toNat
  | 2 => (new.ri - old.ri).toNat
  | 3 => (new.re - old.re).toNat
  | _ => (new.ap - old.ap).toNat

/-- A phase's own block energy with the output's residue. -/
def phaseGain (q : Nat) (rho : Int) (e : PhaseEnergy) : Int × Nat :=
  let v : Int := if q < 2 then e.active else if q < 4 then e.reactive else e.apparent
  let a := rho + v
  let w := a / (subUnit : Int)
  (a - w * (subUnit : Int), if q = 1 ∨ q = 3 then (-w).toNat else w.toNat)

/-- One output after a block of harness `h`: `old` holds the feeders before it, `es` the phase energies by local feeder. -/
def dfcBlock (h : Nat) (old : List Feeder) (es : List (List PhaseEnergy)) (s : State) (d : Nat) : State :=
  let x := s.met.dfc.getD d default
  let code := dfcCode s d
  let q := code / 4096
  let scope := code / 256 % 16
  let fd := code / 16 % 16
  let (rho0, acc0) := if x.clear then ((0 : Int), 0) else (x.rho, x.acc)
  let (rho, add) :=
    if scope = 0 then (if fd / 6 = h then phaseGain q rho0 ((es.getD (fd % 6) []).getD (code % 16) default) else (rho0, 0))
    else
      let l := if scope = 1 then (if fd / 6 = h then [fd] else []) else feedersOf h
      (rho0, (l.map fun n => gained q (old.getD n default) (feeder s n)).sum)
  let acc := acc0 + add
  let pulse := 1000000000 / dfcC s d
  let go := !x.pulsing && (!x.everOn || dfcW s d * 400000 ≤ s.time.cycle - x.edgeAt) && pulse ≤ acc
  let acc := if go then acc - pulse else acc
  let sat := if 2 * pulse < acc then true else if acc < pulse then false else x.sat
  onDfc d (fun x => { x with acc := acc, rho := rho, clear := false, sat := sat, pulsing := x.pulsing || go, everOn := x.everOn || go,
                             pulses := if go then x.pulses + 1 else x.pulses, edgeAt := if go then s.time.cycle else x.edgeAt }) s

/-- DFC_PULSE_END: the pulse of w ms ends (R270). -/
def execDfcPulseEnd (output : Nat) (s : State) : Out :=
  if (s.met.dfc.getD output default).pulsing then next (onDfc output (fun x => { x with pulsing := false, edgeAt := s.time.cycle }) s)
  else next s

/-! Peaks (R256). -/

/-- Full scale of a main sample (R247). -/
def mainLimit : Nat := 8388607

def milliOf (x : Rat) : Nat := (roundHalfAway (x * 1000)).natAbs

/-- A channel's peak after one sample: code `r`, value `x`, instant `t`. -/
def peakSample (p : Peak) (r : Int) (x : Rat) (t : Nat) : Peak :=
  let v := milliOf x
  let clip := mainLimit ≤ r.natAbs
  { p with code := max p.code r.natAbs, milli := max p.milli v, stamp := if p.milli < v then t else p.stamp, clip := p.clip || clip,
           windowMilli := max p.windowMilli v, windowClip := p.windowClip || clip }

def peakChannel (instants : List Nat) (codes : List Int) (xs : List Rat) (p : Peak) : Peak :=
  (codes.zip (xs.zip instants)).foldl (fun p e => peakSample p e.1 e.2.1 e.2.2) p

/-! The block. -/

/-- Delay in ns from a sample's instant to its completion (R249). -/
def sampleDelay : Nat := 237350

/-- Instants t_k of the 8 samples of a block that is complete now: 125 µs apart in TIME cycles, at the time base's rate (R249). -/
def sampleInstants (s : State) : List Nat :=
  (upTo 8).map fun j => (s.time.tb - 50000 * (7 - j) * increment s.time.servo.y) / 4294967296 - sampleDelay

/-- The harness's decimators take the edges of a block, channel by channel (R247); the fast path is the current channels'. -/
def decimateBlock (h : Nat) (bits : List (List Bool)) (s : State) : List (List Int) × State :=
  let l := (upTo 28).map fun c => decimate (s.met.decimators.getD (28 * h + c) default) (bits.getD c [])
  (l.map (·.2), onMet (fun m => { m with decimators := m.decimators.zipIdx.map fun (d, c) => if c / 28 = h then (l.getD (c % 28) (d, [])).1 else d }) s)

/-- A block's packet in Skein 26 or 27: the samples channel after channel, 24 bits each (DESIGN CHOICE: the layout). -/
def blockPacket (samples : List (List Int)) : Bytes := samples.flatMap fun l => l.flatMap fun x => leBytes 3 (unsignedOf 24 x)

/-- The decimator puts a block in its engine's Skein, whose notice makes the metering task READY (R245, R248, Table 2.3). -/
def blockArrives (h : Nat) (samples : List (List Int)) (s : State) : State :=
  let s := onSkein (26 + h) (fun k => if k.en then placePacket (blockPacket samples) k else k) s
  let s := onMet (fun m => { m with blocks := m.blocks ++ [{ harness := h, instants := sampleInstants s, samples := samples }] }) s
  postTask srcSkein (softTask (.meterBlock h) 1000 s) s

/-- The metering engine `12 + h`, if idle, takes the head of its list (R46, R47). -/
def meterDispatch (h : Nat) (s : State) : State :=
  if engineIdle s (12 + h) then (taskFor s 5 (12 + h)).elim s fun t => startOn (12 + h) t s else s

/-- One block is calibrated and registered, its peaks are kept, and the DFC outputs accumulate. -/
def registerBlock (b : MeterBlock) (s : State) : State :=
    let h := b.harness
    let (k, s) := drawFree s
    let codes := fun c : Nat => b.samples.getD c []
    let fs := (upTo 28).map fun c =>
      let e := calEntry s (28 * h + c)
      filterBlock k (28 * h + c) (50000 - calDelay e) ((codes c).map (sampleValue e)) (s.met.filters.getD (28 * h + c) default)
    let xs := fs.map (·.1)
    let finish := b.instants.getLastD 0
    let start := finish - 1000000
    let clips := ((upTo 28).map fun c => ((codes c).filter fun r => mainLimit ≤ r.natAbs).length).sum
    let s := onMet (fun m => { m with
      peaks := m.peaks.zipIdx.map fun (p, c) => if c / 28 = h then peakChannel b.instants (codes (c % 28)) (xs.getD (c % 28) []) p else p
      filters := m.filters.zipIdx.map fun (f, c) => if c / 28 = h then (fs.getD (c % 28) ([], f)).2 else f
      sets := listModify m.sets h fun v => { v with window := List.zipWith (· ++ ·) v.window xs, half := List.zipWith (· ++ ·) v.half xs }
      clipCnt := m.clipCnt + BitVec.ofNat 32 clips }) s
    let s := (feedersOf h).foldl (fun t n => spanBlock start n t) s
    let old := s.met.feeders
    let es := (feedersOf h).map fun n => (upTo 3).map fun p =>
      phaseEnergy s n p (xs.getD (uChan n p % 28) []) (xs.getD (iChan n p % 28) [])
    let s := (es.zipIdx).foldl (fun t e => registerFeeder (6 * h + e.2) e.1 t) s
    let s := (upTo 4).foldl (dfcBlock h old es) s
    noteFlags (onMet (fun m => { m with blockEnd := max m.blockEnd finish }) s)

/-- The engine's task runs on the oldest block that waits for it, and ends. -/
def runBlock (h : Nat) (s : State) : State :=
  let s := meterDispatch h s
  if taskRunning s (.meterBlock h) then
    match s.met.blocks.find? fun b => b.harness == h with
    | some b => freeTask (.meterBlock h) (registerBlock b (dropPacket (26 + h) (onMet (fun m => { m with blocks := m.blocks.erase b }) s)))
    | none => freeTask (.meterBlock h) s
  else s

/-- A block that finds no room is dropped, and its time opens a span (R248, R285). -/
def dropBlock (h : Nat) (s : State) : State :=
  let start := taiNs s - sampleDelay - 1000000
  let s := (feedersOf h).foldl (fun t n => openSpan n 7 7 start t) s
  onHarness h (fun x => { x with dropped := x.dropped + 1 }) (onMet (fun m => { m with decOverrun := m.decOverrun + 1 }) s)

/-- The end of a run of dropped blocks records METER_GAP with its length in ms. -/
def endDrops (h : Nat) (s : State) : State :=
  onHarness h (fun x => { x with dropped := 0 }) (post 0x0709 h (le32 (harness s h).dropped) s)

/-- The engine is 64 ms behind: 64 blocks of the harness wait. -/
def noBlockRoom (h : Nat) (s : State) : Bool := 64 ≤ (s.met.blocks.filter fun b => b.harness == h).length

/-- The bits of 10,000 MET edges have completed a block of 1 ms of a harness in RUN, and its metering engine, once it has the task,
processes the blocks that wait, oldest first. In SETTLING the decimators run and their samples are discarded. -/
def meterBlock (h : Nat) (bits : List (List Bool)) (s : State) : State :=
  if harnessRuns s h then
    let (samples, s) := decimateBlock h bits s
    let s :=
      if noBlockRoom h s then dropBlock h s
      else blockArrives h samples (if (harness s h).dropped = 0 then s else endDrops h s)
    (upTo s.met.blocks.length).foldl (fun s _ => runBlock h s) s
  else if (harness s h).state == .settling then (decimateBlock h bits s).2
  else s

/-- The block that comes with an event of the voltage set, when one does. -/
def blockBefore (h : Nat) (bits : List (List Bool)) (s : State) : State := if bits == [] then s else meterBlock h bits s

/-- METERING_BLOCK: a block of 1 ms is complete. -/
def execMeteringBlock (h : Nat) (bits : List (List Bool)) (s : State) : Out := next (meterBlock h bits s)

/-- DEC_OVERRUN: a block that finds no room is dropped; its time opens a span, and the run's end records METER_GAP (R248, R285). -/
def execDecOverrun (h : Nat) (runEnds : Bool) (s : State) : Out :=
  if harnessRuns s h then
    let s := dropBlock h s
    next (if runEnds then endDrops h s else s)
  else next s

/-! Measurement windows (R252, R253, Table 10.11). -/

/-- Record of a feeder with no valid window. -/
def emptyQuantity (n : Nat) : Bytes := le8 n ++ le8 4 ++ zeros 126

/-- A value in thousandths of its unit. -/
def milliS (x : Rat) : Int := satS 32 (roundHalfEven (x * 1000))
def milliU (x : Rat) : Nat := satU 32 (roundHalfEven (x * 1000)).toNat

/-- THD in 0.01 %; open where the fundamental is 0. -/
def thdOf (k c : Nat) (x : Option Rat) : Nat := x.elim (Config.thdOfZero k c) fun r => satU 16 (roundHalfEven (r * 10000)).toNat

/-- Power factor in 1/10,000; −32,768 when S is 0. -/
def pfOf (x : Option Rat) : Int := x.elim (-32768) fun r => clampI (roundHalfEven (r * 10000)) (-10000) 10000

/-- The 32 bytes of phase `p` of feeder `n` (Table 10.11). -/
def phaseRecord (s : State) (k n p : Nat) (w : Quantities) : Bytes :=
  let u := uChan n p % 28
  let i := iChan n p % 28
  let j := 3 * (n % 6) + p
  leS32 (milliS (w.active.getD j 0)) ++ leS32 (milliS (w.reactive.getD j 0)) ++ le32 (milliU (w.apparent.getD j 0)) ++
    le32 (milliU (w.rms.getD u 0)) ++ le32 (milliU (w.rms.getD i 0)) ++ leS16 (pfOf ((w.factor.getD j none))) ++
    le16 (thdOf k u (w.thd.getD u none)) ++ le16 (thdOf k i (w.thd.getD i none)) ++
    le16 (satU 16 ((s.met.peaks.getD (iChan n p) default).windowMilli / 100)) ++ le32 0

/-- Channels that a feeder's quantities use: its voltages, the N–PE channel and its four currents. -/
def channelsOf (n : Nat) : List Nat := (upTo 4).map (uChan n) ++ (upTo 4).map (iChan n)

/-- OUTPUTS of a feeder's protection entry (Table 10.4). -/
def prEntry (s : State) (n : Nat) : Bytes := slice (sect s secProt) (16 * n) 16
def prInst (b : Bytes) : Nat := u16At b 0
def prTrip (b : Bytes) : Bool := bit (u8At b 3) 0
def prSnap (b : Bytes) : Bool := bit (u8At b 3) 1
def prNeutral (b : Bytes) : Bool := bit (u8At b 3) 2
def prInstCount (b : Bytes) : Nat := u8At b 2
def prRms (b : Bytes) : Nat := u16At b 4
def prHalf (b : Bytes) : Nat := u8At b 6
def prOutputs (b : Bytes) : Nat := u8At b 8

def feederTripped (s : State) (n : Nat) : Bool :=
  (itemsOf 8 (prOutputs (prEntry s n))).any fun k => (s.met.outputs.getD k default).tripped

def quantityRecord (s : State) (k n : Nat) (w : Quantities) : Bytes :=
  let fault := (channelsOf n).any fun c => s.met.chanFault.getD c false
  let clip := (channelsOf n).any fun c => (s.met.peaks.getD c default).windowClip
  let fo := (voltSet s (n / 6)).freqOut
  let tot := fun l : List Rat => ((upTo 3).map fun p => l.getD (3 * (n % 6) + p) 0).sum
  le8 n ++ le8 (bitN (!fault) 0 + bitN fo 1 + bitN fault 3 + bitN (!s.met.calValid) 4 + bitN clip 5 + bitN (feederTripped s n) 6) ++ le16 0 ++
    le32 (milliU w.frequency) ++ le64 s.met.blockEnd ++ (upTo 3).flatMap (fun p => phaseRecord s k n p w) ++
    le32 (milliU (w.rms.getD (iChan n 3 % 28) 0)) ++ le32 (milliU (w.rms.getD 3 0)) ++
    leS32 (milliS (tot w.active)) ++ leS32 (milliS (tot w.reactive))

/-- The last window's Q1 and S of a feeder's phases, from which its blocks take reactive and apparent energy. -/
def windowSums (n : Nat) (w : Quantities) (f : Feeder) : Feeder :=
  { f with q1 := (upTo 3).map (fun p => BitVec.ofNat 32 (fp32Bits (w.reactive.getD (3 * (n % 6) + p) 0))),
           s1 := (upTo 3).map fun p => BitVec.ofNat 32 (fp32Bits (w.apparent.getD (3 * (n % 6) + p) 0)) }

/-- The reference channel of a set (R252): L1, or L2 or L3 when the channels before have a fault. -/
def referenceChannel (s : State) (set : Nat) : Option Nat := (upTo 3).find? fun v => !s.met.chanFault.getD (28 * set + v) false

/-- Samples of the reference among a set's samples; none where L1 to L3 all have a fault, so no crossing comes. -/
def referenceOf (s : State) (set : Nat) (l : List (List Rat)) : List Rat := (referenceChannel s set).elim [] fun v => l.getD v []

/-- A set's first window begins at the first positive-going crossing; samples before it belong to none (DESIGN CHOICE). -/
def beginWindow (s : State) (set : Nat) : VoltSet :=
  let v := voltSet s set
  if v.begun then v
  else
    match (crossings 0 (referenceOf s set v.window)).head? with
    | some (i, x) => { v with begun := true, origin := some (x - ((i + 1 : Nat) : Rat)), window := v.window.map (·.drop (i + 1)) }
    | none => if v.freqOut then { v with begun := true, origin := none } else v

/-- Nominal frequency in Hz and the crossings of a window. -/
def windowCycles (s : State) (set : Nat) : Nat := if hsNominal s set = 60 then 12 else 10

/-- Where the running window of `v` ends: its samples, the next window's origin and its crossings. While FREQ_OUT holds, 200 ms after its
start; otherwise at the tenth or twelfth crossing. -/
def windowEnd (s : State) (set : Nat) (v : VoltSet) : Option (Nat × Option Rat × List Rat) :=
  let l := referenceOf s set v.window
  let cs := crossings 0 l
  if !v.begun then none
  else if v.freqOut then
    if 1600 ≤ (v.window.headD []).length then some (1600, none, v.origin.toList ++ (cs.filter fun c => c.1 < 1600).map (·.2)) else none
  else
    let need := windowCycles s set
    match (cs.take need).getLast? with
    | some (i, x) => if need ≤ cs.length then some (i + 1, some (x - ((i + 1 : Nat) : Rat)), v.origin.toList ++ (cs.take need).map (·.2)) else none
    | none => none

/-- The quantities of a window's samples go to the six feeders; the next window begins where it ends. -/
def closeWindow (set n : Nat) (origin : Option Rat) (at_ : List Rat) (v : VoltSet) (s : State) : State :=
  let (k, s) := drawFree s
  let fs := (upTo 28).map fun c => fullScale (calEntry s (28 * set + c))
  let w := quantitiesOf k (hsNominal s set) at_ fs (v.window.map (·.take n))
  let t := (feedersOf set).foldl (fun t f =>
    let r := quantityRecord s k f w
    onFeeder f (fun x => { windowSums f w x with record := r }) t) s
  onMet (fun m => { m with
    sets := listModify m.sets set fun _ => { v with frequency := milliU w.frequency, origin := origin, window := v.window.map (·.drop n) }
    peaks := m.peaks.zipIdx.map fun (p, c) => if c / 28 = set then { p with windowMilli := 0, windowClip := false } else p }) t

/-- MEASUREMENT_WINDOW_CLOSE: the window that its crossings, or 200 ms under FREQ_OUT, end gives the set's six feeders their quantities
(R252, R253). `bits` are those of the block whose samples end it, or none when they have come already. -/
def execMeasurementWindowClose (set : Nat) (bits : List (List Bool)) (s : State) : Out :=
  let s := blockBefore set bits s
  if harnessRuns s set then
    let v := beginWindow s set
    match windowEnd s set v with
    | some (n, origin, at_) => next (closeWindow set n origin at_ v s)
    | none => next (onSet set (fun _ => v) s)
  else next s

/-- FREQ_OUT: the condition begins or ends (R252). -/
def execFreqOut (set : Nat) (out : Bool) (s : State) : Out :=
  if (voltSet s set).freqOut == out || 2 ≤ set then next s
  else
    let t := noteFlags s
    next (noteFlags (post 0x0708 set (edge out) (onSet set (fun v => { v with freqOut := out }) t)))

/-- CHAN_FAULT: a bitstream that held one value for 256 edges (R255). -/
def execChanFault (channel : Nat) (s : State) : Out :=
  if s.met.chanFault.getD channel true then next s
  else next (post 0x070A channel [] (onMet (fun m => { m with chanFault := listSet m.chanFault channel true }) s))

/-- CHAN_OK: 1 s has passed without such a run (R255). -/
def execChanOk (channel : Nat) (s : State) : Out :=
  if s.met.chanFault.getD channel false then
    next (post 0x070B channel [] (onMet (fun m => { m with chanFault := listSet m.chanFault channel false }) s))
  else next s

/-! Harnesses (R271, R272). -/

/-- A harness enters a state now. -/
def harnessTo (h : Nat) (x : HarnessState) (s : State) : State := onHarness h (fun y => { y with state := x, since := s.time.cycle }) s

/-- The harness leaves RUN: protection stops, the open window closes invalid, and spans open from `start`. -/
def leaveRun (h start : Nat) (s : State) : State :=
  if harnessRuns s h then
    let s := post 0x070E h [] (onHarness h (fun x => { x with left := true }) s)
    let s := (feedersOf h).foldl (fun t n => openSpan n 7 5 start (onFeeder n (fun f =>
      { f with record := overlay f.record 1 [BitVec.ofNat 8 (u8At f.record 1 / 8 * 8 + u8At f.record 1 / 2 % 2 * 2 + 4)],
               rmsRun := List.replicate 4 0 }) t)) s
    let v := voltSet s h
    let s := postIf v.sag 0x0702 h (edge false ++ le8 0 ++ le16 0) s
    let s := postIf v.swell 0x0703 h (edge false ++ le8 0 ++ le16 0) s
    onMet (fun m => { m with
      filters := m.filters.zipIdx.map fun (f, c) => if c / 28 = h then default else f
      sets := listModify m.sets h fun v =>
        { v with below := List.replicate 3 0, above := List.replicate 3 0, sag := false, swell := false, begun := false, origin := none,
                 window := List.replicate 28 [], halfBegun := false, half := List.replicate 28 [] } }) s
  else s

/-- HARNESS_INSERTED: presence active for 50 ms takes an ABSENT harness to POWERING. -/
def execHarnessInserted (h : Nat) (s : State) : Out :=
  if (harness s h).state == .absent && h < 2 then next (onHarness h (fun x => { x with present := true }) (harnessTo h .powering s)) else next s

/-- HARNESS_POWERED: 20 ms with the supply in range; MCLK starts. -/
def execHarnessPowered (h : Nat) (s : State) : Out :=
  if (harness s h).state == .powering && h < 2 then next (harnessTo h .settling s) else next s

/-- HARNESS_SETTLED: after 100 ms the harness is in RUN, and protection acts again. -/
def execHarnessSettled (h : Nat) (s : State) : Out :=
  if (harness s h).state == .settling && h < 2 then
    let t := onHarness h (fun x => { x with retries := 0 }) (harnessTo h .run s)
    next (checkStartUp (postIf (harness s h).left 0x070F h [] (post 0x0710 h [] t)))
  else next s

/-- HARNESS_REMOVED: presence inactive for 2 ms; the samples of the 4 ms before are discarded. -/
def execHarnessRemoved (h : Nat) (s : State) : Out :=
  let x := harness s h
  if h < 2 && x.state != .notFitted && x.state != .absent then
    let t := leaveRun h (taiNs s - 4000000) s
    next (checkStartUp (post 0x0711 h [] (onHarness h (fun x => { x with present := false, retries := 0 }) (harnessTo h .absent t))))
  else next (onHarness h (fun x => { x with present := false }) s)

/-- HARNESS_UNEXPECTED: an insertion into a harness that is NOT_FITTED is recorded once. -/
def execHarnessUnexpected (h : Nat) (s : State) : Out :=
  let x := harness s h
  if h < 2 && x.state == .notFitted then
    let t := onHarness h (fun x => { x with present := true, unexpected := true }) s
    next (postIf (!x.unexpected) 0x0713 h [] t)
  else next s

/-- HARNESS_SUPPLY_FAULT: a draw above 500 mA for 1 ms sends the harness to FAULT. -/
def execHarnessSupplyFault (h : Nat) (s : State) : Out :=
  let x := harness s h
  if h < 2 && [.powering, .settling, .run].contains x.state then
    let t := harnessTo h .fault (leaveRun h (taiNs s - sampleDelay) s)
    next (post 0x0712 h (le8 x.retries) (onMet (fun m => { m with supplyFault := m.supplyFault + 1 }) t))
  else next s

/-- HARNESS_FAULT_RETRY: FAULT retries its supply every 5 s, three times. -/
def execHarnessFaultRetry (h : Nat) (s : State) : Out :=
  let x := harness s h
  if h < 2 && x.state == .fault && x.retries < 3 then
    next (onHarness h (fun x => { x with retries := x.retries + 1 }) (harnessTo h .powering s))
  else next s

/-- The FITTED settings in effect (R271, R273). -/
def fittedAtBoundary (s : State) : State :=
  (upTo 2).foldl (fun t h =>
    let x := harness t h
    if hsFitted t h then (if x.state == .notFitted then onHarness h (fun x => { x with unexpected := false }) (harnessTo h .absent t) else t)
    else if x.state == .notFitted then t
    else harnessTo h .notFitted (leaveRun h (taiNs t - sampleDelay) t)) s

end Sys2Proof.Machine
end

