-- ==== Sys2Proof/Machine/Protect.lean ====
section
/-! DEFINITION. Protection (R257–R261), snapshots and their coding (R260, R288–R290), and contactors (R262–R267). -/

namespace Sys2Proof.Machine

/-! Contactor settings (Table 10.5). -/

def coEntry (s : State) (n : Nat) : Bytes := slice (sect s secContactor) (144 * n) 144
def coMode (b : Bytes) : Nat := u8At b 1
def coFb (b : Bytes) : Nat := u8At b 2
def coToOpen (b : Bytes) : Bool := bit (u8At b 3) 0
def coSnap (b : Bytes) : Bool := bit (u8At b 3) 1
def coFbInvert (b : Bytes) : Bool := bit (u8At b 3) 2
def coDwell (b : Bytes) : Nat := u16At b 4
/-- CLOSE_SETTLE and FB_TIMEOUT in TIME cycles. -/
def coSettle (b : Bytes) : Nat := u16At b 6 * 40000000
def coTimeout (b : Bytes) : Nat := u16At b 8 * 400000
def coProfile (b : Bytes) : Nat := u8At b 10
def coRanges (b : Bytes) : List (Nat × Nat) := (upTo (min (u8At b 11) 32)).map fun j => (u16At b (16 + 4 * j), u16At b (18 + 4 * j))

def output (s : State) (n : Nat) : Contactor := s.met.outputs.getD n default

/-- The feedback input of an output shows the contactor closed; none without feedback. -/
def fbClosed (s : State) (n : Nat) : Option Bool :=
  let e := coEntry s n
  if coFb e ≤ 7 then some ((s.sys.inputs.getD (coFb e) default).level != coFbInvert e) else none

/-- Coil drive that a commanded state needs (R263). -/
def driveFor_ (s : State) (n : Nat) (closed : Bool) : Bool := closed != coToOpen (coEntry s n)

/-- The position that the coil gives: an output in OUT_FAULT counts as de-energised (R266). -/
def positionClosed (s : State) (n : Nat) : Bool :=
  let x := output s n
  if x.outFault then coToOpen (coEntry s n) else x.closed

/-- The output counts as closed under R265. -/
def countsClosed (s : State) (n : Nat) : Bool :=
  let x := output s n
  x.closed && x.settled && positionClosed s n && (fbClosed s n).getD true

def closedMask (s : State) : Nat := maskOf (s.met.outputs.map (·.closed))
def trippedMask (s : State) : Nat := maskOf (s.met.outputs.map (·.tripped))

/-! Snapshots (R260). -/

/-- A buffer holds a snapshot until that is archived. -/
def bufferBusy (s : State) (k : Nat) : Bool := s.met.snaps.any fun x => x.buffer == k && !x.archived && !x.lost
/-- The snapshot whose post-trigger part, 200 ms from its first trigger, still runs (R260). -/
def openSnap (s : State) : Option Snapshot :=
  s.met.snaps.find? fun x => x.coded.isNone && !x.lost && decide (s.time.cycle < x.openedAt + 80000000)

/-- A trigger stamped now: it joins the open snapshot, opens one in a free buffer, or is lost. Its record follows R261. Answers
the snapshot's id, 0 when lost. -/
def trigger (s : State) : U32 × State :=
  let at_ := taiNs s
  let s := onMet (fun m => { m with snapTrig := m.snapTrig + 1 }) s
  match openSnap s with
  | some x =>
    if x.triggers.length < 8 then
      let l := s.met.snaps.map fun y => if y.id == x.id then { y with triggers := y.triggers ++ [at_] } else y
      (x.id, post 0x0704 x.buffer (leW x.id ++ le64 at_) (onMet (fun m => { m with snaps := l }) s))
    else (x.id, onMet (fun m => { m with snapMergedLost := m.snapMergedLost + 1 }) s)
  | none =>
    match (upTo 16).find? fun k => !bufferBusy s k with
    | some k =>
      let id := s.met.nextSnap
      let x : Snapshot := { id := id, buffer := k, triggers := [at_], openedAt := s.time.cycle, traceable := s.time.servo.traceable, q := setU8 s secInterval 1,
                            coded := none, archived := false }
      (id, post 0x0704 k (leW id ++ le64 at_) (onMet (fun m => { m with snaps := m.snaps ++ [x], nextSnap := seqNext id }) s))
    | none => (0, post 0x0705 noSource (le64 at_) (onMet (fun m => { m with snapLost := m.snapLost + 1 }) s))

def triggerIf (c : Bool) (s : State) : State := if c then (trigger s).2 else s

/-! Snapshot coding (R288, R289). -/

/-- A code of R202 for `q`: (b − 1) zero bits, then the b bits of v, most significant first. -/
def codeBits (q : Int) : List Bool :=
  let z : Nat := if 0 ≤ q then (2 * q).toNat else (-2 * q - 1).toNat
  let v := z + 1
  let b := Nat.log2 v + 1
  List.replicate (b - 1) false ++ ((upTo b).map fun k => bit v (b - 1 - k))

/-- Eight bits a byte, most significant first, the last byte padded with zero bits. -/
def packBits : Nat → List Bool → Bytes
  | 0, _ => []
  | fuel + 1, l =>
    if l = [] then []
    else BitVec.ofNat 8 ((upTo 8).foldl (fun a k => 2 * a + (if l.getD k false then 1 else 0)) 0) :: packBits fuel (l.drop 8)

/-- The quantized residuals of one block. -/
def codeResiduals (q : Nat) : List Int → Int → Int → List Int
  | [], _, _ => []
  | x :: rest, h1, h2 =>
    let delta : Int := ((2 ^ q - 1 : Nat) : Int)
    let step := 2 * delta + 1
    let lim : Int := (mainLimit : Int)
    let p := clampI (2 * h1 - h2) (-lim) lim
    let e := x - p
    let r := if 0 ≤ e then tdiv (e + delta) step else -(tdiv (-e + delta) step)
    let y := clampI (p + r * step) (-lim) lim
    r :: codeResiduals q rest y h1

/-- One block of 800 samples: its RAW bit and bytes. -/
def codeBlock (q : Nat) (x : List Int) : Bool × Bytes :=
  let bits := (codeResiduals q x 0 0).flatMap codeBits
  if 19200 < bits.length then (true, x.flatMap fun v => leBytes 3 (unsignedOf 24 v)) else (false, packBits (bits.length / 8 + 1) bits)

/-- The 224 blocks of 56 channels. -/
def snapBlocks (q : Nat) (samples : List (List Int)) : List (Bool × Bytes) :=
  (upTo 56).flatMap fun c => (upTo 4).map fun b => codeBlock q (((samples.getD c []).drop (800 * b)).take 800)

/-- The header's fields in R289's order; t_0 lies 200 ms before the first sample at or after the trigger. -/
def snapHeader (s : State) (x : Snapshot) (free : Nat) (raw : List Bool) : Bytes :=
  let t0 := x.triggers.headD 0 + free % 125000 - 200000000
  let h := leW x.id ++ le32 x.triggers.length ++ (upTo 8).flatMap (fun k => le64 (x.triggers.getD k 0)) ++
    le64 t0 ++ le32 (free / 125000) ++ leS32 s.time.servo.y ++ leS32 (satS 32 s.time.servo.lastOffset) ++
    le8 (if x.traceable then 1 else 0) ++ le8 x.q ++ le16 0 ++ slice (sect s secCal) 0 896 ++
    (upTo 28).flatMap (fun k => le8 (maskOf ((raw.drop (8 * k)).take 8)))
  h ++ le32 (crc32c h)

def codeSnapshot (s : State) (x : Snapshot) (free : Nat) (samples : List (List Int)) : Bytes × Nat :=
  let bl := snapBlocks x.q samples
  (snapHeader s x free (bl.map (·.1)) ++ bl.flatMap (fun b => b.2 ++ le32 (crc32c b.2)), (bl.filter (·.1)).length)

/-- SNAPSHOT_COMPLETE: the post-trigger part has ended and the buffer is coded. -/
def execSnapshotComplete (buffer : Nat) (samples : List (List Int)) (s : State) : Out :=
  match s.met.snaps.find? fun x => x.buffer == buffer && x.coded.isNone && !x.lost with
  | none => next s
  | some x =>
    let (k, s) := drawFree s
    let (coded, raw) := codeSnapshot s x (Config.freeNat k) samples
    let l := s.met.snaps.map fun y => if y.id == x.id then { y with coded := some coded } else y
    next (onMet (fun m => { m with snaps := l, snapRawblk := m.snapRawblk + BitVec.ofNat 32 raw }) s)

def snapBytes (x : Snapshot) : Nat := (x.coded.getD []).length

/-- The archive's 8 GB are circular: the oldest archived snapshots are overwritten first (R290). -/
def trimArchive : Nat → List Snapshot → List Snapshot
  | 0, l => l
  | fuel + 1, l =>
    if 8589934592 < ((l.filter (·.archived)).map snapBytes).sum then
      match l.find? (·.archived) with
      | some x => trimArchive fuel (l.erase x)
      | none => l
    else l

/-- SNAPSHOT_ARCHIVED: a coded snapshot is in the eMMC archive, and its buffer is free. -/
def execSnapshotArchived (id : U32) (s : State) : Out :=
  if s.met.snaps.any (fun x => x.id == id && x.coded.isSome && !x.archived) && !s.sys.emmcFault then
    let l := s.met.snaps.map fun y => if y.id == id then { y with archived := true } else y
    next (onMet (fun m => { m with snaps := trimArchive l.length l, snapArchived := m.snapArchived + 1 }) s)
  else next s

/-! Trips (R258, R264). -/

/-- Drives an output OPEN at once and latches it TRIPPED; waiting resets and closes of it meet a new trip. -/
def tripOutput (s : State) (n : Nat) : State :=
  let moved := (output s n).closed
  let d := driveFor_ s n false
  let wait := fbClosed s n != some false
  let due := s.met.contDue.map fun c => if bit c.mask n then { c with newTrip := c.newTrip ||| 2 ^ n } else c
  onMet (fun m => { m with contDue := due })
    (onOutput n (fun x => { x with closed := false, tripped := true, settled := false, drive := d && !x.outFault,
                                   changedAt := if moved then some s.time.cycle else x.changedAt,
                                   fbWait := if moved then wait else x.fbWait }) s)

/-- A detection's records and actions in R261's order. `kind` 0 instantaneous, 1 RMS; `peak` in 0.1 A. -/
def detect (n channel kind peak : Nat) (s : State) : State :=
  let b := prEntry s n
  let s := onFeeder n (fun f => { f with armed := false, ocInst := if kind = 0 then f.ocInst + 1 else f.ocInst,
                                         ocRms := if kind = 0 then f.ocRms else f.ocRms + 1 }) s
  let s := post 0x0701 n (le8 channel ++ le8 kind ++ le16 (satU 16 peak)) s
  let outs := if prTrip b then itemsOf 8 (prOutputs b) else []
  let opens := outs.filter fun k => (output s k).closed
  let s := triggerIf (prSnap b || opens.any fun k => coSnap (coEntry s k)) s
  let s := outs.foldl tripOutput s
  postIf (outs != []) 0x0706 noSource (le8 (maskOfItems 8 outs) ++ le8 (closedMask s) ++ le8 0) s

/-- Watched conductors of a feeder. -/
def watched (s : State) (n : Nat) : List Nat := if prNeutral (prEntry s n) then [0, 1, 2, 3] else [0, 1, 2]

/-- Fast-path threshold of a channel (R257). -/
def fastThreshold (s : State) (feeder channel : Nat) : Int :=
  roundHalfAway ((prInst (prEntry s feeder) : Rat) / 10 * 32767 / fullScale (calEntry s channel))

/-- The last fast samples of a channel, INST_COUNT of them, newest first, once the bits since its last block have come. -/
def lastFast (s : State) (feeder channel : Nat) (bits : List Bool) : List Int :=
  (decimate (s.met.decimators.getD channel default) bits).1.recent.take (prInstCount (prEntry s feeder))

/-- The largest |q| of fast samples in 0.1 A. -/
def fastPeak (s : State) (channel : Nat) (l : List Int) : Nat :=
  (roundHalfAway (((l.map (·.natAbs)).foldl max 0 : Nat) * fullScale (calEntry s channel) * 10 / 32767)).toNat

/-- OC_INST_DETECT: the last INST_COUNT fast samples of a watched channel all lie above threshold; `bits` are the channel's edges since
its last block (R258). -/
def execOcInstDetect (feeder_ channel : Nat) (bits : List Bool) (s : State) : Out :=
  let ok := (watched s feeder_).any fun k => iChan feeder_ k == channel
  let l := lastFast s feeder_ channel bits
  let above := l.length == prInstCount (prEntry s feeder_) && l.all fun q => fastThreshold s feeder_ channel < (q.natAbs : Int)
  if feeder_ < 12 && harnessRuns s (feeder_ / 6) && (feeder s feeder_).armed && prInst (prEntry s feeder_) != 0 && ok && above then
    next (detect feeder_ channel 0 (fastPeak s channel l) s)
  else next s

/-- FEEDER_REARM: below threshold for 100 ms. -/
def execFeederRearm (n : Nat) (s : State) : Out := next (onFeeder n (fun f => { f with armed := true }) s)

/-- The square of a limit in tenths. -/
def tenthsSquare (x : Nat) : Rat := (x * x : Nat) / 100
/-- The largest |x| and the RMS of samples, in tenths. -/
def peakTenths (l : List Rat) : Nat := l.foldl (fun a x => max a (roundHalfAway (absR x * 10)).toNat) 0
def rmsTenths (l : List Rat) : Nat := (roundHalfAway (rootRat (meanSquare l) * 10)).toNat

/-- RMS over-current of one feeder at the end of a half-cycle. -/
def rmsFeeder (h : Nat) (half : List (List Rat)) (s : State) (n : Nat) : State :=
  let b := prEntry s n
  let samples := fun k : Nat => half.getD (iChan n k - 28 * h) []
  let run := (upTo 4).map fun k =>
    if prRms b != 0 && (watched s n).contains k && tenthsSquare (prRms b) < meanSquare (samples k) then (feeder s n).rmsRun.getD k 0 + 1 else 0
  let s := onFeeder n (fun f => { f with rmsRun := run }) s
  match (upTo 4).find? fun k => prHalf b ≤ run.getD k 0 && run.getD k 0 != 0 with
  | some k => if (feeder s n).armed then detect n (iChan n k) 1 (peakTenths (samples k)) s else s
  | none => s

/-- A sag or swell begins or ends (R259): the phases beyond the limit and their extreme half-cycle RMS. -/
def voltEvent (h code : Nat) (begins : Bool) (phases rms : Nat) (s : State) : State :=
  triggerIf (begins && hsSnap s h) (post code h (edge begins ++ le8 phases ++ le16 (satU 16 rms)) s)

/-- Sag and swell of one voltage set at the end of a half-cycle. -/
def voltHalf (h : Nat) (half : List (List Rat)) (s : State) : State :=
  let v := voltSet s h
  let sq := fun p : Nat => meanSquare (half.getD p [])
  let u := fun p : Nat => rmsTenths (half.getD p [])
  let below := (upTo 3).map fun p => if hsSag s h != 0 && sq p < tenthsSquare (hsSag s h) then v.below.getD p 0 + 1 else 0
  let above := (upTo 3).map fun p => if hsSwell s h != 0 && tenthsSquare (hsSwell s h) < sq p then v.above.getD p 0 + 1 else 0
  let long := fun l : List Nat => maskOf (l.map fun k => decide (hsHalves s h ≤ k ∧ k ≠ 0))
  let sag := if v.sag then below.any (· != 0) else long below != 0
  let swell := if v.swell then above.any (· != 0) else long above != 0
  let lo := min (u 0) (min (u 1) (u 2))
  let hi := max (u 0) (max (u 1) (u 2))
  let s := onSet h (fun v => { v with below := below, above := above, sag := sag, swell := swell,
                                      sagCnt := if sag && !v.sag then v.sagCnt + 1 else v.sagCnt,
                                      swellCnt := if swell && !v.swell then v.swellCnt + 1 else v.swellCnt }) s
  let s := if sag == v.sag then s else voltEvent h 0x0702 sag (long below) lo s
  if swell == v.swell then s else voltEvent h 0x0703 swell (long above) hi s

/-- The samples of the harness's 28 channels before the reference's next crossing, and those after it. -/
def halfCycle (s : State) (h : Nat) : Option (List (List Rat) × List (List Rat)) :=
  let l := (voltSet s h).half
  (crossingsBoth (referenceOf s h l)).head?.map fun c => (l.map (·.take (c.1 + 1)), l.map (·.drop (c.1 + 1)))

/-- HALF_CYCLE_END: the reference has crossed zero, and the half-cycle that this ends is judged by the RMS of its samples (R258, R259). What
lies before the first crossing is no half-cycle. `bits` are those of the block whose samples end it, or none when they have come already. -/
def execHalfCycleEnd (h : Nat) (bits : List (List Bool)) (s : State) : Out :=
  let s := blockBefore h bits s
  if harnessRuns s h then
    match halfCycle s h with
    | none => next s
    | some (l, rest) =>
      let t := onSet h (fun v => { v with halfBegun := true, half := rest }) s
      if (voltSet s h).halfBegun then next ((feedersOf h).foldl (rmsFeeder h l) (voltHalf h l t)) else next t
  else next s

/-! Contactors at the boundary (R263–R265). -/

/-- Manual override of an output: section 19's byte. -/
def overrideOf (s : State) (n : Nat) : Nat := setU8 s secOverride n

/-- LIT for a Pin with the entry's profile and no zone (R263); none without a plan. -/
def profileLit (s : State) (conf : Nat) : Option Bool :=
  if s.sched.noTime then some (photocellDark s && prFloor (profile s conf) != 0)
  else (planOf s s.sched.day).map fun plan => (curve s plan conf s.sched.wday s.sched.time).level != 0

/-- The commanded state and its cause in CONTACTOR: 1 manual, 2 the mode. -/
def desired (s : State) (n : Nat) : Bool × Nat :=
  let x := output s n
  let e := coEntry s n
  if x.tripped then (false, 0)
  else if overrideOf s n = 1 then (false, 1)
  else if overrideOf s n = 2 then (true, 1)
  else if coMode e = 1 then ((profileLit s (coProfile e)).getD x.closed, 2)
  else if coMode e = 2 then (true, 2)
  else (x.closed, 1)

def dwellOver (s : State) (n : Nat) : Bool :=
  match (output s n).changedAt with
  | none => true
  | some c => coDwell (coEntry s n) * 40000000 ≤ s.time.cycle - c

/-- Outputs that change at this boundary for one cause. -/
def changing (s : State) (cause : Nat) : List Nat :=
  (upTo 8).filter fun n => (desired s n).1 != (output s n).closed && (desired s n).2 == cause && dwellOver s n

def commandOutput (s : State) (n : Nat) : State :=
  let goal := (desired s n).1
  onOutput n (fun x => { x with closed := goal, settled := false, changedAt := some s.time.cycle, fbWait := fbClosed s n != some goal }) s

def changeFor (s : State) (cause : Nat) : State :=
  let l := changing s cause
  if l = [] then s
  else
    let snap := l.any fun n => coSnap (coEntry s n)
    let s := triggerIf snap (l.foldl commandOutput s)
    post 0x0706 noSource (le8 (maskOfItems 8 l) ++ le8 (closedMask s) ++ le8 cause) s

/-- Coil drives follow the commanded states and the entries. -/
def drives (s : State) : State :=
  (upTo 8).foldl (fun t n => onOutput n (fun x => { x with drive := driveFor_ t n x.closed && !x.outFault }) t) s

/-- A write of the working copy that takes effect now. -/
def writeWorking (id off : Nat) (data : Bytes) (s : State) : State :=
  { s with set := { s.set with working := writeSect s.set.working id off data, workGen := s.set.workGen + 1 } }

/-- Override bytes after a MET_CONTACTOR_SET: OPEN 1, CLOSE 2, AUTO 0. -/
def overrideBytes (s : State) (mask action : Nat) : Bytes :=
  (upTo 8).map fun n => BitVec.ofNat 8 (if bit mask n then (if action = 0 then 1 else if action = 1 then 2 else 0) else overrideOf s n)

/-- One waiting MET_CONTACTOR_SET or MET_TRIP_RESET meets its boundary (R264). A reset that meets a new trip of an output it names completes
with CONFLICT, and so has no effect (R349). -/
def resolveOne (s : State) (c : ContactorDue) : State :=
  if c.reset then
    let l := itemsOf 8 c.mask
    if c.newTrip ≠ 0 then completeWith c.mailbox c.seq (.done stConflict []) (freeTask (.mailbox c.mailbox) s)
    else
      let cleared := l.filter fun n => (output s n).tripped || (output s n).outFault
      let t := l.foldl (fun t n => onOutput n (fun x => { x with tripped := false, outFault := false }) t) s
      completeWith c.mailbox c.seq (did s (le8 (maskOfItems 8 cleared) ++ zeros 3)) (freeTask (.mailbox c.mailbox) t)
  else if c.action = 1 && (itemsOf 8 c.mask).any fun n => (output s n).tripped then
    completeWith c.mailbox c.seq (.done stConflict []) (freeTask (.mailbox c.mailbox) s)
  else
    let bytes := overrideBytes s c.mask c.action
    let t := writeWorking secOverride 0 bytes s
    let t := { t with set := { t.set with unretired := t.set.unretired.map fun u => if u.1 == c.seq then (u.1, some (.settings secOverride 0 bytes), u.2.2) else u } }
    completeWith c.mailbox c.seq (.effect t.stitch.number (leW t.stitch.number)) (freeTask (.mailbox c.mailbox) t)

/-- Pins linked to an output by its ranges (R20). -/
def linked (s : State) (n p : Nat) : Bool := (coRanges (coEntry s n)).any fun r => r.1 ≤ p && p ≤ r.2

/-- SWITCHED_OFF marks as sampled now: a Pin of any output that does not count as closed (R265). A radio Pin whose mark ends starts
its silence anew. -/
def markSwitchedOff (s : State) : State :=
  let off := (upTo 8).filter fun n => !countsClosed s n
  s.tab.state.foldl (fun t e =>
    let now := off.any fun n => linked s n e.1
    if now == e.2.switchedOff then t
    else
      let t := onPin e.1 (fun x => { x with switchedOff := now }) t
      if now then t else onAir (fun a => { a with radio := tabModify a.radio e.1 fun r => { r with silentBase := s.time.cycle } }) t) s

/-- Step 3 of a boundary for contactors: commands in their order, then the commanded changes that MIN_DWELL allows, and the marks. -/
def contactorsAtBoundary (s : State) : State :=
  let s := s.met.contDue.foldl resolveOne (onMet (fun m => { m with contDue := [] }) s)
  let s := drives (changeFor (changeFor s 1) 2)
  markSwitchedOff s

/-! Feedback and coil faults (R265, R266). -/

/-- TIME cycles since the output's drive last changed. -/
def sinceDrive (s : State) (n : Nat) : Nat := s.time.cycle - (output s n).changedAt.getD 0

/-- CONTACTOR_FB_TIMEOUT: the feedback has not shown the commanded state within FB_TIMEOUT of the drive change. -/
def execContactorFbTimeout (n : Nat) (s : State) : Out :=
  match fbClosed s n with
  | some f =>
    let x := output s n
    if n < 8 && x.fbWait && coTimeout (coEntry s n) ≤ sinceDrive s n then
      let t := onOutput n (fun x => { x with fbWait := false, fbFault := f != x.closed }) s
      next (postIf (f != x.closed && !x.fbFault) 0x0707 n (le8 0) t)
    else next s
  | none => next s

/-- The feedback input `i` changed: FB_FAULT ends when it shows the commanded state; one that shows open starts CLOSE_SETTLE anew. -/
def feedbackChanged (i : Nat) (s : State) : State :=
  (upTo 8).foldl (fun t n =>
    match fbClosed t n with
    | some f =>
      if coFb (coEntry t n) = i then
        onOutput n (fun x => { x with fbFault := x.fbFault && f != x.closed, fbWait := x.fbWait && f != x.closed, settled := x.settled && f,
                                      confirmedAt := if f then t.time.cycle else x.confirmedAt }) t
      else t
    | none => t) s

/-- TIME cycles since CLOSE_SETTLE began: since the drive change, and with feedback not before its confirmation. -/
def settling (s : State) (n : Nat) : Nat :=
  if (fbClosed s n).isSome then min (sinceDrive s n) (s.time.cycle - (output s n).confirmedAt) else sinceDrive s n

/-- CONTACTOR_CLOSE_SETTLE: CLOSE_SETTLE after confirmed closure, or after the drive change without feedback. -/
def execContactorCloseSettle (n : Nat) (s : State) : Out :=
  if n < 8 && (output s n).closed && positionClosed s n && (fbClosed s n).getD true && coSettle (coEntry s n) ≤ settling s n then
    next (onOutput n (fun x => { x with settled := true }) s)
  else next s

/-- CONTACTOR_OUT_FAULT: more than 700 mA for 1 ms; the output is switched off and latched. -/
def execContactorOutFault (n : Nat) (s : State) : Out :=
  if n < 8 && (output s n).drive then
    let s := onOutput n (fun x => { x with drive := false, outFault := true, settled := false }) s
    next (post 0x0706 noSource (le8 (2 ^ n) ++ le8 (closedMask s) ++ le8 3) (post 0x0707 n (le8 1) s))
  else next s

end Sys2Proof.Machine
end

