-- ==== Sys2Proof/Machine/Interval.lean ====
section
/-! DEFINITION. Intervals (R279–R282), span records (R286, R287), metering saves (R283), archives (R281), and the METER counters. -/

namespace Sys2Proof.Machine

def onInterval (f : Interval → Interval) (s : State) : State := onMet (fun m => { m with interval := f m.interval }) s

/-! The grid (R279). -/

/-- Latest boundary of a grid of `len` minutes at or before a TAI second. -/
def gridStart (s : State) (len : Nat) (tai : Nat) : Nat :=
  let l : Int := ((len * 60 : Nat) : Int)
  (((tai : Int) - taiUtc s) / l * l + taiUtc s).toNat

/-- A whole UTC hour. -/
def utcHour (s : State) (tai : Nat) : Bool := ((tai : Int) - taiUtc s) % 3600 == 0

/-- The first whole UTC hour after now, in TAI seconds. -/
def nextHour (s : State) : Nat := gridStart s 60 (taiSec s) + 3600

/-- Interval length now: the setting's from the first whole UTC hour after its change (R279). -/
def gridLength (s : State) : Nat := if s.met.interval.changeAt ≤ taiSec s then setU8 s secInterval 0 else s.met.interval.length

/-! Closing (R280, R282). -/

def wholeUnits (f : Feeder) : List Nat := [f.ai, f.ae, f.ri, f.re].map fun x => x.toNat / 1000000

/-- Unmeasured ms of the running interval up to the TAI second `b`. -/
def gapAt (s : State) (n b : Nat) : Nat :=
  let edge_ := b * 1000000000
  match spansOf s n with
  | [] => (feeder s n).gap
  | l => (feeder s n).gap + msBetween (max (l.foldl (fun a x => min a x.start) edge_) (s.met.interval.start * 1000000000)) edge_

/-- AI, AE, RI, RE of the record and the unmeasured seconds, rounded up. -/
def intervalValues (s : State) (b n : Nat) : List Nat :=
  let f := feeder s n
  (List.zipWith (fun now prev => (now + 4294967296 - prev % 4294967296) % 4294967296) (wholeUnits f) f.prev) ++
    [satU 16 ((gapAt s n b + 999) / 1000)]

/-- The running interval closes at `b`, and the next one runs from there. -/
def closeAt (b : Nat) (s : State) : State :=
  let s := noteFlags s
  let iv := s.met.interval
  let partial_ := iv.resumed || (upTo 12).any fun n => gapAt s n b != 0
  let c : ClosedInterval :=
    { start := iv.start, minutes := (b - iv.start + 30) / 60,
      flags := iv.flags ||| (bitN partial_ ifPartial + bitN iv.resumed ifResumed), values := (upTo 12).map (intervalValues s b) }
  let fs := s.met.feeders.map fun f => { f with prev := wholeUnits f, gap := 0 }
  let next_ : Interval := { length := gridLength s, changeAt := iv.changeAt, start := b, lastClosed := b, flags := 0, resumed := false }
  noteFlags (onMet (fun m => { m with closing := m.closing ++ [c], feeders := fs, interval := next_ }) s)

/-- INTERVAL_BOUNDARY: the running interval closes and its close task is made READY, unless journal space holds it (R279, R282). -/
def execIntervalBoundary (s : State) : Out :=
  let b := gridStart s (gridLength s) (taiSec s)
  if running s && s.met.restored && s.met.interval.lastClosed < b && s.met.interval.start < b && !logTight s then
    next (postTask 3 (softTask .interval 10000 s) (closeAt b s))
  else next s

/-- The interval stage meets a step of the time base by `d` ns (R282). -/
def intervalStep (d : Int) (s : State) : State :=
  if d.natAbs ≤ 1000000000 then s
  else
    onInterval (fun iv => { iv with flags := iv.flags ||| 2 ^ ifStep,
                                    start := if 0 < d then max iv.start (gridStart s (gridLength s) (taiSec s)) else iv.start }) s

def crcEnd (b : Bytes) : Bytes := b ++ le32 (crc32c b)

/-- The 256-byte record of Table 11.2. -/
def intervalRecord (c : ClosedInterval) (seq : U32) : Bytes :=
  crcEnd (leW seq ++ le16 c.minutes ++ le16 c.flags ++ le64 c.start ++ zeros 16 ++
    (upTo 12).flatMap (fun n => let v := c.values.getD n []; (upTo 4).flatMap (fun k => le32 (v.getD k 0)) ++ le16 (v.getD 4 0)) ++ zeros 4)

/-- INTERVAL_CLOSE: the close task builds the record, which joins the open batch (R281). -/
def execIntervalClose (s : State) : Out :=
  if taskRunning s .interval then
    match s.met.closing with
    | [] => next (freeTask .interval s)
    | c :: rest =>
      let (seq, t) := joinWork jkInterval 0 (intervalRecord c) (freeTask .interval s)
      next (onMet (fun m => { m with
        closing := rest
        records := m.records ++ [{ seq := seq, bytes := intervalRecord c seq, accepted := false, archived := false }] }) t)
  else next s

/-! Span records (R286). -/

/-- 7 days in ns. -/
def longSpan : Nat := 604800000000000

/-- The estimate in µWh. -/
def spanEstimate (x : Span) (d : Nat) (pa : Option Int) : Int :=
  if x.dark || longSpan < d then 0
  else
    match x.pb, pa with
    | some b, some a => tdiv ((b + a) * (d : Int)) 7200000000
    | some b, none => tdiv (b * (d : Int)) 3600000000
    | none, some a => tdiv (a * (d : Int)) 3600000000
    | none, none => 0

def spanAfter (c : ClosedSpan) : Option Int := maskPower c.span.phases fun p => meanPower [c.after.getD p default]

/-- The 64-byte record of Table 11.4. -/
def spanRecord (c : ClosedSpan) (seq : U32) : Bytes :=
  let x := c.span
  let d := c.finish - x.start
  let pa := spanAfter c
  let e := spanEstimate x d pa
  crcEnd (leW seq ++ le8 x.feeder ++ le8 x.phases ++ le8 x.cause ++
    le8 (bitN x.pb.isNone 0 + bitN pa.isNone 1 + bitN x.dark 2 + bitN (decide (longSpan < d)) 3 + bitN c.late 4 + bitN x.merged 5) ++
    le64 x.start ++ le64 c.finish ++ le64 e.toNat ++ le64 (-e).toNat ++ leS32 (satS 32 (x.pb.getD 0)) ++ leS32 (satS 32 (pa.getD 0)) ++ zeros 12)

/-- The minute after a closed span is over, or a new span has interrupted it. -/
def minuteOver (s : State) (c : ClosedSpan) : Bool := c.interrupted || c.finish + 60000000000 ≤ taiNs s

/-- Closed spans whose end is not yet known move with a step of the time base (R286). -/
def lateSpansStep (d : Int) (s : State) : State :=
  onMet (fun m => { m with closed := m.closed.map fun c => if c.late then { c with finish := ((c.finish : Int) + d).toNat } else c }) s

/-- SPAN_RECORD_DUE: the feeder's oldest closed span gives its record 60 s after its end; one of unknown length waits for a traceable time
base, and all wait for journal space. -/
def execSpanRecordDue (n : Nat) (s : State) : Out :=
  match s.met.closed.find? fun c => c.span.feeder == n with
  | none => next s
  | some c =>
    if logTight s || (c.late && !s.time.servo.traceable) || !minuteOver s c then next s
    else
      let (seq, t) := joinWork jkSpan n (spanRecord c) s
      let left := s.met.closed.erase c
      let t := if c.late then onFeeder n (fun f => { f with unmeasured := f.unmeasured + BitVec.ofNat 64 (msBetween c.span.start c.finish) }) t else t
      next (onMet (fun m => { m with
        closed := left
        spanRecords := m.spanRecords ++ [{ seq := seq, bytes := spanRecord c seq, accepted := false, archived := false }] }) t)

/-! Acceptance and archives (R281, R286, R287). -/

def markArchived (seq : U32) (f : MetRecord → MetRecord) (l : List MetRecord) : List MetRecord :=
  l.map fun r => if r.seq == seq then f r else r

/-- Interval and span records of a completed commit: their counts, and the span's estimates. -/
def meterAccepted (s : State) (e : JEntry) : State :=
  if e.kind == jkInterval then
    onMet (fun m => { m with records := markArchived e.seq (fun r => { r with accepted := true }) m.records, intvClosed := m.intvClosed + 1,
                             intvPartial := if bit (u16At e.body 6) ifPartial then m.intvPartial + 1 else m.intvPartial }) s
  else if e.kind == jkSpan then
    onFeeder (u8At e.body 4) (fun f => { f with estI := f.estI + BitVec.ofNat 64 (u64At e.body 24), estE := f.estE + BitVec.ofNat 64 (u64At e.body 32) })
      (onMet (fun m => { m with spanRecords := markArchived e.seq (fun r => { r with accepted := true }) m.spanRecords, spanCnt := m.spanCnt + 1 }) s)
  else s

/-- ARCHIVE_VERIFIED: the eMMC copy of an accepted record is verified, and its journal entry retires. -/
def execArchiveVerified (sequence : U32) (s : State) : Out :=
  let here := fun l : List MetRecord => l.any fun r => r.seq == sequence && r.accepted && !r.archived
  if (here s.met.records || here s.met.spanRecords) && !s.sys.emmcFault then
    let f := fun r : MetRecord => { r with archived := true }
    let t := retire sequence (onMet (fun m => { m with records := markArchived sequence f m.records, spanRecords := markArchived sequence f m.spanRecords }) s)
    next { t with jnl := spaceHolds t.jnl }
  else next s

/-! Saves (R283). -/

def saveOf (kind : Nat) (s : State) : MetSave :=
  { seq := s.met.saveSeq + 1, kind := kind, instant := s.met.blockEnd, opSec := opSec s, lastSeq := s.jnl.lastSeq,
    dark := (upTo 2).map (fun v => darkNow s (6 * v)), feeders := s.met.feeders, interval := s.met.interval,
    spans := s.met.spans, closed := s.met.closed, closing := s.met.closing, unaccepted := s.met.records.filter (!·.accepted)
    unacceptedSpans := s.met.spanRecords.filter (!·.accepted) }

/-- The slot that a periodic save writes: an empty one, else the one of the older save. -/
def periodicSlot (s : State) : Nat :=
  match s.met.saveA, s.met.saveB with
  | none, _ => 0
  | some _, none => 1
  | some a, some b => if serialBefore a.seq b.seq then 0 else 1

/-- PERIODIC_SAVE: once per second, alternately to A and B; more than 1.1 s after the one before counts as late. -/
def execPeriodicSave (s : State) : Out :=
  if running s && s.met.restored && s.sys.bankOk.getD 0 false then
    let v := saveOf 1 s
    let k := periodicSlot s
    let late := s.met.lastKind == 1 && s.met.lastSaveAt != 0 && 440000000 < s.time.cycle - s.met.lastSaveAt
    next (checkStartUp (onMet (fun m => { m with
      saveA := if k = 0 then some v else m.saveA
      saveB := if k = 0 then m.saveB else some v
      saveSeq := v.seq, saveSlot := k, lastKind := 1, lastSaveAt := s.time.cycle
      msvLate := if late then m.msvLate + 1 else m.msvLate }) s))
  else next s

/-- The last-gasp save (kind 2) or that of a planned reset (kind 3), in slot LG. -/
def saveLastGasp (kind : Nat) (s : State) : State :=
  if s.met.restored then
    let v := saveOf kind s
    onMet (fun m => { m with saveLg := some v, saveSeq := v.seq, saveSlot := 2, lastKind := kind, lastSaveAt := s.time.cycle }) s
  else s

/-- The save written last. -/
def lastSave (s : State) : Option MetSave :=
  if s.met.saveSlot = 0 then s.met.saveA else if s.met.saveSlot = 1 then s.met.saveB else s.met.saveLg

/-! Counters (R275, R292). -/

def clearPeak (p : Peak) : Peak := { p with code := 0, milli := 0, stamp := 0, clip := false }

/-- MET_CLEAR_STATS: counters and peaks of the METER block. -/
def execMetClearStats (s : State) : Out :=
  next (onMet (fun m => { m with
    feeders := m.feeders.map (fun f => { f with ocInst := 0, ocRms := 0 })
    sets := m.sets.map (fun v => { v with sagCnt := 0, swellCnt := 0 })
    dfc := m.dfc.map (fun d => { d with pulses := 0 })
    peaks := m.peaks.map clearPeak
    decOverrun := 0, clipCnt := 0, supplyFault := 0, snapTrig := 0, snapLost := 0, snapMergedLost := 0, msvLate := 0, intvClosed := 0,
    intvPartial := 0, spanCnt := 0, snapArchived := 0, snapRawblk := 0, snapUnarch := 0 }) s)

end Sys2Proof.Machine
end

