-- ==== Sys2Proof/Machine/MetCmd.lean ====
section
/-! DEFINITION. The MET commands (Tables 10.10 and 11.6). -/

namespace Sys2Proof.Machine

/-- A read by first index and count over fixed-size entries. -/
def metRead (opcode total : Nat) (item : State → Nat → Bytes) : CmdSpec where
  opcode := opcode
  needs := rMeterRead
  check _ p _ := checks [lenIs p 4, reserved p 2 2, entryRange (u8At p 0) (u8At p 1) total]
  run _ c s := (s, ok ((span (u8At c.payload 0) (u8At c.payload 1)).flatMap (item s)))

/-- A read without a payload. -/
def metGet (opcode : Nat) (f : State → Bytes) : CmdSpec where
  opcode := opcode
  needs := rMeterRead
  check _ p _ := emptyPayload p
  run _ _ s := (s, ok (f s))

/-- A METER_WRITE setting that takes effect at the first boundary after its commit (R273). -/
def metSet (opcode id : Nat) (check : Bytes → Chk) (off : Bytes → Nat) (data : Bytes → Bytes) : CmdSpec where
  opcode := opcode
  needs := rMeterWrite
  check _ p s := andThen (check p) (settingsRoom p s)
  onAccept := settingAccepted
  run _ c s := writeSetting id (off c.payload) (data c.payload) effectAfterCommit false c s

/-- Checks of `first, n, u16 0` and `n` entries of `size` bytes, `good` by index and entry. -/
def entriesOk (size total : Nat) (good : Nat → Bytes → Bool) (p : Bytes) : Chk :=
  checks [need (4 ≤ p.length) stBadPayload, lenIs p (4 + size * u8At p 1), reserved p 2 2, entryRange (u8At p 0) (u8At p 1) total,
    items (u8At p 1) fun k => if good (u8At p 0 + k) (slice p (4 + size * k) size) then none else some stBadPayload]

/-! Front end (Table 10.10). -/

/-- Calibration and sealed DFC writes are taken in START_UP and TEST alone (R250). -/
def metrologyOpen (s : State) : Bool := s.met.mode == .startUp || s.met.mode == .test

/-- SERVICE ends TEST and RECOVERY; START_UP ends by its own conditions alone (R268, DEDUCED). -/
def metModeSet : CmdSpec where
  opcode := 0x0501
  needs := rCalibrate
  check _ p s := checks [lenIs p 4, reserved p 2 2,
    need ((u8At p 0 == 1 && u8At p 1 == 0) || (u8At p 0 == 2 && 1 ≤ u8At p 1 && u8At p 1 ≤ 240)) stBadPayload,
    need (u8At p 0 != 1 || s.met.calValid) stConflict]
  run _ c s :=
    let t :=
      if u8At c.payload 0 = 1 then (if s.met.mode == .startUp then s else modeTo .service s)
      else
        modeTo .test (onMet (fun m => { m with testFrom := if m.mode == .test then m.testFrom else m.mode,
                                               testUntil := s.time.cycle + u8At c.payload 1 * 60 * cyclesPerSec }) s)
    (t, did s (le8 (modeCode t.met.mode) ++ zeros 3))
def execMetModeSet (op : CmdStep) (s : State) : Out := next (mailboxCommand metModeSet op s)

def harnessCode : HarnessState → Nat
  | .notFitted => 0 | .absent => 1 | .powering => 2 | .settling => 3 | .run => 4 | .fault => 5

def testLeft (s : State) : Nat := if s.met.mode == .test then (s.met.testUntil - s.time.cycle + cyclesPerSec - 1) / cyclesPerSec else 0

def metStatus : CmdSpec := metGet 0x0502 fun s =>
  le8 (modeCode s.met.mode) ++ le8 (harnessCode (harness s 0).state) ++ le8 (harnessCode (harness s 1).state) ++
    le8 (bitN s.met.calValid 0 + bitN (hsNominal s 0 == 60) 1) ++ le32 (testLeft s) ++ le8 (closedMask s) ++ le8 (trippedMask s) ++
    le8 (maskOf (s.met.outputs.map (·.fbFault))) ++ le8 (maskOf (s.met.outputs.map (·.outFault))) ++ leW s.met.calCount ++
    le64 (maskOf s.met.chanFault)
def execMetStatus (op : CmdStep) (s : State) : Out := next (mailboxCommand metStatus op s)

def metQtyRead : CmdSpec := metRead 0x0503 12 fun s n => (feeder s n).record
def execMetQtyRead (op : CmdStep) (s : State) : Out := next (mailboxCommand metQtyRead op s)

/-- Table 10.1's ranges. -/
def calOk (_ : Nat) (b : Bytes) : Bool :=
  fpFiniteNonneg 8 23 (calFs b) && decide (1 ≤ fp32Value (calFs b) ∧ fp32Value (calFs b) ≤ 100000) && 0x20000000 ≤ calGain b && calGain b ≤ 0x80000000 &&
    decide (-1048576 ≤ calOffset b ∧ calOffset b ≤ 1048576) && u16At b 12 ≤ 50000 && allZero (slice b 14 2)

/-- A metrology-class write completes its unretired settings write and acts now. -/
def writeNow (c : Cmd) (id off : Nat) (data : Bytes) (s : State) : State :=
  let s := writeWorking id off data s
  { s with set := { s.set with unretired := s.set.unretired.map fun u => if u.1 == c.seq then (u.1, some (.settings id off data), u.2.2) else u } }

/-- R250: entries, CAL_VALID by all 56 at once, the count, CAL_CHANGE with the channels written. -/
def metCalWrite : CmdSpec where
  opcode := 0x0504
  needs := rCalibrate
  check _ p s := andThen (entriesOk 16 56 calOk p) (andThen (need (metrologyOpen s) stConflict) (settingsRoom p s))
  onAccept := settingAccepted
  run m c s :=
    let p := c.payload
    let n := u8At p 1
    let t := writeNow c secCal (16 * u8At p 0) (p.drop 4) s
    let t := onMet (fun x => { x with calCount := x.calCount + 1, calValid := x.calValid || n == 56 }) t
    let t := post 0x070C m (leW t.met.calCount ++ le64 (maskOfItems 56 (span (u8At p 0) n))) t
    (checkStartUp t, did s (leW t.met.calCount))
def execMetCalWrite (op : CmdStep) (s : State) : Out := next (mailboxCommand metCalWrite op s)

def metCalRead : CmdSpec := metRead 0x0505 56 calEntry
def execMetCalRead (op : CmdStep) (s : State) : Out := next (mailboxCommand metCalRead op s)

/-- Table 10.9's ranges for one entry. -/
def harnessOk (b : Bytes) : Bool := u8At b 0 ≤ 3 && (u8At b 1 == 50 || u8At b 1 == 60) && 1 ≤ u8At b 6 && allZero (slice b 7 9)

def metHarnessSet : CmdSpec := metSet 0x0506 secHarness
  (fun p => checks [lenIs p 32, need (harnessOk (slice p 0 16) && harnessOk (slice p 16 16) && u8At p 1 == u8At p 17) stBadPayload]) (fun _ => 0) id
def execMetHarnessSet (op : CmdStep) (s : State) : Out := next (mailboxCommand metHarnessSet op s)

def metHarnessRead : CmdSpec := metGet 0x0507 fun s => slice (sect s secHarness) 0 32
def execMetHarnessRead (op : CmdStep) (s : State) : Out := next (mailboxCommand metHarnessRead op s)

/-- Table 10.4's ranges. -/
def protOk (_ : Nat) (b : Bytes) : Bool :=
  1 ≤ u8At b 2 && u8At b 2 ≤ 64 && u8At b 3 ≤ 7 && 1 ≤ u8At b 6 && u8At b 7 == 0 && allZero (slice b 9 7)

def metProtWrite : CmdSpec := metSet 0x0508 secProt (entriesOk 16 12 protOk) (fun p => 16 * u8At p 0) (List.drop 4)
def execMetProtWrite (op : CmdStep) (s : State) : Out := next (mailboxCommand metProtWrite op s)

def metProtRead : CmdSpec := metRead 0x0509 12 prEntry
def execMetProtRead (op : CmdStep) (s : State) : Out := next (mailboxCommand metProtRead op s)

/-- Table 10.5's ranges. -/
def contactorOk (n : Nat) (b : Bytes) : Bool :=
  u8At b 0 == n && u8At b 1 ≤ 2 && (u8At b 2 ≤ 7 || u8At b 2 == 0xFF) && u8At b 3 ≤ 7 && 1 ≤ u16At b 4 && u16At b 4 ≤ 600 && u16At b 6 ≤ 600 &&
    20 ≤ u16At b 8 && u16At b 8 ≤ 2000 && u8At b 10 ≤ 15 && u8At b 11 ≤ 32 && allZero (slice b 12 4) &&
    (upTo 32).all fun j => u16At b (16 + 4 * j) ≤ u16At b (18 + 4 * j) && u16At b (18 + 4 * j) ≤ 9215

def metContactorCfg : CmdSpec := metSet 0x050A secContactor (entriesOk 144 8 contactorOk) (fun p => 144 * u8At p 0) (List.drop 4)
def execMetContactorCfg (op : CmdStep) (s : State) : Out := next (mailboxCommand metContactorCfg op s)

def metContactorRead : CmdSpec := metRead 0x050B 8 coEntry
def execMetContactorRead (op : CmdStep) (s : State) : Out := next (mailboxCommand metContactorRead op s)

/-- R263, R264: a CLOSE of a TRIPPED output completes with CONFLICT; the others wait for their boundary. -/
def metContactorSet : CmdSpec where
  opcode := 0x050C
  needs := rSwitch
  check _ p s := checks [lenIs p 4, reserved p 2 2, need (u8At p 0 != 0 && u8At p 1 ≤ 2) stBadPayload, settingsRoom p s]
  onAccept := settingAccepted
  run m c s :=
    let mask := u8At c.payload 0
    let act := u8At c.payload 1
    if act = 1 && (itemsOf 8 mask).any fun n => (output s n).tripped then (s, .done stConflict [])
    else
      (onMet (fun x => { x with contDue := x.contDue ++ [{ mailbox := m, seq := c.seq, reset := false, mask := mask, action := act, newTrip := 0 }] }) s,
        .waits)
def execMetContactorSet (op : CmdStep) (s : State) : Out := next (mailboxCommand metContactorSet op s)

def metTripReset : CmdSpec where
  opcode := 0x050D
  needs := rSwitch
  check _ p _ := checks [lenIs p 4, reserved p 1 3, need (u8At p 0 != 0) stBadPayload]
  run m c s :=
    (onMet (fun x => { x with contDue := x.contDue ++ [{ mailbox := m, seq := c.seq, reset := true, mask := u8At c.payload 0, action := 0, newTrip := 0 }] }) s,
      .waits)
def execMetTripReset (op : CmdStep) (s : State) : Out := next (mailboxCommand metTripReset op s)

/-- A quantity code of Table 10.7 without reserved values. -/
def codeOk (q : Nat) : Bool := q / 4096 ≤ 4 && q / 256 % 16 ≤ 2 && q / 16 % 16 ≤ 11 && q % 16 ≤ 2

def metDfcSet : CmdSpec where
  opcode := 0x050E
  needs := rCalibrate
  check _ p s := checks [lenIs p 12, reserved p 10 2, need (u8At p 0 ≤ 3) stRange,
    need (u8At p 1 ≤ 1 && (if u8At p 1 = 0 then u16At p 2 == 0 else codeOk (u16At p 2)) && 1 ≤ u32At p 4 && u32At p 4 ≤ 100000 &&
      10 ≤ u16At p 8 && u16At p 8 ≤ 80) stBadPayload,
    need (if u8At p 1 = 0 then metrologyOpen s else s.met.mode != .service) stConflict,
    if u8At p 1 = 0 then settingsRoom p s else pass]
  onAccept m q p s := if u8At p 1 = 0 then settingAccepted m q p s else s
  run _ c s :=
    let p := c.payload
    let d := u8At p 0
    if u8At p 1 = 0 then
      (onDfc d (fun x => { x with clear := true }) (writeNow c secDfc (8 * d) (le32 (u32At p 4) ++ le16 (u16At p 8) ++ le16 0) s), did s [])
    else if s.met.mode == .service then (s, .done stConflict [])
    else (onDfc d (fun x => { x with assigned := true, code := u16At p 2, c := u32At p 4, w := u16At p 8, clear := true }) s, did s [])
def execMetDfcSet (op : CmdStep) (s : State) : Out := next (mailboxCommand metDfcSet op s)

def metDfcRead : CmdSpec := metGet 0x050F fun s =>
  (upTo 4).flatMap fun d =>
    let x := s.met.dfc.getD d default
    le8 (if x.assigned then 1 else 0) ++ le8 (bitN x.sat 0 + bitN x.pulsing 1) ++ le16 (dfcCode s d) ++ le32 (dfcC s d) ++ le16 (dfcW s d) ++
      le16 0 ++ leW x.pulses
def execMetDfcRead (op : CmdStep) (s : State) : Out := next (mailboxCommand metDfcRead op s)

def metPeakRead : CmdSpec := metRead 0x0510 56 fun s c =>
  let p := s.met.peaks.getD c default
  le8 c ++ le8 (bitN p.clip 0) ++ le16 0 ++ le32 (satU 32 p.milli) ++ le64 p.stamp
def execMetPeakRead (op : CmdStep) (s : State) : Out := next (mailboxCommand metPeakRead op s)

def metPeakClear : CmdSpec where
  opcode := 0x0511
  needs := rMeterWrite
  check _ p _ := checks [lenIs p 8, reserved p 7 1]
  run _ c s :=
    (onMet (fun m => { m with peaks := m.peaks.zipIdx.map fun (p, k) => if bit (u64At c.payload 0) k then clearPeak p else p }) s, did s [])
def execMetPeakClear (op : CmdStep) (s : State) : Out := next (mailboxCommand metPeakClear op s)

/-! Registers, intervals and snapshots (Table 11.6). -/

def le64W (x : U64) : Bytes := le64 x.toNat

def metRegRead : CmdSpec := metRead 0x0520 12 fun s n =>
  let f := feeder s n
  [f.ai, f.ae, f.ri, f.re, f.ap, f.estI, f.estE, f.unmeasured].flatMap le64W
def execMetRegRead (op : CmdStep) (s : State) : Out := next (mailboxCommand metRegRead op s)

/-- R278's view of a register. -/
def legacyView (x : U64) : Nat := x.toNat / 1000000 % 4294967296

def metLegacyRead : CmdSpec := metRead 0x0521 12 fun s n =>
  let f := feeder s n
  [f.ai, f.ae, f.ri, f.re, f.ap].flatMap fun x => le32 (legacyView x)
def execMetLegacyRead (op : CmdStep) (s : State) : Out := next (mailboxCommand metLegacyRead op s)

def metIntervalSet : CmdSpec where
  opcode := 0x0522
  needs := rMeterWrite
  check _ p s := checks [lenIs p 4, reserved p 1 3, need ([1, 2, 3, 4, 5, 6, 10, 12, 15, 20, 30, 60].contains (u8At p 0)) stBadPayload, settingsRoom p s]
  onAccept := settingAccepted
  run _ c s :=
    (onInterval (fun iv => { iv with length := gridLength s, changeAt := nextHour s }) (writeNow c secInterval 0 (c.payload.take 1) s),
      .effect (nextStitch s) (le64 (nextHour s)))
def execMetIntervalSet (op : CmdStep) (s : State) : Out := next (mailboxCommand metIntervalSet op s)

/-- `n` archived records in acceptance order from a held sequence. -/
def recordRun (l : List MetRecord) (first n : Nat) : List MetRecord :=
  ((l.filter (·.archived)).dropWhile fun r => r.seq.toNat != first).take n

def metArchiveRead (opcode most : Nat) (l : State → List MetRecord) : CmdSpec where
  opcode := opcode
  needs := rMeterRead
  check _ p s := checks [lenIs p 8, reserved p 6 2, need (1 ≤ u16At p 4 && u16At p 4 ≤ most) stRange,
    need ((recordRun (l s) (u32At p 0) (u16At p 4)).length == u16At p 4) stRange]
  run _ c s := (s, ok ((recordRun (l s) (u32At c.payload 0) (u16At c.payload 4)).flatMap (·.bytes)))

def metIntervalRead : CmdSpec := metArchiveRead 0x0523 16 fun s => s.met.records
def execMetIntervalRead (op : CmdStep) (s : State) : Out := next (mailboxCommand metIntervalRead op s)

def metSpanRead : CmdSpec := metArchiveRead 0x0524 64 fun s => s.met.spanRecords
def execMetSpanRead (op : CmdStep) (s : State) : Out := next (mailboxCommand metSpanRead op s)

/-- The head-end's trigger; with no free buffer it completes with LIMIT and id 0. -/
def metSnapTrigger : CmdSpec where
  opcode := 0x0525
  needs := rMeterWrite
  check _ p _ := emptyPayload p
  run _ _ s :=
    let (id, t) := trigger s
    (t, if id = 0 then .done stLimit (leW id ++ le64 (taiNs s)) else did s (leW id ++ le64 (taiNs s)))
def execMetSnapTrigger (op : CmdStep) (s : State) : Out := next (mailboxCommand metSnapTrigger op s)

def snapRun (s : State) (first n : Nat) : List Snapshot := (s.met.snaps.dropWhile fun x => x.id.toNat != first).take n

def metSnapList : CmdSpec where
  opcode := 0x0526
  needs := rMeterRead
  check _ p s := checks [lenIs p 8, reserved p 6 2, need (1 ≤ u16At p 4 && u16At p 4 ≤ 64) stRange,
    need ((snapRun s (u32At p 0) (u16At p 4)).length == u16At p 4) stRange]
  run _ c s :=
    (s, ok ((snapRun s (u32At c.payload 0) (u16At c.payload 4)).flatMap fun x =>
      leW x.id ++ le64 (x.triggers.headD 0) ++ le32 (snapBytes x) ++ le8 x.q ++ le8 (bitN x.traceable 0 + bitN x.archived 1) ++ le16 0 ++ le64 0))
def execMetSnapList (op : CmdStep) (s : State) : Out := next (mailboxCommand metSnapList op s)

def snapOf (s : State) (id : Nat) : Option Bytes := (s.met.snaps.find? fun x => x.id.toNat == id).bind (·.coded)

def metSnapRead : CmdSpec where
  opcode := 0x0527
  needs := rMeterRead
  check _ p s := checks [lenIs p 12, need (1 ≤ u32At p 8 && u32At p 8 ≤ 65536) stRange,
    match snapOf s (u32At p 0) with
    | none => refuse stRange
    | some b => need (u32At p 4 + u32At p 8 ≤ b.length) stRange]
  run _ c s := (s, ok (slice ((snapOf s (u32At c.payload 0)).getD []) (u32At c.payload 4) (u32At c.payload 8)))
def execMetSnapRead (op : CmdStep) (s : State) : Out := next (mailboxCommand metSnapRead op s)

def metSnapSet : CmdSpec where
  opcode := 0x0528
  needs := rMeterWrite
  check _ p s := checks [lenIs p 4, reserved p 1 3, need (u8At p 0 ≤ 6) stBadPayload, settingsRoom p s]
  onAccept := settingAccepted
  run _ c s := (writeNow c secInterval 1 (c.payload.take 1) s, .effect (nextStitch s) [])
def execMetSnapSet (op : CmdStep) (s : State) : Out := next (mailboxCommand metSnapSet op s)

def metSaveStatus : CmdSpec := metGet 0x0529 fun s =>
  leW s.met.saveSeq ++ le8 s.met.lastKind ++ le8 (bitN s.met.prevLgOk 0) ++ le16 0 ++ le64 ((lastSave s).elim 0 (·.instant)) ++
    le32 s.met.spans.length
def execMetSaveStatus (op : CmdStep) (s : State) : Out := next (mailboxCommand metSaveStatus op s)

end Sys2Proof.Machine
end

