-- ==== Sys2Proof/Machine/Ring.lean ====
section
/-! DEFINITION. Ports and links (R420, R421), SFP modules (R422) and ring protection (R426–R428). The ring's transitions are those
of ITU-T G.8032, which R426 names, in the subset it gives (PRESUMED). -/

namespace Sys2Proof.Machine

def onNet (f : Net → Net) (s : State) : State := { s with net := f s.net }
def onPort (p : Nat) (f : SwPort → SwPort) (s : State) : State := { s with net := { s.net with ports := listModify s.net.ports p f } }
def onRing (f : Ring → Ring) (s : State) : State := { s with net := { s.net with ring := f s.net.ring } }
def onPanel (f : Panel → Panel) (s : State) : State := { s with pnl := f s.pnl }

def port (s : State) (p : Nat) : SwPort := s.net.ports.getD p default

/-! The module's addresses (R430). -/

/-- Identifiers compared as numbers, most significant byte first. -/
def macNat (b : Bytes) : Nat := b.foldl (fun n x => 256 * n + x.toNat) 0
/-- Base + k of the 8 consecutive MAC addresses: the host's, those of ports 0 to 5, and the clock's. -/
def moduleMac (k : Nat) : Bytes := (Config.octets 6 ((macNat Config.baseMac + k) % 2 ^ 48)).reverse

/-! Settings of sections 40 and 42. -/

def portEn (s : State) (p : Nat) : Bool := p == 6 || bit (setU8 s secPorts (8 * p)) 0
def portPtp (s : State) (p : Nat) : Bool := p == 6 || bit (setU8 s secPorts (8 * p)) 1
/-- Speed setting: 0 AUTO, else the code of Table 18.1. -/
def portSpeed (s : State) (p : Nat) : Nat := setU8 s secPorts (8 * p + 1)
def ringEn (s : State) : Bool := bit (setU8 s secRing 0) 0
def ringRevertive (s : State) : Bool := bit (setU8 s secRing 0) 1
/-- 0 NODE, 1 RPL_OWNER, 2 RPL_NEIGHBOUR. -/
def ringRole (s : State) : Nat := setU8 s secRing 1
def rplPort (s : State) : Nat := setU8 s secRing 2
def ringHoldOff (s : State) : Nat := setU16 s secRing 10

def blocked (s : State) (p : Nat) : Bool := s.net.ring.blocked.getD p false
def portUp (s : State) (p : Nat) : Bool := portEn s p && (p == 6 || (port s p).link)
/-- A port that carries traffic other than R-APS (R427). -/
def forwarding (s : State) (p : Nat) : Bool := portUp s p && !blocked s p

/-! Ring state. -/

def ringCode : RingState → Nat
  | .disabled => 0 | .idle => 1 | .protection => 2 | .manualSwitch => 3 | .forcedSwitch => 4 | .pending => 5

/-- RING_STATUS.REQUEST: the top request. -/
def ringRequest (r : Ring) : Nat :=
  match r.state with
  | .protection => 1
  | .manualSwitch => 2
  | .forcedSwitch => 3
  | .pending => if r.wtr then 4 else 0
  | _ => 0

/-- R428: a change of ring state flushes both ring ports' entries and is recorded. -/
def ringTo (new : RingState) (port : Nat) (s : State) : State :=
  let old := s.net.ring.state
  let s := onRing (fun r => { r with state := new }) s
  if old == new then s
  else
    post 0x0806 port (le8 (ringCode old) ++ le8 (ringCode new) ++ le8 (ringRequest s.net.ring))
      (onNet (fun n => { n with fdb := n.fdb.filter fun e => 2 ≤ e.port }) s)

/-- Blocks a ring port and opens the other unless it is in signal fail. -/
def blockOnly (p : Nat) (r : Ring) : Ring := { r with blocked := listSet r.sf p true }
/-- Opens every ring port that is not in signal fail. -/
def unblock (r : Ring) : Ring := { r with blocked := r.sf }
/-- A new request of this node: sent three times, then every 5 s. -/
def sendRequest (t : RapsTx) (r : Ring) : Ring := { r with tx := some t, burst := 3 }
def stopRaps (r : Ring) : Ring := { r with tx := none, burst := 0 }
def noRequest : RapsTx := { request := 0, rb := false, dnf := false }

/-- What the ring resolves, with G.8032's priorities (1 is highest). -/
inductive RingEvent where
  | clear
  | forced (port : Nat)
  | rapsForced
  | sf (port : Nat)
  | clearSf (port : Nat)
  | rapsSf
  | rapsManual
  | manual (port : Nat)
  | wtrExpires
  | rapsNrRb
  | rapsNr (higher : Bool)
  deriving DecidableEq, Repr

def ringRank : RingEvent → Nat
  | .clear => 1 | .forced _ => 2 | .rapsForced => 3 | .sf _ => 4 | .clearSf _ => 5 | .rapsSf => 6 | .rapsManual => 7
  | .manual _ => 8 | .wtrExpires => 9 | .rapsNrRb => 10 | .rapsNr _ => 11

/-- R-APS request codes. -/
def rapsFs : Nat := 13
def rapsSfCode : Nat := 11
def rapsMs : Nat := 7

/-- Rank of the local request that stands. -/
def standing (r : Ring) : Nat :=
  match r.tx with
  | some t => if t.request = rapsFs then 2 else if r.sf.any id then 4 else if t.request = rapsMs then 8 else 12
  | none => if r.sf.any id then 4 else 12

/-- This node's own switch request stands. -/
def ownSwitch (r : Ring) : Bool := r.tx.elim false fun t => t.request == rapsFs || t.request == rapsMs

/-- Back to PENDING: the guard runs, R-APS(NR) is sent, and a revertive owner starts its wait to restore. -/
def ringRelease (port : Nat) (s : State) : State :=
  let wtr := ringRole s == 1 && ringRevertive s
  ringTo .pending port (onRing (fun r => { sendRequest noRequest r with guard_ := true, wtr := wtr }) s)

/-- The owner blocks its RPL again and announces it. -/
def ringRestore (s : State) : State :=
  let rpl := rplPort s
  let dnf := blocked s rpl
  ringTo .idle rpl (onRing (fun r => blockOnly rpl (sendRequest { request := 0, rb := true, dnf := dnf } { r with wtr := false })) s)

/-- This node's own request takes a port. -/
def ringTake (new : RingState) (code p : Nat) (s : State) : State :=
  let dnf := blocked s p
  ringTo new p (onRing (fun r => blockOnly p (sendRequest { request := code, rb := false, dnf := dnf } { r with wtr := false })) s)

/-- Another node's request stands: this node opens its sound ports and is silent. -/
def ringYield (new : RingState) (port : Nat) (s : State) : State :=
  ringTo new port (onRing (fun r => unblock (stopRaps { r with wtr := false })) s)

/-- R-APS(NR, RB): the RPL is blocked. A port opened by it starts the guard (Table 18.5). -/
def ringReverted (s : State) : State :=
  let was := s.net.ring.blocked
  let s :=
    if ringRole s == 1 then s
    else if ringRole s == 2 then onRing (fun r => blockOnly (rplPort s) (stopRaps r)) s
    else onRing (fun r => unblock (stopRaps r)) s
  let opened := (upTo 2).any fun p => was.getD p false && !blocked s p
  ringTo .idle noSource (onRing (fun r => { r with guard_ := r.guard_ || opened, wtr := false }) s)

/-- The action of an event that is not outranked. -/
def ringAct (e : RingEvent) (s : State) : State :=
  let st := s.net.ring.state
  match e with
  | .clear =>
    if st == .pending then (if ringRole s == 1 then ringRestore s else s)
    else if ownSwitch s.net.ring then ringRelease noSource s
    else s
  | .forced p => ringTake .forcedSwitch rapsFs p s
  | .rapsForced => if st == .forcedSwitch then s else ringYield .forcedSwitch noSource s
  | .sf p => if st == .forcedSwitch then s else ringTake .protection rapsSfCode p s
  | .clearSf p => if st == .protection then ringRelease p s else s
  | .rapsSf => if st == .forcedSwitch then s else ringYield .protection noSource s
  | .rapsManual =>
    if st == .idle || st == .pending then ringYield .manualSwitch noSource s
    else if st == .manualSwitch && ownSwitch s.net.ring then ringRelease noSource s
    else s
  | .manual p => if st == .idle || st == .pending then ringTake .manualSwitch rapsMs p s else s
  | .wtrExpires => if st == .pending && ringRole s == 1 then ringRestore s else s
  | .rapsNrRb => ringReverted s
  | .rapsNr higher =>
    if st == .idle || st == .pending then
      if higher && ringRole s == 0 || higher && st == .pending then onRing (fun r => unblock (stopRaps r)) s else s
    else
      let wtr := ringRole s == 1 && ringRevertive s
      ringTo .pending noSource (onRing (fun r => { r with wtr := wtr }) s)

/-- A signal fail left standing when a higher request ends takes effect. -/
def ringSettle (s : State) : State :=
  let r := s.net.ring
  if r.state == .forcedSwitch || r.state == .protection || r.state == .disabled then s
  else
    match r.sf.findIdx? id with
    | some p => ringTake .protection rapsSfCode p s
    | none => s

/-- Resolves an event of an enabled ring. -/
def ringEvent (e : RingEvent) (s : State) : State :=
  if s.net.ring.state == .disabled then s
  else if ringRank e ≤ standing s.net.ring then ringSettle (ringAct e s)
  else s

/-- Signal fail begins on a ring port. -/
def sfBegins (p : Nat) (s : State) : State :=
  let s := onRing (fun r => { r with sf := listSet r.sf p true, holdOff := listSet r.holdOff p false }) s
  let s := ringEvent (.sf p) s
  onRing (fun r => if r.state == .disabled then r else { r with blocked := listSet r.blocked p true }) s

/-- Signal fail ends on a ring port: with another left, that one stands alone. -/
def sfEnds (p : Nat) (s : State) : State :=
  let was := s.net.ring.sf.getD p false
  let s := onRing (fun r => { r with sf := listSet r.sf p false, holdOff := listSet r.holdOff p false }) s
  if !was then s
  else
    match s.net.ring.sf.findIdx? id with
    | some q => ringEvent (.sf q) s
    | none => ringEvent (.clearSf p) s

/-- The ring begins (RING_EN set): a node keeps port 1 blocked, an owner or neighbour its RPL. -/
def ringStart (s : State) : State :=
  let b := if ringRole s == 0 then 1 else rplPort s
  let sf := [!portUp s 0, !portUp s 1]
  let wtr := ringRole s == 1 && ringRevertive s
  let s := onRing (fun r => { r with sf := sf, holdOff := [false, false], guard_ := false }) s
  ringSettle (ringTo .pending noSource (onRing (fun r => blockOnly b (sendRequest noRequest { r with wtr := wtr })) s))

/-- The ring ends (R427): port 1 is blocked and port 0 forwards. -/
def ringStop (s : State) : State :=
  let s := onRing (fun r => { stopRaps r with blocked := [false, true], wtr := false, guard_ := false, holdOff := [false, false] }) s
  ringTo .disabled noSource s

/-- The ring settings in force are new. -/
def ringSettings (s : State) : State := if ringEn s then ringStart s else ringStop s

/-! Links (R421). -/

/-- A link reported down: recorded and counted; what waited to leave by it is lost. A ring port raises signal fail once its
hold-off has run. -/
def linkLost (p : Nat) (s : State) : State :=
  if !(port s p).link then s
  else
    let s := onPort p (fun x => { x with link := false, speed := if p < 2 then x.speed else 0, linkDowns := x.linkDowns + 1,
                                         queues := List.replicate 8 [], credit := List.replicate 6 0, sending := none }) s
    let s := post 0x0802 p [] s
    if 2 ≤ p || !ringEn s then s
    else if ringHoldOff s = 0 then sfBegins p s
    else onRing (fun r => { r with holdOff := listSet r.holdOff p true }) s

/-- Whether a port can come up at a speed code: its setting, and for a cage its accepted module. -/
def speedFits (s : State) (p speed : Nat) : Bool :=
  if p < 2 then (port s p).sfp == .accepted && (port s p).speed == speed
  else (speed == 1 || speed == 2 || speed == 3) && (portSpeed s p == 0 || portSpeed s p == speed)

/-- The switch core and the port's interface have their clocks (Table 2.2). -/
def portClocked (s : State) (p : Nat) : Bool := s.time.plls.getD 4 false && s.time.plls.getD (6 + p) false

/-- LINK_UP: the PHY or PCS reports an enabled port up. -/
def execLinkUp (p speed : Nat) (s : State) : Out :=
  if 6 ≤ p || (port s p).link || !portEn s p || !speedFits s p speed || !portClocked s p then next s
  else
    let s := post 0x0801 p (le8 speed) (onPort p (fun x => { x with link := true, speed := speed }) s)
    next (if p < 2 && ringEn s then sfEnds p s else s)

/-- LINK_DOWN: a link has been lost for 2 ms. -/
def execLinkDown (p : Nat) (s : State) : Out := next (if p < 6 then linkLost p s else s)

/-- RING_HOLD_OFF_EXPIRE: link failures that outlasted the hold-off raise signal fail. -/
def execRingHoldOffExpire (s : State) : Out :=
  next ((upTo 2).foldl (fun s p => if s.net.ring.holdOff.getD p false then sfBegins p s else s) s)

/-! SFP modules (R422). -/

/-- SFP_INSERT: the cage is powered. -/
def execSfpInsert (p : Nat) (s : State) : Out :=
  next (if p < 2 && (port s p).sfp == .absent then onPort p (fun x => { x with sfp := .powering }) s else s)

/-- SFP_POWERED: the identification read begins. -/
def execSfpPowered (p : Nat) (s : State) : Out :=
  next (if p < 2 && (port s p).sfp == .powering then onPort p (fun x => { x with sfp := .reading }) s else s)

/-- Speed code that a module and the port's setting give, or the reason of rejection (Table 18.8). -/
def sfpJudge (setting : Nat) (m : SfpId) : Except Nat Nat :=
  if !m.readable then .error 3
  else if !m.isSfp then .error 0
  else if m.rateSelect || !(m.tenGig || m.oneGig) then .error 1
  else if 15 < m.power then .error 2
  else if (setting == 4 && !m.tenGig) || (setting == 2 && !m.oneGig) then .error 4
  else .ok (if m.tenGig && (setting == 0 || setting == 4) then 4 else 2)

/-- The module in a cage is accepted and its TX enabled at the speed it runs, or rejected (step 4 and 5 of Table 18.2). -/
def judgeModule (p : Nat) (m : SfpId) (s : State) : State :=
  match sfpJudge (portSpeed s p) m with
  | .ok speed => post 0x0803 p (le8 speed ++ fit 7 m.part) (onPort p (fun x => { x with sfp := .accepted, speed := speed, module := some m }) s)
  | .error reason =>
    let s := post 0x0805 p (le8 reason) (onPort p (fun x => { x with sfp := .rejected, module := some m }) s)
    if ringEn s && !s.net.ring.sf.getD p false then sfBegins p s else s

/-- SFP_IDENTIFIED: the module is accepted and its TX enabled, or rejected. -/
def execSfpIdentified (p : Nat) (m : SfpId) (s : State) : Out :=
  if 2 ≤ p || (port s p).sfp != .reading then next s
  else
    next (judgeModule p m s)

/-- SFP_OUT: the module is removed and its port goes down at once. -/
def execSfpOut (p : Nat) (s : State) : Out :=
  if 2 ≤ p || (port s p).sfp == .absent then next s
  else
    let s := post 0x0804 p [] (linkLost p s)
    let s := onPort p (fun x => { x with sfp := .absent, speed := 0, module := none }) s
    next (if ringEn s && !s.net.ring.sf.getD p false then sfBegins p s else s)

/-! R-APS (R426). -/

/-- Octets of an R-APS frame on the wire (PRESUMED: the smallest tagged frame). -/
def rapsOctets : U32 := 64

/-- One R-APS message leaves by a ring port that is up, on the R-APS VID at the configured MEL, tagged with PCP 7. -/
def rapsOut (m : Raps) (source : Option Bytes) (p : Nat) (s : State) : State :=
  if portUp s p then
    let f : RapsSent := { port := p, source := source, vid := setU16 s secRing 4, pcp := 7, mel := setU8 s secRing 6, ring := setU8 s secRing 3, msg := m }
    onPort p (fun x => { x with txFrames := x.txFrames + 1, txOctets := x.txOctets + rapsOctets })
      (onNet (fun n => { n with rapsSent := n.rapsSent ++ [f] }) s)
  else s

/-- RAPS_TRANSMIT: the node's request goes out on both ring ports. -/
def execRapsTransmit (s : State) : Out :=
  match s.net.ring.tx with
  | none => next s
  | some t =>
    let m : Raps := { request := t.request, subcode := 0, rplBlocked := t.rb, doNotFlush := t.dnf,
                      bpr := if blocked s 0 then 0 else 1, nodeId := Config.baseMac }
    next (rapsOut m (some (moduleMac 2)) 1 (rapsOut m (some (moduleMac 1)) 0 (onRing (fun r => { r with burst := r.burst - 1 }) s)))

/-- What a received message asks. -/
def rapsEvent (m : Raps) : Option RingEvent :=
  if m.request = rapsFs then some .rapsForced
  else if m.request = rapsSfCode then some .rapsSf
  else if m.request = rapsMs then some .rapsManual
  else if m.request = 0 then some (if m.rplBlocked then .rapsNrRb else .rapsNr (macNat Config.baseMac < macNat m.nodeId))
  else none

/-- RAPS_FRAME: passed on round the ring while neither ring port is blocked, and resolved unless the guard runs or it is the
node's own. -/
def execRapsFrame (p : Nat) (m : Raps) (s : State) : Out :=
  if 2 ≤ p || !portUp s p then next s
  else
    let s := onPort p (fun x => { x with rxFrames := x.rxFrames + 1, rxOctets := x.rxOctets + rapsOctets }) s
    let s := if ringEn s && !blocked s 0 && !blocked s 1 then rapsOut m none (1 - p) s else s
    if s.net.ring.guard_ || m.nodeId == Config.baseMac then next s
    else next ((rapsEvent m).elim s fun e => ringEvent e s)

/-- RING_WTR_EXPIRE: the owner's wait to restore ends. -/
def execRingWtrExpire (s : State) : Out := next (if s.net.ring.wtr then ringEvent .wtrExpires s else s)

/-- RING_GUARD_EXPIRE. -/
def execRingGuardExpire (s : State) : Out := next (onRing (fun r => { r with guard_ := false }) s)

/-- RING_CMD writes (R426, R433). -/
def execRingCmdForced (p : Nat) (s : State) : Out := next (if p < 2 then ringEvent (.forced p) s else s)
def execRingCmdManual (p : Nat) (s : State) : Out := next (if p < 2 then ringEvent (.manual p) s else s)
def execRingCmdClear (_ : Nat) (s : State) : Out := next (ringEvent .clear s)

end Sys2Proof.Machine
end

