-- ==== Sys2Proof/Machine/Security.lean ====
section
/-! DEFINITION. Sessions and login (R320–R323), protection (R334–R338), revocation (R339), maintenance mode (R340), radio keys
(R341) and the SEC commands (R342). -/

namespace Sys2Proof.Machine

def onMbx (f : Mailboxes → Mailboxes) (s : State) : State := { s with mbx := f s.mbx }
def onSec (f : Security → Security) (s : State) : State := { s with sec := f s.sec }

/-- The TIME cycles of a list that lie in the last 10 min. -/
def lastTenMin (s : State) (l : List Nat) : List Nat := l.filter fun c => s.time.cycle - c < 600 * cyclesPerSec

/-! Network sessions (R321). -/

/-- The enabled binding among 0–13 whose credential is the client's. -/
def bindingOf (s : State) (credential : Bytes) : Option Nat :=
  (upTo 14).find? fun m => bindEn s.sec.prot m && bindCredential s.sec.prot m == credential

/-- TLS_SESSION_OPEN: `credential` is the SHA-256 of the client's SubjectPublicKeyInfo. -/
def execTlsSessionOpen (credential : Bytes) (s : State) : Out :=
  if !running s || !s.mbx.a0Running then next s
  else
    match bindingOf s credential with
    | none =>
      let l := lastTenMin s s.mbx.handshakeFails ++ [s.time.cycle]
      next (post 0x0301 noSource (le8 (satU 8 l.length)) (onMbx (fun x => { x with handshakeFails := l }) s))
    | some m =>
      let old := (box s m).session != .closed
      let s := if old then post 0x0302 m [] (dropSession m s) else s
      next (openSession m .opened s)

/-- SESSION_CLOSE: the TCP connection of a network session ends. -/
def execSessionClose (m : Nat) (s : State) : Out :=
  next (if m < 14 && (box s m).session != .closed then dropSession m s else s)

/-- USB_PARTIAL_TIMEOUT: the bytes of a partial message are discarded; none of them had reached A0. -/
def execUsbPartialTimeout (s : State) : Out := next s

/-- LOGIN_BLOCK_END: the count of failures starts again from 0. -/
def execLoginBlockEnd (s : State) : Out :=
  next (if s.mbx.loginBlocked then onMbx (fun x => { x with loginBlocked := false, loginFails := [] }) s else s)

/-! Login (R322). -/

/-- A RESULT answered at once, with acceptance sequence 0. -/
def answerNow (m : Nat) (h : Message) (st : Nat) (res : Bytes) (s : State) : State := send m kResult false h.opcode 0 h.tag st res s

/-- A request that is answered at once and is not accepted work. -/
def immediate (opcode length : Nat) (f : Message → State → State) (r : Request) (s : State) : State :=
  let m := r.session
  let h := messageOf opcode r
  if !a0Takes s m then s
  else
    match headerCheck m h with
    | .discard => onBox 14 (fun b => { b with usbCrcErr := sat16Inc b.usbCrcErr }) s
    | .close => post 0x0303 m [] (dropSession m s)
    | .refuse st detail => refuseRequest m h st detail s
    | .ok =>
      if kindOf h.flags != kRequest then s
      else if m ≠ 14 then refuseRequest m h stBadOpcode [] s
      else if !allowed s m .unauth then refuseRequest m h stDenied [] s
      else if h.payload.length ≠ length then refuseRequest m h stBadPayload [] s
      else f h s

/-- SEC_NONCE: a new nonce replaces any not yet used. -/
def giveNonce (h : Message) (s : State) : State :=
  let (k, s) := drawFree s
  let n := fit 16 (Config.random k 16)
  answerNow 14 h stOk n (onMbx (fun x => { x with nonce := some n, nonceAt := s.time.cycle }) s)

def execSecNonce (op : CmdStep) (s : State) : Out :=
  match op with
  | .request r => next (immediate 0x0801 0 giveNonce r s)
  | .run _ => next s

/-- The proof that a login must carry now, if an unused nonce of the last 60 s stands. -/
def proofNow (s : State) : Option Bytes :=
  s.mbx.nonce.bind fun n =>
    if s.time.cycle - s.mbx.nonceAt ≤ 60 * cyclesPerSec then some (Config.hmacSha256 s.sec.service (n ++ Config.eui64)) else none

/-- A failed login: five within 10 min block the next 10. -/
def loginFailed (h : Message) (s : State) : State :=
  let l := lastTenMin s s.mbx.loginFails ++ (if s.mbx.loginBlocked then [] else [s.time.cycle])
  let s := onMbx (fun x => { x with loginFails := l, loginBlocked := x.loginBlocked || decide (5 ≤ l.length) }) s
  answerNow 14 h stAuthFailed [] (post 0x0301 14 (le8 (satU 8 l.length)) s)

/-- SEC_LOGIN: every one uses up the nonce. -/
def login (h : Message) (s : State) : State :=
  let good := !s.mbx.loginBlocked && proofNow s == some h.payload
  let s := onMbx (fun x => { x with nonce := none }) s
  if good then
    answerNow 14 h stOk (le8 (principalOf s 14) ++ zeros 3 ++ le32 (rightsOf s 14)) (openSession 14 .opened s)
  else loginFailed h s

def execSecLogin (op : CmdStep) (s : State) : Out :=
  match op with
  | .request r => next (immediate 0x0802 32 login r s)
  | .run _ => next s

/-! Reads. -/

def secWhoami : CmdSpec where
  opcode := 0x0803
  needs := .any
  check _ p _ := lenIs p 0
  run m _ s := (s, ok (le8 m ++ le8 (principalOf s m) ++ le16 0 ++ le32 (rightsOf s m) ++ le32 (protGeneration s.sec.prot) ++ le8 (bitN (maintOn s) 0) ++ zeros 3))
def execSecWhoami (op : CmdStep) (s : State) : Out := next (mailboxCommand secWhoami op s)

def sessionCode : SessionState → Nat
  | .closed => 0 | .opened => 1 | .loginWait => 2

/-- Table 13.8. -/
def mailboxRecord (s : State) (m : Nat) : Bytes :=
  let b := box s m
  le8 m ++ le8 (sessionCode b.session) ++ le8 (principalOf s m) ++ le8 (windowOf s m) ++ leW b.lastAccepted ++ leW b.deniedCnt ++ leW b.dupCnt ++
    leW b.sessions ++ le16 (if m = 14 then b.usbCrcErr else 0) ++ le16 0

def secStatus : CmdSpec where
  opcode := 0x0804
  needs := rSysRead
  check _ p _ := lenIs p 0
  run _ _ s := (s, ok ((upTo 16).flatMap (mailboxRecord s)))
def execSecStatus (op : CmdStep) (s : State) : Out := next (mailboxCommand secStatus op s)

def secProtRead : CmdSpec where
  opcode := 0x0810
  needs := .rootOrAuditor
  check _ p _ := lenIs p 0
  run _ _ s := (s, ok s.sec.prot)
def execSecProtRead (op : CmdStep) (s : State) : Out := next (mailboxCommand secProtRead op s)

/-! The protection table (R337, R338). -/

def allOnes23 : Nat := 0x007FFFFF

/-- The rights rows: ROOT whole, PROBE_READ by rank, reserved bits clear. -/
def rightsOk (t : Bytes) : Bool :=
  protRights t 0 == allOnes23 && ((upTo 5).all fun k => bit (protRights t k) 19) && !bit (protRights t 5) 19 &&
    ((upTo 6).all fun k => protRights t k ≤ allOnes23)

/-- One binding's form: its number, its principal, its reserved bits. -/
def bindingOk (t : Bytes) (m : Nat) : Bool :=
  u8At t (32 + 48 * m) == m && (bindPrincipal t m ≤ 5 || bindPrincipal t m == 0xFF) && u8At t (34 + 48 * m) ≤ 1 && u8At t (35 + 48 * m) == 0 &&
    bindMask t m ≤ allOnes23 && allZero (slice t (72 + 48 * m) 8)

def panelBound (t : Bytes) : Bool :=
  bindPrincipal t 15 == pPanel && bindEn t 15 && allZero (bindCredential t 15) && (upTo 15).all fun m => bindPrincipal t m != pPanel

def enabledNets (t : Bytes) : List Nat := (upTo 14).filter (bindEn t)
def credentialsSet (t : Bytes) : Bool := (enabledNets t).all fun m => !allZero (bindCredential t m)
def credentialsDiffer (t : Bytes) : Bool :=
  (enabledNets t).all fun m => (enabledNets t).all fun k => k == m || bindCredential t m != bindCredential t k
def rootBound (t : Bytes) : Bool := (upTo 15).any fun m => bindEn t m && bindPrincipal t m == pRoot

/-- Generation that the table will have once every accepted write is in force. -/
def projectedProt (s : State) : Nat := (protGeneration s.sec.prot + s.sec.protPending) % 4294967296

def protCheck (p : Bytes) (s : State) : Chk :=
  checks [lenIs p 800, need (u32At p 4 == 0 && rightsOk p && (upTo 16).all (bindingOk p)) stBadPayload, need (panelBound p) stBadPayload,
    need (credentialsSet p) stBadPayload, need (credentialsDiffer p) stConflict, need (rootBound p) stConflict,
    need (u32At p 0 == projectedProt s) stConflict]

/-- SEC_PROT_WRITE takes effect at the commit that accepts it; nothing is left to execute. -/
def secProtWrite : CmdSpec where
  opcode := 0x0811
  needs := .root
  check _ p s := protCheck p s
  onAccept _ _ _ s := onSec (fun x => { x with protPending := x.protPending + 1 }) s
  run _ _ s := (s, .effect s.stitch.number (le32 (protGeneration s.sec.prot)))
def execSecProtWrite (op : CmdStep) (s : State) : Out := next (mailboxCommand secProtWrite op s)

/-- The table that a write leaves: the next generation, and the service credential moved to the key store. -/
def protOf (old p : Bytes) : Bytes :=
  overlay (overlay p 0 (le32 (protGeneration old + 1))) 712 (zeros 32)

/-- Whether a write changes binding m's bytes; a service credential of zeros keeps the one in force. -/
def bindingChanged (s : State) (p : Bytes) (m : Nat) : Bool :=
  let same := slice p (32 + 48 * m) 8 == slice s.sec.prot (32 + 48 * m) 8
  !same || (if m = 14 then !allZero (bindCredential p 14) && bindCredential p 14 != s.sec.service else bindCredential p m != bindCredential s.sec.prot m)

/-- A session is closed when its binding loses EN or changes credential. -/
def bindingCloses (s : State) (p : Bytes) (m : Nat) : Bool :=
  (bindEn s.sec.prot m && !bindEn p m) ||
    (if m = 14 then !allZero (bindCredential p 14) && bindCredential p 14 != s.sec.service else bindCredential p m != bindCredential s.sec.prot m)

/-- The settings copy whose protection record is bad or older. -/
def olderProt (s : State) : Nat :=
  let a := s.set.copies.getD 0 default
  let b := s.set.copies.getD 1 default
  if a.protValid && (!b.protValid || protGeneration b.prot < protGeneration a.prot) then 1 else 0

/-- R338: a protection write's effect. Both settings copies' protection records take it, the bad or older one first (R336). -/
def protCommitted (mailbox : Nat) (p : Bytes) (s : State) : State :=
  let changed := maskOfItems 16 ((upTo 16).filter (bindingChanged s p))
  let closing := (upTo 16).filter fun m => bindingCloses s p m && (box s m).session != .closed
  let t := protOf s.sec.prot p
  let service := if allZero (bindCredential p 14) then s.sec.service else bindCredential p 14
  let s := onSec (fun x => { x with prot := t, service := service, protPending := x.protPending - 1 }) s
  let copies := listModify s.set.copies (olderProt s) fun c => { c with protValid := true, prot := t }
  let s := { s with set := { s.set with copies := copies } }
  let s := closing.foldl (fun s m => dropSession m s) s
  post 0x0304 mailbox (le32 (protGeneration t) ++ le16 changed) s

/-! Revocation (R339). -/

def secRevoke : CmdSpec where
  opcode := 0x0812
  needs := .root
  check _ p _ := checks [lenIs p 12, reserved p 2 2, need (u16At p 0 != 0) stBadPayload]
  run _ _ s := (s, .effect s.stitch.number (zeros 4))
def execSecRevoke (op : CmdStep) (s : State) : Out := next (mailboxCommand secRevoke op s)

/-- Commands that the commit itself completes (R368). -/
def sealedOpcode (o : Nat) : Bool := o == 0x0811 || o == 0x0812 || o == 0x0314

/-- The serial range of a revocation. -/
def inRange (p : Bytes) (q : U32) : Bool :=
  serialAtOrBefore (BitVec.ofNat 32 (u32At p 4)) q && serialAtOrBefore q (BitVec.ofNat 32 (u32At p 8))

/-- The command that a mailbox's RUNNING task executes, begun or about to begin. -/
def startedCmd (s : State) (m : Nat) : Option Cmd :=
  if s.tmb.slots.any fun t => t.kind == .mailbox m && t.state == .running then (runningCmd s m).orElse fun _ => mayBegin (box s m) else none

/-- R51: the revocation's cancel of a RUNNING SOFT task is refused and counted on its list. -/
def refuseCancels (p : Bytes) (s : State) : State :=
  ((itemsOf 16 (u16At p 0)).filter fun m => (startedCmd s m).any fun c => inRange p c.seq).foldl
    (fun t m => onList (kindList (.mailbox m)) (fun l => { l with softCancelRef := l.softCancelRef + 1 }) t) s

/-- A command that a revocation with sequence `by` stops: in range, accepted before it, not begun. A table write that has had its
effect at its boundary has begun. -/
def revocable (s : State) (p : Bytes) (revokeSeq : U32) (c : Cmd) : Bool :=
  inRange p c.seq && !(s.tab.effected.any fun e => e.1 == c.seq) && !((startedCmd s c.mailbox).any fun k => k.seq == c.seq) &&
    (c.phase == .waiting || (c.phase == .batched && serialBefore c.seq revokeSeq))

/-- What its acceptance had changed for later checks returns to what it was. A batch it closed or discarded stays closed, and a load
it had discarded stays discarded. -/
def undoAccept (c : Cmd) (s : State) : State :=
  let s := dropSetting c.seq s
  let staged := s.tab.stagedSeqs.contains c.seq
  let batch := s.tab.batch.bind fun b =>
    if c.opcode == 0x0230 && b.mailbox == c.mailbox then none
    else some { b with staged := b.staged.filter (fun e => e.1 != c.seq), bytes := if staged then b.bytes - c.payload.length else b.bytes }
  let changes := s.tab.changes.filter fun t => t.seq != c.seq
  let left := changes.flatMap (·.items) ++ (batch.elim [] fun b => b.staged.flatMap (·.2))
  let s := { s with tab := { s.tab with
    batch := batch, changes := changes, stagedSeqs := s.tab.stagedSeqs.erase c.seq, projected := applyItems left s.tab.live,
    closeFail := s.tab.closeFail.filter (fun e => e.1 != c.seq), commits := s.tab.commits.filter (fun e => e.seq != c.seq),
    loads := if c.opcode == 0x0250 then s.tab.loads.filter fun l => !(l.seg == u16At c.payload 0 && l.mailbox == c.mailbox) else s.tab.loads } }
  let s := { s with air := { s.air with
    releases := s.air.releases.filter (fun r => r.seq != c.seq),
    load := if c.opcode == 0x0410 then none else s.air.load,
    session := if c.opcode == 0x0412 then s.air.session.filter (·.begun) else s.air.session } }
  if c.opcode == 0x0902 then { s with sys := { s.sys with loadNext := none } } else s

/-- One command completes REVOKED, without effect; a task posted for it goes. -/
def revokeOne (c : Cmd) (s : State) : State :=
  let s := undoAccept c s
  let busy := (runningCmd s c.mailbox).isSome
  let s := if busy then s else { s with tmb := { s.tmb with slots := s.tmb.slots.filter fun t => t.kind != .mailbox c.mailbox } }
  completeWith c.mailbox c.seq (.done stRevoked []) s

/-- The commands a revocation stops, in acceptance order. -/
def revokeTargets (s : State) (p : Bytes) (seq : U32) : List Cmd :=
  sortBy (fun a b => serialAtOrBefore a.seq b.seq) ((itemsOf 16 (u16At p 0)).flatMap fun m => (box s m).cmds.filter (revocable s p seq))

/-! Sealing (R368). -/

/-- The EFFECT of a command that its own commit completes: number of the Stitch and result. Answers also the entries of the
commands it revokes. -/
def sealCommand (c : Cmd) (pending : Nat) (s : State) : State :=
  if c.opcode == 0x0812 then
    let l := revokeTargets s c.payload c.seq
    let s := completeWith c.mailbox c.seq (.effect s.stitch.number (le16 l.length ++ le16 0)) s
    l.foldl (fun s c => revokeOne c s) (refuseCancels c.payload s)
  else if c.opcode == 0x0811 then
    completeWith c.mailbox c.seq (.effect s.stitch.number (le32 (protGeneration s.sec.prot + pending + 1))) s
  else completeWith c.mailbox c.seq (.effect s.stitch.number (leW s.stitch.number)) s

/-- A0 walks the batch as it seals it: each such command's entry follows its COMMAND entry. `writes` counts the table writes met. -/
def sealEntries : List JEntry → Nat → State → State
  | [], _, s => s
  | e :: rest, writes, s =>
    let s := { s with jnl := { s.jnl with batch := s.jnl.batch ++ [e] } }
    let cmd := if e.kind == jkCommand then (box s e.source).cmds.find? fun c => c.seq == e.seq && c.phase == .batched && sealedOpcode c.opcode else none
    match cmd with
    | none => sealEntries rest writes s
    | some c => sealEntries rest (if c.opcode == 0x0811 then writes + 1 else writes) (sealCommand c writes s)

/-- The open batch, completed with what A0 works out at its sealing. -/
def sealWork (s : State) : State := sealEntries s.jnl.batch 0 { s with jnl := { s.jnl with batch := [] } }

/-- The effect, at the commit, of one command that the commit completes. -/
def sealedEffect (c : Cmd) (s : State) : State :=
  if c.opcode == 0x0811 then protCommitted c.mailbox c.payload s
  else if c.opcode == 0x0812 then
    post 0x0305 c.mailbox (slice c.payload 0 2 ++ slice c.result 0 2 ++ slice c.payload 4 8) s
  else presenceCommitted c.payload s

/-! Maintenance mode (R340). -/

/-- TIME cycles of so many minutes. -/
def minuteCycles (n : Nat) : Nat := n * 60 * cyclesPerSec

def secMaintSet : CmdSpec where
  opcode := 0x0813
  needs := .root
  check _ p _ := checks [lenIs p 4, reserved p 1 3, need (u8At p 0 ≤ 240) stBadPayload]
  run m c s :=
    let n := u8At c.payload 0
    let was := maintOn s
    let s := onMbx (fun x => { x with maintUntil := if n = 0 then none else some (s.time.cycle + minuteCycles n), maintOnBy := m }) s
    let s := if n = 0 then postIf was 0x030A noSource [] s else post 0x0309 m (le16 n) s
    (s, .effect s.stitch.number (le32 (60 * n)))
def execSecMaintSet (op : CmdStep) (s : State) : Out := next (mailboxCommand secMaintSet op s)

/-- MAINT_EXPIRE: maintenance mode's time runs out. -/
def execMaintExpire (s : State) : Out :=
  next (if maintOn s then post 0x030A noSource [] (onMbx (fun x => { x with maintUntil := none }) s) else s)

/-! Radio keys (R341). -/

/-- The check value of a key. -/
def keyCheck (key : Bytes) : Bytes := (Config.aes128 key (zeros 16)).take 3

def secKeyWrite : CmdSpec where
  opcode := 0x0820
  needs := rKeyWrite
  check _ p _ := checks [lenIs p 24, reserved p 1 3, reserved p 23 1, need (u8At p 0 ≤ 127) stRange,
    need (slice p 20 3 == keyCheck (slice p 4 16)) stBadPayload]
  run _ c s :=
    let n := effectAfterCommit c s
    (dueChange c n false (.keyWrite (u8At c.payload 0) (slice c.payload 4 16) (slice c.payload 20 3)) s, .effect n (leW n))
def execSecKeyWrite (op : CmdStep) (s : State) : Out := next (mailboxCommand secKeyWrite op s)

def secKeyClear : CmdSpec where
  opcode := 0x0822
  needs := rKeyWrite
  check _ p _ := checks [lenIs p 4, reserved p 1 3, need (u8At p 0 ≤ 127) stRange]
  run _ c s :=
    let n := effectAfterCommit c s
    (dueChange c n false (.keyClear (u8At c.payload 0)) s, .effect n (leW n))
def execSecKeyClear (op : CmdStep) (s : State) : Out := next (mailboxCommand secKeyClear op s)

/-- Pins whose key index names a slot have their receive frame counters set to 0. -/
def resetCounters (slot : Nat) (s : State) : State :=
  let pins := (s.tab.live.pins.filter fun e => cKey e.2 == slot).map (·.1)
  { s with tab := { s.tab with state := s.tab.state.map fun e => if pins.contains e.1 then (e.1, { e.2 with counter := 0 }) else e } }

/-- A key change at its boundary. -/
def keyTo (slot : Nat) (key : Option Bytes) (check : Bytes) (s : State) : State :=
  let k : KeySlot := { key := key, check := check, counter := 0, reserved := 0, lowMade := false, exhausted := false }
  let s := onSec (fun x => { x with slots := listSet x.slots slot k }) s
  let s := if key.isSome then resetCounters slot s else s
  post 0x0306 slot (le8 (if key.isSome then 0 else 1)) s

def keyRecord (s : State) (k : Nat) : Bytes :=
  let x := s.sec.slots.getD k default
  le8 (if x.key.isNone then 0 else if x.exhausted then 2 else 1) ++ fit 3 x.check ++ leW x.counter

def secKeyStatus : CmdSpec where
  opcode := 0x0821
  needs := rRadioRead
  check _ p _ := checks [lenIs p 4, reserved p 2 2, entryRange (u8At p 0) (u8At p 1) 128]
  run _ c s := (s, ok ((span (u8At c.payload 0) (u8At c.payload 1)).flatMap (keyRecord s)))
def execSecKeyStatus (op : CmdStep) (s : State) : Out := next (mailboxCommand secKeyStatus op s)

/-! Certificates (R342). -/

/-- The certificates of a SEC_CERT_SET payload from an offset on, if they fill it exactly. -/
def certsOf : Nat → Bytes → Option (List Bytes)
  | 0, b => if b = [] then some [] else none
  | n + 1, b =>
    let len := u32At b 0
    if b.length < 4 + len then none else (certsOf n (b.drop (4 + len))).map ((b.drop 4).take len :: ·)

def secCertSet : CmdSpec where
  opcode := 0x0830
  needs := .root
  check _ p _ :=
    let certs := certsOf (u16At p 0) (p.drop 4)
    let l := certs.getD []
    checks [need (4 ≤ p.length && certs.isSome) stBadPayload, reserved p 2 2, need (1 ≤ u16At p 0 && u16At p 0 ≤ 4) stRange, need ((l.map (·.length)).sum ≤ 8192) stBadPayload,
      need (Config.spkiOf (l.headD []) == Config.deviceSpki) stBadPayload]
  run _ c s := (onSec (fun x => { x with cert := c.payload }) s, .effect s.stitch.number [])
def execSecCertSet (op : CmdStep) (s : State) : Out := next (mailboxCommand secCertSet op s)

def secCsrRead : CmdSpec where
  opcode := 0x0831
  needs := .root
  check _ p _ := checks [need (8 ≤ p.length) stBadPayload, lenIs p (8 + u16At p 4), reserved p 1 3, reserved p 6 2, need (u8At p 0 == 0) stBadPayload]
  run _ c s := (s, ok (Config.csr (c.payload.drop 8)))
def execSecCsrRead (op : CmdStep) (s : State) : Out := next (mailboxCommand secCsrRead op s)

end Sys2Proof.Machine
end

