-- ==== Sys2Proof/Machine/Panel.lean ====
section
/-! DEFINITION. The front panel and the service port (R434–R446). -/

namespace Sys2Proof.Machine

/-! Panel settings (Table 19.5). -/

def lockMode (s : State) : Nat := setU8 s secPanel 0
def usbMode (s : State) : Nat := setU8 s secPanel 1
def pinLength (s : State) : Nat := setU8 s secPanel 2
def dimSec (s : State) : Nat := setU16 s secPanel 4
def unlockSec (s : State) : Nat := setU16 s secPanel 6
def pinSalt (s : State) : Bytes := slice (sect s secPanel) 8 16
def pinDigest (s : State) : Bytes := slice (sect s secPanel) 24 32

/-- 0 VIEW, 1 CONTROL, 2 LOCKOUT. -/
def panelLevel (s : State) : Nat := if s.pnl.lockout then 2 else if s.pnl.control then 1 else 0

/-! LEDs (R437). Colours: 0 off, 1 green, 2 amber, 3 red. -/

def ledOf (red amber green : Bool) : Nat := if red then 3 else if amber then 2 else if green then 1 else 0

def faultLed (s : State) : Nat :=
  ledOf (s.sys.phase == .loader || s.time.tcxoStopped || s.jnl.journalLost || s.set.lost)
    (s.sys.diesLost != [] || s.sys.emmcFault || s.jnl.single || (running s && s.lace.inService.any (!·)) || (hasRadio s && s.air.shuttles.any (·.failed))) false

def ringLed (s : State) (p : Nat) : Nat := ledOf ((port s p).sfp == .rejected) (blocked s p) (port s p).link

def stormNow (s : State) : Bool := s.net.ports.any fun p => p.stormMade.elim false fun c => s.time.cycle - c < 60 * cyclesPerSec

def harnessLed (s : State) (h : Nat) : Nat :=
  let x := (harness s h).state
  ledOf (x == .fault || (x == .absent && hsFitted s h)) (x == .powering || x == .settling) (x == .run)

def startPhase (p : Phase) : Bool := p == .supply || p == .boot || p == .memory || p == .restore || p == .wait

/-- Table 19.1, LEDs 0 to 15. -/
def ledTable (s : State) : List Nat :=
  [ledOf s.sys.bankFault s.sys.holdupLow (s.sys.phase != .off && !s.sys.pfWarn), faultLed s, ledOf false (startPhase s.sys.phase) (running s),
   ledOf false (maintOn s) s.pnl.control, ledOf (s.time.refFault || s.sched.noTime) (!s.time.servo.traceable) s.time.servo.traceable,
   ringLed s 0, ringLed s 1, ledOf false (stormNow s) ([2, 3, 4, 5].any fun p => (port s p).link),
   ledOf s.air.airDown (hasRadio s && (s.air.shuttles.any (·.failed) || s.tab.state.any fun e => e.2.held)) (airEn s && inServiceShuttles s != []),
   ledOf false (s.lace.shortNow != 0 || s.lace.coldNow != 0 || s.tab.unsolved != []) (s.tab.live.pins != []),
   ledOf s.chain.lost (s.chain.state == .scan || s.chain.state == .hold || s.chain.state == .overlength) (s.chain.state == .run),
   harnessLed s 0, harnessLed s 1,
   ledOf (s.met.outputs.any fun o => o.tripped || o.fbFault || o.outFault) ((upTo 8).any fun n => overrideOf s n != 0) false,
   ledOf (!s.met.calValid || s.met.chanFault.any id) (s.met.mode != .service) (s.met.mode == .service),
   ledOf false (s.pnl.vbus && (box s 14).session != .opened) ((box s 14).session == .opened)]

/-- LED states: DARK leaves only FAULT; an LED test shows red, amber and green in turn, a second each. -/
def leds (s : State) : List Nat :=
  match s.pnl.test with
  | some t => if t.test = 0 then List.replicate 16 (3 - (upSec s) % 3) else (if lockMode s = 2 then [0, faultLed s] ++ List.replicate 14 0 else ledTable s)
  | none => if lockMode s = 2 then [0, faultLed s] ++ List.replicate 14 0 else ledTable s

/-- 2 bits per LED. -/
def ledWord (s : State) : Nat := (leds s).zipIdx.foldl (fun n e => n + e.1 * 4 ^ e.2) 0

/-! Banners (R436). -/

/-- The hot-plug banners and the message that still last. -/
def bannersNow (s : State) : List Banner := s.pnl.banners.filter fun b => s.time.cycle < b.until_
def messageNow (s : State) : Bool := s.pnl.message.elim false fun m => decide (s.time.cycle < m.2)
/-- A banner is shown: a fault, a hot-plug banner or a message. -/
def bannerShown (s : State) : Bool := faultLed s != 0 || bannersNow s != [] || messageNow s

/-- BANNER_EXPIRE: banners whose time has run out go. -/
def execBannerExpire (s : State) : Out :=
  next (onPanel (fun p => { p with banners := p.banners.filter fun b => decide (s.time.cycle < b.until_),
                                   message := p.message.filter fun m => decide (s.time.cycle < m.2) }) s)

/-! Keys and pad (R434, R435). -/

/-- A key or pad event while the module runs and the panel is not DARK: the display lights, from off on HOME. -/
def wake (s : State) : State :=
  if lockMode s = 2 then s
  else onPanel (fun p => { p with displayOn := true, page := if p.displayOn then p.page else 0 }) s

/-- A digit of the entry steps up or down. -/
def stepDigit (up : Bool) (l : List Nat) : List Nat :=
  match l.getLast? with
  | none => l
  | some d => l.dropLast ++ [(if up then d + 1 else d + 9) % 10]

/-- The stored digest of a PIN under a salt. -/
def digestOf (salt digits : Bytes) : Bytes := fit 32 (Config.sha256 (salt ++ digits))

def asciiDigits (l : List Nat) : Bytes := l.map fun d => BitVec.ofNat 8 (0x30 + d)

/-- OK submits the entry: CONTROL, or a failure; five in 10 min start LOCKOUT (R438, R439). -/
def submitPin (l : List Nat) (s : State) : State :=
  let s := onPanel (fun p => { p with entry := none }) s
  if l.length == pinLength s && digestOf (pinSalt s) (asciiDigits l) == pinDigest s then
    post 0x0940 noSource [] (onPanel (fun p => { p with control := true, page := 0 }) s)
  else
    let f := lastTenMin s s.pnl.failures ++ [s.time.cycle]
    let lock := decide (5 ≤ f.length)
    let s := onPanel (fun p => { p with failures := if lock then [] else f, pinFails := p.pinFails + 1, lockout := lock,
                                        lockoutAt := if lock then s.time.cycle else p.lockoutAt }) s
    postIf lock 0x0942 noSource (edge true) (post 0x0941 noSource (le8 (satU 8 f.length)) s)

/-- A key during PIN entry. -/
def entryKey (key : Nat) (e : PinEntry) (s : State) : State :=
  let put := fun l : List Nat => onPanel (fun p => { p with entry := some { digits := l } }) s
  match key with
  | 0 => put (stepDigit true e.digits)
  | 1 => put (stepDigit false e.digits)
  | 3 => if e.digits.length < 8 then put (e.digits ++ [0]) else s
  | 4 => submitPin e.digits s
  | 5 => onPanel (fun p => { p with entry := none }) s
  | _ => s

/-- Pages with an action at CONTROL (Table 19.2): LIGHT, AIR, METER, SERVICE. -/
def actionPage (page : Nat) : Bool := [3, 4, 5, 8].contains page

/-- A key on a page: LEFT and RIGHT step the nine pages; OK asks for the PIN, or at CONTROL calls the page's action; TEST calls the tests. -/
def pageKey (key : Nat) (s : State) : State :=
  match key with
  | 2 => onPanel (fun p => { p with page := (p.page + 8) % 9 }) s
  | 3 => onPanel (fun p => { p with page := (p.page + 1) % 9 }) s
  | 4 =>
    if s.pnl.control then (if actionPage s.pnl.page then onPanel (fun p => { p with actions := p.actions ++ [p.page] }) s else s)
    else if lockMode s = 0 && pinLength s ≠ 0 && !s.pnl.lockout then onPanel (fun p => { p with entry := some { digits := [0] } }) s
    else s
  | 6 => if s.pnl.control then onPanel (fun p => { p with actions := p.actions ++ [9] }) s else s
  | _ => s

/-- A press while a test runs shows on the display of a key test. -/
def testKey (key : Nat) (t : PanelTest) (s : State) : State :=
  if t.test = 2 then onPanel (fun p => { p with test := some { t with seen := t.seen ||| 2 ^ key } }) s else s

/-- What a press does on a lit display. -/
def actOnKey (key : Nat) (s : State) : State :=
  match s.pnl.test with
  | some t => testKey key t s
  | none =>
    match s.pnl.entry with
    | some e => entryKey key e s
    | none => pageKey key s

/-- KEY_PRESS: counted always; before the first boundary otherwise ignored. A press on a dark display only wakes it. -/
def execKeyPress (key : Nat) (s : State) : Out :=
  if 8 ≤ key then next s
  else
    let s := onPanel (fun p => { p with keyPresses := listModify p.keyPresses key (· + 1), keysNow := listSet p.keysNow key true }) s
    if !running s then next s
    else
      let lit := s.pnl.displayOn
      let s := onPanel (fun p => { p with banners := [] }) (wake s)
      next (if lit && lockMode s ≠ 2 then actOnKey key s else s)

/-- KEY_RELEASE. -/
def execKeyRelease (key : Nat) (s : State) : Out := next (onPanel (fun p => { p with keysNow := listSet p.keysNow key false }) s)

/-- KEY_REPEAT: UP or DOWN held acts again. -/
def execKeyRepeat (key : Nat) (s : State) : Out :=
  next (if key < 2 && s.pnl.keysNow.getD key false && running s && s.pnl.displayOn && lockMode s ≠ 2 then actOnKey key s else s)

/-- PROX_WAKE: the pad wakes a dark display. -/
def execProxWake (s : State) : Out :=
  if !running s || lockMode s = 2 || s.pnl.displayOn then next s
  else next (wake (onPanel (fun p => { p with proxWakes := p.proxWakes + 1 }) s))

/-- DISPLAY_DIM: DIM seconds have passed since the last key or pad event. -/
def execDisplayDim (s : State) : Out := next (onPanel (fun p => { p with displayOn := false }) s)

/-- CONTROL_LAPSE: UNLOCK seconds have passed without a key press. -/
def execControlLapse (s : State) : Out := next (onPanel (fun p => { p with control := false }) s)

/-- BACK_HOLD: BACK has been held for 2 s. -/
def execBackHold (s : State) : Out :=
  next (if s.pnl.keysNow.getD 5 false then onPanel (fun p => { p with control := false }) s else s)

/-- LOCKOUT_END: 10 min of LOCKOUT have passed. -/
def execLockoutEnd (s : State) : Out :=
  next (if s.pnl.lockout then post 0x0942 noSource (edge false) (onPanel (fun p => { p with lockout := false }) s) else s)

/-! The service port (R441, R442). -/

/-- USB_MODE lets the device show itself. -/
def usbShown (s : State) : Bool := usbMode s = 0 || (usbMode s = 1 && s.pnl.keyWindow)

/-- The pull-up follows VBUS and USB_MODE: a connection opens mailbox 14 in LOGIN_WAIT if its binding is enabled, and its end
closes the session. -/
def usbRefresh (s : State) : State :=
  let want := s.pnl.vbus && usbShown s
  if want == s.pnl.connected then s
  else
    let s := onPanel (fun p => { p with connected := want }) s
    if want then (if (running s || s.sys.phase == .loader) && bindEn s.sec.prot 14 then openSession 14 .loginWait s else s)
    else if (box s 14).session == .closed then s
    else dropSession 14 s

/-- USB_ATTACH: VBUS is sensed in every mode. -/
def execUsbAttach (s : State) : Out :=
  if s.pnl.vbus then next s
  else
    let s := usbRefresh (onPanel (fun p => { p with vbus := true, usbAttaches := p.usbAttaches + 1 }) s)
    next (post 0x0945 noSource (le8 (usbMode s) ++ le8 (bitN s.pnl.connected 0)) s)

/-- USB_DETACH: the session closes, and the ON_KEY window ends. -/
def execUsbDetach (s : State) : Out :=
  if !s.pnl.vbus then next s
  else
    let was := (box s 14).session == .opened
    let s := usbRefresh (onPanel (fun p => { p with vbus := false, keyWindow := false }) s)
    next (post 0x0946 noSource (le8 (bitN was 0)) s)

/-- USB_SERVICE_KEY: SERVICE held for 2 s under ON_KEY opens the 60-minute window. -/
def execUsbServiceKey (s : State) : Out :=
  next (if usbMode s = 1 && running s then post 0x0948 noSource (le16 60) (usbRefresh (onPanel (fun p => { p with keyWindow := true }) s)) else s)

/-- USB_KEY_WINDOW_END. -/
def execUsbKeyWindowEnd (s : State) : Out := next (usbRefresh (onPanel (fun p => { p with keyWindow := false }) s))

/-! PNL commands (R443, R444). -/

def pnlCmd (opcode : Nat) (check : Bytes → State → Chk) (run : Nat → Cmd → State → State × CmdOutcome) : CmdSpec where
  opcode := opcode
  needs := rPanelControl
  check _ p s := check p s
  run := run

/-- Seconds of LOCKOUT left. -/
def lockoutLeft (s : State) : Nat := if s.pnl.lockout then 600 - min 600 (secSince s s.pnl.lockoutAt) else 0

/-- 0 OFF, 1 DETACHED, 2 LOGIN_WAIT, 3 OPEN. -/
def usbCode (s : State) : Nat :=
  match (box s 14).session with
  | .opened => 3
  | .loginWait => 2
  | .closed => if usbShown s then 1 else 0

def pnlStatus : CmdSpec := pnlCmd 0x0B01 (fun p _ => lenIs p 0) fun _ _ s =>
  (s, ok (le8 (lockMode s) ++ le8 (panelLevel s) ++ le8 s.pnl.page ++ le8 (usbCode s) ++ le16 (lockoutLeft s) ++ le16 0 ++ le32 (ledWord s)))
def execPnlStatus (op : CmdStep) (s : State) : Out := next (mailboxCommand pnlStatus op s)

def pnlLock : CmdSpec where
  opcode := 0x0B02
  needs := rPanelControl
  check _ p s := checks [lenIs p 4, reserved p 2 2, need (u8At p 0 ≤ 2 && u8At p 1 ≤ 2) stBadPayload, settingsRoom p s]
  onAccept := settingAccepted
  run _ c s := writeSetting secPanel 0 (c.payload.take 2) effectAfterCommit false c s
def execPnlLock (op : CmdStep) (s : State) : Out := next (mailboxCommand pnlLock op s)

/-- Digits '0' to '9' for the length, then zeros. -/
def pinOk (p : Bytes) : Bool :=
  let n := u8At p 0
  (n == 0 || (4 ≤ n && n ≤ 8)) && ((slice p 4 8).take n).all (fun d => 0x30 ≤ d.toNat && d.toNat ≤ 0x39) && allZero ((slice p 4 8).drop n)

def pnlPinSet : CmdSpec where
  opcode := 0x0B03
  needs := rPanelControl
  check _ p s := checks [lenIs p 12, reserved p 1 3, need (pinOk p) stBadPayload, settingsRoom p s]
  onAccept := settingAccepted
  run _ c s :=
    let n := effectAfterCommit c s
    (dueChange c n false (.panelPin ((slice c.payload 4 8).take (u8At c.payload 0))) s, .effect n (leW n))
def execPnlPinSet (op : CmdStep) (s : State) : Out := next (mailboxCommand pnlPinSet op s)

/-- Bytes 2 and 8 to 55 of section 48 under a PIN: its length, a new salt and the digest; cleared without one. -/
def pinBytes (old digits salt : Bytes) : Bytes :=
  let b := overlay old 2 (le8 digits.length)
  if digits = [] then overlay b 8 (zeros 48) else overlay b 8 (fit 16 salt ++ digestOf (fit 16 salt) digits)

/-- The panel's settings take effect: CONTROL ends, and a PIN entry under way is abandoned (R439). -/
def panelSettings (s : State) : State :=
  let dark := lockMode s = 2
  usbRefresh (onPanel (fun p => { p with control := false, entry := none, displayOn := p.displayOn && !dark }) s)

def pnlMessage : CmdSpec := pnlCmd 0x0B04
  (fun p _ => checks [lenIs p 46, reserved p 2 2, need (u16At p 0 ≤ 3600 && textOk (slice p 4 21) && textOk (slice p 25 21)) stBadPayload]) fun _ c s =>
    let n := u16At c.payload 0
    (onPanel (fun p => { p with message := if n = 0 then none else some (slice c.payload 4 42, s.time.cycle + n * cyclesPerSec) }) s,
      .effect s.stitch.number [])
def execPnlMessage (op : CmdStep) (s : State) : Out := next (mailboxCommand pnlMessage op s)

/-- PNL_TEST runs for its whole length; PNL_TEST_END completes it. -/
def pnlTest : CmdSpec := pnlCmd 0x0B05
  (fun p s => checks [lenIs p 4, reserved p 2 2, need (u8At p 0 ≤ 2 && 1 ≤ u8At p 1 && u8At p 1 ≤ 60) stBadPayload, need s.pnl.test.isNone stConflict]) fun m c s =>
    if s.pnl.test.isSome then (s, .done stConflict [])
    else (onPanel (fun p => { p with test := some { mailbox := m, test := u8At c.payload 0, until_ := s.time.cycle + u8At c.payload 1 * cyclesPerSec, seen := 0 } }) s, .waits)
def execPnlTest (op : CmdStep) (s : State) : Out := next (mailboxCommand pnlTest op s)

def testOutcome : TestEnd → Nat
  | .time => 0 | .fault => 1 | .back => 2

/-- PNL_TEST_END: BACK ends only an LED or display test. -/
def execPnlTestEnd (cause : TestEnd) (s : State) : Out :=
  match s.pnl.test with
  | none => next s
  | some t =>
    if cause == .back && t.test = 2 then next s
    else
      let s := post 0x0947 t.mailbox (le8 t.test ++ le8 (testOutcome cause)) (onPanel (fun p => { p with test := none }) s)
      match runningCmd s t.mailbox with
      | none => next s
      | some c =>
        if c.opcode == 0x0B05 then
          next (freeTask (.mailbox t.mailbox) (completeWith t.mailbox c.seq (.effect s.stitch.number (le8 (testOutcome cause) ++ le8 0 ++ le16 t.seen)) s))
        else next s

/-- PNL_CLEAR_STATS: clears the counters of the block. -/
def execPnlClearStats (s : State) : Out :=
  next (onPanel (fun p => { p with keyPresses := List.replicate 8 0, proxWakes := 0, pinFails := 0, usbAttaches := 0 }) s)

end Sys2Proof.Machine
end

