-- ==== Sys2Proof/Machine/Clock.lean ====
section
/-! DEFINITION. The time base and its servo (R293–R298), the clock monitor (R31), 1PPS (R304, R305) and the idle module's TIME cycle
(R30). -/

namespace Sys2Proof.Machine

def onTime (f : TimeUnit → TimeUnit) (s : State) : State := { s with time := f s.time }
def onServo (f : Servo → Servo) (s : State) : State := { s with time := { s.time with servo := f s.time.servo } }
def onPtp (f : Ptp → Ptp) (s : State) : State := { s with time := { s.time with ptp := f s.time.ptp } }
def onPps (f : Pps → Pps) (s : State) : State := { s with time := { s.time with pps := f s.time.pps } }
def onRtc (f : Rtc → Rtc) (s : State) : State := { s with rtc := f s.rtc }

/-! PTP settings (Table 12.7) and 1PPS settings (Table 12.6). -/

def ptpProfile (s : State) : Nat := setU8 s secPtp 0
def ptpDomain (s : State) : Nat := setU8 s secPtp 1
def ptpEn (s : State) : Bool := bit (setU8 s secPtp 3) 0
def ptpTc (s : State) : Bool := bit (setU8 s secPtp 3) 1
def holdoverMax (s : State) : Nat := setU16 s secPtp 6
/-- STEP_LIMIT in ns. -/
def stepLimit (s : State) : Nat := setU32 s secPtp 8 * 1000
def asym (s : State) (port : Nat) : Int := if port < 6 then setS16 s secPtp (12 + 2 * port) else 0

def ppsMode (s : State) : Nat := setU8 s secPps 0
def ppsInEn (s : State) : Bool := bit (setU8 s secPps 1) 0
def ppsUse (s : State) : Bool := bit (setU8 s secPps 1) 2
def ppsTraceable (s : State) : Bool := bit (setU8 s secPps 1) 3
def cableDelay (s : State) : Int := setS16 s secPps 4

/-! The clock domains (R30, Table 2.1). -/

/-- The module's twelve clock domains. -/
inductive ClockDomain where
  | fab | app | ddr | net | eth | air | met | chn | usb | time | aon | lf
  deriving DecidableEq, Repr

/-- Rates of a domain in Hz; MET is TIME divided by 40, and CHN is FAB divided by 32 or by 160 as the chain's RATE setting says. -/
def domainRates (s : State) : ClockDomain → List Nat
  | .fab => [800000000]
  | .app => [1000000000]
  | .ddr => [1066000000]
  | .net => [390625000]
  | .eth => [125000000, 312500000]
  | .air => [64000000]
  | .met => [cyclesPerSec / 40]
  | .chn => [800000000 / (if setU8 s secChain 0 = 1 then 160 else 32)]
  | .usb => [60000000]
  | .time => [cyclesPerSec]
  | .aon => [16000000]
  | .lf => [32768]

/-- The PLL that gives a domain its clock from the TCXO, where it has one; ETH has its own at each port. -/
def domainPll : ClockDomain → Option Pll
  | .fab | .chn => some .f
  | .app => some .a
  | .ddr => some .d
  | .net => some .n
  | .air => some .r
  | .time | .met => some .t
  | .eth | .usb | .aon | .lf => none

/-- A domain's clock runs: its PLL is in lock, and AON and LF need no PLL. -/
def domainRuns (s : State) (d : ClockDomain) : Bool := (domainPll d).all fun p => s.time.plls.getD (match p with | .f => 0 | .a => 1 | .d => 2 | .t => 3 | .n => 4 | .r => 5 | .e k => 6 + k) false

/-! Traceability (R297). -/

def masterTraceable (s : State) : Bool := s.time.ptp.master.elim false fun m => m.2.timeTraceable

def sourceTraceable (s : State) : Bool :=
  match s.time.servo.source with
  | .ptp => masterTraceable s
  | .pps => ppsTraceable s && s.time.servo.secondsBy != .neither
  | .none => false

/-- Seconds in the present HOLDOVER. -/
def holdoverSec (s : State) : Nat := if s.time.servo.state == .holdover then secSince s s.time.servo.holdoverSince else 0

def traceableNow (s : State) : Bool :=
  let v := s.time.servo
  !s.time.refFault &&
    ((v.state == .locked && sourceTraceable s) || (v.state == .holdover && v.holdFromTraceable && holdoverSec s < holdoverMax s))

/-- TIME_TRACEABLE when traceability begins or ends. -/
def refreshTrace (s : State) : State :=
  let t := traceableNow s
  if t == s.time.servo.traceable then s
  else post 0x0402 noSource (edge t) (onServo (fun v => { v with traceable := t, everTraceable := v.everTraceable || t }) s)

/-! Steps (R296). -/

/-- A step of the whole time base by `d` ns. The servo's window empties; the Stitch generator, the interval grid and the stamps
kept for later comparison move with it. -/
def stepTime (d : Int) (cause : Nat) (s : State) : State :=
  let move := fun x : Nat => ((x : Int) + d).toNat
  let tb := ((s.time.tb : Int) + d * 4294967296).toNat
  let s := onTime (fun t => { t with tb := tb }) s
  let s := onServo (fun v => { v with accepted := [], stepCnt := v.stepCnt + 1, lastAt := move v.lastAt }) s
  let s := onPps (fun p => { p with lastAccepted := p.lastAccepted.map move }) s
  let s := { s with stitch := { s.stitch with step := s.stitch.step + d, lastBoundary := move s.stitch.lastBoundary, nextBoundary := move s.stitch.nextBoundary } }
  let s := lateSpansStep d (intervalStep d s)
  post 0x0401 cause (leS64 d ++ le64 (taiNs s)) s

/-! Sources (R298). -/

def sourceCode : TimeSource → Nat
  | .none => 0 | .ptp => 1 | .pps => 2

def sourceTo (new : TimeSource) (s : State) : State :=
  if s.time.servo.source == new then s
  else post 0x0403 noSource (le8 (sourceCode s.time.servo.source) ++ le8 (sourceCode new)) (onServo (fun v => { v with source := new }) s)

/-- Mean of y over the last 64 measurements. -/
def meanY (v : Servo) : Int := if v.ys = [] then v.y else tdiv v.ys.sum v.ys.length

/-- HOLDOVER begins: y is frozen at its mean. -/
def enterHoldover (s : State) : State :=
  let tr := sourceTraceable s
  onServo (fun v => { v with state := .holdover, y := meanY v, holdFromTraceable := tr, holdoverSince := s.time.cycle, within := 0, beyond := 0 }) s

/-- The 1PPS input can be a source: enabled, used, and its edges come (R298, R305). -/
def ppsReady (s : State) : Bool := ppsInEn s && ppsUse s && s.time.pps.lastAccepted.isSome && !s.time.pps.inLost

/-- The source is lost (Table 12.1). -/
def sourceLost (s : State) : State :=
  let s := if s.time.servo.state == .locked then enterHoldover s else s
  refreshTrace (sourceTo .none s)

/-- PTP has no master: the 1PPS input is the source from now where it can be, and LOCKED waits for its first offset (R298). -/
def ptpLost (s : State) : State :=
  if ppsReady s then refreshTrace (onServo (fun v => { v with fresh := true }) (sourceTo .pps s)) else sourceLost s

/-! A measurement (R296). -/

/-- R296's Y_MAX: ±500 ppm in 2⁻¹⁶ ppb. -/
def yMax : Int := 32768000000

/-- The outlier test: `o` differs from the mean of 16 by more than four standard deviations. -/
def outlier (l : List Int) (o : Int) : Bool :=
  let sum := l.sum
  let sq := (l.map fun x => x * x).sum
  l.length == 16 && decide (16 * (16 * sq - sum * sum) < (16 * o - sum) * (16 * o - sum))

/-- How the seconds count after a step or LOCKED on PTP (R297). -/
def byPtp (s : State) : SecondsSetBy := if masterTraceable s then .ptp else .neither

/-- State on meeting the measurement's source. -/
def meetSource (src : TimeSource) (o : Int) (s : State) : State :=
  let v := s.time.servo
  let changed := v.source != src || v.fresh
  let s := onServo (fun v => { v with fresh := false }) (sourceTo src s)
  if v.state == .freerun || v.state == .holdover then onServo (fun v => { v with state := .acquiring, within := 0, beyond := 0, beyondStep := 0 }) s
  else if changed && v.state == .locked && 1000 < o.natAbs then onServo (fun v => { v with state := .acquiring, within := 0, beyond := 0 }) s
  else s

/-- The action on an offset: step, ignore, reject, or filter. -/
def applyOffsetTo (src : TimeSource) (o : Int) (tau : Nat) (s : State) : State :=
  let v := s.time.servo
  let far := decide (stepLimit s < o.natAbs)
  if far && v.state == .acquiring then
    let s := onServo (fun v => { v with acc := 0 }) s
    let s := stepTime (-o) 0 s
    if src == .ptp then let b := byPtp s; onServo (fun v => { v with secondsBy := b }) s else s
  else if far then s
  else if outlier v.accepted o then onServo (fun v => { v with offsetReject := v.offsetReject + 1 }) s
  else
    let r := tdiv (o * 1000) tau
    let acc := clampI (v.acc - r * 19661) (-yMax) yMax
    let y := clampI (acc - r * 45875) (-yMax) yMax
    onServo (fun v => { v with acc := acc, y := y, accepted := lastN 16 (v.accepted ++ [o]) }) s

/-- The transitions of Table 12.1 after the offset `o`; `far` as it was before a step. -/
def servoTransitions (src : TimeSource) (o : Int) (far : Bool) (s : State) : State :=
  let near := o.natAbs ≤ 1000
  let s := onServo (fun v => { v with within := if near then v.within + 1 else 0, beyond := if near then 0 else v.beyond + 1,
                                      beyondStep := if far then v.beyondStep + 1 else 0, ys := lastN 64 (v.ys ++ [v.y]) }) s
  let v := s.time.servo
  if v.state == .acquiring && 8 ≤ v.within then
    let b := if src == .ptp then byPtp s else v.secondsBy
    onServo (fun v => { v with state := .locked, secondsBy := b }) s
  else if v.state == .locked && (4 ≤ v.beyond || 4 ≤ v.beyondStep) then
    onServo (fun v => { v with state := .acquiring, within := 0, beyond := 0, beyondStep := 0 }) s
  else s

/-- One measurement of offset `o` from a source, stamped at TAI ns `at_`. -/
def measure (src : TimeSource) (o : Int) (at_ : Nat) (s : State) : State :=
  let tau := clampN ((at_ - s.time.servo.lastAt) / 1000000) 62 16000
  let far := decide (stepLimit s < o.natAbs)
  let s := meetSource src o s
  let s := onServo (fun v => { v with lastOffset := o, lastAt := at_ }) s
  let s := applyOffsetTo src o tau s
  refreshTrace (servoTransitions src o far s)

/-- HOLDOVER_EXPIRE: HOLDOVER_MAX has passed; FREERUN, and traceability ends. -/
def execHoldoverExpire (s : State) : Out :=
  if s.time.servo.state == .holdover then
    next (refreshTrace (onServo (fun v => { v with state := .freerun, holdFromTraceable := false }) s))
  else next s

/-! 1PPS (R304, R305). -/

/-- PPS_OUT_PULSE: the output rises at its instant under OUT_MODE. -/
def execPpsOutPulse (s : State) : Out :=
  let on := running s && ((ppsMode s == 1 && s.time.servo.traceable) || 2 ≤ ppsMode s)
  if on then next (onPps (fun p => { p with outHigh := true }) s) else next s

/-- PPS_OUT_FALL: PPS_WIDTH ms after it rose. -/
def execPpsOutFall (s : State) : Out := next (onPps (fun p => { p with outHigh := false }) s)

/-- Distance in ns from the nearest whole second, positive when later. -/
def fromSecond (t : Int) : Int :=
  let r := t % 1000000000
  if r < 500000000 then r else r - 1000000000

/-- PPS_IN_EDGE: an active edge as T0 stamped it is accepted or rejected, and measured when 1PPS is the source. -/
def execPpsInEdge (stamp : Stamp) (s : State) : Out :=
  if !ppsInEn s then next s
  else
    match stamp with
    | .lost => next (onPtp (fun p => { p with tsLate := p.tsLate + 1 }) s)
    | .at ns =>
      let t : Int := (ns : Int) - cableDelay s
      let o := fromSecond t
      let soon := s.time.pps.lastAccepted.elim false fun l => decide (t < (l : Int) + 900000000)
      if decide (100000000 < o.natAbs) || soon then next (onPps (fun p => { p with reject := p.reject + 1 }) s)
      else
        let first := s.time.pps.lastAccepted.getD s.time.servo.lastAt
        let was := s.time.pps.inLost
        let s := onPps (fun p => { p with accepted := p.accepted + 1, inNs := (t % 1000000000).toNat, lastAccepted := some t.toNat, inLost := false }) s
        let s := postIf was 0x0406 noSource [] s
        if ppsUse s && s.time.ptp.master.isNone then
          next (measure .pps o t.toNat (onServo (fun v => { v with lastAt := first }) s))
        else next s

/-- PPS_IN_LOST: no accepted edge for 3 s. -/
def execPpsInLost (s : State) : Out :=
  if ppsInEn s && !s.time.pps.inLost then
    let s := post 0x0405 noSource [] (onPps (fun p => { p with inLost := true }) s)
    next (if s.time.servo.source == .pps then sourceLost s else s)
  else next s

/-! The clock monitor (R31, Table 2.2). -/

/-- CLOCK_MONITOR_SECOND: 3 seconds in a row beyond 200 ppm of 25,000,000 set REF_FAULT and begin holdover; a good second ends the
run and the fault. -/
def execClockMonitorSecond (count : Nat) (s : State) : Out :=
  if 5000 < absDiff count 25000000 then
    let n := s.time.refBad + 1
    let s := onTime (fun t => { t with refBad := n }) s
    if 3 ≤ n && !s.time.refFault then
      let s := post 0x0205 noSource (edge true) (onTime (fun t => { t with refFault := true }) s)
      next (refreshTrace (if s.time.servo.state == .holdover then s else enterHoldover s))
    else next s
  else
    let was := s.time.refFault
    let s := onTime (fun t => { t with refBad := 0, refFault := false }) s
    next (if was then refreshTrace (post 0x0205 noSource (edge false) s) else s)

/-! Reads and clears of the time registers (R318). -/

/-- TB_SEC_LO_READ: latches the seconds, ns and fraction of one TIME cycle. -/
def execTbSecLoRead (s : State) : Out := next (onTime (fun t => { t with tbLatch := some t.tb }) s)

/-- TB_FRAC_READ: releases the latch. -/
def execTbFracRead (s : State) : Out := next (onTime (fun t => { t with tbLatch := none }) s)

/-- TIME_CLEAR_STATS: counters of the time range. -/
def execTimeClearStats (s : State) : Out :=
  next (onPps (fun p => { p with reject := 0 }) (onServo (fun v => { v with stepCnt := 0, offsetReject := 0 })
    (onPtp (fun p => { p with txqOverflow := 0, txqStale := 0, tsLate := 0, tcCorr := 0, tcLost := 0, ptpFormat := 0, annTimeouts := 0 }) s)))

end Sys2Proof.Machine
end

