-- ==== Sys2Proof/Machine/Switch.lean ====
section
/-! DEFINITION. The switch (R423–R425): filtering, learning, queues and sending, and the host on port 6 (R429). The formats of the
frames the host reads are those of the standards R429 names (PRESUMED). -/

namespace Sys2Proof.Machine

/-! Sending (R425). -/

/-- Line rate of a speed code in Mbit/s. -/
def lineRate (code : Nat) : Nat := [1000, 100, 1000, 2500, 10000].getD code 1000
def portRate (s : State) (p : Nat) : Nat := if p = 6 then 1000 else lineRate (port s p).speed

/-- TIME cycles that a frame takes on the line, with its preamble and gap of 20 octets (PRESUMED). -/
def lineCycles (rate octets : Nat) : Nat := (((octets + 20) * 8 * 400) + rate - 1) / rate

def queueBytes (q : List SentFrame) : Nat := (q.map (·.length)).sum
def bufferUsed (n : Net) : Nat := (n.ports.map fun p => (p.queues.map queueBytes).sum).sum

/-- Weight of queue k in bytes. -/
def queueWeight (k : Nat) : Nat := 2 ^ k

/-- Rounds of credit that the head of queue k still needs. -/
def roundsFor (x : SwPort) (k : Nat) : Option Nat :=
  match (x.queues.getD k []).head? with
  | none => none
  | some f => some ((f.length - x.credit.getD k 0 + queueWeight k - 1) / queueWeight k)

/-- The queue served next: 7 and 6 in strict priority, then the queue of 5 to 0 that its credit reaches first. -/
def nextQueue (x : SwPort) : Option (Nat × Nat) :=
  if x.queues.getD 7 [] ≠ [] then some (7, 0)
  else if x.queues.getD 6 [] ≠ [] then some (6, 0)
  else
    [5, 4, 3, 2, 1, 0].foldl (fun best k =>
      match roundsFor x k, best with
      | none, b => b
      | some r, none => some (k, r)
      | some r, some (j, n) => if r < n then some (k, r) else some (j, n)) none

/-- Takes the next frame to send from a port that is idle. -/
def startSending (rate : Nat) (x : SwPort) : SwPort :=
  if x.sending.isSome then x
  else
    match nextQueue x with
    | none => x
    | some (k, rounds) =>
      match x.queues.getD k [] with
      | [] => x
      | f :: rest =>
        let credit := (upTo 6).map fun j =>
          let c := x.credit.getD j 0 + (if x.queues.getD j [] = [] then 0 else rounds * queueWeight j)
          if j = k then (if rest = [] then 0 else c - f.length) else c
        { x with queues := listSet x.queues k rest, credit := if k < 6 then credit else x.credit,
                 sending := some (f, lineCycles rate f.length) }

/-- One TIME cycle of a port: the frame on the line ends, or goes on. -/
def portTick (p : Nat) (s : State) : State :=
  match (port s p).sending with
  | none => s
  | some (f, n) =>
    if 1 < n then onPort p (fun x => { x with sending := some (f, n - 1) }) s
    else
      let rate := portRate s p
      let s := onPort p (fun x => startSending rate { x with sending := none, txFrames := x.txFrames + 1,
                                                             txOctets := x.txOctets + BitVec.ofNat 32 f.length }) s
      onNet (fun m => { m with sent := m.sent ++ [f] }) s

def netTick (s : State) : State := if s.net.ports.all fun p => p.sending.isNone then s else (upTo 7).foldl (fun s p => portTick p s) s

/-- A frame joins its egress queue, or is dropped for want of room. -/
def enqueue (p k : Nat) (f : SentFrame) (s : State) : State :=
  if 262144 < queueBytes ((port s p).queues.getD k []) + f.length || 2097152 < bufferUsed s.net + f.length then
    onPort p (fun x => { x with txQfull := x.txQfull + 1 }) s
  else
    let rate := portRate s p
    onPort p (fun x => startSending rate { x with queues := listModify x.queues k (· ++ [f]) }) s

/-! VLANs (R424). -/

def vlanIndex (s : State) (vid : Nat) : Option Nat :=
  if vid = 0 then none else (upTo 64).find? fun k => setU16 s secVlan (8 * k) == vid
def vlanMembers (s : State) (vid : Nat) : Nat := (vlanIndex s vid).elim 0 fun k => setU8 s secVlan (8 * k + 2)
def vlanUntagged (s : State) (vid : Nat) : Nat := (vlanIndex s vid).elim 0 fun k => setU8 s secVlan (8 * k + 3)

def portPvid (s : State) (p : Nat) : Nat := if p = 6 then setU16 s secHost 0 else setU16 s secPorts (8 * p + 2)
/-- The VID a frame takes at its port. -/
def frameVid (s : State) (p : Nat) (f : EthFrame) : Nat :=
  match f.vid with
  | some v => if v = 0 then portPvid s p else v
  | none => portPvid s p
def framePcp (s : State) (p : Nat) (f : EthFrame) : Nat :=
  if f.vid.isSome then f.pcp else if p = 6 then 0 else setU8 s secPorts (8 * p + 4)

def isPtp (f : EthFrame) : Bool := f.etherType == 0x88F7
def isRaps (f : EthFrame) : Bool := f.etherType == 0x8902
def frameQueue (s : State) (p : Nat) (f : EthFrame) : Nat := if isPtp f || isRaps f then 7 else framePcp s p f % 8

/-! Learning (R423). -/

def isGroup (mac : Bytes) : Bool := u8At mac 0 % 2 == 1

/-- FDB_FULL's record, at most one a minute, counts the addresses not learned since the last (Table 18.8). -/
def notLearned (s : State) : State :=
  let n := s.net.fdbFullMinute + 1
  let due := s.net.fdbFullMade.elim true fun c => 60 * cyclesPerSec ≤ s.time.cycle - c
  let s := onNet (fun m => { m with fdbFull := m.fdbFull + 1, fdbFullMinute := if due then 0 else n,
                                    fdbFullMade := if due then some s.time.cycle else m.fdbFullMade }) s
  postIf due 0x0809 noSource (le32 n) s

def learn (vid p : Nat) (mac : Bytes) (s : State) : State :=
  if isGroup mac then s
  else
    let e : FdbEntry := { vid := vid, mac := mac, port := p, seen := s.time.cycle }
    if s.net.fdb.any fun x => x.vid == vid && x.mac == mac then
      onNet (fun n => { n with fdb := n.fdb.map fun x => if x.vid == vid && x.mac == mac then e else x }) s
    else if s.net.fdb.length < 8192 then onNet (fun n => { n with fdb := n.fdb ++ [e] }) s
    else notLearned s

/-- An entry that has not been seen for 300 s. -/
def agedOut (s : State) (x : FdbEntry) : Bool := x.seen + 300 * cyclesPerSec ≤ s.time.cycle

/-- FDB_AGE: a learned address ages out. -/
def execFdbAge (vid : Nat) (mac : Bytes) (s : State) : Out :=
  next (onNet (fun n => { n with fdb := n.fdb.filter fun x => !(x.vid == vid && x.mac == mac && agedOut s x) }) s)

/-! Storm limit (R425). -/

def stormLimit (s : State) (p : Nat) : Nat := if p = 6 then 0 else setU8 s secPorts (8 * p + 5)

/-- TIME cycles in 1 ms. -/
def cyclesPerMs : Nat := 400000

/-- A drop under the storm limit; the first in each minute is recorded. -/
def stormDrop (p : Nat) (s : State) : State :=
  let x := port s p
  let n := x.stormDrops + 1
  let due := x.stormMade.elim true fun c => 60 * cyclesPerSec ≤ s.time.cycle - c
  let s := onPort p (fun x => { x with rxStorm := x.rxStorm + 1, stormDrops := if due then 0 else n,
                                       stormMade := if due then some s.time.cycle else x.stormMade }) s
  postIf due 0x0807 p (le32 n) s

/-- The frames let in during the last 1 ms, and whether one more may enter. -/
def stormRecent (s : State) (p : Nat) : List Nat := (port s p).storm.filter fun c => s.time.cycle - c < cyclesPerMs
def stormAllows (s : State) (p : Nat) (f : EthFrame) : Bool := stormLimit s p == 0 || !isGroup f.dst || (stormRecent s p).length < stormLimit s p

/-! The host (R429). -/

def hostFlag (s : State) (k : Nat) : Bool := bit (setU8 s secHost 2) k
def hostVid (s : State) : Nat := setU16 s secHost 0
/-- The host's IPv4 address: leased under DHCP4, else configured. -/
def hostV4 (s : State) : Bytes :=
  match s.net.lease with
  | some a => if hostFlag s 1 then a else slice (sect s secHost) 4 4
  | none => slice (sect s secHost) 4 4
/-- The interface identifier of the host's MAC. -/
def hostIid : Bytes :=
  let m := Config.baseMac
  [(m.getD 0 0) ^^^ 2, m.getD 1 0, m.getD 2 0, 0xFF, 0xFE, m.getD 3 0, m.getD 4 0, m.getD 5 0]
/-- The host's IPv6 addresses: link-local, configured, and by SLAAC. -/
def hostV6 (s : State) : List Bytes :=
  let conf := slice (sect s secHost) 12 16
  [[0xFE, 0x80] ++ zeros 6 ++ hostIid] ++ (if allZero conf then [] else [conf]) ++
    (match s.net.prefix_ with | some p => if hostFlag s 3 then [p ++ hostIid] else [] | none => [])

def beAt (b : Bytes) (i : Nat) : Nat := 256 * u8At b i + u8At b (i + 1)

/-- The value of a DHCP option. -/
def dhcpOption (code : Nat) : Nat → Bytes → Option Bytes
  | 0, _ => none
  | fuel + 1, b =>
    match b with
    | [] => none
    | t :: rest =>
      if t.toNat = 0 then dhcpOption code fuel rest
      else if t.toNat = 255 then none
      else
        let n := u8At rest 0
        if t.toNat = code then some ((rest.drop 1).take n) else dhcpOption code fuel (rest.drop (1 + n))

/-- The autonomous /64 prefix of a router advertisement's options. -/
def raPrefix : Nat → Bytes → Option Bytes
  | 0, _ => none
  | fuel + 1, b =>
    let n := 8 * u8At b 1
    if b = [] || n = 0 then none
    else if u8At b 0 = 3 && u8At b 2 = 64 && bit (u8At b 3) 6 then some (slice b 16 8)
    else raPrefix fuel (b.drop n)

def reply (r : HostReply) (s : State) : State := onNet (fun n => { n with replies := n.replies ++ [r] }) s

/-- A UDP port without a listener draws port unreachable, at most 10 in any second. -/
def unreachableTo (dest ip : Bytes) (s : State) : State :=
  let recent := s.net.unreach.filter fun c => s.time.cycle - c < cyclesPerSec
  if recent.length < 10 then reply (.unreachable dest ip) (onNet (fun n => { n with unreach := recent ++ [s.time.cycle] }) s)
  else s

/-- A TCP SYN to a port other than 4417 is reset. -/
def tcpFor (dest ip seg : Bytes) (s : State) : State :=
  let flags := u8At seg 13
  if bit flags 1 && !bit flags 4 && beAt seg 2 ≠ 4417 then reply (.reset dest ip (beAt seg 2)) s else s

/-- A UDP datagram over IPv4: the DHCP client's port, or none. -/
def udp4For (dest ip dgram : Bytes) (mine : Bool) (s : State) : State :=
  let b := dgram.drop 8
  if beAt dgram 2 = 68 then
    if hostFlag s 1 && u8At b 0 = 2 && dhcpOption 53 312 (b.drop 240) == some [5] then onNet (fun n => { n with lease := some (slice b 16 4) }) s
    else s
  else if mine then unreachableTo dest ip s
  else s

def host4 (f : EthFrame) (s : State) : State :=
  let b := f.payload
  let body := b.drop (4 * (u8At b 0 % 16))
  let ip := slice b 12 4
  let mine := slice b 16 4 == hostV4 s && !allZero (hostV4 s)
  if u8At b 9 = 17 then udp4For f.src ip body mine s
  else if !mine then s
  else if u8At b 9 = 1 then (if u8At body 0 = 8 then reply (.echo f.src ip) s else s)
  else if u8At b 9 = 6 then tcpFor f.src ip body s
  else s

def hostArp (f : EthFrame) (s : State) : State :=
  let b := f.payload
  if beAt b 6 = 1 && slice b 24 4 == hostV4 s && !allZero (hostV4 s) then reply (.arp f.src (slice b 14 4)) s else s

def host6 (f : EthFrame) (s : State) : State :=
  let b := f.payload
  let body := b.drop 40
  let ip := slice b 8 16
  let mine := (hostV6 s).contains (slice b 24 16)
  if u8At b 6 = 58 then
    if u8At body 0 = 128 then (if mine then reply (.echo6 f.src ip) s else s)
    else if u8At body 0 = 135 then (if (hostV6 s).contains (slice body 8 16) then reply (.neighbour f.src ip) s else s)
    else if u8At body 0 = 134 && hostFlag s 3 then
      (match raPrefix 64 (body.drop 16) with | some p => onNet (fun n => { n with prefix_ := some p }) s | none => s)
    else s
  else if !mine then s
  else if u8At b 6 = 6 then tcpFor f.src ip body s
  else if u8At b 6 = 17 then unreachableTo f.src ip s
  else s

/-- Octets that 200 Mbit/s lets in during 1 ms. -/
def hostBudget : Nat := 25000

/-- A frame reaches the host: taken on the management VID within its rate, and answered as R429 lists. -/
def hostTakes (vid : Nat) (f : EthFrame) (s : State) : State :=
  if vid ≠ hostVid s || !(f.dst == moduleMac 0 || isGroup f.dst) then s
  else
    let recent := s.net.hostRate.filter fun e => s.time.cycle - e.1 < cyclesPerMs
    if hostBudget < (recent.map (·.2)).sum + f.length then onNet (fun n => { n with hostRate := recent, hostDrop := n.hostDrop + 1 }) s
    else
      let s := onNet (fun n => { n with hostRate := recent ++ [(s.time.cycle, f.length)] }) s
      if f.etherType = 0x0806 then (if hostFlag s 0 then hostArp f s else s)
      else if f.etherType = 0x0800 then (if hostFlag s 0 then host4 f s else s)
      else if f.etherType = 0x86DD then (if hostFlag s 2 then host6 f s else s)
      else s

/-! Forwarding (R423, R424). -/

/-- Ports a frame leaves by: the learned one, or every other member that forwards. -/
def egressPorts (s : State) (p vid : Nat) (dst : Bytes) : List Nat :=
  let all := (upTo 7).filter fun q => q != p && bit (vlanMembers s vid) q && forwarding s q
  if isGroup dst then all
  else
    match s.net.fdb.find? fun e => e.vid == vid && e.mac == dst with
    | some e => all.filter (· == e.port)
    | none => all

def sentFrame (s : State) (p vid q : Nat) (f : EthFrame) : SentFrame :=
  let tagged := !bit (vlanUntagged s vid) q
  let bare := f.length - (if f.vid.isSome then 4 else 0)
  { port := q, tagged := tagged, vid := vid, pcp := framePcp s p f, dst := f.dst, src := f.src, etherType := f.etherType,
    length := bare + (if tagged then 4 else 0) }

/-- R300: a Delay_Req forwarded by the transparent clock keeps its residence time, a free value, for its Delay_Resp. -/
def noteDelayReq (f : EthFrame) (s : State) : State :=
  let b := f.payload
  if isPtp f && ptpEn s && ptpTc s && ptpProfile s = 0 && u8At b 0 % 16 = 1 && u8At b 4 = ptpDomain s then
    let (k, s) := drawFree s
    onPtp (fun t => { t with reqTransit := lastN 64 (t.reqTransit ++ [(slice b 20 10, beAt b 30, Config.freeNat k)]) }) s
  else s

def forward (p vid : Nat) (f : EthFrame) (s : State) : State :=
  (egressPorts s p vid f.dst).foldl (fun s q =>
    let s := enqueue q (frameQueue s p f) (sentFrame s p vid q f) s
    if q = 6 then hostTakes vid f s else s) (noteDelayReq f s)

def countRx (p : Nat) (f : EthFrame) (s : State) : State :=
  onPort p (fun x => { x with rxFrames := x.rxFrames + 1, rxOctets := x.rxOctets + BitVec.ofNat 32 f.length }) s

/-- ETHERNET_FRAME: a frame received on a port (6: from the host). An R-APS frame of a ring port is the ring's: RAPS_FRAME resolves it. -/
def execEthernetFrame (p : Nat) (f : EthFrame) (s : State) : Out :=
  if 7 ≤ p || !portUp s p then next s
  else
    let s := countRx p f s
    if !f.fcsOk then next (onPort p (fun x => { x with rxFcs := x.rxFcs + 1 }) s)
    else if 1522 < f.length then next (onPort p (fun x => { x with rxLong := x.rxLong + 1 }) s)
    else if f.etherType = 0x8808 then next (onPort p (fun x => { x with rxCtrl := x.rxCtrl + 1 }) s)
    else if p < 2 && isRaps f then next s
    else if blocked s p then next (onPort p (fun x => { x with rxBlocked := x.rxBlocked + 1 }) s)
    else
      let vid := frameVid s p f
      if !bit (vlanMembers s vid) p then next (onPort p (fun x => { x with rxVlan := x.rxVlan + 1 }) s)
      else if !stormAllows s p f then next (stormDrop p s)
      else
        let recent := stormRecent s p
        let s := onPort p (fun x => { x with storm := if isGroup f.dst then recent ++ [s.time.cycle] else recent }) s
        next (forward p vid f (learn vid p f.src s))

/-- NET_CLEAR_STATS: clears the counters of the block outside 0x8000 to 0x80FF. -/
def execNetClearStats (s : State) : Out :=
  let clear := fun x : SwPort =>
    { x with rxFrames := 0, txFrames := 0, rxOctets := 0, txOctets := 0, rxFcs := 0, rxLong := 0, rxVlan := 0, rxStorm := 0,
             rxBlocked := 0, rxCtrl := 0, txQfull := 0, linkDowns := 0 }
  next (onNet (fun n => { n with ports := n.ports.map clear, fdbFull := 0, hostDrop := 0 }) s)

end Sys2Proof.Machine
end

