-- ==== Sys2Proof/Machine/NetConfig.lean ====
section
/-! DEFINITION. The network settings: the window (R431), the checks of sections 40–43 and their effect (R420, R424, R426, R429). -/

namespace Sys2Proof.Machine

/-! The first failing byte of a section (R431). -/

/-- The first offset whose check fails. -/
def firstBad (l : List (Nat × Bool)) : Option Nat := (l.find? fun e => !e.2).map (·.1)

/-- Table 18.1; speeds a medium cannot run are refused (R420). -/
def badPort (b : Bytes) (p : Nat) : Option Nat :=
  let o := 8 * p
  let speed := u8At b (o + 1)
  firstBad [(o, u8At b o ≤ 3), (o + 1, if p < 2 then speed == 0 || speed == 2 || speed == 4 else speed ≤ 3),
    (o + 2, 1 ≤ u16At b (o + 2) && u16At b (o + 2) ≤ 4094), (o + 4, u8At b (o + 4) ≤ 7), (o + 6, u8At b (o + 6) == 0), (o + 7, u8At b (o + 7) == 0)]

/-- Table 18.3. -/
def badVlan (b : Bytes) (k : Nat) : Option Nat :=
  let o := 8 * k
  firstBad [(o, u16At b o ≤ 4094), (o + 2, u8At b (o + 2) ≤ 0x7F),
    (o + 3, u8At b (o + 3) ≤ 0x7F), (o + 4, u8At b (o + 4) == 0), (o + 5, u8At b (o + 5) == 0), (o + 6, u8At b (o + 6) == 0), (o + 7, u8At b (o + 7) == 0)]

/-- Table 18.4. -/
def badRing (b : Bytes) : Option Nat :=
  firstBad (([(0, u8At b 0 ≤ 3), (1, u8At b 1 ≤ 2), (2, u8At b 2 ≤ 1), (3, 1 ≤ u8At b 3 && u8At b 3 ≤ 239),
    (4, 1 ≤ u16At b 4 && u16At b 4 ≤ 4094), (6, u8At b 6 ≤ 7), (7, 1 ≤ u8At b 7 && u8At b 7 ≤ 12),
    (8, 10 ≤ u16At b 8 && u16At b 8 ≤ 2000 && u16At b 8 % 10 == 0), (10, u16At b 10 ≤ 100)] : List (Nat × Bool)) ++ (span 12 20).map fun k => (k, u8At b k == 0))

/-- Table 18.7. -/
def badHost (b : Bytes) : Option Nat :=
  firstBad (([(0, 1 ≤ u16At b 0 && u16At b 0 ≤ 4094), (2, u8At b 2 ≤ 0x0F), (3, u8At b 3 ≤ 32), (28, u8At b 28 ≤ 128)] : List (Nat × Bool)) ++
    ((span 29 3) ++ (span 48 16)).map fun k => (k, u8At b k == 0))

def badSection (id : Nat) (b : Bytes) : Option Nat :=
  if id = secPorts then (upTo 6).findSome? (badPort b)
  else if id = secVlan then (upTo 64).findSome? (badVlan b)
  else if id = secRing then badRing b
  else badHost b

/-- The checks over sections 41, 42 and 43 together: the section and byte at fault. -/
def badTogether (vlan ring host : Bytes) : Option (Nat × Nat) :=
  let vid := u16At ring 4
  let members := ((upTo 64).find? fun k => u16At vlan (8 * k) == vid).elim 0 fun k => u8At vlan (8 * k + 2)
  if vid == u16At host 0 || !bit members 0 || !bit members 1 then some (secRing, 4) else none

/-! Staging. -/

/-- Section and offset of a window word, if a section holds it. -/
def windowWord (offset : Nat) : Option (Nat × Nat) :=
  if 0x9000 ≤ offset && offset < 0x9030 then some (secPorts, offset - 0x9000)
  else if 0x9100 ≤ offset && offset < 0x9300 then some (secVlan, offset - 0x9100)
  else if 0x9400 ≤ offset && offset < 0x9420 then some (secRing, offset - 0x9400)
  else if 0x9500 ≤ offset && offset < 0x9540 then some (secHost, offset - 0x9500)
  else none

def stageWords (l : List (Nat × Nat × Bytes)) (s : State) : State := { s with set := { s.set with staged := s.set.staged ++ l } }

/-- NET_SETTINGS_WINDOW_WRITE: one word is staged for the next boundary. -/
def execNetSettingsWindowWrite (offset : Nat) (value : U32) (s : State) : Out :=
  match windowWord (offset - offset % 4) with
  | some (id, o) => next (stageWords [(id, o, leW value)] s)
  | none => next s

/-- A section as the staged words leave it. -/
def stagedSection (l : List (Nat × Nat × Bytes)) (s : State) (id : Nat) : Bytes :=
  (l.filter fun e => e.1 == id).foldl (fun b e => overlay b e.2.1 e.2.2) (sect s id)

/-! Effect. -/

/-- A cage's module runs another speed under the new setting, or is rejected by it. -/
def moduleAnew (s : State) (p : Nat) : Option SfpId :=
  (port s p).module.bind fun m =>
    let x := port s p
    match sfpJudge (portSpeed s p) m with
    | .ok speed => if x.sfp != .accepted || x.speed != speed then some m else none
    | .error _ => if x.sfp == .rejected then none else some m

/-- Port settings: a port without EN, or at another fixed speed, goes down (R420, R421). A module in a cage is judged anew where the setting
changes what R422 makes of it (DEDUCED: R422 judges at insertion, R420 has the setting act). -/
def portSettings (s : State) : State :=
  (upTo 6).foldl (fun s p =>
    let anew := moduleAnew s p
    let s := if (port s p).link && (!portEn s p || anew.isSome || (portSpeed s p != 0 && portSpeed s p != (port s p).speed)) then linkLost p s else s
    anew.elim s fun m => judgeModule p m s) s

/-- A change of host address or management VID closes every network session (R431). -/
def hostSettings (old : Bytes) (s : State) : State :=
  let new := sect s secHost
  let same := slice old 0 2 == slice new 0 2 && slice old 3 5 == slice new 3 5 && slice old 12 17 == slice new 12 17
  if same then s else (upTo 14).foldl (fun s m => if (box s m).session == .closed then s else dropSession m s) s

/-- A network section of the working copy has changed from `old`. -/
def networkEffect (id : Nat) (old : Bytes) (s : State) : State :=
  if old == sect s id then s
  else if id = secPorts then portSettings s
  else if id = secRing then ringSettings s
  else if id = secHost then hostSettings old s
  else s

/-- NET_CFG_STATUS and NET_CONFIG_BAD. -/
def configBad (id byte_ : Nat) (s : State) : State :=
  post 0x0808 id (le16 byte_) (onNet (fun n => { n with cfgFailed := true, cfgSection := id, cfgByte := byte_ }) s)

/-- R431 at the first boundary: each staged section is checked whole and takes effect, or returns to the working value. -/
def networkBoundary (s : State) : State :=
  let l := s.set.staged
  if l = [] then s
  else
    let ids := [secPorts, secVlan, secRing, secHost].filter fun id => l.any fun e => e.1 == id
    let s := onNet (fun n => { n with cfgFailed := false, cfgSection := 0, cfgByte := 0 }) { s with set := { s.set with staged := [] } }
    let bad := ids.filterMap fun id => (badSection id (stagedSection l s id)).map fun b => (id, b)
    let s := bad.foldl (fun s e => configBad e.1 e.2 s) s
    let good := ids.filter fun id => bad.all fun e => e.1 != id
    let whole := fun id => if good.contains id then stagedSection l s id else sect s id
    let together := if good.any (· != secPorts) then badTogether (whole secVlan) (whole secRing) (whole secHost) else none
    let s := together.elim s fun e => configBad e.1 e.2 s
    let good := if together.isSome then good.filter (· == secPorts) else good
    let olds := good.map fun id => (id, sect s id, whole id)
    let s := olds.foldl (fun s e => { s with set := { s.set with working := tabSet s.set.working e.1 e.2.2 } }) s
    olds.foldl (fun s e => networkEffect e.1 e.2.1 s) s

end Sys2Proof.Machine
end

