-- ==== Sys2Proof/Machine/Rtc.lean ====
section
/-! DEFINITION. The real-time counter (R306–R310), its alarms (R311, R312), its supply (R313–R315), and the TIME cycle in which the
module idles. -/

namespace Sys2Proof.Machine

def onAlarm (k : Nat) (f : Alarm → Alarm) (s : State) : State := onRtc (fun r => { r with alarms := listModify r.alarms k f }) s
def alarm (s : State) (k : Nat) : Alarm := s.rtc.alarms.getD k default

/-- TICK wraps at 2⁴⁸. -/
def tickSpan : Nat := 281474976710656

/-! Matching and firing (R311). -/

/-- TICK fields SUB, SEC0–SEC3 as upper and lower bits. -/
def tickFields : List (Nat × Nat) := [(14, 0), (22, 15), (30, 23), (38, 31), (47, 39)]

def alarmMatches (a : Alarm) (tick wday : Nat) : Bool :=
  (tickFields.zipIdx.all fun f => bit a.mask f.2 || field tick f.1.1 f.1.2 == field a.compare f.1.1 f.1.2) && (bit a.mask 5 || wday == a.wday)

/-- WDAY with a wrap of SOD that SOD_WRAP has still to apply. -/
def wdayNow (r : Rtc) : Nat := (wrapNow r).wday

/-- Flags as TIM_ALARM_READ gives them. -/
def alarmFlags (a : Alarm) : Nat := bitN a.fired 0 + bitN a.skipped 1 + bitN a.jumped 2 + bitN a.repeat_ 3 + bitN a.onBackup 4

/-- The main supply is off. -/
def mainOff (s : State) : Bool := s.sys.phase == .off

/-- An alarm fires at TICK value `tick`. A firing while the main supply is off is recorded at start-up. -/
def fireAlarm (k tick : Nat) (skipped : Bool) (s : State) : State :=
  let off := mainOff s
  let rep := s.rtc.back != 0 && tick ≤ s.rtc.back
  let s := onAlarm k (fun a => { a with fired := true, count := (a.count + 1) % 65536, en := a.en && !a.oneShot, skipped := skipped, repeat_ := rep,
                                        onBackup := a.onBackup || off, inRun := true, backupFirings := if off then a.backupFirings + 1 else a.backupFirings, lastTick := tick }) s
  let a := alarm s k
  postIf (!off) 0x040A k (le16 a.count ++ le8 (alarmFlags a) ++ le8 0 ++ le32 (tick / 32768 % 4294967296)) s

/-- RTC_ALARM: an enabled alarm meets the first value of a run of matching values. -/
def execRtcAlarm (k : Nat) (s : State) : Out :=
  let a := alarm s k
  if k < 2 && a.en && !a.inRun && alarmMatches a s.rtc.tick (wdayNow s.rtc) then next (fireAlarm k s.rtc.tick false s) else next s

/-! Counting (R306, R309). -/

/-- TICK takes the value `b` by counting: SOD follows the seconds, and a wrap of SOD leaves WDAY to SOD_WRAP. -/
def countTo (b : Nat) (r : Rtc) : Rtc :=
  let sec := if b / 32768 = r.tick / 32768 then 0 else 1
  let sod := r.sod + sec
  { r with tick := b % tickSpan, sod := if sod = 86400 then 0 else sod, wrapped := r.wrapped || sod == 86400,
           back := if r.back < b then 0 else r.back }

/-- Ticks that the present edge adds under a SHIFT: one edge in every 8 adds 2 or 0. -/
def edgeTicks (r : Rtc) : Nat :=
  if r.shiftLeft = 0 ∨ (r.shiftEdges + 1) % 8 ≠ 0 then 1 else if 0 < r.shiftLeft then 2 else 0

def shiftStep (r : Rtc) : Rtc :=
  if r.shiftLeft = 0 then r
  else
    let e := r.shiftEdges + 1
    { r with shiftEdges := e, shiftLeft := if e % 8 ≠ 0 then r.shiftLeft else if 0 < r.shiftLeft then r.shiftLeft - 1 else r.shiftLeft + 1 }

/-- A matching run ends when the value no longer matches. -/
def endRuns (s : State) : State :=
  onRtc (fun r => { r with alarms := r.alarms.map fun a => { a with inRun := a.inRun && alarmMatches a r.tick (wdayNow r) } }) s

/-- The alarms meet a value that a SHIFT edge passes over. -/
def passOver (v : Nat) (s : State) : State :=
  (upTo 2).foldl (fun t k => let a := alarm t k; if a.en && !a.inRun && alarmMatches a v (wdayNow t.rtc) then fireAlarm k v false t else t) s

/-- One LF edge of the RTC: counting is held at 0 while LOST. -/
def rtcEdge (s : State) : State :=
  if s.rtc.lost then s
  else
    let n := edgeTicks s.rtc
    let s := if n = 2 then passOver (s.rtc.tick + 1) s else s
    endRuns (onRtc (fun r => shiftStep (if n = 0 then r else countTo (r.tick + n) r)) s)

/-- SOD_WRAP: SOD has returned from 86,399 to 0, and WDAY follows (R306). -/
def execSodWrap (s : State) : Out := next (onRtc wrapNow s)

/-! Loads (R308, R312). -/

/-- Seconds of the local day of a TICK value. -/
def sodOfTick (s : State) (tick : Nat) : Nat := (localSecAt s (tick / 32768) % 86400).toNat

/-- `d` brought into −43,200 to 43,199. -/
def signedDay (d : Int) : Int := (d + 43200) % 86400 - 43200

/-- A forward jump's effect on one alarm (R312). -/
def jumpAlarm (a b : Nat) (s : State) (k : Nat) : State :=
  let x := alarm s k
  if !x.en then s
  else if x.mask = 0 then (if a < x.compare && x.compare ≤ b then fireAlarm k b true s else s)
  else post 0x040B k (le32 (b / 32768 % 4294967296)) (onAlarm k (fun x => { x with jumped := true }) s)

/-- TICK is loaded with `b` in place of the edge's tick. -/
def loadTick (b : Nat) (s : State) : State :=
  let a := s.rtc.tick
  let s :=
    if s.rtc.lost then let d := sodOfTick s b; onRtc (fun r => { r with tick := b, sod := d, lost := false }) s
    else onRtc (fun r => { sodAdjust (((b / 32768 : Nat) : Int) - ((a / 32768 : Nat) : Int)) r with tick := b }) s
  let s := if b ≤ a then onRtc (fun r => { r with back := max r.back a }) s else s
  let s := if a + 1 < b then (upTo 2).foldl (jumpAlarm a b) s else s
  endRuns s

/-- RTC_SET_LOAD: the values load at this LF edge. A new TICK is a SET: it ends any SHIFT and is recorded; SOD or WDAY alone only
adjusts. R310's comparison follows an alignment. -/
def execRtcSetLoad (s : State) : Out :=
  match s.rtc.load with
  | none => next s
  | some l =>
    let a := s.rtc.tick
    let s := onRtc (fun r => { r with load := none }) s
    let s := match l.tick with
      | some b => loadTick b (onRtc (fun r => { r with shiftLeft := 0, shiftEdges := 0, shiftTotal := 0 }) s)
      | none => rtcEdge s
    let s := match l.sod with | some v => onRtc (fun r => sodAdjust (signedDay ((v : Int) - (r.sod : Int))) r) s | none => s
    let s := match l.wday with | some w => onRtc (fun r => { wrapNow r with wday := w }) s | none => s
    let s := if l.tick.isSome then post 0x0408 noSource (le64 a ++ le64 s.rtc.tick) (onRtc (fun r => { r with setCnt := r.setCnt + 1 }) s) else s
    if l.align then
      let d := signedDay ((sodOfTick s s.rtc.tick : Int) - (s.rtc.sod : Int))
      next (if d = 0 then s else onRtc (sodAdjust d) s)
    else next s

/-- RTC_SHIFT_DONE: every edge of the SHIFT has passed. -/
def execRtcShiftDone (s : State) : Out :=
  if s.rtc.shiftTotal ≠ 0 ∧ s.rtc.shiftLeft = 0 then
    let n := s.rtc.shiftTotal
    next (post 0x0409 noSource (leS16 n) (onRtc (fun r => { r with shiftTotal := 0, shiftEdges := 0, shiftCnt := r.shiftCnt + 1 }) s))
  else next s

/-- A SHIFT of `n` ticks begins. -/
def startShift (n : Int) (s : State) : State := onRtc (fun r => { r with shiftLeft := n, shiftEdges := 0, shiftTotal := n }) s

/-- The time base in ticks. -/
def baseTicks (s : State) : Nat := s.time.tb * 32768 / (4294967296 * 1000000000)

/-- RTC_ALIGN: at an alignment instant of a traceable time base T0 does nothing, shifts or sets TICK, and compares SOD (R310). -/
def execRtcAlign (s : State) : Out :=
  if !s.time.servo.traceable || s.rtc.shiftTotal != 0 || s.rtc.load.isSome then next s
  else
    let e : Int := (s.rtc.tick : Int) - (baseTicks s : Int)
    if 32767 < e.natAbs || s.rtc.lost then
      next (onRtc (fun r => { r with load := some { tick := some (baseTicks s), sod := none, wday := none, align := true } }) s)
    else
      let d := signedDay ((sodOfTick s s.rtc.tick : Int) - (s.rtc.sod : Int))
      let s := if d = 0 then s else onRtc (sodAdjust d) s
      next (if e.natAbs < 16 then s else startShift (-e) s)

/-! Supply (R313–R315). -/

/-- RTC_SUPPLY_CHANGEOVER: the domain is fed from the backup or from the main rail. -/
def execRtcSupplyChangeover (toBackup : Bool) (s : State) : Out := next (onRtc (fun r => { r with onBackup := toBackup }) s)

/-- RTC_BATLOW: the backup falls below 1.6 V while it feeds the domain. -/
def execRtcBatlow (mv : Nat) (s : State) : Out :=
  if s.rtc.onBackup then next (onRtc (fun r => { r with batlow := true, backupMv := min mv 8191 }) s) else next s

/-- RTC_LOST: the domain's supply stayed below 1.45 V for 30 µs. -/
def execRtcLost (s : State) : Out :=
  next { s with rtc := { lostRtc with batlow := s.rtc.batlow, onBackup := s.rtc.onBackup, tempHold := s.rtc.tempHold } }

/-- BACKUP_MEASURE: AON's measurement, once a minute under the main supply. -/
def execBackupMeasure (mv : Nat) (s : State) : Out :=
  if mainOff s then next s else next (onRtc (fun r => { r with backupMv := min mv 8191 }) s)

def chargerProfile (s : State) : Nat := setU8 s secCharger 0

/-- CHARGER_TEMP_HOLD: a coin-cell profile suspends charging above 60 °C. -/
def execChargerTempHold (hot : Bool) (s : State) : Out :=
  if chargerProfile s = 1 ∨ chargerProfile s = 2 then next (onRtc (fun r => { r with tempHold := hot }) s) else next s

/-- End voltage in mV of a charger profile (Table 12.5). -/
def endVoltage (p : Nat) : Nat := [0, 3100, 3100, 3200, 2600].getD p 0

/-- The trickle charger runs. -/
def charging (s : State) : Bool := !mainOff s && !s.rtc.tempHold && s.rtc.backupMv < endVoltage (chargerProfile s)

/-! RTC registers (R319). -/

def rtcFlags (r : Rtc) : Nat :=
  32 * r.wday + bitN (r.shiftTotal != 0) 4 + bitN (r.wday == 7) 3 + bitN r.onBackup 2 + bitN r.batlow 1 + bitN r.lost 0

/-- RTC_TICK_LO_READ: latches TICK_HI, SOD and FLAGS of the same LF edge. -/
def execRtcTickLoRead (s : State) : Out := next (onRtc (fun r => { r with latch := some (r.tick / 4294967296, r.sod, rtcFlags r) }) s)

/-- RTC_FLAGS_READ: releases the latch. -/
def execRtcFlagsRead (s : State) : Out := next (onRtc (fun r => { r with latch := none }) s)

/-- Alarm flags with the bits of `m` cleared. -/
def clearAlarmFlags (m : Nat) (a : Alarm) : Alarm :=
  { a with fired := a.fired && !bit m 0, skipped := a.skipped && !bit m 1, jumped := a.jumped && !bit m 2, repeat_ := a.repeat_ && !bit m 3,
           onBackup := a.onBackup && !bit m 4 }

/-- ALARM_STATUS_CLEAR: a W1C write clears the selected flags. -/
def execAlarmStatusClear (k : Nat) (value : U32) (s : State) : Out := next (onAlarm k (clearAlarmFlags value.toNat) s)

/-! One TIME cycle (R30, R293). -/

/-- An LF edge: the operating counter counts under the main supply, the RTC always. -/
def lfTick (s : State) : State :=
  let s := onTime (fun t => { t with lfEdge := t.lfEdge + 1 }) s
  rtcEdge { s with sys := { s.sys with opTicks := if s.sys.phase == .off || s.sys.phase == .gaspDone then s.sys.opTicks else s.sys.opTicks + 1 } }

/-- One TIME cycle: the time base, the cycle counts at their rates of Table 2.1, and an LF edge if one falls in it (DESIGN CHOICE: the
LF crystal and the TCXO at their nominal rates). -/
def tick (s : State) : State :=
  let d := if mainOff s then 0 else increment s.time.servo.y
  let s := onTime (fun t => { t with tb := t.tb + d, cycle := t.cycle + 1, fabCycle := t.fabCycle + 2, lfPhase := (t.lfPhase + 32768) % cyclesPerSec }) s
  if s.time.lfPhase < 32768 then lfTick s else s

end Sys2Proof.Machine
end

