-- ==== Sys2Proof/Machine/Ptp.lean ====
section
/-! DEFINITION. PTP (R299–R303): the best master, the ordinary clock's measurements, the transparent clock, the transmit timestamp
queue and leap seconds. -/

namespace Sys2Proof.Machine

/-! Message kinds as sent (IEEE 1588 messageType codes). -/

def pmSync : Nat := 0
def pmDelayReq : Nat := 1
def pmPdelayReq : Nat := 2
def pmPdelayResp : Nat := 3
def pmFollowUp : Nat := 8
def pmDelayResp : Nat := 9

/-- Octets of a PTP message on the wire, untagged (PRESUMED: IEEE 1588 lengths, smallest frame 64). -/
def ptpOctets (kind : Nat) : U32 := if kind = 2 || kind = 3 || kind = 9 then 72 else 64

/-- The clockIdentity: base + 7 with 0xFF 0xFE between its third and fourth bytes (R430). -/
def clockIdentity : Bytes := let m := moduleMac 7; m.take 3 ++ [0xFF, 0xFE] ++ m.drop 3

/-- The message is the module's own: a request, or the answer to a peer's. -/
def ownPtp (kind : Nat) : Bool := kind == pmDelayReq || kind == pmPdelayReq || kind == pmPdelayResp

/-- Source address of a message of the module's own: a port's own for Pdelay, the host's, which carries the ordinary clock, for Delay_Req
(DEDUCED: R430 names Pdelay alone). -/
def ptpSource (port kind : Nat) : Bytes := moduleMac (if kind = pmDelayReq ∨ 6 ≤ port then 0 else port + 1)

/-- A PTP message leaves by a port. -/
def sendPtp (port kind sequence : Nat) (correction : Int) (s : State) : State :=
  let own := ownPtp kind
  let m : PtpOut := { port := port, source := if own then some (ptpSource port kind) else none, clock := if own then some clockIdentity else none,
                      kind := kind, sequence := sequence, correction := correction }
  onPort port (fun x => { x with txFrames := x.txFrames + 1, txOctets := x.txOctets + ptpOctets kind }) (onPtp (fun p => { p with out := p.out ++ [m] }) s)

/-- A PTP message arrives at a port: nothing on one that is down, counted and dropped on a blocked one (R427), and otherwise `f` on a port
that takes part in PTP. -/
def ptpRx (port kind : Nat) (f : State → State) (s : State) : State :=
  if 7 ≤ port || !portUp s port then s
  else
    let s := onPort port (fun x => { x with rxFrames := x.rxFrames + 1, rxOctets := x.rxOctets + ptpOctets kind }) s
    if blocked s port then onPort port (fun x => { x with rxBlocked := x.rxBlocked + 1 }) s
    else if portPtp s port then f s
    else s

/-- Ports of the transparent clock that carry PTP: 0 to 5 and the internal port 6, all but the ingress port (R300). -/
def tcPorts (s : State) (port : Nat) : List Nat := (upTo 7).filter fun q => q != port && forwarding s q && portPtp s q

/-! Best master (R299). -/

/-- Bytes compared as an unsigned number, most significant first. -/
def bytesNat (b : Bytes) : Nat := b.foldl (fun n x => 256 * n + x.toNat) 0

/-- The dataset comparison's key, smaller is better: attributes in order, then steps removed and the sender. -/
def announceKey (p : Nat) (m : Announce) : List Nat :=
  [m.priority1, m.clockClass, m.accuracy, m.variance, m.priority2, bytesNat m.grandmaster, m.steps, bytesNat m.source, p]

def keyLess : List Nat → List Nat → Bool
  | a :: s, b :: t => if a < b then true else if b < a then false else keyLess s t
  | _, _ => false

def bestOf : List (Nat × Announce) → Option (Nat × Announce)
  | [] => none
  | x :: t =>
    match bestOf t with
    | none => some x
    | some y => some (if keyLess (announceKey y.1 y.2) (announceKey x.1 x.2) then y else x)

/-- The master's UTC offset and leap flags (R99, R303). -/
def masterUtc (s : State) : State :=
  match s.time.ptp.master with
  | none => onPtp (fun p => { p with utcFromPtp := false, leapPending := 0 }) s
  | some (_, m) =>
    onPtp (fun p => { p with utcFromPtp := m.utcValid, utcOffset := if m.utcValid then m.utcOffset else p.utcOffset,
                             leapPending := if m.leap61 then 1 else if m.leap59 then -1 else 0 }) s

/-- Selects the best of the announced masters; losing the last one loses PTP as a source, while the lost master's traceability
still stands (R297). -/
def selectMaster (s : State) : State :=
  let m := bestOf s.time.ptp.foreign
  let s := if m.isNone && s.time.servo.source == .ptp then ptpLost s else s
  let same := (m.map fun x => (x.1, x.2.source)) == (s.time.ptp.master.map fun x => (x.1, x.2.source))
  let s := onPtp (fun p => { p with master := m, sync := if same then p.sync else none, t21 := if same then p.t21 else none,
                                    delayReq := if same then p.delayReq else none,
                                    delayWait := if same then p.delayWait else none }) s
  refreshTrace (masterUtc s)

/-- What a port that takes part in PTP does with it. -/
def ptpAnnounceAt (port : Nat) (m : Announce) (s : State) : State :=
  if !ptpEn s then s
  else if 127 < m.domain then (onPtp (fun p => { p with ptpFormat := p.ptpFormat + 1 }) s)
  else if m.domain != ptpDomain s || 2 ≤ port then s
  else
    (selectMaster (onPtp (fun p => { p with foreign := (p.foreign.filter fun x => !(x.1 == port && x.2.source == m.source)) ++ [(port, m)] }) s))

/-- PTP_ANNOUNCE: an Announce on a ring port in the module's domain feeds the best master algorithm. -/
def execPtpAnnounce (port : Nat) (m : Announce) (s : State) : Out := next (ptpRx port 11 (ptpAnnounceAt port m) s)

/-- ANNOUNCE_RECEIPT_TIMEOUT: the master has been silent for ANN_TIMEOUT intervals. -/
def execAnnounceReceiptTimeout (s : State) : Out :=
  match s.time.ptp.master with
  | none => next s
  | some (port, m) =>
    next (selectMaster (onPtp (fun p => { p with annTimeouts := p.annTimeouts + 1,
                                                 foreign := p.foreign.filter fun x => !(x.1 == port && x.2.source == m.source) }) s))

/-- The PTP settings in force have changed: masters of another domain, or all without PTP_EN, are forgotten. -/
def ptpSettingsChanged (s : State) : State :=
  let keep := fun x : Nat × Announce => ptpEn s && x.2.domain == ptpDomain s
  let f := s.time.ptp.foreign.filter keep
  if f.length == s.time.ptp.foreign.length then s else selectMaster (onPtp (fun p => { p with foreign := f }) s)

/-! The transmit timestamp queue (R302). -/

/-- One egress stamp enters the queue, or is discarded when 16 are held; at most one record a minute. Answers its identifier. -/
def enqueueStamp (port stamp : Nat) (s : State) : Option Nat × State :=
  let id := s.time.ptp.nextId
  let s := onPtp (fun p => { p with nextId := (p.nextId + 1) % 65536 }) s
  if s.time.ptp.txq.length < 16 then
    (some id, onPtp (fun p => { p with txq := p.txq ++ [{ id := id, port := port, stamp := stamp, cycle := s.time.cycle }] }) s)
  else
    let n := s.time.ptp.txqOverflowMinute + 1
    let due := s.time.ptp.txqMinuteMade.elim true fun c => 60 * cyclesPerSec ≤ s.time.cycle - c
    let s := onPtp (fun p => { p with txqOverflow := p.txqOverflow + 1, txqOverflowMinute := if due then 0 else n,
                                      txqMinuteMade := if due then some s.time.cycle else p.txqMinuteMade }) s
    (none, postIf due 0x0404 noSource (le32 n) s)

/-- Link delay that a Follow_Up of the profile adds for its ingress port (R300). -/
def ingressDelay (s : State) (port : Nat) : Nat := if ptpProfile s = 1 then tabGetD s.time.ptp.linkDelay port 0 else 0

/-- Residence time plus link delay of a transit leaving by a port. -/
def transitDelay (s : State) (t : SyncTransit) (egress : Nat) : Int := ((egress - t.ingress : Nat) : Int) + (ingressDelay s t.port : Int)

/-- The Follow_Ups of a transit that can be sent: its correction is known and the port's stamp is drained. -/
def sendFollowUps (k : Nat) (s : State) : State :=
  match s.time.ptp.transit[k]? with
  | none => s
  | some t =>
    match t.follow with
    | none => s
    | some c =>
      let s := t.egress.foldl (fun s e =>
        sendPtp e.1 pmFollowUp t.sequence (c + transitDelay s t e.2) (onPtp (fun p => { p with tcCorr := p.tcCorr + 1 }) s)) s
      onPtp (fun p => { p with transit := (listSet p.transit k { t with egress := [] }).filter fun t => !(t.awaited == [] && t.egress == [] && t.follow.isSome) }) s

/-- The transit that awaits an identifier. -/
def transitOf (s : State) (id : Nat) : Option Nat := s.time.ptp.transit.findIdx? fun t => t.awaited.any fun a => a.1 == id

/-- The module's own Delay_Req or Pdelay_Req that awaits an entry's stamp gets it, or is skipped where the stamp is discarded. -/
def ownStamp (e : TxStamp) (stamp : Option Nat) (s : State) : State :=
  let s := match s.time.ptp.delayWait with
    | some (seq, id) => if id == e.id then onPtp (fun p => { p with delayWait := none, delayReq := stamp.map fun t => (seq, t) }) s else s
    | none => s
  match tabGet s.time.ptp.pdelayWait e.port with
  | some (seq, id) =>
    if id == e.id then
      onPtp (fun p => { p with pdelayWait := tabErase p.pdelayWait e.port,
                               pdelay := stamp.elim p.pdelay fun t => tabSet p.pdelay e.port (t, seq) }) s
    else s
  | none => s

/-- TXQ_DRAIN: T0 takes the oldest entry, in identifier order. -/
def execTxqDrain (s : State) : Out :=
  match s.time.ptp.txq with
  | [] => next s
  | e :: rest =>
    let s := onPtp (fun p => { p with txq := rest }) s
    match transitOf s e.id with
    | none => next (ownStamp e (some e.stamp) s)
    | some k =>
      let put := fun t : SyncTransit => { t with awaited := t.awaited.filter (fun a => a.1 != e.id), egress := tabSet t.egress e.port e.stamp }
      next (sendFollowUps k (onPtp (fun p => { p with transit := listModify p.transit k put }) s))

/-- TXQ_STALE: the oldest entry has been held for 1 s; its Sync goes uncorrected by that
port, or the module's own measurement is skipped. -/
def execTxqStale (s : State) : Out :=
  match s.time.ptp.txq with
  | [] => next s
  | e :: rest =>
    if s.time.cycle - e.cycle < cyclesPerSec then next s
    else
      let s := onPtp (fun p => { p with txq := rest, txqStale := p.txqStale + 1 }) s
      match transitOf s e.id with
      | none => next (ownStamp e none s)
      | some k =>
        let drop := fun t : SyncTransit => { t with awaited := t.awaited.filter fun a => a.1 != e.id }
        next (onPtp (fun p => { p with transit := listModify p.transit k drop, tcLost := p.tcLost + 1 }) s)

/-! Messages (R300, R301). -/

/-- Takes a PTP message in the module's domain; others are left to the switch. -/
def ours (s : State) (m : PtpMsg) : Bool := ptpEn s && m.domain == ptpDomain s

def badDomain (s : State) (m : PtpMsg) : Bool := ptpEn s && 127 < m.domain

def ptpFormatError (s : State) : State := onPtp (fun p => { p with ptpFormat := p.ptpFormat + 1 }) s

/-- The message comes from the selected master by its port. -/
def fromMaster (s : State) (port : Nat) (m : PtpMsg) : Bool := s.time.ptp.master.elim false fun x => x.1 == port && x.2.source == m.source

/-- Path delay that completes a peer-to-peer measurement. -/
def peerDelay (s : State) (port : Nat) : Nat := tabGetD s.time.ptp.linkDelay port 0

/-- The Sync of the master is complete: `d` is its arrival less its corrected origin. Peer-to-peer measures at once; end-to-end keeps
it for the Delay_Resp. -/
def syncComplete (port at_ : Nat) (d : Int) (s : State) : State :=
  let s := onPtp (fun p => { p with t21 := some d }) s
  if ptpProfile s = 1 then
    let link := peerDelay s port
    measure .ptp (d - (link : Int)) at_ (onServo (fun v => { v with meanPath := link }) s)
  else s

/-- Forwards a Sync through the transparent clock: every other port's egress is queued for its stamp. The residence time in the
switch is a free value. -/
def forwardSync (port : Nat) (m : PtpMsg) (ingress : Nat) (s : State) : State :=
  let (k, s) := drawFree s
  let (ids, s) := (tcPorts s port).foldl (fun (acc : List (Nat × Nat) × State) q =>
    let s := sendPtp q pmSync m.sequence m.correction acc.2
    match enqueueStamp q (ingress + Config.freeNat k) s with
    | (some id, s) => (acc.1 ++ [(id, q)], s)
    | (none, s) => (acc.1, onPtp (fun p => { p with tcLost := p.tcLost + 1 }) s)) ([], s)
  let t : SyncTransit := { source := m.source, sequence := m.sequence, port := port, ingress := ingress, awaited := ids, egress := [],
                           follow := if m.twoStep then none else some m.correction }
  onPtp (fun p => { p with transit := lastN 64 (p.transit ++ [t]) }) s

/-- What a port that takes part in PTP does with it. -/
def ptpSyncAt (port : Nat) (m : PtpMsg) (s : State) : State :=
  if badDomain s m then (ptpFormatError s)
  else if !ours s m then s
  else
    match m.stamp with
    | .lost =>
      let s := onPtp (fun p => { p with tsLate := p.tsLate + 1 }) s
      (if ptpTc s then (tcPorts s port).foldl (fun s q => sendPtp q pmSync m.sequence m.correction s) (onPtp (fun p => { p with tcLost := p.tcLost + 1 }) s)
        else s)
    | .at ns =>
      let t2 := ((ns : Int) + asym s port).toNat
      let s := if ptpTc s then forwardSync port m t2 s else s
      if fromMaster s port m then
        let s := onPtp (fun p => { p with sync := some (port, m.sequence, t2, if m.twoStep then none else some (m.origin : Int), m.correction) }) s
        (if m.twoStep then s else syncComplete port t2 ((t2 : Int) - (m.origin : Int) - m.correction) s)
      else s

/-- PTP_SYNC: stamped by T0, forwarded by the transparent clock, and taken by the ordinary clock. -/
def execPtpSync (port : Nat) (m : PtpMsg) (s : State) : Out := next (ptpRx port pmSync (ptpSyncAt port m) s)

/-- What a port that takes part in PTP does with it. -/
def ptpFollowUpAt (port : Nat) (m : PtpMsg) (s : State) : State :=
  if badDomain s m then (ptpFormatError s)
  else if !ours s m then s
  else
    let s :=
      if ptpTc s then
        match s.time.ptp.transit.findIdx? fun t => t.source == m.source && t.sequence == m.sequence && t.port == port && t.follow.isNone with
        | some k => sendFollowUps k (onPtp (fun p => { p with transit := listModify p.transit k fun t => { t with follow := some m.correction } }) s)
        | none => s
      else s
    match s.time.ptp.sync with
    | some (q, seq, t2, none, c) =>
      if q == port && seq == m.sequence && fromMaster s port m then
        let s := onPtp (fun p => { p with sync := some (q, seq, t2, some (m.origin : Int), c + m.correction) }) s
        (syncComplete port t2 ((t2 : Int) - (m.origin : Int) - c - m.correction) s)
      else s
    | _ => s

/-- PTP_FOLLOW_UP: completes the master's Sync, and is corrected and forwarded for each egress port. -/
def execPtpFollowUp (port : Nat) (m : PtpMsg) (s : State) : Out := next (ptpRx port pmFollowUp (ptpFollowUpAt port m) s)

/-- A request of the module's own was queued with an identifier, but no stamp of it was taken in time (R301). -/
def stampLost (s : State) : State := onPtp (fun p => { p with tsLate := p.tsLate + 1, nextId := (p.nextId + 1) % 65536 }) s

/-- PTP_DELAY_REQ: the ordinary clock's own request leaves, and its egress stamp enters the queue. -/
def execPtpDelayReq (stamp : Stamp) (s : State) : Out :=
  match s.time.ptp.master with
  | none => next s
  | some (port, _) =>
    if !ptpEn s || ptpProfile s ≠ 0 || !forwarding s port || !portPtp s port then next s
    else
      let seq := s.time.ptp.delaySeq
      let s := sendPtp port pmDelayReq seq 0 (onPtp (fun p => { p with delaySeq := (p.delaySeq + 1) % 65536 }) s)
      match stamp with
      | .at ns =>
        let q := enqueueStamp port ns s
        next (onPtp (fun p => { p with delayReq := none, delayWait := q.1.map fun id => (seq, id) }) q.2)
      | .lost => next (onPtp (fun p => { p with delayReq := none, delayWait := none }) (stampLost s))

/-- What a port that takes part in PTP does with it. -/
def ptpDelayRespAt (port : Nat) (m : PtpMsg) (s : State) : State :=
  if badDomain s m then (ptpFormatError s)
  else if !ours s m then s
  else
    match s.time.ptp.reqTransit.find? fun r => r.1 == m.requester && r.2.1 == m.sequence with
    | some r =>
      let s := onPtp (fun p => { p with reqTransit := p.reqTransit.erase r, tcCorr := p.tcCorr + 1 }) s
      ((tcPorts s port).foldl (fun s q => sendPtp q pmDelayResp m.sequence (m.correction + (r.2.2 : Int)) s) s)
    | none =>
      match s.time.ptp.delayReq, s.time.ptp.t21, s.time.ptp.sync with
      | some (seq, t3), some d, some (_, _, t2, _, _) =>
        if seq == m.sequence && fromMaster s port m then
          let back : Int := (m.origin : Int) - (t3 : Int) - m.correction
          let s := onPtp (fun p => { p with delayReq := none }) s
          let s := onServo (fun v => { v with meanPath := (tdiv (d + back) 2).toNat }) s
          (measure .ptp (tdiv (d - back) 2) t2 s)
        else s
      | _, _, _ => s

/-- PTP_DELAY_RESP: the master's answer to the module's own request completes a measurement; another requester's is forwarded with the
residence time of its request. -/
def execPtpDelayResp (port : Nat) (m : PtpMsg) (s : State) : Out := next (ptpRx port pmDelayResp (ptpDelayRespAt port m) s)

/-- PTP_PDELAY_REQ: every second each port sends Pdelay_Req under POWER_UTILITY. -/
def execPtpPdelayReq (port : Nat) (stamp : Stamp) (s : State) : Out :=
  if !ptpEn s || ptpProfile s ≠ 1 || 6 ≤ port || !forwarding s port || !portPtp s port then next s
  else
    let seq := s.time.ptp.pdelaySeq
    let s := sendPtp port pmPdelayReq seq 0 (onPtp (fun p => { p with pdelaySeq := (p.pdelaySeq + 1) % 65536 }) s)
    match stamp with
    | .at ns =>
      let q := enqueueStamp port ns s
      next (onPtp (fun p => { p with pdelay := tabErase p.pdelay port,
                                     pdelayWait := q.1.elim (tabErase p.pdelayWait port) fun id => tabSet p.pdelayWait port (seq, id) }) q.2)
    | .lost => next (onPtp (fun p => { p with pdelay := tabErase p.pdelay port, pdelayWait := tabErase p.pdelayWait port }) (stampLost s))

/-- What a port that takes part in PTP does with it. -/
def ptpPdelayReqRxAt (port : Nat) (m : PtpMsg) (s : State) : State :=
  if badDomain s m then (ptpFormatError s)
  else if !ours s m || ptpProfile s ≠ 1 then s
  else
    match m.stamp with
    | .lost => (onPtp (fun p => { p with tsLate := p.tsLate + 1 }) s)
    | .at _ =>
      let (k, s) := drawFree s
      (sendPtp port pmPdelayResp m.sequence (m.correction + (Config.freeNat k : Int)) s)

/-- PTP_PDELAY_REQ_RX: the port answers, carrying the free turnaround time of its own stamps. -/
def execPtpPdelayReqRx (port : Nat) (m : PtpMsg) (s : State) : Out := next (ptpRx port pmPdelayReq (ptpPdelayReqRxAt port m) s)

/-- What a port that takes part in PTP does with it. -/
def ptpPdelayRespAt (port : Nat) (m : PtpMsg) (s : State) : State :=
  if badDomain s m then (ptpFormatError s)
  else if !ours s m || ptpProfile s ≠ 1 then s
  else
    match m.stamp, tabGet s.time.ptp.pdelay port with
    | .lost, _ => (onPtp (fun p => { p with tsLate := p.tsLate + 1 }) s)
    | .at t4, some (t1, seq) =>
      if seq == m.sequence then
        let d := tdiv ((t4 : Int) + asym s port - (t1 : Int) - m.correction) 2
        (onPtp (fun p => { p with linkDelay := tabSet p.linkDelay port d.toNat, pdelay := tabErase p.pdelay port }) s)
      else s
    | .at _, none => s

/-- PTP_PDELAY_RESP: the answer completes the port's link delay; its correction carries the peer's turnaround. -/
def execPtpPdelayResp (port : Nat) (m : PtpMsg) (s : State) : Out := next (ptpRx port pmPdelayResp (ptpPdelayRespAt port m) s)

/-! Leap seconds (R303). -/

/-- LEAP_SECOND: UTC passes the end of its day. -/
def execLeapSecond (s : State) : Out :=
  let d := s.time.ptp.leapPending
  if d ≠ 0 ∧ utcFromPtp s = true then
    let s := onPtp (fun p => { p with utcOffset := p.utcOffset + d, leapPending := 0 }) s
    next (post 0x0407 noSource (leS16 s.time.ptp.utcOffset ++ leS8 d) (onRtc (sodAdjust (-d)) s))
  else next s

end Sys2Proof.Machine
end

