-- ==== Sys2Proof/Machine/TimCmd.lean ====
section
/-! DEFINITION. The TIM commands (Table 12.6). -/

namespace Sys2Proof.Machine

def timGet (opcode : Nat) (f : State → Bytes) : CmdSpec where
  opcode := opcode
  needs := rTimeRead
  check _ p _ := emptyPayload p
  run _ _ s := (s, ok (f s))

def timSet (opcode id : Nat) (check : Bytes → Chk) : CmdSpec where
  opcode := opcode
  needs := rTimeWrite
  check _ p s := andThen (check p) (settingsRoom p s)
  onAccept := settingAccepted
  run _ c s := writeSetting id 0 c.payload effectAfterCommit false c s

def servoCode : ServoState → Nat
  | .freerun => 0 | .acquiring => 1 | .locked => 2 | .holdover => 3

def timStatus : CmdSpec := timGet 0x0601 fun s =>
  let v := s.time.servo
  let gm := (s.time.ptp.master.map fun m => m.2)
  le8 (servoCode v.state) ++ le8 (sourceCode v.source) ++
    le8 (bitN v.traceable 0 + bitN s.time.refFault 1 + bitN (utcFromPtp s) 2 + bitN s.time.pps.inLost 3) ++ le8 0 ++ le64 (taiSec s) ++
    le32 (taiNs s % 1000000000) ++ leS32 (satS 32 v.lastOffset) ++ leS64 v.y ++ le32 v.meanPath ++ le32 (holdoverSec s) ++
    (gm.elim (zeros 8) fun m => fit 8 m.grandmaster) ++ le16 (gm.elim 0 (·.steps)) ++ leS16 (taiUtc s)
def execTimStatus (op : CmdStep) (s : State) : Out := next (mailboxCommand timStatus op s)

/-- Table 12.7's ranges. -/
def ptpOk (p : Bytes) : Bool :=
  u8At p 0 ≤ 1 && u8At p 1 ≤ 127 && u8At p 2 ≤ (if u8At p 0 = 1 then 0 else 2) && u8At p 3 ≤ 3 && decide (-4 ≤ s8At p 4 ∧ s8At p 4 ≤ 5) &&
    2 ≤ u8At p 5 && u8At p 5 ≤ 10 && 10 ≤ u32At p 8 && u32At p 8 ≤ 1000000 && allZero (slice p 24 8)

def timPtpSet : CmdSpec := timSet 0x0602 secPtp fun p => checks [lenIs p 32, need (ptpOk p) stBadPayload]
def execTimPtpSet (op : CmdStep) (s : State) : Out := next (mailboxCommand timPtpSet op s)

def timPtpRead : CmdSpec := timGet 0x0603 fun s => slice (sect s secPtp) 0 32
def execTimPtpRead (op : CmdStep) (s : State) : Out := next (mailboxCommand timPtpRead op s)

/-- R296, R317: refused while LOCKED or in HOLDOVER. -/
def timeSetOpen (s : State) : Bool := s.time.servo.state != .locked && s.time.servo.state != .holdover

def timTimeSet : CmdSpec where
  opcode := 0x0604
  needs := rTimeWrite
  check _ p s := checks [lenIs p 16, need (u32At p 8 ≤ 999999999 && u8At p 12 ≤ 1 && allZero (slice p 13 3)) stBadPayload, need (timeSetOpen s) stConflict]
  run _ c s :=
    if timeSetOpen s then
      let d : Int := ((u64At c.payload 0 * 1000000000 + u32At c.payload 8 : Nat) : Int) - (taiNs s : Int)
      let t := onServo (fun v => { v with secondsBy := if bit (u8At c.payload 12) 0 then .timeSet else .neither }) (stepTime d 1 s)
      (refreshTrace t, did s (leS64 d))
    else (s, .done stConflict [])
def execTimTimeSet (op : CmdStep) (s : State) : Out := next (mailboxCommand timTimeSet op s)

def timRtcRead : CmdSpec := timGet 0x0605 fun s =>
  let r := s.rtc
  le64 r.tick ++ le32 r.sod ++ le8 r.wday ++ le8 (bitN r.lost 0 + bitN r.batlow 1 + bitN r.onBackup 2 + bitN (r.shiftTotal != 0) 3) ++
    le16 r.backupMv ++ leS16 r.shiftLeft
def execTimRtcRead (op : CmdStep) (s : State) : Out := next (mailboxCommand timRtcRead op s)

/-- TICK and SOD are closed to TIM_RTC_SET while the time base is traceable (R310). -/
def rtcSetOpen (p : Bytes) (s : State) : Bool := !(s.time.servo.traceable && u8At p 13 % 4 != 0)

def timRtcSet : CmdSpec where
  opcode := 0x0606
  needs := rTimeWrite
  check _ p s := checks [lenIs p 16, reserved p 14 2,
    need (u64At p 0 < tickSpan && u32At p 8 ≤ 86399 && u8At p 12 ≤ 6 && 1 ≤ u8At p 13 && u8At p 13 ≤ 7) stBadPayload, need (rtcSetOpen p s) stConflict]
  run _ c s :=
    let p := c.payload
    let w := u8At p 13
    if rtcSetOpen p s then
      let l : RtcLoad := { tick := if bit w 0 then some (u64At p 0) else none, sod := if bit w 1 then some (u32At p 8) else none,
                           wday := if bit w 2 then some (u8At p 12) else none, align := false }
      (onRtc (fun r => { r with load := some l }) s, did s (le64 (if bit w 0 then u64At p 0 else (s.rtc.tick + 1) % tickSpan)))
    else (s, .done stConflict [])
def execTimRtcSet (op : CmdStep) (s : State) : Out := next (mailboxCommand timRtcSet op s)

def timRtcShift : CmdSpec where
  opcode := 0x0607
  needs := rTimeWrite
  check _ p s := checks [lenIs p 4, reserved p 2 2, need (s16At p 0 != 0 && s16At p 0 != -32768) stBadPayload, need (s.rtc.shiftTotal == 0) stConflict]
  run _ c s := if s.rtc.shiftTotal = 0 then (startShift (s16At c.payload 0) s, did s []) else (s, .done stConflict [])
def execTimRtcShift (op : CmdStep) (s : State) : Out := next (mailboxCommand timRtcShift op s)

def timAlarmSet : CmdSpec where
  opcode := 0x0608
  needs := rTimeWrite
  check _ p _ := checks [lenIs p 12, need (u8At p 0 ≤ 1 && u8At p 1 ≤ 3 && u8At p 2 ≤ 63 && u8At p 3 ≤ 6 && u64At p 4 < tickSpan) stBadPayload]
  run _ c s :=
    let p := c.payload
    (onAlarm (u8At p 0) (fun a => { a with en := bit (u8At p 1) 0, oneShot := bit (u8At p 1) 1, mask := u8At p 2, wday := u8At p 3,
                                           compare := u64At p 4, inRun := false }) s, did s [])
def execTimAlarmSet (op : CmdStep) (s : State) : Out := next (mailboxCommand timAlarmSet op s)

def alarmSetting (k : Nat) (a : Alarm) : Bytes := le8 k ++ le8 (bitN a.en 0 + bitN a.oneShot 1) ++ le8 a.mask ++ le8 a.wday ++ le64 a.compare

def timAlarmRead : CmdSpec where
  opcode := 0x0609
  needs := rTimeRead
  check _ p _ := checks [lenIs p 4, reserved p 1 3, need (u8At p 0 ≤ 1) stBadPayload]
  run _ c s :=
    let k := u8At c.payload 0
    let a := alarm s k
    (s, ok (alarmSetting k a ++ le16 a.count ++ le8 (alarmFlags a) ++ le8 0))
def execTimAlarmRead (op : CmdStep) (s : State) : Out := next (mailboxCommand timAlarmRead op s)

def timAlarmAck : CmdSpec where
  opcode := 0x060A
  needs := rTimeWrite
  check _ p _ := checks [lenIs p 4, reserved p 2 2, need (u8At p 0 ≤ 1 && u8At p 1 ≤ 31) stBadPayload]
  run _ c s := (onAlarm (u8At c.payload 0) (clearAlarmFlags (u8At c.payload 1)) s, did s [])
def execTimAlarmAck (op : CmdStep) (s : State) : Out := next (mailboxCommand timAlarmAck op s)

def timPpsSet : CmdSpec := timSet 0x060B secPps fun p => checks [lenIs p 8, reserved p 6 2,
  need (u8At p 0 ≤ 3 && u8At p 1 ≤ 15 && 1 ≤ u16At p 2 && u16At p 2 ≤ 500) stBadPayload]
def execTimPpsSet (op : CmdStep) (s : State) : Out := next (mailboxCommand timPpsSet op s)

def timPpsRead : CmdSpec := timGet 0x060C fun s => slice (sect s secPps) 0 8 ++ leW s.time.pps.accepted ++ leW s.time.pps.reject
def execTimPpsRead (op : CmdStep) (s : State) : Out := next (mailboxCommand timPpsRead op s)

def timBackupSet : CmdSpec := timSet 0x060D secCharger fun p => checks [lenIs p 4, reserved p 1 3, need (u8At p 0 ≤ 4) stBadPayload]
def execTimBackupSet (op : CmdStep) (s : State) : Out := next (mailboxCommand timBackupSet op s)

end Sys2Proof.Machine
end

