-- ==== Sys2Proof/Machine/Settings.lean ====
section
/-! DEFINITION. The working and stored settings: due changes at a boundary (R120, R349), SYS_STORE, SYS_REVERT and SYS_FACTORY
(R357–R359, R409–R411), and profiles at a beacon Stitch (R184). -/

namespace Sys2Proof.Machine

def onSettings (f : Settings → Settings) (s : State) : State := { s with set := f s.set }

/-! The stored copy. -/

/-- The copy in force: valid, under the stored generation. -/
def copyInForce (x : Settings) : Option SettingsCopy := x.copies.find? fun c => c.valid && c.storedGen == x.storedGen
/-- The stored settings; factory values while no copy is valid (R411). -/
def storedSections (s : State) : Tab Bytes := (copyInForce s.set).elim factorySettings (·.sections)

/-- Factory values for every section but the metrology class, which keeps what it has (R359). -/
def factoryOver (t : Tab Bytes) : Tab Bytes :=
  factorySettings.map fun e => if e.1 = secCal ∨ e.1 = secDfc then (e.1, tabGetD t e.1 e.2) else e

/-- One settings change applied to a copy (R358, R409). -/
def applySetting (stored t : Tab Bytes) : Change → Tab Bytes
  | .settings id off data => writeSect t id off data
  | .late id data => tabSet t id data
  | .revert _ => stored
  | .factory _ => factoryOver t
  | .network words => words.foldl (fun t e => writeSect t e.1 e.2.1 e.2.2) t
  | _ => t

/-- An unretired write has had its effect: it has executed and is not waiting for a boundary. -/
def effected (s : State) (u : U32 × Option Change × Nat) : Bool := u.2.1.isSome && s.set.due.all fun d => d.seq != u.1

/-- The working generation once every write accepted up to a command has taken effect. -/
def genAfter (s : State) (seq : U32) : U32 :=
  s.set.workGen + BitVec.ofNat 32 (s.set.unretired.filter fun u => serialAtOrBefore u.1 seq && !effected s u).length

/-! What a section's new value does beside being read. -/

/-- A section of the working copy has a new value; `old` is the one before. -/
def sectionEffect (id mailbox : Nat) (old : Bytes) (s : State) : State :=
  if id = secSite ∨ id = secTz then scheduleRules id mailbox s
  else if id = secChain then chainRateChanged (u8At old 0) s
  else if id = secAir then airSettingsChanged old s
  else if id = secFailsafe then failsafeFrames s
  else if id = secPtp then refreshTrace (ptpSettingsChanged s)
  else if id = secPps then
    if s.time.servo.source == .pps && !(ppsInEn s && ppsUse s) then sourceLost s else refreshTrace s
  else if id = secLog then fullCheck (post 0x0A04 noSource (le8 (u8At old 0) ++ le8 (setU8 s secLog 0) ++ le16 (logRate s)) s)
  else if id = secPorts ∨ id = secVlan ∨ id = secRing ∨ id = secHost then networkEffect id old s
  else if id = secPanel then post 0x0943 mailbox (le8 (u8At old 0) ++ le8 (lockMode s) ++ le8 (usbMode s)) (panelSettings s)
  else s

/-- The sections that a beacon Stitch alone may change (R184, R241). -/
def beaconSections : List Nat := [secRegion, secAir, secFailsafe]

/-- The whole working copy is replaced (R359). Beacon sections that differ wait for their Stitch. -/
def replaceWorking (mailbox : Nat) (seq : U32) (new : Tab Bytes) (s : State) : State :=
  let old := s.set.working
  let kept := new.map fun e => if beaconSections.contains e.1 then (e.1, tabGetD old e.1 e.2) else e
  let late := (new.filter fun e => beaconSections.contains e.1 && tabGetD old e.1 [] != e.2).map fun e =>
    ({ mailbox := mailbox, seq := seq, stitch := beaconFrom (nextStitch s), beacon := true, change := .late e.1 e.2 } : Due)
  let s := onSettings (fun x => { x with working := kept, workGen := x.workGen + 1, due := x.due ++ late }) s
  (kept.filter fun e => tabGetD old e.1 [] != e.2).foldl (fun s e => sectionEffect e.1 mailbox (tabGetD old e.1 []) s) s

/-- SETTINGS_REVERTED (Table 17.8). -/
def revertedRecord (mailbox kind : Nat) (s : State) : State := post 0x014A mailbox (le8 kind ++ leW s.set.workGen) s

/-! Due changes. -/

/-- The write's change stands in the unretired writes as it took effect, for the STORE that captures it. -/
def noteChange (seq : U32) (ch : Change) (s : State) : State :=
  onSettings (fun x => { x with unretired := x.unretired.map fun u => if u.1 == seq then (u.1, some ch, u.2.2) else u }) s

/-- One change takes effect. -/
def applyDue (d : Due) (s : State) : State :=
  match d.change with
  | .settings id off data =>
    let old := sect s id
    sectionEffect id d.mailbox old (writeWorking id off data s)
  | .late id data =>
    let old := sect s id
    sectionEffect id d.mailbox old (onSettings (fun x => { x with working := tabSet x.working id data }) s)
  | .revert _ =>
    let gone := (s.set.unretired.filter fun u => u.1 != d.seq && serialBefore u.1 d.seq && effected s u).map (·.1)
    let s := replaceWorking d.mailbox d.seq (storedSections s) s
    let s := onSettings (fun x => { x with unretired := x.unretired.filter fun u => !gone.contains u.1 }) s
    revertedRecord d.mailbox 0 (gone.foldl (fun s q => retire q s) s)
  | .factory _ => revertedRecord d.mailbox 1 (replaceWorking d.mailbox d.seq (factoryOver s.set.working) s)
  | .keyWrite slot key check => retire d.seq (keyTo slot (some key) check s)
  | .keyClear slot => retire d.seq (keyTo slot none (zeros 3) s)
  | .panelPin digits =>
    let (k, s) := drawFree s
    let new := pinBytes (sect s secPanel) digits (Config.random k 16)
    let s := noteChange d.seq (.settings secPanel 0 new) (writeWorking secPanel 0 new s)
    post 0x0944 d.mailbox (le8 (if digits = [] then 1 else 0)) (panelSettings s)
  | .network words => stageWords words (onSettings (fun x => { x with workGen := x.workGen + 1 }) s)

/-- A due change whose Stitch has come. -/
def dueNow (s : State) (d : Due) : Bool := serialAtOrBefore d.stitch s.stitch.number

/-- Due changes in acceptance order. -/
def inOrder (l : List Due) : List Due := sortBy (fun a b => !serialBefore b.seq a.seq) l

/-- R120, R349: at step 3 of a boundary the changes whose Stitch has come take effect in acceptance order; those of a beacon Stitch
follow with PROFILE_TAKE_EFFECT. -/
def dueSettings (s : State) : State :=
  let now := s.set.due.filter fun d => !d.beacon && dueNow s d
  let s := onSettings (fun x => { x with due := x.due.filter fun d => !(!d.beacon && dueNow s d) }) s
  networkBoundary ((inOrder now).foldl (fun s d => applyDue d s) s)

/-! STORE (R358, R410). -/

/-- Every settings write accepted before the STORE has taken effect. -/
def storeReady (s : State) (x : Store) : Bool := s.set.unretired.all fun u => !serialBefore u.1 x.seq || effected s u

/-- The working copy as the writes accepted before the STORE leave it. -/
def captureOf (s : State) (seq : U32) : Tab Bytes :=
  let stored := storedSections s
  (s.set.unretired.filter fun u => serialBefore u.1 seq).foldl (fun t u => u.2.1.elim t (applySetting stored t)) stored

/-- The writes in effect that the STORE does not capture. -/
def laterWrites (s : State) (seq : U32) : Nat := (s.set.unretired.filter fun u => !serialBefore u.1 seq && effected s u).length

/-- A STORE that fails its commit (R410, R352). -/
def storeFailed (x : Store) (s : State) : State :=
  let s := onSettings (fun t => { t with stores := t.stores.filter fun y => y.seq != x.seq }) s
  let s := post 0x0148 x.mailbox (leW (s.set.storedGen + 1)) s
  freeTask (.mailbox x.mailbox) (completeWith x.mailbox x.seq (.done stStorageFault []) s)

/-- One STORE meets the boundary: it captures its copy, or fails with one bank left. -/
def captureOne (s : State) (x : Store) : State :=
  if x.captured.isSome || !storeReady s x then s
  else if s.jnl.single then storeFailed x s
  else
    let y := { x with captured := some (captureOf s x.seq), generation := s.set.workGen - BitVec.ofNat 32 (laterWrites s x.seq), stitch := s.stitch.number }
    onSettings (fun t => { t with stores := t.stores.map fun z => if z.seq == x.seq then y else z }) s

def captureStores (s : State) : State := s.set.stores.foldl captureOne s

/-- R410: the copy without a valid record, else the one whose stored generation is older. -/
def storeTarget (x : Settings) : Nat :=
  let a := x.copies.getD 0 default
  let b := x.copies.getD 1 default
  if !a.valid then 0 else if !b.valid then 1 else if serialBefore a.storedGen b.storedGen then 0 else 1

/-- R38: a stored new period waits for the first whole TAI second at least 2 s after its STORE. -/
def storedPeriod (old new : Tab Bytes) (s : State) : State :=
  let p := u16At (tabGetD new secStitch []) 0
  if p == u16At (tabGetD old secStitch []) 0 then s
  else { s with stitch := { s.stitch with newPeriod := if p = s.stitch.period then none else some (p, (taiNs s + 2999999999) / 1000000000) } }

/-- SETTINGS_STORE_VERIFIED: the captured copy at the head of the queue is in force, or its STORE has failed. -/
def execSettingsStoreVerified (good : Bool) (s : State) : Out :=
  match s.set.stores with
  | [] => next s
  | x :: _ =>
    match x.captured with
    | none => next s
    | some t =>
      if !good then next (storeFailed x s)
      else
        let gen := s.set.storedGen + 1
        let k := storeTarget s.set
        let old := storedSections s
        let took := (s.set.unretired.filter fun u => serialBefore u.1 x.seq).map (·.1)
        let s := onSettings (fun y => { y with
          copies := listModify y.copies k fun c => { c with valid := true, storedGen := gen, workGen := x.generation, sections := t }
          storedGen := gen, lastCopy := k, stores := y.stores.filter (fun z => z.seq != x.seq)
          unretired := y.unretired.filter fun u => !took.contains u.1 }) s
        let s := took.foldl (fun s q => retire q s) s
        let s := storedPeriod old t (post 0x0147 x.mailbox (leW gen ++ leW x.generation) s)
        next (freeTask (.mailbox x.mailbox) (completeWith x.mailbox x.seq (.effect x.stitch (leW gen ++ leW x.stitch)) s))

/-- PROFILE_TAKE_EFFECT: the region profile and Air settings of this beacon Stitch take effect in acceptance order, the Shuttles
retune under their limits, and a STORE that waited for them captures. -/
def execProfileTakeEffect (s : State) : Out :=
  let now := s.set.due.filter fun d => d.beacon && dueNow s d
  let s := onSettings (fun x => { x with due := x.due.filter fun d => !(d.beacon && dueNow s d) }) s
  next (captureStores ((upTo 4).foldl (fun t k => dutyUpdate k t) ((inOrder now).foldl (fun s d => applyDue d s) s)))

/-! SYS settings commands. -/

/-- R32's periods. -/
def periodOk (p : Nat) : Bool := [10, 20, 25, 40, 50].contains p

/-- Serial form of a settings copy, as its record holds the sections (R408). -/
def settingsImage (t : Tab Bytes) : Bytes := t.flatMap fun e => le16 e.1 ++ le16 0 ++ le32 e.2.length ++ padTo 4 e.2

def dirty (s : State) : Bool := s.set.working != storedSections s

def sysSettingsDigest : CmdSpec where
  opcode := 0x0106
  needs := rSysRead
  check _ p _ := lenIs p 0
  run _ _ s := (s, ok (leW s.set.workGen ++ leW s.set.storedGen ++ le32 (crc32c (settingsImage s.set.working)) ++
    le32 (crc32c (settingsImage (storedSections s))) ++ le8 (bitN (dirty s) 0 + bitN (s.set.stores != []) 1) ++
    le8 (periodCode (setU16 s secStitch 0)) ++ le16 0))
def execSysSettingsDigest (op : CmdStep) (s : State) : Out := next (mailboxCommand sysSettingsDigest op s)

def sysInputSet : CmdSpec where
  opcode := 0x0107
  needs := rSysControl
  check _ p s := checks [lenIs p 8, need (p.all fun b => b.toNat ≤ 1) stBadPayload, settingsRoom p s]
  onAccept := settingAccepted
  run _ c s := writeSetting secStitch 4 c.payload effectAfterCommit false c s
def execSysInputSet (op : CmdStep) (s : State) : Out := next (mailboxCommand sysInputSet op s)

def sysStitchSet : CmdSpec where
  opcode := 0x0108
  needs := rSysControl
  check _ p s := checks [lenIs p 4, reserved p 2 2, need (periodOk (u16At p 0)) stBadPayload, settingsRoom p s]
  onAccept := settingAccepted
  run _ c s :=
    let gen := genAfter s c.seq
    let n := effectAfterCommit c s
    (dueChange c n false (.settings secStitch 0 (slice c.payload 0 2)) s, .effect n (leW gen))
def execSysStitchSet (op : CmdStep) (s : State) : Out := next (mailboxCommand sysStitchSet op s)

def sysStore : CmdSpec where
  opcode := 0x010A
  needs := rStore
  check _ p s := checks [lenIs p 4, need (u32At p 0 == 0 || u32At p 0 == s.set.projGen.toNat) stConflict]
  run m c s := (onSettings (fun x => { x with stores := x.stores ++ [{ mailbox := m, seq := c.seq, captured := none, generation := 0, stitch := 0 }] }) s, .waits)
def execSysStore (op : CmdStep) (s : State) : Out := next (mailboxCommand sysStore op s)

/-- A revert or factory reset enters the projected generation; it takes no settings log space of R409. -/
def revertAccepted (_ : Nat) (seq : U32) (_ : Bytes) (s : State) : State :=
  onSettings (fun x => { x with projGen := x.projGen + 1, unretired := x.unretired ++ [(seq, none, 0)] }) s

def revertRun (ch : U32 → Change) (c : Cmd) (s : State) : State × CmdOutcome :=
  let gen := genAfter s c.seq
  let n := effectAfterCommit c s
  (dueChange c n false (ch gen) s, .effect n (leW gen ++ leW n))

def sysRevert : CmdSpec where
  opcode := 0x010B
  needs := rStore
  check _ p _ := lenIs p 0
  onAccept := revertAccepted
  run _ c s := revertRun .revert c s
def execSysRevert (op : CmdStep) (s : State) : Out := next (mailboxCommand sysRevert op s)

def sysFactory : CmdSpec where
  opcode := 0x010C
  needs := .root
  check _ p _ := lenIs p 0
  onAccept := revertAccepted
  run _ c s := revertRun .factory c s
def execSysFactory (op : CmdStep) (s : State) : Out := next (mailboxCommand sysFactory op s)

end Sys2Proof.Machine
end

