-- ==== Sys2Proof/Machine/Commit.lean ====
section
/-! DEFINITION. What a journal commit does once it is complete (R26, R326–R332, R364–R370), for every kind of entry. -/

namespace Sys2Proof.Machine

def onJnl (f : Journal → Journal) (s : State) : State := { s with jnl := f s.jnl }

/-! Commands. -/

/-- A command's COMMAND entry is committed at Stitch `n`: it is accepted (R326), its tag is in the ring (R329). -/
def commandCommitted (m : Nat) (seq n : U32) (s : State) : State :=
  let mark := fun c : Cmd => if c.seq == seq then { c with phase := if c.phase == .batched then .waiting else c.phase, accepted := n } else c
  let tag := fun t : TagEntry => if t.seq == seq then { t with committed := true, stitch := n } else t
  let s := onBox m (fun b => { b with cmds := b.cmds.map mark, tags := lastN 256 (b.tags.map tag), lastAccepted := seq }) s
  { s with mbx := { s.mbx with lastAcceptedAny := seq }, tab := { s.tab with ended := s.tab.ended.filter fun e => e.1 != seq } }

/-- A copy that the command writes is still to be read back and verified (R93, R341, R358, R364, R409). -/
def copyOutstanding (s : State) (seq : U32) : Bool :=
  (s.sys.bankOk.getD 0 true && (s.tab.unpersisted.any fun e => e.1 == seq)) || (s.tab.changes.any fun c => c.seq == seq) ||
    (s.tab.batch.any fun b => b.staged.any fun e => e.1 == seq) || (s.set.unretired.any fun u => u.1 == seq) ||
    s.set.due.any fun d => d.seq == seq

/-- The EFFECT or DONE entry of a command is committed: it is complete, and retires unless a copy is outstanding. -/
def commandCompleted (seq : U32) (s : State) : State :=
  let done := fun c : Cmd => if c.seq == seq && c.phase == .finishing then { c with phase := .held } else c
  let boxes := s.mbx.boxes.map fun b : Mailbox => { b with cmds := b.cmds.map done }
  let ground := s.tab.groundDue.map fun d : GroundDue => if d.seq == seq then { d with committed := true } else d
  let applied := s.tab.applied.filter fun c => c.seq != seq
  let s := { s with mbx := { s.mbx with boxes := boxes }, tab := { s.tab with applied := applied, groundDue := ground } }
  if copyOutstanding s seq then s else retire seq s

/-! Pin commands (R27, R161, R162, R364). -/

/-- A Pin command's entry is committed; the frames of R224 are accepted already. -/
def pinCommitted (p : Nat) (n : U32) (e : JEntry) (s : State) : State :=
  let s := pinAccepted p n e s
  if u8At e.body 0 = 0 then onJnl (fun j => { j with seqTable := tabSet j.seqTable p (u8At e.body 2) }) s else s

/-! Entries. -/

/-- One entry of a completed commit at Stitch `n`. Commands pass through Skein 29, results through 30, as journal entries (Table 3.1; DESIGN
CHOICE: the layout). -/
def entryCommitted (n : U32) (s : State) (e : JEntry) : State :=
  if e.kind = jkCommand then throughSkein 29 (entryImage e) (commandCommitted e.source e.seq n s)
  else if e.kind = jkPinCmd then pinCommitted e.source n e s
  else if e.kind = jkEffect ∨ e.kind = jkDone then throughSkein 30 (entryImage e) (commandCompleted e.seq s)
  else if e.kind = jkOutcome then retire e.seq s
  else meterAccepted s e

/-- The commands of a batch that the commit itself completes, in journal order (R368). -/
def sealedCommands (s : State) (l : List JEntry) : List Cmd :=
  l.filterMap fun e =>
    if e.kind == jkCommand then (box s e.source).cmds.find? fun c => c.seq == e.seq && sealedOpcode c.opcode && c.phase == .held else none

/-- What the entries of a commit do to the accepted work and the state. -/
def commitEntries (b : Batch) (n : U32) (s : State) : State :=
  let s := b.entries.foldl (entryCommitted n) (onJnl (appendLog b.entries) s)
  onJnl (fun j => spaceHolds (relocateIfLow j)) s

/-! Results (R331, R332). -/

/-- Bytes that all mailboxes' long results take. -/
def longResults (s : State) : Nat :=
  (s.mbx.boxes.flatMap fun b => b.slots.map fun r => if 256 < r.result.length && !r.lost then r.result.length else 0).sum

/-- The oldest long result still held, by its order of production. -/
def oldestLong (s : State) : Option Nat :=
  minNat (s.mbx.boxes.flatMap fun b => (b.slots.filter fun r => 256 < r.result.length && !r.lost).map (·.no))

/-- R332: while long results exceed 64 MB, the oldest is cut to its status. -/
def cutLong : Nat → State → State
  | 0, s => s
  | fuel + 1, s =>
    if longResults s ≤ 67108864 then s
    else
      match oldestLong s with
      | none => s
      | some k =>
        let cut := fun r : Slot => if r.no == k then { r with result := [], lost := true } else r
        let boxes := s.mbx.boxes.map fun b : Mailbox => { b with slots := b.slots.map cut }
        cutLong fuel { s with mbx := { s.mbx with boxes := boxes } }

/-- The RESULT of a completed command is produced: kept in its slot, its place freed, and pushed under PUSH. -/
def produceResult (m : Nat) (c : Cmd) (s : State) : State :=
  let r : Slot := { seq := c.seq, opcode := c.opcode, tag := c.tag, status := c.status, result := c.result, lost := c.lost, copied := false,
                    no := s.mbx.resultNo }
  let b := box s m
  let gone := (b.slots.take (b.slots.length - 255)).map (·.seq)
  let s := onBox m (fun b => { b with cmds := b.cmds.filter (fun k => k.seq != c.seq), slots := lastN 256 (b.slots ++ [r]), released := b.released ++ gone }) s
  let s := { s with mbx := { s.mbx with resultNo := s.mbx.resultNo + 1 } }
  let s := onJnl (fun j => { j with log := releaseLog (fun e => (e.kind == jkEffect || e.kind == jkDone) && gone.contains e.seq) j.log }) s
  let s := cutLong (16 * 256) s
  if !c.push then s
  else if c.lost then send m kResult false c.opcode c.seq c.tag stResultLost (le16 c.status ++ le16 0) s
  else send m kResult false c.opcode c.seq c.tag c.status c.result s

/-- The RESULTs of a mailbox, in acceptance order, up to the first command not complete. -/
def produceResults (m : Nat) : Nat → State → State
  | 0, s => s
  | fuel + 1, s =>
    match (box s m).cmds with
    | c :: _ => if c.phase == .held then produceResults m fuel (produceResult m c s) else s
    | [] => s

def flushAll (s : State) : State := (upTo 16).foldl (fun t m => flushAnswers m (box t m).answers.length t) s
def resultsAll (s : State) : State := (upTo 16).foldl (fun t m => produceResults m (box t m).cmds.length t) s

/-- A completed commit: records are stored (R394), work is accepted, answers go out, the commands it completes have their effect,
and RESULTs follow. -/
def commitWork (b : Batch) (s : State) : State :=
  let s := commitEntries b s.jnl.stitchOfCommit s
  let s := flushAll (storeRecords b.entries s)
  let s := (sealedCommands s b.entries).foldl (fun t c => sealedEffect c t) s
  windowMessages (resultsAll s)

end Sys2Proof.Machine
end

