-- ==== Sys2Proof/Machine/SysCtl.lean ====
section
/-! DEFINITION. The SYS commands of identity, state, counters, inputs and the planned reset (R353–R356, R360). -/

namespace Sys2Proof.Machine

def onSys (f : Sys → Sys) (s : State) : State := { s with sys := f s.sys }

/-! Images, as the other commands report them. -/

def imageSlot (s : State) (k : Nat) : ImageSlot := s.sys.slots.getD k default
/-- The running image: the slot named running, or one started from DRAM (R405). -/
def runningImage (s : State) : ImageSlot := s.sys.dramImage.getD (imageSlot s s.sys.running)
def isTrial (s : State) : Bool := (runningImage s).state == .trial
/-- Version of a slot, 0 when EMPTY. -/
def slotVersion (x : ImageSlot) : U32 := if x.state == .empty then 0 else x.version

/-! SYS_IDENTIFY (Table 14.6). -/

def orderingNumber (variant : Nat) : Bytes :=
  fit 16 (ascii (if variant = 0 then "WZB-8640-EU" else if variant = 1 then "WZB-8640-NA" else "WZB-8640-W"))

def identity (s : State) : Bytes :=
  orderingNumber s.sys.variant ++ le8 s.sys.variant ++ le8 0 ++ le16 Config.boardIssue.toNat ++ fit 16 Config.serialNumber ++
    fit 8 Config.eui64 ++ fit 6 Config.baseMac ++ zeros 2 ++ leW (runningImage s).version ++ leW (slotVersion (imageSlot s 0)) ++
    leW (slotVersion (imageSlot s 1)) ++ le8 s.sys.running ++ le8 (bitN (isTrial s) 0) ++ zeros 2 ++ leW Config.bootRom ++
    fit 32 (Config.sha256 Config.deviceSpki)

def sysIdentify : CmdSpec where
  opcode := 0x0101
  needs := rSysRead
  check _ p _ := lenIs p 0
  run _ _ s := (s, ok (identity s))
def execSysIdentify (op : CmdStep) (s : State) : Out := next (mailboxCommand sysIdentify op s)

/-! SYS_STATUS (Table 14.7). -/

def stitchCode : StitchState → Nat
  | .free => 0 | .slewing => 1 | .aligned => 2

def airInService (s : State) : Nat := maskOfItems 4 (inServiceShuttles s)

def statusFlags (s : State) : Nat :=
  bitN (maintOn s) 0 + bitN s.time.servo.traceable 1 + bitN s.sched.noTime 2 + bitN (dirty s) 3 + bitN (s.sys.diesLost != []) 4 +
    bitN s.sys.emmcFault 5 + bitN s.sys.holdupLow 6 + bitN s.rtc.lost 7 + bitN s.rtc.batlow 8 + bitN s.time.refFault 9 + bitN (isTrial s) 10

/-- The record; input voltage, power and the two temperatures are the board's own readings, free values of draw `k`. -/
def moduleStatus (k : Nat) (s : State) : Bytes :=
  leW s.stitch.number ++ le8 (periodCode s.stitch.period) ++ le8 (stitchCode s.stitch.state) ++ le8 (servoCode s.time.servo.state) ++
    le8 (modeCode s.met.mode) ++ le32 (upSec s) ++ le32 (s.sys.pcycle % 16777216) ++ leW s.jnl.lastSeq ++ leW s.tab.generation ++
    leW s.set.storedGen ++ leW (Config.freeWord k) ++ leW (Config.freeWord (k + 1)) ++ le8 (maskOf s.lace.inService) ++ le8 (airInService s) ++
    le8 (harnessCode (harness s 0).state + 16 * harnessCode (harness s 1).state) ++ le8 (csCode s.chain.state) ++ le32 (statusFlags s) ++ zeros 4

def sysStatus : CmdSpec where
  opcode := 0x0102
  needs := rSysRead
  check _ p _ := lenIs p 0
  run _ _ s := ({ s with freeCtr := s.freeCtr + 2 }, ok (moduleStatus s.freeCtr s))
def execSysStatus (op : CmdStep) (s : State) : Out := next (mailboxCommand sysStatus op s)

/-! SYS_COUNTERS (Table 14.8). -/

def countersRecord (s : State) : Bytes :=
  le64 (opSec s) ++ le32 s.sys.pcycle ++ leW s.sys.lgSaves ++ leW s.sys.lgMissed ++ s.sys.resets.flatMap leW ++ leW s.met.calCount ++ zeros 4

def sysCounters : CmdSpec where
  opcode := 0x0103
  needs := rSysRead
  check _ p _ := lenIs p 0
  run _ _ s := (s, ok (countersRecord s))
def execSysCounters (op : CmdStep) (s : State) : Out := next (mailboxCommand sysCounters op s)

def sysNop : CmdSpec where
  opcode := 0x0104
  needs := rSysRead
  check _ p _ := lenIs p 0
  run _ _ s := (s, ok (leW s.stitch.number))
def execSysNop (op : CmdStep) (s : State) : Out := next (mailboxCommand sysNop op s)

/-! Digital inputs (R353, R356). -/

def inputFlag (s : State) (i : Nat) : Nat := setU8 s secStitch (4 + i)
def driveMask (s : State) : Nat := maskOf (s.met.outputs.map (·.drive))

/-- SYS_IO_READ. The raw levels, before the 4 ms debounce, are the pins' own: a free value. -/
def sysIoRead : CmdSpec where
  opcode := 0x0105
  needs := rSysRead
  check _ p _ := lenIs p 0
  run _ _ s :=
    let (k, s) := drawFree s
    (s, ok (le8 (maskOf (s.sys.inputs.map (·.level))) ++ le8 (Config.freeWord k).toNat ++ le8 (driveMask s) ++ le8 0 ++
      (upTo 8).flatMap (fun i => le8 (inputFlag s i)) ++ s.sys.inputs.flatMap fun x => leW x.changes))
def execSysIoRead (op : CmdStep) (s : State) : Out := next (mailboxCommand sysIoRead op s)

/-- R356: at most 4 INPUT_CHANGE events of an input in any second; the next one carries the count of those left out. -/
def recordInput (i : Nat) (s : State) : State :=
  let x := s.sys.inputs.getD i default
  let recent := x.recorded.filter fun c => s.time.cycle < c + cyclesPerSec
  if !bit (inputFlag s i) 0 then s
  else if recent.length < 4 then
    post 0x0108 i (le8 (if x.level then 1 else 0) ++ le8 0 ++ le16 (satU 16 x.unrecorded))
      (onSys (fun y => { y with inputs := listSet y.inputs i { x with recorded := recent ++ [s.time.cycle], unrecorded := 0 } }) s)
  else onSys (fun y => { y with inputs := listSet y.inputs i { x with recorded := recent, unrecorded := x.unrecorded + 1 } }) s

/-- DIGITAL_INPUT_CHANGE: a debounced level that differs from the one before. -/
def execDigitalInputChange (input : Nat) (level : Bool) (s : State) : Out :=
  let x := s.sys.inputs.getD input default
  if input < 8 && x.level != level then
    let s := onSys (fun y => { y with inputs := listSet y.inputs input { x with level := level, changes := x.changes + 1 } }) s
    next (if running s then feedbackChanged input (recordInput input s) else s)
  else next s

/-! The planned reset (R360). -/

/-- The reset boundary of a command that completes at the next commit, after a delay in seconds. -/
def resetBoundary (delay : Nat) (s : State) : U32 := nextStitch s + BitVec.ofNat 32 (delay * perSec s + 1)

/-- A planned reset becomes pending; RESET_REQUESTED is recorded. -/
def requestReset (m delay : Nat) (slot : Option Nat) (trial : Bool) (confirm : Nat) (s : State) : State × CmdOutcome :=
  if s.sys.pendingReset.isSome then (s, .done stConflict [])
  else
    let b := resetBoundary delay s
    let s := onSys (fun y => { y with pendingReset := some { boundary := b, mailbox := m, slot := slot, trial := trial, confirm := confirm } }) s
    let s := post 0x0102 m (leW b ++ le16 delay) s
    (s, did s (leW b))

/-- CANCEL withdraws a pending reset if it completes in the Stitch before the reset boundary or earlier. -/
def cancelReset (m : Nat) (s : State) : State × CmdOutcome :=
  match s.sys.pendingReset with
  | none => (s, .done stConflict [])
  | some r =>
    if serialAtOrBefore r.boundary (nextStitch s) then (s, .done stConflict [])
    else
      let s := post 0x0103 m (leW r.boundary) (onSys (fun y => { y with pendingReset := none }) s)
      (s, did s (le32 0))

def sysReset : CmdSpec where
  opcode := 0x0109
  needs := rSysControl
  check _ p _ := checks [lenIs p 4, reserved p 1 1,
    need (u8At p 0 ≤ 1 && u16At p 2 ≤ 3600 && (u8At p 0 == 1 || u16At p 2 == 0)) stBadPayload]
  run m c s := if u8At c.payload 0 = 1 then requestReset m (u16At c.payload 2) none false 0 s else cancelReset m s
def execSysReset (op : CmdStep) (s : State) : Out := next (mailboxCommand sysReset op s)

end Sys2Proof.Machine
end

