-- ==== Sys2Proof/Machine/Update.lean ====
section
/-! DEFINITION. Firmware images and the UPD commands (R403, R405, R406, R416, R417). -/

namespace Sys2Proof.Machine

/-! The image header (Table 17.3). -/

def imProduct (b : Bytes) : Nat := u16At b 4
def imHeader (b : Bytes) : Nat := u16At b 6
def imVersion (b : Bytes) : U32 := BitVec.ofNat 32 (u32At b 8)
def imSecurity (b : Bytes) : Nat := u32At b 12
def imJournal (b : Bytes) : Nat := u16At b 16
def imBody (b : Bytes) : Nat := u32At b 20
def imHash (b : Bytes) : Bytes := slice b 32 32

/-- Journal format of Burxon firmware 4.x. -/
def journalFormat : Nat := 3
def maxImage : Nat := 33554432

/-- R403's checks and the journal format, in the order of their reasons (IMAGE_REJECTED): the first that fails. -/
def imageReason (minSec : Nat) (b : Bytes) : Option Nat :=
  if !Config.feovolSigned (slice b 0 64) (slice b 64 64) then some 0
  else if imProduct b ≠ 0x8640 ∨ imHeader b ≠ 1 then some 1
  else if imSecurity b < minSec then some 2
  else if imBody b = 0 ∨ maxImage - 128 < imBody b ∨ imBody b + 128 ≠ b.length ∨ Config.sha256 (b.drop 128) ≠ imHash b then some 3
  else if imJournal b ≠ journalFormat then some 4
  else none

/-! Slots. -/

def inLoader (s : State) : Bool := s.sys.phase == .loader
/-- The slot that a load goes to: the inactive one; slot A in the LOADER state (R405). -/
def loadSlot (s : State) : Nat := if inLoader s then 0 else 1 - s.sys.active
def setSlot (k : Nat) (x : ImageSlot) (s : State) : State := onSys (fun y => { y with slots := listSet y.slots k x }) s

def slotCode : SlotImage → Nat
  | .empty => 0 | .valid => 1 | .trial => 2 | .confirmed => 3 | .bad => 4

/-- Records an event now, or keeps it until the Sampler runs (R399, R405). -/
def bootRecord (code source : Nat) (payload : Bytes) (s : State) : State :=
  if running s then post code source payload s
  else onSys (fun y => { y with bootEvents := y.bootEvents ++ [(code, source, payload)] }) s

/-! Commands (Table 17.7). -/

def loadedBytes (s : State) : Nat := s.sys.load.elim 0 fun l => (l.ranges.map (·.2)).sum
def loadCode (s : State) : Nat := s.sys.load.elim 0 fun l => if l.verified then 2 else 1
def confirmLeft (s : State) : Nat := if isTrial s then s.sys.confirmUntil - opSec s else 0

def updRecord (s : State) : Bytes :=
  le8 s.sys.running ++ le8 (slotCode (imageSlot s 0).state) ++ le8 (slotCode (imageSlot s 1).state) ++ le8 (loadCode s) ++
    leW (slotVersion (imageSlot s 0)) ++ leW (slotVersion (imageSlot s 1)) ++ le32 (confirmLeft s) ++ le32 s.sys.minSec ++ le32 (loadedBytes s) ++
    le8 s.sys.trialStarts ++ zeros 3

def updStatus : CmdSpec where
  opcode := 0x0901
  needs := rFirmware
  check _ p _ := lenIs p 0
  run _ _ s := (s, ok (updRecord s))
  loader := true
def execUpdStatus (op : CmdStep) (s : State) : Out := next (mailboxCommand updStatus op s)

/-- The inactive slot is emptied, and the load is open. -/
def beginLoad (length crc : Nat) (s : State) : State :=
  onSys (fun y => { y with load := some { length := length, crc := crc, data := zeros length, ranges := [], verified := false } })
    (setSlot (loadSlot s) default s)

def updBegin : CmdSpec where
  opcode := 0x0902
  needs := rFirmware
  check _ p s := checks [lenIs p 8, need (129 ≤ u32At p 0) stBadPayload, need (u32At p 0 ≤ maxImage) stLimit,
    need (s.sys.loadNext.isNone && (inLoader s || !isTrial s) && !s.sys.emmcFault) stConflict]
  onAccept _ _ p s := onSys (fun y => { y with loadNext := some (u32At p 0) }) s
  run _ c s := (beginLoad (u32At c.payload 0) (u32At c.payload 4) s, did s [])
  loader := true
def execUpdBegin (op : CmdStep) (s : State) : Out := next (mailboxCommand updBegin op s)

/-- Bytes loaded; a load already verified is to be verified again. -/
def storeLoad (off : Nat) (d : Bytes) (l : UpdLoad) : UpdLoad :=
  { l with data := overlay l.data off d, ranges := addRange off d.length l.ranges, verified := false }

def updData : CmdSpec where
  opcode := 0x0903
  needs := rFirmware
  check _ p s := checks [need (8 ≤ p.length) stBadPayload, lenIs p (8 + u32At p 4), need (1 ≤ u32At p 4 && u32At p 4 ≤ 65536) stRange,
    match s.sys.loadNext with
    | none => refuse stConflict
    | some n => need (u32At p 0 + u32At p 4 ≤ n) stRange]
  run _ c s :=
    match s.sys.load with
    | none => (s, .done stConflict [])
    | some l => (onSys (fun y => { y with load := some (storeLoad (u32At c.payload 0) (c.payload.drop 8) l) }) s, did s [])
  loader := true
def execUpdData (op : CmdStep) (s : State) : Out := next (mailboxCommand updData op s)

/-- The verification of the loaded image (R403, R405, R416). -/
def verifyLoad (l : UpdLoad) (s : State) : State × CmdOutcome :=
  let b := l.data
  if !covered l.length l.ranges || crc32c b != l.crc then (s, .done stConflict [])
  else if s.sys.emmcFault && !inLoader s then (s, .done stStorageFault [])
  else
    match imageReason s.sys.minSec b with
    | some r => (bootRecord 0x0141 noSource (le8 r ++ le16 (imProduct b) ++ leW (imVersion b)) s, .done stImageRejected [])
    | none =>
      let k := loadSlot s
      let t := onSys (fun y => { y with load := some { l with verified := true } }) s
      let t := if s.sys.emmcFault then t else setSlot k { state := .valid, version := imVersion b, secVersion := imSecurity b } t
      (bootRecord 0x0142 k (leW (imVersion b)) t, did s (leW (imVersion b) ++ le32 (imSecurity b)))

def updVerify : CmdSpec where
  opcode := 0x0904
  needs := rFirmware
  check _ p s := checks [lenIs p 0, need s.sys.loadNext.isSome stConflict]
  run _ _ s :=
    match s.sys.load with
    | none => (s, .done stConflict [])
    | some l => verifyLoad l s
  loader := true
def execUpdVerify (op : CmdStep) (s : State) : Out := next (mailboxCommand updVerify op s)

/-- The open load is discarded. -/
def dropLoad (s : State) : State := onSys (fun y => { y with load := none, loadNext := none }) s

def updAbort : CmdSpec where
  opcode := 0x0905
  needs := rFirmware
  check _ p s := checks [lenIs p 0, need s.sys.loadNext.isSome stConflict]
  onAccept _ _ _ s := onSys (fun y => { y with loadNext := none }) s
  run _ _ s := (onSys (fun y => { y with load := none }) s, did s [])
def execUpdAbort (op : CmdStep) (s : State) : Out := next (mailboxCommand updAbort op s)

def loadVerified (s : State) : Bool := s.sys.load.any (·.verified)

/-- The new image starts from the LOADER state: slot A as TRIAL, or from DRAM when the eMMC could not take it (R405). -/
def loaderStart (confirm : Nat) (s : State) : State :=
  let x := s.sys.load.elim default fun l => { state := .trial, version := imVersion l.data, secVersion := imSecurity l.data }
  let s := if s.sys.emmcFault then onSys (fun y => { y with dramImage := some x }) s else onSys (fun y => { y with active := 0 }) (setSlot 0 x s)
  let s := bootRecord 0x0143 0 (leW x.version ++ le16 confirm) s
  let until_ := opSec s + 60 * confirm
  onSys (fun y => { y with phase := .boot, trialStarts := 0, confirmUntil := until_, load := none, loadNext := none }) (closeSession 14 s)

def updActivate : CmdSpec where
  opcode := 0x0906
  needs := rFirmware
  check _ p s := checks [lenIs p 4, need (u16At p 0 ≤ 3600 && 1 ≤ u16At p 2 && u16At p 2 ≤ 1440) stBadPayload,
    need (loadVerified s && s.sys.pendingReset.isNone) stConflict]
  run m c s :=
    if inLoader s then (loaderStart (u16At c.payload 2) (send m kResult false 0x0906 0 c.tag stOk (le32 0) s), .waits)
    else if !loadVerified s then (s, .done stConflict [])
    else requestReset m (u16At c.payload 0) (some (loadSlot s)) true (u16At c.payload 2) s
  loader := true
def execUpdActivate (op : CmdStep) (s : State) : Out := next (mailboxCommand updActivate op s)

/-- R406. -/
def updConfirm : CmdSpec where
  opcode := 0x0907
  needs := rFirmware
  check _ p _ := lenIs p 0
  run _ _ s :=
    let k := s.sys.running
    let x := imageSlot s k
    if x.state != .trial || s.sys.dramImage.isSome then (s, .done stConflict [])
    else
      let n := max s.sys.minSec x.secVersion
      let s := onSys (fun y => { y with minSec := n }) (setSlot k { x with state := .confirmed } s)
      let s := post 0x0144 k (leW x.version ++ le32 n) s
      (s, did s (le32 n))
def execUpdConfirm (op : CmdStep) (s : State) : Out := next (mailboxCommand updConfirm op s)

/-- The other slot can be started (R416, R417). -/
def canRollback (s : State) : Bool :=
  let x := imageSlot s (1 - s.sys.active)
  (x.state == .valid || x.state == .confirmed) && s.sys.minSec ≤ x.secVersion

def updRollback : CmdSpec where
  opcode := 0x0908
  needs := rFirmware
  check _ p _ := checks [lenIs p 4, reserved p 2 2, need (u16At p 0 ≤ 3600) stBadPayload]
  run m c s :=
    if !canRollback s then (s, .done stConflict [])
    else requestReset m (u16At c.payload 0) (some (1 - s.sys.active)) false 0 s
def execUpdRollback (op : CmdStep) (s : State) : Out := next (mailboxCommand updRollback op s)

/-- UPD_LOAD_TIMEOUT: 600 s without a UPD command discard the load. -/
def execUpdLoadTimeout (s : State) : Out := next (dropLoad s)

end Sys2Proof.Machine
end

