-- ==== Sys2Proof/Machine/Reset.lean ====
section
/-! DEFINITION. Resets of the SoC (R373, R376): what each keeps, and the events that make one (R31, R360, R373, R413, R414). -/

namespace Sys2Proof.Machine

/-! What a reset keeps: MRAM, eMMC, the RTC domain, AON, and what the panel and the pins of the module show. -/

def keptBox (b : Mailbox) : Mailbox :=
  { b with session := .closed, answers := [], lastWindow := 0, deniedCnt := 0, dupCnt := 0, sessions := 0, usbCrcErr := 0 }

def keptMailboxes (x : Mailboxes) : Mailboxes :=
  { coldMailboxes with boxes := x.boxes.map keptBox, sent := x.sent, resultNo := x.resultNo, lastAcceptedAny := x.lastAcceptedAny }

/-- `torn` tells that the commit in progress is lost whole; else copy 0 holds it (Table 15.7). -/
def keptJournal (torn : Bool) (j : Journal) : Journal :=
  { coldJournal with log := j.log, seqTable := j.seqTable, commitNo := j.commitNo, lastSeq := j.lastSeq, nextSeq := j.nextSeq,
                     stitchOfCommit := j.stitchOfCommit, copy0Extra := if torn then j.copy0Extra else j.committing }

def keptSampler (p : Sampler) : Sampler :=
  { coldSampler with selvedge := p.selvedge, selvedgeFullMade := p.selvedgeFullMade, round := p.round, roundNext := p.roundNext,
                     roundFirst := p.roundFirst, roundSize := p.roundSize, selvedgeLost := p.selvedgeLost, marks := p.marks, newest := p.newest }

def keptSettings (x : Settings) : Settings :=
  { coldSettings with copies := x.copies, storedGen := x.storedGen, unretired := x.unretired, due := x.due, lastCopy := x.lastCopy }

def keptSecurity (x : Security) : Security := { x with protPending := 0 }

def keptTables (t : Tables) : Tables :=
  { coldTables with
    generation := t.generation, changes := t.changes, batch := t.batch, closeFail := t.closeFail, effected := t.effected, stagedSeqs := t.stagedSeqs
    applied := t.applied, ended := t.ended, unpersisted := t.unpersisted, stored := t.stored, storedPrev := t.storedPrev, storeGen := t.storeGen
    savedPins := t.savedPins, savedGen := t.savedGen, ground := t.ground, groundDue := t.groundDue, groundOrder := t.groundOrder, loads := t.loads }

/-- A drive latch keeps its state; the trip latch is in MRAM (R267). -/
def keptOutput (c : Contactor) : Contactor := { (default : Contactor) with drive := c.drive, outFault := c.outFault, tripped := c.tripped, settled := c.settled }

def keptMet (m : Met) : Met :=
  { coldMet with
    calValid := m.calValid, calCount := m.calCount, records := m.records, spanRecords := m.spanRecords, saveA := m.saveA, saveB := m.saveB
    saveLg := m.saveLg, saveSeq := m.saveSeq, saveSlot := m.saveSlot, lastKind := m.lastKind, outputs := m.outputs.map keptOutput
    snaps := m.snaps, nextSnap := m.nextSnap }

/-- AON's counters follow R52: every reset clears them. -/
def keptSys (x : Sys) : Sys :=
  { coldSys with
    phase := x.phase, variant := x.variant, opTicks := x.opTicks, pcycle := x.pcycle, savedOpSec := x.savedOpSec, lastKnown := x.lastKnown
    lgSaves := x.lgSaves, lgMissed := x.lgMissed, resets := x.resets, kind := x.kind, baseKind := x.baseKind, causeBits := x.causeBits
    lgDone := x.lgDone, slots := x.slots, active := x.active, running := x.running, trialStarts := x.trialStarts, confirmUntil := x.confirmUntil
    minSec := x.minSec, holdupMs := x.holdupMs, holdupLow := x.holdupLow, bankFault := x.bankFault, bankCharging := x.bankCharging
    lgLastUs := x.lgLastUs, startMs := x.startMs, bankOk := x.bankOk, latched := x.latched, bootEvents := x.bootEvents
    inputs := x.inputs.map fun i => { (default : Input) with level := i.level } }

/-- An image is kept on the eMMC (R238, R373): that of a session that runs stands loaded again, since the session itself ends (DESIGN CHOICE);
an AIR_IMAGE_START not yet executed is replayed. -/
def keptAir (a : Air) : Air :=
  { coldAir with
    releases := a.releases, session := a.session.filter fun z => !z.begun
    load := a.load.or ((a.session.filter fun z => z.begun && (z.sending || z.left != 0)).map (·.load)) }

/-- The module after a reset of the SoC; its phase stands as it was. -/
def resetSoc (torn : Bool) (s : State) : State :=
  { State.reset with
    pending := s.pending, freeCtr := s.freeCtr, rtc := s.rtc, mbx := keptMailboxes s.mbx, jnl := keptJournal torn s.jnl, smp := keptSampler s.smp
    set := keptSettings s.set, sec := keptSecurity s.sec, tab := keptTables s.tab, met := keptMet s.met, sys := keptSys s.sys
    sched := { coldSchedule with offsetInForce := s.sched.offsetInForce }
    air := keptAir s.air
    pnl := { coldPanel with vbus := s.pnl.vbus, keysNow := s.pnl.keysNow } }

/-! AON. -/

def onRunPhase (p : Phase) (s : State) : State := onSys (fun x => { x with phase := p }) s

/-- AON latches an event with the stamp of now, for a LATE record (R386). -/
def latchNow (code source : Nat) (payload : Bytes) (s : State) : State :=
  onSys (fun x => { x with latched := x.latched ++ [{ eventNow s code source payload with late := true }] }) s

/-- Power has a start under way or done: everything but a module without power, held, or at the end of a last gasp. -/
def socRuns (s : State) : Bool := [Phase.boot, .memory, .restore, .wait, .run, .loader].contains s.sys.phase

/-- A reset without warning, power kept: the start goes on from phase 0 (Table 15.6). -/
def faultReset (kind cause : Nat) (cut : CommitCut) (s : State) : State :=
  if !socRuns s then s
  else
    let s := resetSoc (cut != .copy0Only) s
    onSys (fun x => { x with phase := .supply, kind := kind, baseKind := kind, causeBits := BitVec.ofNat 32 cause }) s

/-- WATCHDOG_RESET: kind 5, cause bits [8] K0, [9] T0, [10] fabric (Table 17.10). -/
def execWatchdogReset (unit : Watchdog) (commit : CommitCut) (s : State) : Out :=
  let b := match unit with | .k0 => 256 | .t0 => 512 | .fabric => 1024
  next (faultReset 5 b commit s)

/-- MEMORY_ERROR_RESET: kind 7, cause bit [15]. -/
def execMemoryErrorReset (commit : CommitCut) (s : State) : Out := next (faultReset 7 32768 commit s)

/-! Clock faults (Table 2.2). -/

/-- The PLL's letter in ASCII, as CLOCK_FAULT gives it. Table 2.1 names no letter for the SerDes PLLs of ETH: E (DESIGN CHOICE). -/
def pllLetter : Pll → Nat
  | .f => 70 | .a => 65 | .d => 68 | .t => 84 | .n => 78 | .r => 82 | .e _ => 69
/-- Place in `TimeUnit.plls`: F A D T N R, then the SerDes PLL of each port. -/
def pllIndex : Pll → Nat
  | .f => 0 | .a => 1 | .d => 2 | .t => 3 | .n => 4 | .r => 5 | .e p => 6 + p

def setPll (p : Pll) (locked : Bool) (s : State) : State :=
  { s with time := { s.time with plls := listSet s.time.plls (pllIndex p) locked } }

/-- Ports that a PLL of the second row of Table 2.2 takes down: all of the switch with N, its own with a SerDes PLL (DESIGN CHOICE: one
SerDes PLL a port). -/
def affectedPorts : Pll → List Nat
  | .n => upTo 6
  | .e p => [p]
  | _ => []

/-- The switch core starts anew: nothing is learned and no frame is held (DESIGN CHOICE: what R31's restart clears). -/
def switchRestart (s : State) : State :=
  onNet (fun n => { n with fdb := [], ports := n.ports.map fun x => { x with queues := x.queues.map fun _ => [], sending := none } }) s

/-- PLL_LOCK_LOSS: F, A, D or T resets the SoC, AON latching the event; N or a SerDes PLL takes its ports down, and ring protection reacts; R
stops the Shuttles. -/
def execPllLockLoss (p : Pll) (s : State) : Out :=
  match p with
  | .f | .a | .d | .t => next (if socRuns s then faultReset 6 (2 ^ (11 + pllIndex p)) .torn (latchNow 0x0204 0 (le8 (pllLetter p)) s) else s)
  | .n | .e _ =>
    if running s then
      let t := setPll p false (post 0x0204 1 (le8 (pllLetter p)) s)
      next ((affectedPorts p).foldl (fun t k => linkLost k t) t)
    else next s
  | .r =>
    if running s then
      let t := setPll p false (post 0x0204 2 (le8 (pllLetter p)) s)
      next { t with time := { t.time with radiosHeld := true } }
    else next s

/-- PLL_RELOCK: the switch core or the radios restart. -/
def execPllRelock (p : Pll) (s : State) : Out :=
  if running s then
    let t := setPll p true s
    match p with
    | .r => next { t with time := { t.time with radiosHeld := false } }
    | .n => next (switchRestart t)
    | _ => next t
  else next s

/-- TCXO_STOP: AON holds the SoC in reset; the fault is recorded at the next start. -/
def execTcxoStop (s : State) : Out :=
  if socRuns s then
    let t := resetSoc true (latchNow 0x0204 4 (le8 0) s)
    next (onRunPhase .held { t with time := { t.time with tcxoStopped := true } })
  else next s

/-! Ordered ends (R360, R413). -/

/-- The commit in progress ends in both copies, and the open batch is committed after it. -/
def commitAll (s : State) : State :=
  let finish := fun t : State =>
    match t.jnl.committing with
    | none => t
    | some b => commitWork b (onJnl (fun j => commitFigures b 0 .verified .verified { j with committing := none }) t)
  let s := finish s
  if s.jnl.batch = [] then s else finish (sealBatch false (sealWork s))

/-- State-half fields of R93 as the operating-counters region holds them. -/
def savedPinsOf (s : State) : Tab (U32 × Nat × Nat) := s.tab.state.map fun e => (e.1, e.2.counter, e.2.downSeq, e.2.failure)

/-- The operating seconds, the last known time while traceable (R401), and R93's fields; nothing once bank 0 has failed (R470). -/
def saveCounters (s : State) : State :=
  if s.sys.bankOk.getD 0 false then
    let known := if s.time.servo.traceable then taiSec s else s.sys.lastKnown
    onSys (fun x => { x with savedOpSec := opSec s, lastKnown := known })
      { s with tab := { s.tab with savedPins := savedPinsOf s, savedGen := s.tab.generation } }
  else s

/-- OPERATING_COUNTERS_SAVE. -/
def execOperatingCountersSave (s : State) : Out := if running s then next (saveCounters s) else next s

/-- The save of slot LG, unless bank 0 has failed. -/
def gaspSave (kind : Nat) (s : State) : State := if s.sys.bankOk.getD 0 false then saveLastGasp kind s else s

/-- POWER_FAIL_WARNING: the last-gasp sequence begins: transceivers, PHYs and cages go off, no request is taken, slot LG is written.
Before the first boundary the warning ends the start without any save (R400). -/
def execPowerFailWarning (s : State) : Out :=
  let warned := onSys (fun x => { x with pfWarn := true, pfWarnCnt := x.pfWarnCnt + 1 }) s
  match s.sys.phase with
  | .run =>
    let t := (upTo 4).foldl (fun t k => match (shuttle t k).awaiting with | some a => tryMissed k a t | none => t) warned
    let t := (upTo 6).foldl (fun t k => linkLost k t) t
    let t := (upTo 14).foldl (fun t m => if (box t m).session == .closed then t else dropSession m t) t
    next (gaspSave 2 (onSys (fun x => { x with phase := .lastGasp, lgDone := false }) t))
  | .supply | .boot | .memory | .restore | .wait | .loader | .held => next (onRunPhase .off (resetSoc true warned))
  | _ => next s

/-- LAST_GASP_COMPLETE: commits, counters, LG_DONE, and the SoC held in reset; `us` after the warning. -/
def execLastGaspComplete (us : Nat) (s : State) : Out :=
  if s.sys.phase == .lastGasp then
    let t := saveCounters (commitAll (samplerStitchEnd s))
    let t := latchNow 0x014C noSource (le8 1 ++ le8 0 ++ le16 (satU 16 us) ++ le16 t.sys.holdupMs) t
    let late := t.sys.latched.map fun e => if e.code == 0x014C then { e with opSec := t.sys.savedOpSec, opSub := 0 } else e
    let t := onSys (fun x => { x with latched := late, lgDone := true, lgSaves := x.lgSaves + 1, lgLastUs := satU 16 us, phase := .gaspDone }) t
    next (resetSoc true t)
  else next s

/-- DIP_RETURN: the input stands again while the bank carries the module (R414). -/
def execDipReturn (s : State) : Out :=
  if s.sys.phase == .gaspDone then next (onSys (fun x => { x with phase := .supply, kind := 2, baseKind := 2, causeBits := 0 }) s)
  else next s

/-- A start after a loss of the DC input: the drive latches are lost (R267). -/
def dcStart (kind : Nat) (s : State) : State :=
  let outs := s.met.outputs.map fun c => { c with drive := false, outFault := false, settled := false }
  onMet (fun m => { m with outputs := outs }) (onSys (fun x => { x with phase := .supply, kind := kind, baseKind := kind, causeBits := 0 }) s)

/-- DC_INPUT_ON: phase 0 begins (R399). A last-gasp sequence that the loss cut short was missed. -/
def execDcInputOn (s : State) : Out :=
  match s.sys.phase with
  | .off | .gaspDone => next (dcStart (if s.sys.lgDone then 0 else 1) s)
  | .lastGasp =>
    let t := latchNow 0x014C noSource (le8 0 ++ le8 0 ++ le16 0 ++ le16 s.sys.holdupMs) s
    let late := t.sys.latched.map fun e => if e.code == 0x014C then { e with opSec := t.sys.savedOpSec, opSub := 0 } else e
    next (dcStart 1 (resetSoc true (onSys (fun x => { x with latched := late, lgMissed := x.lgMissed + 1 }) t)))
  | _ => next s

/-! The planned reset (R360, R417). -/

/-- The slot that the reset starts: as TRIAL with its confirm time, or by UPD_ROLLBACK. -/
def startSlot (p : PendingReset) (s : State) : State :=
  match p.slot with
  | none => s
  | some k =>
    let x := imageSlot s k
    if p.trial then
      let s := setSlot k { x with state := .trial } s
      let s := onSys (fun y => { y with active := k, trialStarts := 0, confirmUntil := opSec s + 60 * p.confirm }) s
      onSys (fun y => { y with bootEvents := y.bootEvents ++ [(0x0143, k, leW x.version ++ le16 p.confirm)] }) s
    else
      let left := slotVersion (imageSlot s s.sys.active)
      onSys (fun y => { y with active := k, bootEvents := y.bootEvents ++ [(0x0145, k, le8 3 ++ leW left)] }) s

/-- PLANNED_RESET: at the reset boundary, the last-gasp save of kind 3, the commits and the counters, then the reset. -/
def execPlannedReset (s : State) : Out :=
  match s.sys.pendingReset with
  | none => next s
  | some p =>
    if running s && serialAtOrBefore p.boundary (nextStitch s) then
      let t := startSlot p (saveCounters (commitAll (samplerStitchEnd (gaspSave 3 s))))
      next (onSys (fun x => { x with phase := .supply, kind := 3, baseKind := 3, causeBits := 0 }) (resetSoc true t))
    else next s

end Sys2Proof.Machine
end

