-- ==== Sys2Proof/Machine/Replay.lean ====
section
/-! DEFINITION. RESTORE (R374, R375, R384, R394, R395, R409, R411, R94, R136, R284): what a start finds kept becomes the live state. -/

namespace Sys2Proof.Machine

/-! Counts (R384, R355). -/

/-- The reset kinds whose last-gasp save completed (Table 15.6). -/
def gaspKind (k : Nat) : Bool := k == 0 || k == 2 || k == 3

/-- The start counts itself, and the operating seconds resume. The resumed value is saved, so that a later start never repeats one. -/
def startCounts (s : State) : State :=
  let sec := s.sys.savedOpSec + if gaspKind s.sys.baseKind then 0 else 60
  onSys (fun x => { x with pcycle := x.pcycle + 1, resets := listModify x.resets x.kind (· + 1), opTicks := 32768 * sec, savedOpSec := sec }) s

/-- LATE records come first, then RESET, then what the boot ROM noted (R373, R386). -/
def startEvents (s : State) : State :=
  let late := s.sys.latched.map fun e => { e with stitch := s.stitch.number }
  let s := { s with smp := late.foldl (fun p e => postEvent e p) s.smp }
  let s := post 0x0101 s.sys.kind (edge (gaspKind s.sys.baseKind) ++ zeros 3 ++ leW (s.sys.causeBits ||| BitVec.ofNat 32 s.sys.kind)) s
  s.sys.bootEvents.foldl (fun t e => post e.1 e.2.1 e.2.2 t) s

/-! The time base (R316, R401). -/

/-- TICK × 2⁻¹⁵ s, or with LOST the later of the last known time and the build time of the running image. -/
def seedTime (s : State) : State :=
  let tb := if s.rtc.lost then max s.sys.lastKnown (Config.buildTime (runningImage s).version) * 1000000000 * 4294967296
            else s.rtc.tick * 1000000000 * 131072
  let s := { s with time := { s.time with tb := tb } }
  if s.rtc.lost then { s with sched := { s.sched with offsetInForce := offsetNow s } } else applyOffset s

/-! The journal (R374). -/

/-- Work whose acceptance a commit holds. -/
def isCommitted (s : State) (q : U32) : Bool := s.jnl.lastSeq != 0 && serialAtOrBefore q s.jnl.lastSeq

/-- A commit found in copy 0 alone is adopted. -/
def adoptCommit (b : Batch) (s : State) : State :=
  let s := onJnl (fun j => { j with commitNo := j.commitNo + 1, lastSeq := (workSeqs b.entries).getLast?.getD j.lastSeq }) s
  let s := commitEntries b s.jnl.stitchOfCommit s
  (sealedCommands s b.entries).foldl (fun t c => sealedEffect c t) s

/-- No valid copy: the journal is empty, and nothing of the accepted work is recovered (R378). -/
def loseJournal (s : State) : State :=
  let boxes := s.mbx.boxes.map fun b : Mailbox => { b with cmds := [], slots := [], released := [], tags := [], lastAccepted := 0, lastBegun := 0 }
  let t := { s with
    jnl := { coldJournal with journalLost := true }
    mbx := { s.mbx with boxes := boxes, lastAcceptedAny := 0 }
    set := { s.set with unretired := [], due := [] }
    tab := { s.tab with changes := [], batch := none, closeFail := [], stagedSeqs := [], applied := [], ended := [], unpersisted := [], groundDue := [] }
    air := { s.air with releases := [] }
    met := { s.met with records := s.met.records.filter (·.archived), spanRecords := s.met.spanRecords.filter (·.archived) } }
  post 0x020A noSource [] t

/-- The copy to use is chosen, and the other repaired from it. -/
def chooseJournal (f : RestoreFound) (s : State) : State :=
  let v0 := f.journal0 && s.sys.bankOk.getD 0 false
  let v1 := f.journal1 && s.sys.bankOk.getD 1 false
  let s := if !v0 && !v1 then loseJournal s
           else match s.jnl.copy0Extra with
                | some b => if v0 then adoptCommit b s else s
                | none => s
  let single := !s.sys.bankOk.getD 1 false
  onJnl (fun j => { j with copy0Extra := none, committing := none, batch := [], nextSeq := seqNext j.lastSeq, copy0Ok := true, copy1Ok := !single,
                           single := single, replayCount := (j.log.filter fun i => i.live && i.entry.any fun e => e.kind ≤ jkRecord).length }) s

/-! Mailboxes (R375). -/

/-- A committed command after the reset: complete, or to be executed again from its start. -/
def replayedCmd (c : Cmd) : Cmd :=
  if c.phase == .held then (if 256 < c.result.length then { c with result := [], lost := true } else c)
  else { c with phase := .waiting, status := 0, result := [], begun := false }

/-- A kept result: long ones were in DRAM, short ones in the log or the result store. -/
def replayedSlot (storeOk : Bool) (r : Slot) : Slot :=
  if 256 < r.result.length || (r.copied && !storeOk) then { r with result := [], lost := true } else r

def replayBox (storeOk : Bool) (s : State) (b : Mailbox) : Mailbox :=
  { b with cmds := (b.cmds.filter fun c => isCommitted s c.seq).map replayedCmd, slots := b.slots.map (replayedSlot storeOk)
           tags := b.tags.filter fun t => isCommitted s t.seq }

def replayMailboxes (f : RestoreFound) (s : State) : State :=
  let storeOk := f.resultStore && !s.sys.emmcFault
  let boxes := s.mbx.boxes.map (replayBox storeOk s)
  onJnl (fun j => { j with resultsDown := !storeOk }) { s with mbx := { s.mbx with boxes := boxes } }

/-- The commands that are executed again. -/
def uncompleted (s : State) : List Cmd := s.mbx.boxes.flatMap fun b => b.cmds.filter fun c => c.phase != .held
def isComplete (s : State) (q : U32) : Bool := isCommitted s q && (uncompleted s).all fun c => c.seq != q

/-- Length of the load that an uncompleted UPD_BEGIN will open. -/
def replayLoads (s : State) : State :=
  let l := (uncompleted s).filter fun c => c.opcode == 0x0902 || c.opcode == 0x0905
  onSys (fun x => { x with loadNext := l.getLast?.bind fun c => if c.opcode = 0x0902 then some (u32At c.payload 0) else none }) s

/-! Settings (R409, R411). -/

/-- A known section shorter than its size is completed with factory values; one of an unknown id is kept. -/
def completed (t : Tab Bytes) : Tab Bytes :=
  let known := factorySettings.map fun e => match tabGet t e.1 with | some b => (e.1, b ++ e.2.drop b.length) | none => e
  (t.filter fun e => (tabGet factorySettings e.1).isNone).foldl (fun k e => tabSet k e.1 e.2) known

/-- The newer of the valid settings records. -/
def chosenCopy (x : Settings) : Option SettingsCopy :=
  let a := x.copies.getD 0 default
  let b := x.copies.getD 1 default
  if a.valid && b.valid then some (if serialBefore a.storedGen b.storedGen then b else a)
  else if a.valid then some a else if b.valid then some b else none

/-- The newer of the valid protection records; the factory table when there is none. -/
def chosenProt (x : Settings) : Bytes :=
  let a := x.copies.getD 0 default
  let b := x.copies.getD 1 default
  if a.protValid && (!b.protValid || protGeneration b.prot ≤ protGeneration a.prot) then a.prot
  else if b.protValid then b.prot else factoryProtection

/-- A record that a start cannot read, or that stands in a failed bank, is not valid. -/
def readCopies (f : RestoreFound) (s : State) : List SettingsCopy :=
  let one := fun k s0 p0 => let c := s.set.copies.getD k default
    let ok := s.sys.bankOk.getD k false
    ({ c with valid := c.valid && s0 && ok, protValid := c.protValid && p0 && ok } : SettingsCopy)
  [one 0 f.settings0 f.protection0, one 1 f.settings1 f.protection1]

def restoreSettings (f : RestoreFound) (s : State) : State :=
  let s := onSettings (fun x => { x with copies := readCopies f s }) s
  let s := { s with sec := { s.sec with prot := chosenProt s.set } }
  match chosenCopy s.set with
  | some c => onSettings (fun x => { x with working := completed c.sections, workGen := c.workGen, storedGen := c.storedGen, lost := false }) s
  | none =>
    let s := onSettings (fun x => { x with working := factorySettings, workGen := 1, storedGen := 0, lost := true }) s
    onMet (fun m => { m with calValid := false }) s

/-- SETTINGS_LOST, and SECTION_UNKNOWN once for each section kept unread. -/
def settingsEvents (s : State) : State :=
  let s := postIf s.set.lost 0x0149 noSource [] s
  (s.set.working.filter fun e => (tabGet factorySettings e.1).isNone).foldl (fun s e => post 0x014B e.1 (le32 e.2.length) s) s

/-- The recorded effect of one settings write is applied again. -/
def reapply (s : State) (seq : U32) (ch : Change) : State :=
  let stored := completed ((chosenCopy s.set).elim factorySettings (·.sections))
  match ch with
  | .revert g =>
    let gone := (s.set.unretired.filter fun u => serialBefore u.1 seq && isComplete s u.1).map (·.1)
    let s := onSettings (fun x => { x with working := stored, workGen := g, unretired := x.unretired.filter fun u => !gone.contains u.1 }) s
    gone.foldl (fun s q => retire q s) s
  | .factory g => onSettings (fun x => { x with working := factoryOver x.working, workGen := g }) s
  | .panelPin digits =>
    let (k, s) := drawFree s
    let new := pinBytes (sect s secPanel) digits (Config.random k 16)
    noteChange seq (.settings secPanel 0 new) (writeWorking secPanel 0 new s)
  | _ => onSettings (fun x => { x with working := applySetting stored x.working ch, workGen := x.workGen + 1 }) s

/-- A key change of a completed command that waited for its boundary. -/
def reapplyKey (s : State) (d : Due) : State :=
  if !isComplete s d.seq then s
  else
    match d.change with
    | .keyWrite slot key check => retire d.seq (keyTo slot (some key) check s)
    | .keyClear slot => retire d.seq (keyTo slot none (zeros 3) s)
    | _ => s

/-- The working copy is rebuilt (R409); a command to be executed again gives its change anew. -/
def rebuildSettings (s : State) : State :=
  let due := s.set.due
  let left := (s.set.unretired.filter fun u => isCommitted s u.1).map fun u => if isComplete s u.1 then u else (u.1, none, u.2.2)
  let s := onSettings (fun x => { x with unretired := left, due := [], stores := [] }) s
  let s := due.foldl reapplyKey s
  let s := left.foldl (fun s u => u.2.1.elim s (reapply s u.1)) s
  let open_ := (s.set.unretired.filter fun u => u.2.1.isNone).length
  onSettings (fun x => { x with projGen := x.workGen + BitVec.ofNat 32 open_ }) s

/-! Tables (R94, R136). -/

def sortChanges (l : List TabChange) : List TabChange := sortBy (fun a b => serialAtOrBefore a.seq b.seq) l

/-- Changes that wait, and those in effect whose command is to be executed again; one that waits under R87 goes on waiting. -/
def replayedChanges (s : State) : List TabChange :=
  sortChanges (((s.tab.applied ++ s.tab.changes).filter fun c => isCommitted s c.seq).map fun c => { c with held := c.held && isComplete s c.seq })

/-- Payload bytes of a staged write, by its COMMAND entry. -/
def payloadBytes (s : State) (q : U32) : Nat :=
  (s.jnl.log.filterMap fun i => i.entry.bind fun e => if e.kind == jkCommand && e.seq == q then some (e.body.length - 32) else none).head?.getD 0

/-- The open batch with its committed writes; one whose close or abort was not committed is open again. -/
def replayedBatch (s : State) : Option TabBatch :=
  let b := match s.tab.ended.find? fun e => !isCommitted s e.1 with
    | some e => some e.2
    | none => s.tab.batch
  b.bind fun b =>
    if !isCommitted s b.seq then none
    else
      let l := b.staged.filter fun e => isCommitted s e.1
      some { b with staged := l, bytes := (l.map fun e => payloadBytes s e.1).sum }

/-- Edges and road segments of the newest readable eMMC copy. -/
def readTables (f : RestoreFound) (s : State) : Option Content :=
  let even := s.tab.storeGen.toNat % 2 == 0
  let newest := if even then f.tables0 else f.tables1
  let other := if even then f.tables1 else f.tables0
  if s.sys.emmcFault then none else if newest then some s.tab.stored else if other then some s.tab.storedPrev else none

/-- Generations at effect that committed EFFECT entries of TAB commands carry. -/
def effectGenerations (s : State) : List U32 :=
  let isTab := fun m q => (tagOf (box s m) q).any fun t => [0x0201, 0x0202, 0x0203, 0x0205, 0x0210, 0x0220, 0x0221, 0x0231].contains t.opcode
  s.jnl.log.filterMap fun i => i.entry.bind fun e =>
    if i.live && e.kind == jkEffect && isTab e.source e.seq && u16At e.body 4 == 4 && u32At e.body 8 != 0 then some (BitVec.ofNat 32 (u32At e.body 8)) else none

def restoredState (s : State) (p : Nat) (b : Bytes) : PinState :=
  let v := tabGetD s.tab.savedPins p (0, 0, 0)
  { freshState b with counter := v.1, downSeq := tabGetD s.jnl.seqTable p 0, failure := v.2.2 }

/-- Ground changes of committed commands take effect; every open load is discarded. -/
def restoreGround (s : State) : State :=
  let s := (s.tab.groundDue.filter (·.committed)).foldl
    (fun s d => { s with tab := { s.tab with ground := tabSet s.tab.ground d.seg (dueRecords (segEntry s.tab.live d.seg) (groundsOf s d.seg) d) } }) s
  let s := s.tab.loads.foldl (fun s l => post 0x0508 l.seg [] s) s
  let reload := if s.sys.emmcFault then [] else (usedSegs s).filter fun g => (matching s g).isSome
  { s with tab := { s.tab with groundDue := [], loads := [], commits := [], groundDram := [], reload := reload } }

/-- Step 1 of R94: the stored halves in index order; one that holds an uncorrectable word or fails a check of Table 4.3 beside those before it
is bad. Answers the good ones and the bad Pins. -/
def checkedPins (variant : Nat) (bad : List Nat) : List (Nat × Bytes) → Tab Bytes → Tab Bytes × List Nat
  | [], good => (good, [])
  | (p, b) :: rest, good =>
    if bad.contains p || !confReservedOk b || (confCheck variant { pins := good, edges := [], segs := [] } p b).isSome then
      let (g, l) := checkedPins variant bad rest good
      (g, p :: l)
    else checkedPins variant bad rest (tabSet good p b)

def restoreTables (f : RestoreFound) (s : State) : State :=
  let (pins, bad) := checkedPins s.sys.variant f.badPins s.tab.stored.pins []
  let disk := readTables f s
  let live : Content := { pins := pins, edges := disk.elim [] (·.edges), segs := disk.elim [] (·.segs) }
  let s := bad.foldl (fun s p => post 0x0505 p [] s) s
  let s := postIf disk.isNone 0x0506 noSource [] s
  let kept := s.tab.unpersisted.filter fun e => isComplete s e.1
  let live := kept.foldl (fun c e => applyItems e.2 c) live
  let changes := replayedChanges s
  let batch := replayedBatch s
  let gen := (effectGenerations s).foldl laterStitch s.tab.savedGen
  let s := { s with tab := { s.tab with
    live := live, unpersisted := kept, changes := changes, batch := batch, generation := gen, applied := [], ended := [], effected := []
    closeFail := s.tab.closeFail.filter (fun e => isCommitted s e.1 && !isComplete s e.1)
    stagedSeqs := s.tab.stagedSeqs.filter (fun q => isCommitted s q && !isComplete s q)
    state := live.pins.map fun e => (e.1, restoredState s e.1 e.2) } }
  restoreGround (reproject s)

/-! Pin commands and releases. -/

/-- The live entries of a kind, in acceptance order. -/
def liveEntries (s : State) (kind : Nat) : List JEntry :=
  sortBy (fun a b => serialAtOrBefore a.seq b.seq)
    (s.jnl.log.filterMap fun i => if i.live then i.entry.bind (fun e => if e.kind == kind then some e else none) else none)

/-- A Pin command without OUTCOME takes its place with no tries spent and its downlink sequence. -/
def replayPin (s : State) (e : JEntry) : State :=
  let q : PinCmd := { seq := e.seq, chain := u8At e.body 0 == 1, kind := u8At e.body 1, downSeq := u8At e.body 2, payload := e.body.drop 4, committed := true,
                      stitch := s.stitch.number, cycle := s.time.cycle, tries := 0, due := nextStitch s, latched := false }
  onPin e.source (fun t => { t with pending := true }) (setQueue e.source (queueOf s e.source ++ [q]) s)

def replayReleases (s : State) : State :=
  let keep := (s.air.releases.filter fun r => isCommitted s r.seq).map fun r => if isComplete s r.seq then r else { r with ready := false, done := none }
  onAir (fun a => { a with releases := keep }) s

/-! The Sampler (R395). -/

def restoreRecord (s : State) (e : JEntry) : State :=
  if s.smp.selvedge.any (fun r => r.seq == e.seq) || s.smp.round.any (fun r => r.seq == e.seq) then retire e.seq s else storeRecord (recordOf e.body) s

def restoreSampler (f : RestoreFound) (s : State) : State :=
  let s := { s with smp := { s.smp with corrupt := f.corruptSlots, scanned := true } }
  let s := (liveEntries s jkRecord).foldl restoreRecord s
  postIf (f.corruptSlots != 0) 0x0A06 noSource (le32 f.corruptSlots) s

/-! Metering (R282–R286, R375). -/

def newerSave (a b : Option MetSave) : Option MetSave :=
  match a, b with
  | some x, some y => if serialBefore x.seq y.seq then b else a
  | some _, none => a
  | none, _ => b

/-- A committed interval record later than the save: the last closed boundary and the previous values pass it. -/
def passInterval (s : State) (r : MetRecord) : State :=
  let b := u64At r.bytes 8 + 60 * u16At r.bytes 4
  if b ≤ s.met.interval.lastClosed then s
  else
    let fs := s.met.feeders.zipIdx.map fun (f, n) =>
      { f with prev := f.prev.zipIdx.map (fun (v, k) => v + u32At r.bytes (32 + 18 * n + 4 * k)), gap := 0 }
    onInterval (fun iv => { iv with start := b, lastClosed := b, flags := 0, resumed := false }) (onMet (fun m => { m with feeders := fs }) s)

/-- A committed span record later than the save: its span is no longer waiting, and its estimates are in the registers. -/
def passSpan (s : State) (r : MetRecord) : State :=
  let here := fun x : Span => x.feeder == u8At r.bytes 4 && x.phases == u8At r.bytes 5 && x.cause == u8At r.bytes 6 && x.start == u64At r.bytes 8
  let wasOpen := s.met.spans.any here || s.met.closed.any fun c => here c.span && c.late
  let d := if wasOpen then msBetween (u64At r.bytes 8) (u64At r.bytes 16) else 0
  let s := onMet (fun m => { m with closed := m.closed.filter (fun c => !here c.span), spans := m.spans.filter fun x => !here x }) s
  onFeeder (u8At r.bytes 4) (fun f => { f with unmeasured := f.unmeasured + BitVec.ofNat 64 d, estI := f.estI + BitVec.ofNat 64 (u64At r.bytes 24), estE := f.estE + BitVec.ofNat 64 (u64At r.bytes 32) }) s

/-- A record built before the reset and never accepted joins the batch again. -/
def rejoin (kind : Nat) (spans : Bool) (s : State) (r : MetRecord) : State :=
  let body := fun q : U32 => crcEnd (leW q ++ (r.bytes.drop 4).take (r.bytes.length - 8))
  let (q, t) := joinWork kind (if spans then u8At r.bytes 4 else 0) body s
  let n : MetRecord := { seq := q, bytes := body q, accepted := false, archived := false }
  onMet (fun m => if spans then { m with spanRecords := m.spanRecords ++ [n] } else { m with records := m.records ++ [n] }) t

/-- Cause of Table 11.3 for the stop behind this start: the supply lost (kinds 0–2) or kept. -/
def stopCause (s : State) (lg : Bool) : Nat :=
  if s.sys.baseKind ≤ 2 then (if lg then 1 else 2) else if lg && s.sys.baseKind == 3 then 3 else 4

/-- The span of the stop, for a feeder of a fitted harness. -/
def stopSpan (cause : Nat) (v : MetSave) (s : State) (n : Nat) : State :=
  if hsFitted s (n / 6) then
    let t := openSpan n 7 cause v.instant s
    let mark := fun x : Span => if x.feeder == n && x.cause == cause && x.start == v.instant then { x with dark := v.dark.getD (n / 6) false } else x
    onMet (fun m => { m with spans := m.spans.map mark }) t
  else s

/-- The interval that ran at the stop closes with PARTIAL once its end has passed; the one in which measurement resumes carries
PARTIAL and RESUMED (R282). -/
def resumeInterval (s : State) : State :=
  let iv := s.met.interval
  let stop := gridStart s iv.length iv.start + 60 * iv.length
  if stop ≤ taiSec s then
    let s := closeAt stop s
    onInterval (fun iv => { iv with start := max stop (gridStart s iv.length (taiSec s)), resumed := true }) s
  else onInterval (fun iv => { iv with resumed := true }) s

/-- No valid save: the registers start at 0, and the first interval starts on the grid. -/
def freshMetering (s : State) : State :=
  let len := setU8 s secInterval 0
  let b := gridStart s len (taiSec s)
  post 0x0714 noSource [] (onInterval (fun iv => { iv with length := len, start := b, lastClosed := b }) s)

def restoreMetering (f : RestoreFound) (s : State) : State :=
  let a := if f.saveA then s.met.saveA else none
  let b := if f.saveB then s.met.saveB else none
  let lg := if f.saveLg then s.met.saveLg else none
  let best := newerSave lg (newerSave a b)
  let isLg := best.isSome && best == lg
  let s := onMet (fun m => { m with
    saveA := a, saveB := b, saveLg := lg, prevLgOk := isLg, restored := true, mode := .startUp
    records := m.records.filter (·.accepted), spanRecords := m.spanRecords.filter (·.accepted) }) s
  match best with
  | none => freshMetering s
  | some v =>
    let slot := if isLg then 2 else if best == a then 0 else 1
    let s := onMet (fun m => { m with
      saveSeq := v.seq, saveSlot := slot, lastKind := v.kind, feeders := v.feeders, interval := v.interval, spans := v.spans, closed := v.closed
      closing := v.closing, blockEnd := v.instant }) s
    let later := fun r : MetRecord => serialBefore v.lastSeq r.seq
    let s := (s.met.records.filter later).foldl passInterval s
    let s := (s.met.spanRecords.filter later).foldl passSpan s
    let gone := fun r : MetRecord => !isCommitted s r.seq
    let s := (v.unaccepted.filter gone).foldl (rejoin jkInterval false) s
    let s := (v.unacceptedSpans.filter gone).foldl (rejoin jkSpan true) s
    resumeInterval ((upTo 12).foldl (stopSpan (stopCause s isLg) v) s)

/-- Outputs stand as their drive latches hold them, opened where a trip latch is set (R267). -/
def restoreOutputs (s : State) : State :=
  (upTo 8).foldl (fun t n => onOutput n (fun x => { x with closed := (x.drive != coToOpen (coEntry t n)) && !x.tripped }) t) s

/-- A snapshot recorded and not archived is gone (R290). -/
def restoreSnaps (s : State) : State :=
  let recorded := fun x : Snapshot => s.smp.round.any fun r => r.code == 0x0704 && !bit r.flags 3 && u32At r.payload 0 == x.id.toNat
  let gone := s.met.snaps.filter fun x => !x.archived && recorded x
  let s := gone.foldl (fun s x => post 0x0715 noSource (leW x.id) s) s
  onMet (fun m => { m with snaps := m.snaps.filter (·.archived), snapUnarch := m.snapUnarch + BitVec.ofNat 32 gone.length }) s

/-! Keys (R190). -/

/-- Each counter resumes at its reserved mark. -/
def restoreKeys (s : State) : State :=
  { s with sec := { s.sec with slots := s.sec.slots.map fun k => { k with counter := k.reserved } } }

/-! RESTORE. -/

/-- R33 at a TAI instant. -/
def stitchNumberAt (period ns : Nat) : U32 := BitVec.ofNat 32 (ns / (period * 1000000))

/-- The first whole second of the time base from now on (R39). -/
def firstSecond (s : State) : Nat := (taiNs s + 999999999) / 1000000000 * 1000000000

/-- The Stitch numbers that the first boundary will open, for the work executed before it. -/
def expectStitch (s : State) : State :=
  let p := u16At (tabGetD (storedSections s) secStitch []) 0
  let p := if p = 0 then 20 else p
  { s with stitch := { s.stitch with period := p, number := stitchNumberAt p (firstSecond s) - 1 } }

/-- RESTORE: the order of Table 17.1 and R374; then the commands that are not complete may be executed, before any request is taken. -/
def execRestore (f : RestoreFound) (s : State) : Out :=
  if s.sys.phase == .restore then
    let s := startCounts s
    let s := restoreSettings f s
    let s := expectStitch (seedTime s)
    let s := chooseJournal f (settingsEvents (startEvents s))
    let s := replayMailboxes f s
    let s := replayLoads (rebuildSettings s)
    let s := restoreKeys (restoreMetering f (fittedAtBoundary s))
    let s := restoreSampler f s
    let s := restoreTables f s
    let s := (liveEntries s jkPinCmd).foldl replayPin s
    let s := buildPlans (restoreOutputs (restoreSnaps (replayReleases s)))
    let s := onJnl (fun j => spaceHolds { j with replayDone := true }) s
    next (postMailboxTasks (onRunPhase .wait s))
  else next s

end Sys2Proof.Machine
end

