-- ==== Sys2Proof/Machine/Startup.lean ====
section
/-! DEFINITION. The phases of start-up (R39, R399–R405, R316), A0's stop and return (R22), and the single-part faults of memory
(R23, R370, R377, R415, R470). -/

namespace Sys2Proof.Machine

/-! Phase 0 (R399, R415). -/

/-- SUPPLY_PHASE_DONE: the bank holds 100 ms at 32 W; K0 runs the boot ROM. -/
def execSupplyPhaseDone (s : State) : Out :=
  if s.sys.phase == .supply then next (onSys (fun x => { x with phase := .boot, bankCharging := false }) s) else next s

/-- HOLDUP_MEASURE: HOLDUP_LOW below 150 ms, as an edge; BANK_FAULT below 25 ms or with the bank open. -/
def execHoldupMeasure (ms : Nat) (open_ : Bool) (s : State) : Out :=
  let v := satU 16 ms
  let low := ms < 150
  let t := onSys (fun x => { x with holdupMs := v, holdupLow := low, bankFault := open_ || ms < 25 }) s
  if low == s.sys.holdupLow then next t else next (bootRecord 0x014D noSource (edge low ++ le16 v) t)

/-! BOOT (R316, R386, R404, R405). -/

/-- A LATE event of the cycle before: its count, and the seconds last saved in it, with subseconds 0. -/
def latchOld (code source : Nat) (payload : Bytes) (s : State) : State :=
  onSys (fun x => { x with latched := x.latched ++ [{ eventNow s code source payload with opSec := x.savedOpSec, opSub := 0, late := true }] }) s

/-- The RTC flags are read: RTC_LOST, RTC_BATLOW, and each alarm that fired while the supply was off. -/
def readRtcFlags (s : State) : State :=
  let s := if s.rtc.lost then latchOld 0x040C noSource [] s else s
  let s := if s.rtc.batlow then latchOld 0x040D noSource (le16 s.rtc.backupMv) s else s
  let fired := fun (t : State) (k : Nat) =>
    let a := alarm t k
    if a.backupFirings = 0 then t
    else latchOld 0x040A k (le16 a.count ++ le8 (alarmFlags a) ++ le8 0 ++ le32 (a.lastTick / 32768 % 4294967296)) (onAlarm k (fun a => { a with backupFirings := 0 }) t)
  onRtc (fun r => { r with batlow := false }) ((upTo 2).foldl fired s)

/-- R403's checks as the boot ROM makes them, with the reasons of IMAGE_REJECTED. -/
def slotReason (minSec : Nat) (c : ImageCheck) : Option Nat :=
  if !c.present then some 5 else if !c.signatureOk then some 0 else if c.product ≠ 0x8640 ∨ c.headerVersion ≠ 1 then some 1 else if c.securityVersion < minSec then some 2
  else if !c.hashOk then some 3 else none

/-- No slot can be started: LOADER, and the service port is served (R405). -/
def enterLoader (s : State) : State := usbRefresh (onRunPhase .loader (bootRecord 0x0146 noSource [] s))

/-- A slot starts: its header gives its version, and a TRIAL start counts. -/
def startImage (k : Nat) (c : ImageCheck) (s : State) : State :=
  let x := imageSlot s k
  let s := setSlot k { x with version := c.version, secVersion := c.securityVersion } s
  onSys (fun y => { y with active := k, running := k, trialStarts := if x.state == .trial then y.trialStarts + 1 else y.trialStarts, phase := .memory }) s

/-- R403: the image of a slot that fails a check is rejected and recorded. -/
def rejectImage (k reason : Nat) (c : ImageCheck) (s : State) : State := bootRecord 0x0141 k (le8 reason ++ le16 c.product ++ leW c.version) s

/-- The other slot is taken under kind ROLLBACK, or LOADER state is entered. An image of it that fails R403 is rejected; its slot keeps
its state, since R404 gives BAD to the active one alone. -/
def otherSlot (cause : Nat) (img : Nat → ImageCheck) (s : State) : State :=
  let a := s.sys.active
  let o := 1 - a
  let x := imageSlot s o
  if x.state == .valid || x.state == .confirmed then
    match slotReason s.sys.minSec (img o) with
    | some r => enterLoader (rejectImage o r (img o) s)
    | none =>
      let s := bootRecord 0x0145 o (le8 cause ++ leW (slotVersion (imageSlot s a))) s
      startImage o (img o) (onSys (fun y => { y with kind := 4 }) s)
  else enterLoader s

/-- Operating seconds at which this start resumes (R384). -/
def resumeSec (s : State) : Nat := s.sys.savedOpSec + if gaspKind s.sys.baseKind then 0 else 60

/-- R404. -/
def selectImage (img : Nat → ImageCheck) (s : State) : State :=
  let a := s.sys.active
  let x := imageSlot s a
  let c := img a
  if s.sys.dramImage.isSome then onRunPhase .memory s
  else if x.state == .empty || x.state == .bad then otherSlot 0 img s
  else
    match slotReason s.sys.minSec c with
    | some r => otherSlot 0 img (setSlot a { x with state := .bad } (rejectImage a r c s))
    | none =>
      if x.state == .trial && 3 ≤ s.sys.trialStarts then otherSlot 1 img s
      else if x.state == .trial && s.sys.confirmUntil ≤ resumeSec s then otherSlot 2 img s
      else startImage a c s

/-- BOOT. -/
def execBoot (imageA imageB : ImageCheck) (s : State) : Out :=
  if s.sys.phase == .boot then next (selectImage (fun k => if k = 0 then imageA else imageB) (readRtcFlags s)) else next s

/-! MRAM banks (R470). -/

/-- Round slot of the i-th of `n` records, oldest first. -/
def slotOfRecord (p : Sampler) (n i : Nat) : Nat := p.roundFirst + (p.roundNext - p.roundFirst + p.roundSize - n + i) % p.roundSize

/-- The Round keeps only slots `first` to `first + size - 1`. Answers the records lost with the others. -/
def shrinkRound (first size : Nat) (s : State) : Nat × State :=
  let p := s.smp
  let l := p.round.zipIdx.map fun (r, i) => (r, slotOfRecord p p.round.length i)
  let kept := l.filter fun e => first ≤ e.2 && e.2 < first + size
  let nextSlot := kept.getLast?.elim first fun e => if e.2 + 1 < first + size then e.2 + 1 else first
  (l.length - kept.length, { s with smp := { p with round := kept.map (·.1), roundFirst := first, roundSize := size, roundNext := nextSlot } })

def round1 : Nat := 69632

/-- A bank fails: what Table 15.14 gives for it. Its settings and protection records are lost with it. -/
def loseBank (bank : Nat) (s : State) : State :=
  let (n, s) := if bank = 0 then shrinkRound round1 (roundSlots - round1) s else shrinkRound 0 round1 s
  let s := if bank = 0 then { s with smp := { s.smp with selvedge := [], selvedgeLost := true } } else s
  let copies := listModify s.set.copies bank fun c => { c with valid := false, protValid := false }
  let gen := (chosenCopy { s.set with copies := copies }).elim s.set.storedGen (·.storedGen)
  let s := onSettings (fun x => { x with copies := copies, storedGen := gen }) s
  let s := onJnl (fun j => { j with copy0Ok := j.copy0Ok && bank != 0, copy1Ok := j.copy1Ok && bank != 1, single := true }) s
  bootRecord 0x0209 bank (le32 n) (onSys (fun x => { x with bankOk := listSet x.bankOk bank false }) s)

/-- MRAM_BANK_FAULT: the bank is not used again while the module runs. -/
def execMramBankFault (bank : Nat) (s : State) : Out :=
  if bank < 2 && s.sys.bankOk.getD bank false then next (loseBank bank s) else next s

/-! MEMORY (Table 17.1). -/

/-- A part 2 found working again: the Round has its whole area. -/
def wholeRound (s : State) : State :=
  if s.smp.roundFirst = 0 then { s with smp := { s.smp with roundSize := roundSlots } } else s

/-- MEMORY_READY: the PLLs are in lock; failed parts are noted and the start goes on, but for bank 0 (R470). -/
def execMemoryReady (die0 die1 emmc bank0 bank1 : Bool) (s : State) : Out :=
  if s.sys.phase == .memory then
    let dies := (if die0 then [] else [0]) ++ (if die1 then [] else [1])
    let s := { s with time := { s.time with plls := List.replicate 12 true } }
    let s := onSys (fun x => { x with diesLost := dies, emmcFault := !emmc, bankOk := [true, true] }) s
    let s := dies.foldl (fun t d => bootRecord 0x0208 d [] t) s
    let s := if bank1 then wholeRound s else loseBank 1 s
    if bank0 then next (onRunPhase .restore s)
    else next (enterLoader (onSys (fun x => { x with bankOk := listSet x.bankOk 0 false }) s))
  else next s

/-! The first boundary (R39, R399, R400). -/

/-- The interval close tasks that RESTORE left to be made READY. -/
def postClosing (s : State) : State :=
  s.met.closing.foldl (fun t _ => postTask 3 (softTask .interval 10000 t) t) s

/-- Radio commands that the replay has queued enter their Skeins once these are allocated (R215). -/
def requeuePins (s : State) : State :=
  (liveEntries s jkPinCmd).foldl (fun t e => if u8At e.body 0 = 0 then queuePacket (8 + (pinState t e.source).serving) (entryImage e) t else t) s

/-- FIRST_BOUNDARY_RELEASE: the generator starts in FREE at the whole TAI second the time base has come to, and the first commit begins. -/
def execFirstBoundaryRelease (s : State) : Out :=
  if s.sys.phase == .wait then
    let b := (taiNs s + 500000000) / 1000000000 * 1000000000
    let p := s.stitch.period
    let n := stitchNumberAt p b
    let ms := satU 16 (s.time.cycle / 400000)
    let s := { s with stitch := { s.stitch with run := true, number := n, state := .free, phase := 0, step := 0, lastBoundary := b, nextBoundary := b + p * 1000000, busy := true } }
    let intake := s.smp.intake.map fun e : Event => { e with stitch := n }
    let s := { s with smp := { s.smp with intake := intake } }
    let s := requeuePins { s with skn := { s.skn with skeins := skeinsAllocated }, lace := { s.lace with inService := List.replicate 8 true } }
    let s := onSys (fun x => { x with phase := .run, startMs := ms, startCycle := s.time.cycle, latched := [], bootEvents := [] }) s
    let s := chainRateChanged 0 (ringSettings (usbRefresh s))
    let s := if bindEn s.sec.prot 15 then openSession 15 .opened s else s
    let s := postClosing (samplerStitchEnd s)
    let s := post 0x0140 s.sys.running (leW (runningImage s).version ++ le16 ms ++ edge (isTrial s)) s
    next (sealBatch true (sealWork s))
  else next s

/-! A0 (R22). -/

/-- A0_STOP: acceptance stops; the Tambour counts it and the Sampler records it. Requests that A0 had put in the open batch are still
committed by K0 (DESIGN CHOICE: R22 does not say). -/
def execA0Stop (s : State) : Out :=
  if running s && s.mbx.a0Running then
    let s := { s with mbx := { s.mbx with a0Running := false, a0Stops := s.mbx.a0Stops + 1 }, tmb := { s.tmb with a0Stop := s.tmb.a0Stop + 1 } }
    next (post 0x0104 noSource (leW s.tmb.a0Stop) s)
  else next s

/-- A0_RETURN: every session closes; the mailboxes stand as the journal holds them. The panel's own session opens anew, and a
connected service port waits for a login. -/
def execA0Return (s : State) : Out :=
  if running s && !s.mbx.a0Running then
    let t := (upTo 16).foldl (fun t m => if (box t m).session == .closed then t else dropSession m t) s
    let t := { t with mbx := { t.mbx with a0Running := true } }
    let t := if bindEn t.sec.prot 15 then openSession 15 .opened t else t
    let t := if t.pnl.connected && bindEn t.sec.prot 14 then openSession 14 .loginWait t else t
    next (windowMessages t)
  else next s

/-! Memory faults (R23, R377). -/

/-- Long results were in DRAM. -/
def loseLong (s : State) : State :=
  let slot := fun r : Slot => if 256 < r.result.length then { r with result := [], lost := true } else r
  let cmd := fun c : Cmd => if 256 < c.result.length then { c with result := [], lost := true } else c
  let boxes := s.mbx.boxes.map fun b : Mailbox => { b with slots := b.slots.map slot, cmds := b.cmds.map cmd }
  { s with mbx := { s.mbx with boxes := boxes } }

/-- DRAM_DIE_LOST: mirrored regions run from the other die; the Ground is copied again from the eMMC. -/
def execDramDieLost (die : Nat) (s : State) : Out :=
  if die < 2 && running s && !s.sys.diesLost.contains die then
    let t := loseLong (post 0x0208 die [] (onSys (fun x => { x with diesLost := x.diesLost ++ [die] }) s))
    let reload := (usedSegs t).filter fun g => (matching t g).isSome
    let t := { t with tab := { t.tab with groundDram := [], reload := reload } }
    let snap := fun x : Snapshot => if x.archived then x else { x with coded := none, lost := true }
    next (onMet (fun m => { m with snaps := m.snaps.map snap }) t)
  else next s

/-- EMMC_FAULT: archives, Ground reload and the result store stop. -/
def execEmmcFault (s : State) : Out :=
  if running s then next (onJnl (fun j => { j with resultsDown := true }) (onSys (fun x => { x with emmcFault := true }) s)) else next s

/-- RESULT_STORE_COPY: the DONE or EFFECT entry of a retired command with a result of 256 bytes or less is copied to the result store and released from the log. -/
def execResultStoreCopy (sequence : U32) (s : State) : Out :=
  let live := fun k : Nat => s.jnl.log.any fun i => i.live && i.entry.any fun e => e.seq == sequence && e.kind == k && (k != jkDone || u32At e.body 4 ≤ 256)
  if (live jkEffect || live jkDone) && !live jkCommand && !s.sys.emmcFault then
    let mark := fun r : Slot => if r.seq == sequence then { r with copied := true } else r
    let boxes := s.mbx.boxes.map fun b : Mailbox => { b with slots := b.slots.map mark }
    let log := releaseLog (fun e => e.seq == sequence && (e.kind == jkEffect || e.kind == jkDone)) s.jnl.log
    next (onJnl (fun j => spaceHolds { j with log := log }) { s with mbx := { s.mbx with boxes := boxes } })
  else next s

end Sys2Proof.Machine
end

