-- ==== Sys2Proof/Machine/Boundary.lean ====
section
/-! DEFINITION. The Stitch boundary (R25, R32–R38, R42, R49) and the journal commits (R367). -/

namespace Sys2Proof.Machine

def onStitch (f : StitchGen → StitchGen) (s : State) : State := { s with stitch := f s.stitch }

/-! Stitch numbers held as counts of Stitches move with a number that is derived anew (R37, R38). -/

def shiftTask (d : U32) (t : TaskSlot) : TaskSlot := { t with dlStitch := t.dlStitch + d }
def shiftCmd (d : U32) (c : Cmd) : Cmd := { c with accepted := c.accepted + d }
def shiftPinCmd (d : U32) (q : PinCmd) : PinCmd := { q with stitch := q.stitch + d, due := q.due + d }
def shiftRadio (d : U32) (r : RadioPin) : RadioPin :=
  { r with heardStitch := r.heardStitch + d, suspended := r.suspended.map (· + d), rehomedAt := r.rehomedAt.map (· + d) }
def shiftSession (d : U32) (z : ImageSession) : ImageSession :=
  { z with first := z.first + d, activationDue := z.activationDue.map fun e => (e.1 + d, e.2) }

/-- Every Stitch number that the module compares with the running one, moved by `d`. -/
def shiftStitches (d : U32) (s : State) : State :=
  let slots := s.tmb.slots.map (shiftTask d)
  let held := s.tmb.held.map fun h : HeldTask => { h with task := shiftTask d h.task }
  let due := s.set.due.map fun x : Due => { x with stitch := x.stitch + d }
  let boxes := s.mbx.boxes.map fun b : Mailbox => { b with cmds := b.cmds.map (shiftCmd d) }
  let queues := s.fade.queues.map fun e => (e.1, e.2.map (shiftPinCmd d))
  let lastAt := s.fade.lastAt.map fun e => (e.1, e.2 + d)
  let marks := s.lace.marks.map fun e => (e.1, e.2.map fun m => m.map (· + d))
  let radio := s.air.radio.map fun e => (e.1, shiftRadio d e.2)
  let shuttles := s.air.shuttles.map fun h : Shuttle => { h with groups := h.groups.map fun e => (e.1 + d, e.2) }
  let picots := s.air.picots.map fun r : PicotReq => { r with due := r.due + d }
  let reset := s.sys.pendingReset.map fun p : PendingReset => { p with boundary := p.boundary + d }
  { s with
    tmb := { s.tmb with slots := slots, held := held }, set := { s.set with due := due }, mbx := { s.mbx with boxes := boxes }
    fade := { s.fade with queues := queues, lastAt := lastAt }, lace := { s.lace with marks := marks }
    chain := { s.chain with packetsAt := s.chain.packetsAt.map (· + d) }
    air := { s.air with shuttles := shuttles, radio := radio, picots := picots, probes := s.air.probes.map (fun e => (e.1, e.2 + d)), session := s.air.session.map (shiftSession d) }
    sys := { s.sys with pendingReset := reset } }

/-! The generator (R35–R38). -/

/-- Index of the grid instant nearest to a TAI instant. -/
def gridIndex (per ns : Nat) : Nat := (ns + per / 2) / per

/-- The grid index that a number counts, nearest to index `k`. -/
def indexOf (n : U32) (k : Nat) : Int :=
  let d := (n - BitVec.ofNat 32 k).toInt
  (k : Int) + d

/-- R37 for a time-base step of more than half a period: the number of this boundary, and STITCH_OFFSET. -/
def stepNumber (s : State) : State :=
  let g := s.stitch
  let would := g.number + 1
  let r33 := BitVec.ofNat 32 (gridIndex (g.period * 1000000) g.nextBoundary)
  if 0 < g.step && serialBefore would r33 then
    post 0x0105 noSource (leW would ++ leW r33)
      (shiftStitches (r33 - would) (onStitch (fun g => { g with number := r33, skip := g.skip + (r33 - would), offset := 0, step := 0 }) s))
  else
    post 0x0105 noSource (leW would ++ leW r33) (onStitch (fun g => { g with number := would, offset := would - r33, step := 0 }) s)

/-- The number of this boundary. -/
def numberBoundary (s : State) : State :=
  if s.stitch.period * 500000 < s.stitch.step.natAbs then stepNumber s
  else onStitch (fun g => { g with number := g.number + 1, step := 0 }) s

/-- The stored period whose whole second this boundary is (R38). -/
def periodDue (s : State) : Option Nat :=
  s.stitch.newPeriod.bind fun e => if e.2 * 1000000000 ≤ s.stitch.nextBoundary + s.stitch.period * 500000 then some e.1 else none

/-- R38: the new period is in force, and the number is derived from R33 under it. The marks are cleared (R128). -/
def changePeriod (p : Nat) (s : State) : State :=
  let old := s.stitch.period
  let would := s.stitch.number + 1
  let n := BitVec.ofNat 32 (gridIndex (p * 1000000) s.stitch.nextBoundary)
  post 0x0106 noSource (leW would ++ leW n ++ le8 (periodCode old) ++ le8 (periodCode p))
    (clearMarks (shiftStitches (n - would) (onStitch (fun g => { g with period := p, number := n, offset := 0, step := 0, newPeriod := none }) s)))

/-- Phase error of this boundary against the grid instant of its number, and the length of the Stitch that begins (R36). -/
def steer (s : State) : State :=
  let per := s.stitch.period * 1000000
  let b := s.stitch.nextBoundary
  let k := indexOf (s.stitch.number - s.stitch.offset) (gridIndex per b)
  let e : Int := (b : Int) - k * per
  let most : Int := ((per / 2000 : Nat) : Int)
  let corr := if e.natAbs ≤ 1000 then 0 else clampI e (-most) most
  let st := if !s.time.servo.everTraceable then StitchState.free else if 1000 < e.natAbs then .slewing else .aligned
  onStitch (fun g => { g with phase := e, state := st, lastBoundary := b, nextBoundary := ((b : Int) + per - corr).toNat }) s

/-! STITCH_BOUNDARY. -/

/-- Road segments whose solving or Darning a boundary cancels. -/
def frayedSegs (n : U32) (s : State) : List Nat :=
  (s.tmb.slots.filter (reaches n)).filterMap fun t => match t.kind with | .solve g | .darn g => some g | _ => none

/-- Shuttles whose telemetry decoding a boundary cancels: one for each task. -/
def frayedTelemetry (n : U32) (s : State) : List Nat :=
  (s.tmb.slots.filter (reaches n)).filterMap fun t => match t.kind with | .telemetry k => some k | _ => none

/-- What ends with the Stitch: STRICT tasks (R42), with the undecoded samples of those of telemetry (R41), the presence window (step 1
of R25), and every unit's Stitch. -/
def stitchEnd (s : State) : State :=
  let n := s.stitch.number + 1
  let frayed := frayedSegs n s
  let lost := frayedTelemetry n s
  let s := closePresence (closeLoads (lost.foldl (fun t k => dropPacket (4 + k) t) (cancelStrict n s)))
  samplerStitchEnd (chainStitchEnd (fadeBoundary (laceStitchEnd frayed s)))

/-- The commit of the boundary begins, or waits for the one in progress. -/
def beginCommit (s : State) : State := if s.jnl.committing.isSome then s else sealBatch true (sealWork s)

/-- A boundary up to step 2 of R25. -/
def boundary (s : State) : State :=
  let s := stitchEnd s
  let s := match periodDue s with
    | some p => changePeriod p s
    | none => numberBoundary s
  beginCommit (onStitch (fun g => { g with busy := true }) (steer s))

/-- A boundary may come: the module runs, the one before is done, and no planned reset takes its place. -/
def boundaryFree (s : State) : Bool :=
  running s && s.stitch.run && !s.stitch.busy && !(s.sys.pendingReset.any fun p => serialAtOrBefore p.boundary (nextStitch s))

def execStitchBoundary (s : State) : Out := if boundaryFree s then next (boundary s) else next s

/-- STITCH_PERIOD_CHANGE: the boundary at the whole second at which the stored period takes effect. -/
def execStitchPeriodChange (s : State) : Out := if boundaryFree s && (periodDue s).isSome then next (boundary s) else next s

/-- JOURNAL_BATCH_COMMIT: a batch over 4 KB commits between boundaries. -/
def execJournalBatchCommit (s : State) : Out :=
  if (running s || s.sys.phase == .wait) && s.jnl.committing.isNone && 4096 < batchBytes s.jnl.batch then next (sealBatch false (sealWork s)) else next s

/-! Steps 3 to 5 of R25. -/

/-- Step 3: changes take effect, and the inputs of the Stitch are sampled. -/
def sampleInputs (s : State) : State :=
  let old := s.tab.live
  let s := tablesAtBoundary (homeFrames s)
  let s := groundAtBoundary (fadePrune (settingsFrames old s))
  let s := scheduleSample (captureStores (dueSettings s))
  let s := checkStartUp (contactorsAtBoundary (fittedAtBoundary s))
  let s := hearPins (releaseBoundary (holdPins (resetTargets (chainClasses s))))
  let s := activationBoundary (rehomeBoundary s)
  chainCommit (laceBoundary s)

/-- Step 4: the tasks of the new Stitch enter their reserved slots (R49). -/
def releaseTasks (s : State) : State :=
  let n := nextStitch s
  let s := (upTo 36).foldl (fun t b => releaseTask (newTask (.schedule b) false n 0 0) t) s
  let s := releaseTask (newTask .walk false n 0 0) s
  (inServiceShuttles s).foldl (fun t k => releaseTask (newTask (.planning k) true t.stitch.number 2000 0) t) s

def boundaryWork (s : State) : State :=
  let s := postMailboxTasks (releaseTasks (sampleInputs (abortsDone true s)))
  onStitch (fun g => { g with busy := false }) s

/-- What follows a complete commit. -/
def afterCommit (b : Batch) (s : State) : State :=
  if !running s then s
  else if b.boundary then boundaryWork s
  else if s.stitch.busy then beginCommit s
  else postMailboxTasks s

/-- Copies whose second write failed; their bank is not used again (R367, R470). -/
def failedCopies (c0 c1 : CopyWrite) (s : State) : State :=
  let s := if c0 = .failed && s.jnl.copy0Ok then loseBank 0 s else s
  if c1 = .failed && s.jnl.copy1Ok then loseBank 1 s else s

/-- JOURNAL_COMMIT_DONE: the commit is verified in every copy in use. With no copy left it never completes. -/
def execJournalCommitDone (copy0 copy1 : CopyWrite) (us : Nat) (s : State) : Out :=
  match s.jnl.committing with
  | none => next s
  | some b =>
    let t := failedCopies copy0 copy1 s
    if !t.jnl.copy0Ok && !t.jnl.copy1Ok then next t
    else
      let j := commitFigures b us copy0 copy1 s.jnl
      let t := onJnl (fun x => { x with committing := none, commitNo := j.commitNo, lastSeq := j.lastSeq, commits := j.commits, batchCommits := j.batchCommits,
                                        commitMax := j.commitMax, copyErr := j.copyErr }) t
      next (afterCommit b (commitWork b t))

end Sys2Proof.Machine
end

