-- ==== Sys2Proof/Machine/Recorder.lean ====
section
/-! DEFINITION. The LOG commands (R397), the marks (R391), the freeze (R393) and the Sampler's counters (R398). -/

namespace Sys2Proof.Machine

def onSmp (f : Sampler → Sampler) (s : State) : State := { s with smp := f s.smp }

/-! SMP_STATUS (Table 16.7). -/

def selvedgeFull (p : Sampler) : Bool := p.selvedgeLost || 4096 ≤ p.selvedge.length
/-- Bits [3:1]: FROZEN, FULL_2210, SELVEDGE_FULL. -/
def smpFlags (p : Sampler) : Nat := bitN p.freeze.isSome 0 + bitN p.full2210 1 + bitN (selvedgeFull p) 2
def smpStatus (s : State) : Nat :=
  bitN (log2210 s) 0 + 2 * smpFlags s.smp + 16 * maskOf (s.smp.marks.map (·.isSet)) + 256 * maskOf (s.smp.marks.map (·.overtaken)) +
    bitN s.smp.scanned 12
/-- Sequence of the oldest Round record, 0 with none. -/
def oldestRound (p : Sampler) : U32 := (p.round.head?.map (·.seq)).getD 0
def newestRound (p : Sampler) : U32 := (p.round.getLast?.map (·.seq)).getD 0
def markSeq (m : Mark) : U32 := if m.isSet then m.seq else 0

/-- FREEZE_EXPIRE: the time of the freeze has run out (R393). -/
def execFreezeExpire (s : State) : Out := next (endFreeze 1 s)

/-- SMP_CLEAR_STATS: counters and maxima of the Sampler block return to 0. -/
def execSmpClearStats (s : State) : Out :=
  next (onSmp (fun p => { p with stored := 0, suppressed := 0, ovfRec := 0, fullLost := 0, overtakenCnt := 0, intakeMax := p.intake.length }) s)

/-! Commands. -/

def logStatus : CmdSpec where
  opcode := 0x0701
  needs := rLogRead
  check _ p _ := lenIs p 0
  run _ _ s :=
    let p := s.smp
    (s, ok (le8 (if log2210 s then 1 else 0) ++ le8 (smpFlags p) ++ le8 (p.freeze.elim 0xFF (·.mailbox)) ++ le8 0 ++ leW (oldestRound p) ++
      leW p.newest ++ le32 p.round.length ++ le16 p.selvedge.length ++ le16 (logRate s) ++ leW p.suppressed ++
      p.marks.flatMap fun m => leW (markSeq m) ++ le8 (bitN m.isSet 0 + bitN m.overtaken 1) ++ zeros 3))
def execLogStatus (op : CmdStep) (s : State) : Out := next (mailboxCommand logStatus op s)

/-- Two lists in acceptance order, as one. -/
def mergeRecords : Nat → List Record → List Record → List Record
  | 0, a, b => a ++ b
  | fuel + 1, a, b =>
    match a, b with
    | [], b => b
    | a, [] => a
    | x :: a, y :: b => if serialBefore x.seq y.seq then x :: mergeRecords fuel a (y :: b) else y :: mergeRecords fuel (x :: a) b

/-- The records held in the area of a LOG_RECORD_READ: 0 both, 1 Selvedge, 2 Round. -/
def areaRecords (area : Nat) (p : Sampler) : List Record :=
  if area = 1 then p.selvedge else if area = 2 then p.round
  else mergeRecords (p.selvedge.length + p.round.length) p.selvedge p.round

/-- Class bits 1–10. -/
def classBits : Nat := 0x7FE

def logRecordRead : CmdSpec where
  opcode := 0x0702
  needs := rLogRead
  check _ p _ := checks [lenIs p 12, reserved p 7 1, need (u8At p 6 ≤ 2 && u32At p 8 != 0 && u32At p 8 &&& classBits == u32At p 8) stBadPayload,
    need (1 ≤ u16At p 4 && u16At p 4 ≤ 1024) stRange]
  run _ c s :=
    let p := c.payload
    let held := areaRecords (u8At p 6) s.smp
    let first := BitVec.ofNat 32 (u32At p 0)
    let oldest := (held.head?.map (·.seq)).getD 0
    let gap := first != 0 && held != [] && serialBefore first oldest
    let match_ := held.filter fun r => (first == 0 || serialAtOrBefore first r.seq) && bit (u32At p 8) (classOf r.code)
    let n := u16At p 4
    let (k, s) := drawFree s
    let skipped := s.smp.corrupt != 0 && Config.freeNat k % 2 == 1
    (s, ok (leW oldest ++ leW ((held.getLast?.map (·.seq)).getD 0) ++ le16 (min n match_.length) ++
      le8 (bitN gap 0 + bitN (decide (n < match_.length)) 1 + bitN skipped 2) ++ le8 0 ++ (match_.take n).flatMap recordBytes))
def execLogRecordRead (op : CmdStep) (s : State) : Out := next (mailboxCommand logRecordRead op s)

def logFreeze : CmdSpec where
  opcode := 0x0703
  needs := rLogRead
  check _ p s := checks [lenIs p 4, reserved p 2 2, need (1 ≤ u16At p 0 && u16At p 0 ≤ 60) stBadPayload, need s.smp.freeze.isNone stConflict]
  run m c s :=
    if s.smp.freeze.isSome then (s, .done stConflict [])
    else
      let s := onSmp (fun p => { p with freeze := some { mailbox := m, until_ := s.time.cycle + u16At c.payload 0 * cyclesPerSec } }) s
      let s := post 0x0A03 m (zeros 4) s
      (s, did s (leW s.smp.newest))
def execLogFreeze (op : CmdStep) (s : State) : Out := next (mailboxCommand logFreeze op s)

def freezeOf (s : State) (m : Nat) : Bool := s.smp.freeze.elim false fun f => f.mailbox == m

def logThaw : CmdSpec where
  opcode := 0x0704
  needs := rLogRead
  check m p s := checks [lenIs p 0, need (freezeOf s m) stConflict]
  run m _ s :=
    if freezeOf s m then
      let n := s.smp.waiting.length
      let s := endFreeze 2 s
      (s, did s (le16 n ++ le16 0))
    else (s, .done stConflict [])
def execLogThaw (op : CmdStep) (s : State) : Out := next (mailboxCommand logThaw op s)

def logMarkSet : CmdSpec where
  opcode := 0x0705
  needs := rLogWrite
  check _ p _ := checks [lenIs p 8, reserved p 1 3, need (u8At p 0 ≤ 3) stRange]
  run _ c s :=
    let q := BitVec.ofNat 32 (u32At c.payload 4)
    let q := if q = 0 then newestRound s.smp else q
    if s.smp.round.any fun r => r.seq == q then
      let s := onSmp (fun p => { p with marks := listSet p.marks (u8At c.payload 0) { isSet := true, overtaken := false, seq := q } }) s
      let s := fullCheck s
      (s, did s (leW q))
    else (s, .done stConflict [])
def execLogMarkSet (op : CmdStep) (s : State) : Out := next (mailboxCommand logMarkSet op s)

/-- LOG_MARK_CLEAR unsets the mark; its OVERTAKEN flag stays until LOG_MARK_SET next writes it (R391). -/
def logMarkClear : CmdSpec where
  opcode := 0x0706
  needs := rLogWrite
  check _ p _ := checks [lenIs p 4, reserved p 1 3, need (u8At p 0 ≤ 3) stRange]
  run _ c s :=
    let s := onSmp (fun p => { p with marks := listModify p.marks (u8At c.payload 0) fun m => { m with isSet := false, seq := 0 } }) s
    (s, did s [])
def execLogMarkClear (op : CmdStep) (s : State) : Out := next (mailboxCommand logMarkClear op s)

def logModeSet : CmdSpec where
  opcode := 0x0707
  needs := rLogWrite
  check _ p s := checks [lenIs p 4, reserved p 1 1, need (u8At p 0 ≤ 1 && 16 ≤ u16At p 2 && u16At p 2 ≤ 256) stBadPayload, settingsRoom p s]
  onAccept := settingAccepted
  run _ c s := writeSetting secLog 0 c.payload effectAfterCommit false c s
def execLogModeSet (op : CmdStep) (s : State) : Out := next (mailboxCommand logModeSet op s)

def printable (c : Byte) : Bool := 0x20 ≤ c.toNat && c.toNat ≤ 0x7E

/-- LOG_NOTE: one NOTE with its continuation records. The text has its stated length, padded with 0x00 (Table 14.3). -/
def logNote : CmdSpec where
  opcode := 0x0708
  needs := rLogWrite
  check _ p _ := checks [lenIs p 36, reserved p 1 3, need (1 ≤ u8At p 0 && u8At p 0 ≤ 32) stRange, need ((slice p 4 (u8At p 0)).all printable && allZero (p.drop (4 + u8At p 0))) stBadPayload]
  run m c s :=
    let s := post 0x0901 m (slice c.payload 4 (u8At c.payload 0)) s
    (s, did s [])
def execLogNote (op : CmdStep) (s : State) : Out := next (mailboxCommand logNote op s)

end Sys2Proof.Machine
end

