-- ==== Sys2Proof/Machine/Display.lean ====
section
/-! DEFINITION. What the panel's display shows (R435, R436, R440) and PNL_SCREEN_READ (R444). -/

namespace Sys2Proof.Machine

/-- What the page shows: the five items of IDENTITY, and the 16 newest Sampler records of EVENTS. The items of the other pages the spec
does not list: `k` stands for them. -/
def pageItems (k : Nat) (s : State) : List Bytes :=
  if s.pnl.page = 1 then
    [orderingNumber s.sys.variant, fit 16 Config.serialNumber, leW (runningImage s).version, fit 8 Config.eui64, fit 6 Config.baseMac]
  else if s.pnl.page = 7 then (lastN 16 (areaRecords 0 s.smp)).map recordBytes
  else [le32 k]

/-- The 42 characters of the banner shown: a fault first, then the newest hot-plug banner, then a PNL_MESSAGE. -/
def bannerText (s : State) : Bytes :=
  fit 42 (if faultLed s != 0 then Config.faultBanner (faultLed s)
    else match bannersNow s, s.pnl.message with
      | b :: _, _ => Config.eventBanner b.code b.source
      | [], some m => m.1
      | [], none => [])

/-- The 8 lines of 21 characters, a banner on the two lowest. -/
def displayText (k : Nat) (s : State) : Bytes :=
  let t := match s.pnl.test, s.pnl.entry with
    | some x, _ => Config.pageText 10 [le16 x.seen]
    | none, some e => Config.pageText 9 [asciiDigits e.digits]
    | none, none => Config.pageText s.pnl.page (pageItems k s)
  if bannerShown s then slice t 0 126 ++ bannerText s else fit 168 t

/-- The pixels of 8 lines of 21 characters, six columns each, and two columns dark (DESIGN CHOICE: the spec gives no placing). -/
def pixels (t : Bytes) : Bytes :=
  (upTo 1024).map fun i => if i % 128 < 126 then (Config.glyph (t.getD (21 * (i / 128) + i % 128 / 6) 0x20)).getD (i % 128 % 6) 0 else 0

/-- The display's 1,024 bytes: dark while it is off; all on and all off by turns, a second each, during a display test (R440). -/
def screenBytes (k : Nat) (s : State) : Bytes :=
  if s.pnl.test.elim false fun t => t.test == 1 then (if upSec s % 2 = 0 then ones 1024 else zeros 1024)
  else if s.pnl.displayOn then pixels (displayText k s) else zeros 1024

def pnlScreenRead : CmdSpec := pnlCmd 0x0B06 (fun p _ => lenIs p 0) fun _ _ s =>
  let (k, s) := drawFree s
  (s, ok (le8 s.pnl.page ++ le8 (bitN s.pnl.displayOn 0) ++ le16 0 ++ screenBytes k s))
def execPnlScreenRead (op : CmdStep) (s : State) : Out := next (mailboxCommand pnlScreenRead op s)

end Sys2Proof.Machine
end

