-- ==== Sys2Proof/Machine/Registers.lean ====
section
/-! DEFINITION. Probe space as it reads (R13, R361): the twelve blocks of Table 14.9, word by word, with each word's access code. -/

namespace Sys2Proof.Machine

/-- Access codes of Table 0.3; a word of several fields takes the code of those that can be written. -/
inductive Access where
  | ro
  | rw
  | wo
  | w1c
  deriving DecidableEq, Repr

/-- A register: its access code and what it reads. -/
structure Reg where
  access : Access
  value : Nat
  deriving DecidableEq, Repr

def ro (v : Nat) : Option Reg := some { access := .ro, value := v % 4294967296 }
def roW (v : U32) : Option Reg := ro v.toNat
def rw (v : Nat) : Option Reg := some { access := .rw, value := v % 4294967296 }
/-- A WO word reads as 0. -/
def wo : Option Reg := some { access := .wo, value := 0 }

/-- Item and offset within it, of an array of `n` items of `stride` bytes at `base`. -/
def arrayAt (base stride n o : Nat) : Option (Nat × Nat) :=
  if base ≤ o && o < base + stride * n then some ((o - base) / stride, (o - base) % stride) else none

/-- The word of a list of registers at consecutive words from `base`. -/
def wordIn (base o : Nat) (l : List (Option Reg)) : Option Reg := if base ≤ o && o % 4 == 0 then (l.getD ((o - base) / 4) none) else none

def lo32 (n : Nat) : Nat := n % 4294967296
def hi32 (n : Nat) : Nat := n / 4294967296

/-! Tambour (Tables 2.6–2.10). -/

def slotStateCode : SlotState → Nat
  | .free => 0 | .waiting => 1 | .ready => 2 | .running => 3 | .aborting => 4

def slotInfo (t : TaskSlot) : Nat :=
  slotStateCode t.state + bitN t.soft 3 + 16 * t.list + 256 * (t.wait % 256) +
    (if t.state == .running || t.state == .aborting then 65536 * t.engine else 0)

def heldLists (s : State) : Nat := ((upTo 9).filter (listHeld s)).length

def tmbList (s : State) (c o : Nat) : Option Reg :=
  let l := s.tmb.lists.getD c default
  wordIn 0 o ([ro (65536 * l.maxDepth + readyDepth s c), ro (listLimit c), roW l.dispatched, roW l.strictFray, roW l.softFray, roW l.cancelRace,
    roW l.bpCnt, roW l.softCancelRef] ++ l.bins.map roW)

def tambourReg (o : Nat) (s : State) : Option Reg :=
  let sel := s.tmb.slots.find? fun t => t.slot == s.tmb.slotSel
  if o < 0x28 then
    wordIn 0 o [ro 0x04000004, ro (bitN s.stitch.run 0 + bitN s.stitch.busy 1 + bitN s.time.refFault 2 + 256 * heldLists s), wo, none,
      roW s.stitch.number, ro (256 * stitchCode s.stitch.state + periodCode s.stitch.period), ro (unsignedOf 32 (satS 32 s.stitch.phase)),
      roW s.stitch.offset, roW s.stitch.skip, roW s.tmb.a0Stop]
  else
    match arrayAt 0x100 0x40 9 o, arrayAt 0x400 4 19 o, arrayAt 0x600 8 5 o with
    | some (c, k), _, _ => tmbList s c k
    | _, some (e, _), _ => let l := s.tmb.loads.getD e default; ro (65536 * l.peak + l.load)
    | _, _, some (t, k) => if k = 0 then roW (s.tmb.fabEsc.getD t 0) else ro (s.tmb.fabMaxWait.getD t 0 % 65536)
    | none, none, none =>
      if o = 0x500 then rw s.tmb.slotSel
      else wordIn 0x504 o [ro (sel.elim 0 slotInfo), ro (sel.elim 0 (·.dlStitch.toNat)), ro (sel.elim 0 fun t => t.dlOff % 65536)]

/-! Skeins and Bobbins (Tables 3.5–3.8). -/

def skeinReg (o : Nat) (s : State) : Option Reg :=
  match arrayAt 0x1000 0x40 128 o with
  | some (n, k) =>
    let x := skein s n
    wordIn 0 k [ro (bitN x.en 31 + bitN x.discard 0), ro (65536 * x.size + x.base), ro (bitN x.noticeEn 31 + 16777216 * x.noticeList + x.template),
      ro (65536 * x.fillMax + fillOf x), ro x.writers, ro x.readers, roW x.pkts, roW x.emptyRd, roW x.drop, roW x.stall,
      ro (16777216 * x.overlong + 65536 * x.foreign + 256 * x.eccDrop + x.abandoned), ro (x.heldNotices % 65536)]
  | none => wordIn 0 o [ro 0x00800002, ro (s.skn.skeins.map fun x => if x.en then x.size else 0).sum, wo, roW s.skn.eccCorr]

def bobStateCode : BobState → Nat
  | .idle => 0 | .active => 1 | .waitReq => 2 | .preempted => 3 | .pulseHeld => 4 | .halted => 5

/-- TRIES saturates at 15 (DESIGN CHOICE: with RETRY 15 the sixteenth attempt does not fit its four bits). -/
def bobbinReg (o : Nat) (s : State) : Option Reg :=
  match arrayAt 0x1000 0x40 32 o with
  | some (c, k) =>
    let b := bobbin s c
    wordIn 0 k [rw (lo32 b.src), rw (hi32 b.src), rw (lo32 b.dst), rw (hi32 b.dst), rw b.count, rw b.width.toNat, rw b.ctrl.toNat, rw b.done.toNat,
      rw (lo32 b.link / 32 * 32), rw (hi32 b.link), rw b.budget, ro b.used,
      ro (4096 * b.phase + 256 * min b.tries 15 + 16 * b.error + bobStateCode b.state), ro b.remain, ro b.hold.length, roW b.compCnt]
  | none =>
    wordIn 0 o [ro 0x00200003, ro (maskOf (s.bob.channels.map bobActive)), ro (maskOf (s.bob.channels.map (·.state == .halted))), wo,
      roW s.bob.preempt, roW s.bob.retry, roW s.bob.ignored, roW s.bob.held]

/-! LACE (Tables 6.11, 7.9, 7.10). -/

/-- CHN_CFG; before the settings are loaded, SILENT 0 and RATE 1. -/
def chnCfg (s : State) : Nat := if s.set.working = [] then 1 else 256 * setU8 s secChain 1 + setU8 s secChain 0

def laceReg (o : Nat) (s : State) : Option Reg :=
  let l := s.lace
  let c := s.chain
  if o < 0x5C then
    wordIn 0 o [ro 0x00080003, wo, ro (maskOf l.inService), none, roW l.walkSrc, roW l.walkTrunc, roW l.walkLate, roW l.presSat, roW l.presMerged,
      roW l.presDrop, none, none, ro l.solvedNow, ro l.coldNow, ro l.shortNow, ro l.shortPts, roW l.shortCnt, roW l.repairRaises, roW l.repairBudget,
      ro l.darnFailed, ro l.requests.length, ro (satU 32 l.pSum), ro (satU 32 l.plbSum)]
  else if o < 0x11C then
    match arrayAt 0x80 4 8 o with
    | some (e, _) => ro (l.segs.filter fun g => g.2.engine == some e).length
    | none =>
      wordIn 0x100 o [wo, ro (s.fade.fades.filter fun f => fading f.2).length, roW s.fade.cmdGen, roW s.fade.cmdChain, roW s.fade.cmdDefer,
        roW s.fade.cmdPendWait, ro s.fade.orderWait.length]
  else
    match arrayAt 0x1000 8 128 o with
    | some (p, k) => let w := (board s p).word.toNat; if k = 0 then ro w else ro (hi32 w)
    | none =>
      wordIn 0x200 o [ro (chnCfg s), ro (16777216 * c.retDelay + 65536 * min c.count 255 + bitN c.lost 3 + csCode c.state), roW c.frames, roW c.skipped,
        roW c.crcEcho, roW c.retBad, roW c.seqMiss, roW c.por, roW c.topo, ro c.limited.length, ro (c.boards.filter (·.ntcFault)).length]

/-! AIR (Tables 8.10, 8.11, 9.11, 9.12). -/

def onWake (s : State) (k : Nat) : Bool := taiNs s < s.air.wakeBusy && (s.air.picotLog.getLast?.map (·.shuttle)) == some k

def filterEntry (s : State) (p : Nat) : Nat :=
  let b := pinConf s.tab.live p
  if isRadio b then
    1 + bitN (cTransport b == tSleepy) 1 + bitN (framePending s p) 2 + 16 * (pinState s p).serving + 256 * cKey b
  else 0

def shuttleReg (s : State) (k o : Nat) : Option Reg :=
  let h := shuttle s k
  wordIn 0 o [ro (bitN (pfEn (region s) k) 0 + bitN h.holdTx 1 + bitN h.holdAck 2 + bitN (onWake s k) 3 + 256 * modeOf s k),
    roW h.rxOk, roW h.rxFcs, roW h.rxFormat, roW h.rxFilter, roW h.rxSec, roW h.rxMic, roW h.rxReplay, roW h.rxDup, roW h.rxOffhome, roW h.txFrames,
    roW h.ackSent, roW h.ackPend, roW h.ackMiss, ro (binTotal h.bins / 1000000), roW h.dutyHold]

def courseReg (s : State) (k o : Nat) : Option Reg :=
  let h := shuttle s k
  let served := servedPins s k
  wordIn 0 o [roW h.crsRun, roW h.trySent, roW h.tryAcked, roW h.cmdFailed, ro (served.filter fun e => (pinState s e.1).held).length,
    ro (served.map fun e => (queueOf s e.1).length).sum, roW h.deferCourse, roW h.beaconSent, roW h.beaconHeld, roW h.winPlanned, roW h.winMissed,
    roW h.winCollide, roW h.probeMiss, roW h.groupSent, roW h.imageFrames, ro (256 * (min h.itemsMax 255) + min h.itemsLast 255)]

/-- RESTART: a Shuttle in service has sent fewer than 64 beacons. -/
def restartNow (s : State) : Bool := (inServiceShuttles s).any fun k => (shuttle s k).beacons < 64

def airState (s : State) : Nat :=
  bitN (airEn s) 0 + bitN (pfLoaded s) 1 + bitN (restartNow s) 2 + bitN s.air.airDown 3 + 16 * airInService s +
    256 * maskOf (s.air.shuttles.map (·.failed)) + 4096 * imageStateCode s

def airWord (o : Nat) (s : State) : Option Reg :=
  match arrayAt 0x100 0x40 4 o, arrayAt 0x4000 4 8192 o, arrayAt 0xC100 0x40 4 o with
  | some (k, w), _, _ => shuttleReg s k w
  | _, some (p, _), _ => ro (filterEntry s p)
  | _, _, some (k, w) => courseReg s k w
  | none, none, none =>
    if o < 0x20 then
      wordIn 0 o [ro 0x00040002, wo, ro (pfId (region s)), ro (s.sec.slots.filter fun k => 0xFFFF0000 < k.counter.toNat).length, roW s.air.tlmBad,
        roW s.air.unkRec, ro (binTotal s.air.wakeBins / 1000000), roW s.air.picotSent]
    else
      wordIn 0xC000 o [wo, ro (airState s), ro s.air.picots.length, ro (s.tab.state.filter fun e => e.2.rehomed).length, roW s.air.panConflict,
        roW s.air.beaconGap, roW (imageSymbols s)]

/-- In a W variant every register of the block reads 0 (R206, R244). -/
def airReg (o : Nat) (s : State) : Option Reg := (airWord o s).map fun r => if hasRadio s then r else { r with value := 0 }

/-! METER (Tables 10.12, 10.13, 11.7, 11.8). -/

def harnessWord (s : State) (h : Nat) : Nat :=
  let x := harness s h
  harnessCode x.state + bitN x.present 3 + bitN ([.powering, .settling, .run].contains x.state) 4 + bitN ([.settling, .run].contains x.state) 5 +
    bitN (hsFitted s h) 6

def feedbackMask (s : State) : Nat := maskOf ((upTo 8).map fun n => let i := coFb (coEntry s n); i ≤ 7 && (s.sys.inputs.getD i default).level)

def meterReg (o : Nat) (s : State) : Option Reg :=
  let m := s.met
  match arrayAt 0x80 4 12 o, arrayAt 0xC0 4 12 o, arrayAt 0x100 4 56 o, arrayAt 0x200 8 2 o with
  | some (n, _), _, _, _ => roW (feeder s n).ocInst
  | _, some (n, _), _, _ => roW (feeder s n).ocRms
  | _, _, some (c, _), _ => ro (m.peaks.getD c default).code
  | _, _, _, some (h, k) => roW (if k = 0 then (voltSet s h).sagCnt else (voltSet s h).swellCnt)
  | none, none, none, none =>
    if o < 0x54 then
      wordIn 0 o ([ro 0x00380002, wo, ro (65536 * ((testLeft s + 59) / 60) + bitN (hsNominal s 0 == 60) 5 + bitN m.calValid 4 + modeCode m.mode),
        ro (harnessWord s 0 + 65536 * harnessWord s 1), ro (maskOf (m.chanFault.take 28)), ro (maskOf (m.chanFault.drop 28)), roW m.decOverrun,
        roW m.clipCnt, roW m.supplyFault, roW m.snapTrig, roW m.snapLost, roW m.snapMergedLost, ro ((upTo 16).filter (bufferBusy s)).length,
        roW m.calCount, ro (16777216 * feedbackMask s + 65536 * trippedMask s + 256 * maskOf ((upTo 8).map (countsClosed s)) + driveMask s),
        ro (maskOf (m.outputs.map (·.fbFault)) + 256 * maskOf (m.outputs.map (·.outFault))),
        ro (maskOf (m.dfc.map (·.assigned)) + 16 * maskOf (m.dfc.map (·.sat)) + 256 * maskOf (m.dfc.map (·.pulsing)))] ++ m.dfc.map fun d => roW d.pulses)
    else if o < 0x218 then wordIn 0x210 o [ro ((voltSet s 0).frequency % 1048576), ro ((voltSet s 1).frequency % 1048576)]
    else
      wordIn 0x400 o [ro (64 * m.lastKind + bitN (running s && !s.sys.pfWarn) 5 + bitN m.prevLgOk 4 + m.saveSlot), roW m.saveSeq, roW m.msvLate,
        roW m.intvClosed, roW m.intvPartial, ro m.spans.length, roW m.spanCnt, roW m.snapArchived, roW m.snapRawblk, roW m.snapUnarch]

/-! NET and time (Tables 12.8, 12.9, 18.6, 18.9). -/

/-- TB_SEC_HI, TB_NS and TB_FRAC read as latched. -/
def tbShown (s : State) : Nat := s.time.tbLatch.getD s.time.tb

def ppsOutActive (s : State) : Bool := running s && ((ppsMode s == 1 && s.time.servo.traceable) || 2 ≤ ppsMode s)

def txqReg (s : State) (i o : Nat) : Option Reg :=
  match s.time.ptp.txq[i]? with
  | some e => if o = 0 then ro (bitN true 31 + 65536 * e.port + e.id) else ro (e.stamp % 1000000000)
  | none => ro 0

def timeReg (o : Nat) (s : State) : Option Reg :=
  let v := s.time.servo
  let p := s.time.ptp
  match arrayAt 0x8080 8 16 o with
  | some (i, k) => txqReg s i k
  | none =>
    wordIn 0x8000 o [ro 0x00100001, wo, ro (taiSec s), ro (hi32 (tbShown s / 4294967296 / 1000000000)), ro (tbShown s / 4294967296 % 1000000000),
      ro (tbShown s), ro (servoCode v.state + 16 * sourceCode v.source + bitN v.traceable 6 + bitN s.time.refFault 7), ro (unsignedOf 64 v.y),
      ro (hi32 (unsignedOf 64 v.y)), ro (unsignedOf 32 (satS 32 v.lastOffset)), ro v.meanPath, roW v.stepCnt, roW v.offsetReject, ro (holdoverSec s),
      ro (65536 * p.nextId + p.txq.length), roW p.txqOverflow, roW p.txqStale, roW p.tsLate, roW p.tcCorr, roW p.tcLost, roW p.ptpFormat,
      roW p.annTimeouts, ro (ppsMode s + bitN (ppsOutActive s) 3 + bitN (ppsInEn s) 4 + bitN s.time.pps.inLost 5), ro s.time.pps.inNs,
      roW s.time.pps.reject]

def sfpCode : SfpState → Nat
  | .absent => 0 | .powering => 1 | .reading => 1 | .accepted => 2 | .rejected => 3

def portReg (s : State) (p o : Nat) : Option Reg :=
  let x := port s p
  wordIn 0 o [ro (bitN (portUp s p) 0 + bitN (portEn s p) 1 + bitN (blocked s p) 2 + 8 * sfpCode x.sfp + 32 * x.speed), roW x.rxFrames, roW x.txFrames,
    roW x.rxOctets, roW x.txOctets, roW x.rxFcs, roW x.rxLong, roW x.rxVlan, roW x.rxStorm, roW x.rxBlocked, roW x.rxCtrl, roW x.txQfull, roW x.linkDowns]

/-- A word of the settings window reads the section in force. -/
def windowReg (s : State) (o : Nat) : Option Reg :=
  match windowWord o with
  | some (id, k) => rw (u32At (sect s id) k)
  | none => none

def netReg (o : Nat) (s : State) : Option Reg :=
  match arrayAt 0x100 0x40 7 o with
  | some (p, k) => portReg s p k
  | none =>
    if 0x9000 ≤ o then windowReg s o
    else if 0x8000 ≤ o then timeReg o s
    else
      let r := s.net.ring
      wordIn 0 o [ro 0x00070001, wo, ro (ringCode r.state + bitN (blocked s 0) 4 + bitN (blocked s 1) 5 + 256 * ringRequest r), wo, ro s.net.fdb.length,
        roW s.net.fdbFull, roW s.net.hostDrop, ro (bitN s.net.cfgFailed 31 + 65536 * s.net.cfgSection + s.net.cfgByte)]

/-! RTC (Tables 12.10, 12.11). -/

def alarmReg (s : State) (k o : Nat) : Option Reg :=
  let a := alarm s k
  let back := s.rtc.back
  wordIn 0 o [ro (bitN a.en 0 + bitN a.oneShot 1 + 16 * a.mask + 1024 * a.wday), ro a.compare, ro (hi32 a.compare),
    some { access := .w1c, value := 65536 * (a.count % 65536) + alarmFlags a }, ro back, ro (hi32 back)]

def rtcReg (o : Nat) (s : State) : Option Reg :=
  let r := s.rtc
  let (hi, sod, flags) := r.latch.getD (hi32 r.tick, r.sod, rtcFlags r)
  match arrayAt 0x40 0x20 2 o with
  | some (k, w) => alarmReg s k w
  | none =>
    wordIn 0 o [ro 0x00020001, ro r.tick, ro hi, ro sod, ro flags, ro (unsignedOf 16 r.shiftLeft), ro r.backupMv,
      ro (chargerProfile s + bitN (charging s) 4 + bitN r.tempHold 5), roW r.setCnt, roW r.shiftCnt]

/-! Sampler, MRAM controller, panel, AON (Tables 16.6, 17.9, 15.12, 19.8, 17.10). -/

def samplerReg (o : Nat) (s : State) : Option Reg :=
  let p := s.smp
  match arrayAt 0x60 4 4 o with
  | some (m, _) => roW (markSeq (p.marks.getD m default))
  | none =>
    wordIn 0 o [ro 0x10000001, wo, ro (smpStatus s), roW p.newest, roW (oldestRound p), ro p.roundNext, ro p.round.length, ro p.selvedge.length, ro (opSec s),
      ro (opSub s), ro (s.sys.pcycle % 16777216), roW p.stored, roW p.suppressed, roW p.ovfRec, roW p.fullLost, ro p.corrupt,
      ro (65536 * p.intakeMax + p.intake.length), ro p.waiting.length, roW p.overtakenCnt]

def slotImageCode : SlotImage → Nat
  | .empty => 0 | .valid => 1 | .trial => 2 | .confirmed => 3 | .bad => 4

def jnlStatus (j : Journal) : Nat :=
  bitN j.replayDone 0 + bitN j.copy0Ok 1 + bitN j.copy1Ok 2 + bitN j.single 3 + bitN j.resultsDown 6 + bitN j.journalLost 7

def mramReg (o : Nat) (s : State) : Option Reg :=
  let j := s.jnl
  if o < 0x24 then
    wordIn 0 o [ro 0x00020001, wo, ro (maskOf s.sys.bankOk + bitN s.set.lost 2 + bitN (s.set.stores != []) 3 + bitN (s.set.lastCopy == 1) 4),
      roW (s.sys.mrcCorr.getD 0 0), roW (s.sys.mrcCorr.getD 1 0), roW s.sys.mrcUncorr, roW s.set.storedGen,
      ro (s.sys.running + 16 * slotImageCode (imageSlot s 0).state + 256 * slotImageCode (imageSlot s 1).state + 4096 * s.sys.trialStarts),
      ro s.sys.minSec]
  else
    wordIn 0x100 o [ro (jnlStatus j), roW j.commitNo, roW j.lastSeq, ro (logFree j), roW j.commits, roW j.batchCommits, ro j.commitMax, roW j.a0Hold,
      roW j.prodHold, roW j.reloc, roW j.copyErr, ro j.replayCount, roW j.rebuilds, wo]

def panelReg (o : Nat) (s : State) : Option Reg :=
  let p := s.pnl
  wordIn 0 o ([ro 0x00100001, wo, ro (lockMode s + 4 * panelLevel s + bitN p.test.isSome 4 + bitN p.displayOn 5 + bitN (bannerShown s) 6 + 256 * p.page),
    ro (ledWord s), ro (maskOf p.keysNow), ro (bitN p.vbus 0 + bitN p.connected 1 + bitN ((box s 14).session == .opened) 2 + bitN p.keyWindow 3 + 64 * usbMode s),
    none, none] ++ p.keyPresses.map roW ++ [roW p.proxWakes, roW p.pinFails, roW p.usbAttaches])

/-- RESET_CAUSE: the kind in [3:0], AON's cause bits above. -/
def resetCause (s : State) : Nat := s.sys.kind % 16 + s.sys.causeBits.toNat / 16 * 16

/-- VIN and BANK_MV are AON's own measurements: free values of draw `k`. -/
def aonReg (k o : Nat) (s : State) : Option Reg :=
  wordIn 0 o [ro 1, wo, ro (bitN s.sys.pfWarn 0 + bitN s.sys.lgDone 1 + bitN s.sys.holdupLow 2 + bitN s.sys.bankFault 3 + bitN s.sys.bankCharging 4),
    ro (Config.freeNat k % 65536), ro (Config.freeNat k % 65536), ro s.sys.holdupMs, roW s.sys.pfWarnCnt, ro s.sys.lgLastUs, ro (resetCause s), ro s.sys.startMs]

/-! Probe space. -/

/-- Bases of Table 14.9, ascending. -/
def probeBlocks : List Nat :=
  [0x01000000, 0x01100000, 0x01200000, 0x02000000, 0x03000000, 0x04000000, 0x05000000, 0x06000000, 0x06010000, 0x06020000, 0x06030000, 0x06040000]

def blockOf (addr : Nat) : Option Nat := probeBlocks.find? fun b => b ≤ addr && addr < b + 65536

/-- The register at an address, if one is defined there; `k` is the draw for a value that no state holds. -/
def registerAt (k addr : Nat) (s : State) : Option Reg :=
  match blockOf addr with
  | none => none
  | some b =>
    let o := addr - b
    if b = 0x01000000 then tambourReg o s
    else if b = 0x01100000 then skeinReg o s
    else if b = 0x01200000 then bobbinReg o s
    else if b = 0x02000000 then laceReg o s
    else if b = 0x03000000 then airReg o s
    else if b = 0x04000000 then meterReg o s
    else if b = 0x05000000 then netReg o s
    else if b = 0x06000000 then rtcReg o s
    else if b = 0x06010000 then samplerReg o s
    else if b = 0x06020000 then mramReg o s
    else if b = 0x06030000 then panelReg o s
    else aonReg k o s

end Sys2Proof.Machine
end

