-- ==== Sys2Proof/Machine/Probe.lean ====
section
/-! DEFINITION. Writes to Probe space (R12, R13, R363), the STATS clears of the journal, MRAM and AON blocks, and the PRB commands. -/

namespace Sys2Proof.Machine

/-- The state after a meaning that answers one. -/
def after (o : Out) (s : State) : State := match o with | .next t => t | _ => s

/-! STATS clears of the MRAM controller and AON blocks. -/

/-- JNL_CLEAR_STATS: the journal's counters and its longest commit return to 0 (R381). -/
def execJnlClearStats (s : State) : Out :=
  next { s with jnl := { s.jnl with commits := 0, batchCommits := 0, commitMax := 0, a0Hold := 0, prodHold := 0, reloc := 0, copyErr := 0, rebuilds := 0 } }

/-- MRC_CLEAR_STATS: the MRAM controller's counters return to 0 (R419). -/
def execMrcClearStats (s : State) : Out := next (onSys (fun x => { x with mrcCorr := [0, 0], mrcUncorr := 0 }) s)

/-- AON_CLEAR_STATS: AON's counter of power-fail warnings returns to 0 (R419). -/
def execAonClearStats (s : State) : Out := next (onSys (fun x => { x with pfWarnCnt := 0 }) s)

/-! One register write. -/

/-- A write of a channel register (R67): ignored and counted unless the channel is IDLE or HALTED; a CTRL write with STOP stops one that is
neither. -/
def bobbinWrite (c k v : Nat) (s : State) : State :=
  if bobActive (bobbin s c) then (if k = 0x18 && bit v 30 then after (execBobStop c false s) s else ignoredWrite s)
  else
    let w := BitVec.ofNat 32 v
    let s := onBobbin c (fun b =>
      if k = 0x00 then { b with src := hi32 b.src * 4294967296 + v }
      else if k = 0x04 then { b with src := v % 256 * 4294967296 + lo32 b.src }
      else if k = 0x08 then { b with dst := hi32 b.dst * 4294967296 + v }
      else if k = 0x0C then { b with dst := v % 256 * 4294967296 + lo32 b.dst }
      else if k = 0x10 then { b with count := v % 268435456 }
      else if k = 0x14 then { b with width := rwWrite widthMask b.width w }
      else if k = 0x18 then { b with ctrl := rwWrite ctrlMask b.ctrl w }
      else if k = 0x1C then { b with done := rwWrite doneMask b.done w }
      else if k = 0x20 then { b with link := hi32 b.link * 4294967296 + v / 32 * 32 }
      else if k = 0x24 then { b with link := v % 256 * 4294967296 + lo32 b.link }
      else if k = 0x28 then { b with budget := v % 65536 }
      else b) s
    if k = 0x18 && bit v 31 then after (execBobStart c s) s else s

/-- RING_CMD: [1:0] the command, [4] the port. -/
def ringCmdWrite (v : Nat) (s : State) : State :=
  let p := if bit v 4 then 1 else 0
  if v % 4 = 1 then ringEvent (.forced p) s
  else if v % 4 = 2 then ringEvent (.manual p) s
  else if v % 4 = 3 then ringEvent .clear s
  else s

/-- Does a STATS write act: bit 0. -/
def statsWrite (v : Nat) (o : Out) (s : State) : State := if bit v 0 then after o s else s

/-- A write to Probe space under the word's access code. -/
def writeWord (addr v : Nat) (s : State) : State :=
  match blockOf addr with
  | none => s
  | some b =>
    let o := addr - b
    if b = 0x01000000 then
      (if o = 8 then statsWrite v (execTmbClearStats s) s
       else if o = 0x500 then { s with tmb := { s.tmb with slotSel := v % 1024 } } else s)
    else if b = 0x01100000 then (if o = 8 then statsWrite v (execSknClearStats s) s else s)
    else if b = 0x01200000 then
      (match arrayAt 0x1000 0x40 32 o with
       | some (c, k) => bobbinWrite c k v s
       | none => if o = 0xC then statsWrite v (execBobClearStats s) s else s)
    else if b = 0x02000000 then
      (if o = 4 then statsWrite v (execLaceClearStats s) s else if o = 0x100 then statsWrite v (execFadeClearStats s) s else s)
    else if b = 0x03000000 then
      (if !hasRadio s then s
       else if o = 4 then statsWrite v (execAirClearStats s) s else if o = 0xC000 then statsWrite v (execCrsClearStats s) s else s)
    else if b = 0x04000000 then (if o = 4 then statsWrite v (execMetClearStats s) s else s)
    else if b = 0x05000000 then
      (if o = 4 then statsWrite v (execNetClearStats s) s
       else if o = 0xC then ringCmdWrite v s
       else if o = 0x8004 then statsWrite v (execTimeClearStats s) s
       else if 0x9000 ≤ o then after (execNetSettingsWindowWrite o (BitVec.ofNat 32 v) s) s else s)
    else if b = 0x06000000 then
      (if o = 0x4C then onAlarm 0 (clearAlarmFlags v) s else if o = 0x6C then onAlarm 1 (clearAlarmFlags v) s else s)
    else if b = 0x06010000 then (if o = 4 then statsWrite v (execSmpClearStats s) s else s)
    else if b = 0x06020000 then
      (if o = 4 then statsWrite v (execMrcClearStats s) s else if o = 0x134 then statsWrite v (execJnlClearStats s) s else s)
    else if b = 0x06030000 then (if o = 4 then statsWrite v (execPnlClearStats s) s else s)
    else if o = 4 then statsWrite v (execAonClearStats s) s
    else s

/-- REGISTER_WRITE: a word written by firmware or by a Probe write. -/
def execRegisterWrite (addr : Nat) (value : U32) (s : State) : Out := next (writeWord addr value.toNat s)

/-! PRB commands (R361–R363). -/

/-- One word read: its value, and the latch that a latching register sets or releases. -/
def readProbe (addr : Nat) (s : State) : Nat × State :=
  let (k, s) := drawFree s
  let v := (registerAt k addr s).elim 0 (·.value)
  (v, if addr = 0x05008008 then after (execTbSecLoRead s) s
      else if addr = 0x05008014 then after (execTbFracRead s) s
      else if addr = 0x06000004 then after (execRtcTickLoRead s) s
      else if addr = 0x06000010 then after (execRtcFlagsRead s) s
      else s)

/-- The words of a PRB read in order, with nothing between them; latches that it sets are released. -/
def readAll (l : List Nat) (s : State) : Bytes × State :=
  let (b, t) := l.foldl (fun (acc : Bytes × State) a => let (v, t) := readProbe a acc.2; (acc.1 ++ le32 v, t)) ([], s)
  let t := if l.contains 0x05008008 then { t with time := { t.time with tbLatch := none } } else t
  (b, if l.contains 0x06000004 then { t with rtc := { t.rtc with latch := none } } else t)

/-- R361 of one address. -/
def addressOk (a : Nat) : Option Nat := first [(a % 4 == 0, stBadPayload), ((blockOf a).isSome, stRange)]

def prbRead : CmdSpec where
  opcode := 0x0A01
  needs := rProbeRead
  check _ p _ := checks [lenIs p (4 + 4 * u16At p 0), reserved p 2 2, need (1 ≤ u16At p 0 && u16At p 0 ≤ 64) stRange,
    items (u16At p 0) fun i => addressOk (u32At p (4 + 4 * i))]
  run _ c s :=
    let n := u16At c.payload 0
    let (b, t) := readAll ((upTo n).map fun i => u32At c.payload (4 + 4 * i)) s
    (t, ok (leW s.stitch.number ++ le16 n ++ le16 0 ++ b))
def execPrbRead (op : CmdStep) (s : State) : Out := next (mailboxCommand prbRead op s)

def prbReadRange : CmdSpec where
  opcode := 0x0A02
  needs := rProbeRead
  check _ p _ := checks [lenIs p 8, reserved p 6 2, need (u32At p 0 % 4 == 0) stBadPayload, need (1 ≤ u16At p 4 && u16At p 4 ≤ 1024) stRange,
    need ((blockOf (u32At p 0)).isSome && blockOf (u32At p 0) == blockOf (u32At p 0 + 4 * (u16At p 4 - 1))) stRange]
  run _ c s :=
    let n := u16At c.payload 4
    let (b, t) := readAll ((upTo n).map fun i => u32At c.payload 0 + 4 * i) s
    (t, ok (leW s.stitch.number ++ le16 n ++ le16 0 ++ b))
def execPrbReadRange (op : CmdStep) (s : State) : Out := next (mailboxCommand prbReadRange op s)

/-- Words of the payload that lie in the NET settings window: section, offset, value. -/
def windowItems (p : Bytes) : List (Nat × Nat × Bytes) :=
  (upTo (u16At p 0)).filterMap fun i =>
    let a := u32At p (4 + 8 * i)
    if 0x05009000 ≤ a then (if blockOf a = some 0x05000000 then (windowWord (a - 0x05000000)).map fun e => (e.1, e.2, slice p (8 + 8 * i) 4) else none)
    else none

/-- 0 WRITTEN, 1 NO_EFFECT, 2 UNDEFINED. -/
def writeOutcome : Option Reg → Nat
  | none => 2
  | some r => if r.access == .ro then 1 else 0

/-- One item: the write, but for a word of the settings window, and its read-back. -/
def writeItem (p : Bytes) (acc : Bytes × State) (i : Nat) : Bytes × State :=
  let (b, s) := acc
  let a := u32At p (4 + 8 * i)
  let window := blockOf a = some 0x05000000 && 0x9000 ≤ a - 0x05000000
  let o := writeOutcome (registerAt 0 a s)
  let s := if window then s else writeWord a (u32At p (8 + 8 * i)) s
  let (v, s) := readProbe a s
  (b ++ le8 o ++ zeros 3 ++ le32 v, s)

/-- PRB_WRITE. Its words of the settings window are one settings write (R431): they are staged at the first boundary after its
completion. A result above 256 bytes goes with a DONE entry, which alone can hold its length. -/
def prbWrite : CmdSpec where
  opcode := 0x0A03
  needs := .rootMaint
  check _ p s := checks [lenIs p (4 + 8 * u16At p 0), reserved p 2 2, need (1 ≤ u16At p 0 && u16At p 0 ≤ 64) stRange,
    items (u16At p 0) fun i => addressOk (u32At p (4 + 8 * i)), if windowItems p = [] then pass else settingsRoom p s]
  onAccept m q p s := if windowItems p = [] then s else settingAccepted m q p s
  run m c s :=
    let p := c.payload
    let n := u16At p 0
    let (b, t) := (upTo n).foldl (writeItem p) ([], s)
    let t := { t with time := { t.time with tbLatch := s.time.tbLatch }, rtc := { t.rtc with latch := s.rtc.latch } }
    let t := post 0x0902 m (le16 n ++ le16 0 ++ le32 (u32At p 4)) t
    let w := windowItems p
    let t := if w = [] then t else dueChange c (effectAfterCommit c t) false (.network w) t
    let res := le16 n ++ le16 0 ++ b
    (t, if res.length ≤ 256 then did t res else ok res)
def execPrbWrite (op : CmdStep) (s : State) : Out := next (mailboxCommand prbWrite op s)

def prbMap : CmdSpec where
  opcode := 0x0A04
  needs := rProbeRead
  check _ p _ := lenIs p 0
  run _ _ s := (s, ok (le16 12 ++ le16 0 ++ probeBlocks.flatMap fun b => le32 b ++ le32 65536 ++ le32 ((registerAt 0 b s).elim 0 (·.value))))
def execPrbMap (op : CmdStep) (s : State) : Out := next (mailboxCommand prbMap op s)

end Sys2Proof.Machine
end

