-- ==== Sys2Proof/Machine/Slots.lean ====
section
/-! DEFINITION. SLOT_READ (R333) and requests of an unknown opcode (R343). -/

namespace Sys2Proof.Machine

/-- Answers of Table 13.3 to a SLOT_READ of mailbox `m` for sequence `q`. -/
def slotAnswer (m : Nat) (q tag : U32) (s : State) : State :=
  let b := box s m
  let pending := b.cmds.find? fun c => c.seq == q && c.phase != .batched && (tagOf b q).any (·.committed)
  match pending, b.slots.find? fun r => r.seq == q with
  | some c, _ =>
    let st := match c.phase with | .waiting => 0 | .held => 2 | _ => 1
    send m kResult false c.opcode q c.tag stPending (le8 st ++ zeros 3) s
  | none, some r =>
    if r.lost || (r.copied && s.jnl.resultsDown) then send m kResult false r.opcode q r.tag stResultLost (le16 r.status ++ le16 0) s
    else send m kResult true r.opcode q r.tag r.status r.result s
  | none, none =>
    if b.released.contains q then send m kResult false 0 q tag stExpired [] s else send m kResult false 0 q tag stUnknownSeq [] s

/-- A0 reads the mailbox's transport: a SLOT_READ takes no place. -/
def a0Reads (s : State) (m : Nat) : Bool :=
  s.mbx.a0Running && m < 16 && (box s m).session != .closed && (s.sys.phase == .loader && m == 14 || running s && !s.jnl.a0Held)

/-- SLOT_READ: header checks of R325, then the answer at once, outside the order of R328. -/
def execSlotRead (m : Nat) (h : Message) (s : State) : Out :=
  if !a0Reads s m then next s
  else
    match headerCheck m h with
    | .discard => next (onBox 14 (fun b => { b with usbCrcErr := sat16Inc b.usbCrcErr }) s)
    | .close => next (post 0x0303 m [] (dropSession m s))
    | .refuse st detail => next (refuseRequest m h st detail s)
    | .ok =>
      if kindOf h.flags != kSlotRead then next s
      else if (box s m).session == .loginWait then next (refuseRequest m h stDenied [] s)
      else next (slotAnswer m h.seq h.tag s)

/-- UNKNOWN_OPCODE_REQUEST: the header checks, then BAD_OPCODE, the second check of R326. -/
def execUnknownOpcodeRequest (m : Nat) (h : Message) (s : State) : Out :=
  if !a0Takes s m then next s
  else
    match headerCheck m h with
    | .discard => next (onBox 14 (fun b => { b with usbCrcErr := sat16Inc b.usbCrcErr }) s)
    | .close => next (post 0x0303 m [] (dropSession m s))
    | .refuse st detail => next (refuseRequest m h st detail s)
    | .ok =>
      if kindOf h.flags != kRequest then next s
      else if (box s m).session == .loginWait then next (refuseRequest m h stDenied [] s)
      else next (refuseRequest m h stBadOpcode [] s)

end Sys2Proof.Machine
end

