-- ==== Sys2Proof/Machine/Dispatch.lean ====
section
/-! DEFINITION. What each command does to everything but the queue: one arm per constructor. -/

namespace Sys2Proof.Machine

def exec (i : Instr) (s : State) : Host.Outcome State Fault Refusal :=
  match i with
  | .stitchBoundary => Sys2Proof.Machine.execStitchBoundary s
  | .stitchPeriodChange => Sys2Proof.Machine.execStitchPeriodChange s
  | .journalBatchCommit => Sys2Proof.Machine.execJournalBatchCommit s
  | .journalCommitDone copy0 copy1 us => Sys2Proof.Machine.execJournalCommitDone copy0 copy1 us s
  | .freezeExpire => Sys2Proof.Machine.execFreezeExpire s
  | .softDeadlinePass slot => Sys2Proof.Machine.execSoftDeadlinePass slot s
  | .frayRecord => Sys2Proof.Machine.execFrayRecord s
  | .taskDispatch list => Sys2Proof.Machine.execTaskDispatch list s
  | .heldSourceRelease list => Sys2Proof.Machine.execHeldSourceRelease list s
  | .scheduleEvaluation block => Sys2Proof.Machine.execScheduleEvaluation block s
  | .presenceWalk => Sys2Proof.Machine.execPresenceWalk s
  | .walkLate => Sys2Proof.Machine.execWalkLate s
  | .solveAndRepair seg => Sys2Proof.Machine.execSolveAndRepair seg s
  | .darning seg => Sys2Proof.Machine.execDarning seg s
  | .fadeShaping => Sys2Proof.Machine.execFadeShaping s
  | .telemetryDecode read => Sys2Proof.Machine.execTelemetryDecode read s
  | .mailboxCommandExecution mailbox => Sys2Proof.Machine.execMailboxCommandExecution mailbox s
  | .coursePlanning shuttle => Sys2Proof.Machine.execCoursePlanning shuttle s
  | .courseRun shuttle => Sys2Proof.Machine.execCourseRun shuttle s
  | .beacon => Sys2Proof.Machine.execBeacon s
  | .meteringBlock harness bits => Sys2Proof.Machine.execMeteringBlock harness bits s
  | .intervalClose => Sys2Proof.Machine.execIntervalClose s
  | .intervalBoundary => Sys2Proof.Machine.execIntervalBoundary s
  | .raptorqEncoding block => Sys2Proof.Machine.execRaptorqEncoding block s
  | .skeinPushCont skein initiator word => Sys2Proof.Machine.execSkeinPushCont skein initiator word s
  | .skeinPushEnd skein initiator valid word => Sys2Proof.Machine.execSkeinPushEnd skein initiator valid word s
  | .skeinHeldWrite skein => Sys2Proof.Machine.execSkeinHeldWrite skein s
  | .skeinHeldNotice skein => Sys2Proof.Machine.execSkeinHeldNotice skein s
  | .skeinPop skein initiator ecc => Sys2Proof.Machine.execSkeinPop skein initiator ecc s
  | .skeinWriteAbandon skein => Sys2Proof.Machine.execSkeinWriteAbandon skein s
  | .skeinReadAbandon skein => Sys2Proof.Machine.execSkeinReadAbandon skein s
  | .jnlRebuild skein => Sys2Proof.Machine.execJnlRebuild skein s
  | .bobStart channel => Sys2Proof.Machine.execBobStart channel s
  | .bobStop channel lastAck => Sys2Proof.Machine.execBobStop channel lastAck s
  | .bobRequest channel line => Sys2Proof.Machine.execBobRequest channel line s
  | .bobBurstDone channel access => Sys2Proof.Machine.execBobBurstDone channel access s
  | .bobTransferEnd channel bus => Sys2Proof.Machine.execBobTransferEnd channel bus s
  | .bobPulseRelease entry => Sys2Proof.Machine.execBobPulseRelease entry s
  | .tmbClearStats => Sys2Proof.Machine.execTmbClearStats s
  | .sknClearStats => Sys2Proof.Machine.execSknClearStats s
  | .bobClearStats => Sys2Proof.Machine.execBobClearStats s
  | .laceClearStats => Sys2Proof.Machine.execLaceClearStats s
  | .fadeClearStats => Sys2Proof.Machine.execFadeClearStats s
  | .airClearStats => Sys2Proof.Machine.execAirClearStats s
  | .crsClearStats => Sys2Proof.Machine.execCrsClearStats s
  | .metClearStats => Sys2Proof.Machine.execMetClearStats s
  | .timeClearStats => Sys2Proof.Machine.execTimeClearStats s
  | .netClearStats => Sys2Proof.Machine.execNetClearStats s
  | .jnlClearStats => Sys2Proof.Machine.execJnlClearStats s
  | .smpClearStats => Sys2Proof.Machine.execSmpClearStats s
  | .mrcClearStats => Sys2Proof.Machine.execMrcClearStats s
  | .aonClearStats => Sys2Proof.Machine.execAonClearStats s
  | .pnlClearStats => Sys2Proof.Machine.execPnlClearStats s
  | .alarmStatusClear alarm value => Sys2Proof.Machine.execAlarmStatusClear alarm value s
  | .ringCmdForced port => Sys2Proof.Machine.execRingCmdForced port s
  | .ringCmdManual port => Sys2Proof.Machine.execRingCmdManual port s
  | .ringCmdClear port => Sys2Proof.Machine.execRingCmdClear port s
  | .tbSecLoRead => Sys2Proof.Machine.execTbSecLoRead s
  | .tbFracRead => Sys2Proof.Machine.execTbFracRead s
  | .rtcTickLoRead => Sys2Proof.Machine.execRtcTickLoRead s
  | .rtcFlagsRead => Sys2Proof.Machine.execRtcFlagsRead s
  | .netSettingsWindowWrite offset value => Sys2Proof.Machine.execNetSettingsWindowWrite offset value s
  | .registerWrite addr value => Sys2Proof.Machine.execRegisterWrite addr value s
  | .slotRead session msg => Sys2Proof.Machine.execSlotRead session msg s
  | .tlsSessionOpen credential => Sys2Proof.Machine.execTlsSessionOpen credential s
  | .sessionClose mailbox => Sys2Proof.Machine.execSessionClose mailbox s
  | .usbPartialTimeout => Sys2Proof.Machine.execUsbPartialTimeout s
  | .loginBlockEnd => Sys2Proof.Machine.execLoginBlockEnd s
  | .sysIdentify op => Sys2Proof.Machine.execSysIdentify op s
  | .sysStatus op => Sys2Proof.Machine.execSysStatus op s
  | .sysCounters op => Sys2Proof.Machine.execSysCounters op s
  | .sysNop op => Sys2Proof.Machine.execSysNop op s
  | .sysIoRead op => Sys2Proof.Machine.execSysIoRead op s
  | .sysSettingsDigest op => Sys2Proof.Machine.execSysSettingsDigest op s
  | .sysInputSet op => Sys2Proof.Machine.execSysInputSet op s
  | .sysStitchSet op => Sys2Proof.Machine.execSysStitchSet op s
  | .sysReset op => Sys2Proof.Machine.execSysReset op s
  | .sysStore op => Sys2Proof.Machine.execSysStore op s
  | .sysRevert op => Sys2Proof.Machine.execSysRevert op s
  | .sysFactory op => Sys2Proof.Machine.execSysFactory op s
  | .tabPinWrite op => Sys2Proof.Machine.execTabPinWrite op s
  | .tabPinClear op => Sys2Proof.Machine.execTabPinClear op s
  | .tabPinSet op => Sys2Proof.Machine.execTabPinSet op s
  | .tabPinRead op => Sys2Proof.Machine.execTabPinRead op s
  | .tabPinClearFault op => Sys2Proof.Machine.execTabPinClearFault op s
  | .tabEdgeWrite op => Sys2Proof.Machine.execTabEdgeWrite op s
  | .tabEdgeRead op => Sys2Proof.Machine.execTabEdgeRead op s
  | .tabSegWrite op => Sys2Proof.Machine.execTabSegWrite op s
  | .tabSegClear op => Sys2Proof.Machine.execTabSegClear op s
  | .tabSegRead op => Sys2Proof.Machine.execTabSegRead op s
  | .tabBatchOpen op => Sys2Proof.Machine.execTabBatchOpen op s
  | .tabBatchClose op => Sys2Proof.Machine.execTabBatchClose op s
  | .tabBatchAbort op => Sys2Proof.Machine.execTabBatchAbort op s
  | .tabBatchTimeout => Sys2Proof.Machine.execTabBatchTimeout s
  | .tabDigest op => Sys2Proof.Machine.execTabDigest op s
  | .tabGroundBegin op => Sys2Proof.Machine.execTabGroundBegin op s
  | .tabGroundData op => Sys2Proof.Machine.execTabGroundData op s
  | .tabGroundCommit op => Sys2Proof.Machine.execTabGroundCommit op s
  | .groundCommitVerified seg ok => Sys2Proof.Machine.execGroundCommitVerified seg ok s
  | .tabGroundAbort op => Sys2Proof.Machine.execTabGroundAbort op s
  | .tabGroundRead op => Sys2Proof.Machine.execTabGroundRead op s
  | .tabGroundStatus op => Sys2Proof.Machine.execTabGroundStatus op s
  | .tabGroundDelete op => Sys2Proof.Machine.execTabGroundDelete op s
  | .tabGroundDiscard seg => Sys2Proof.Machine.execTabGroundDiscard seg s
  | .tablePersistVerified sequence => Sys2Proof.Machine.execTablePersistVerified sequence s
  | .litProfileWrite op => Sys2Proof.Machine.execLitProfileWrite op s
  | .litProfileRead op => Sys2Proof.Machine.execLitProfileRead op s
  | .litExcWrite op => Sys2Proof.Machine.execLitExcWrite op s
  | .litExcRead op => Sys2Proof.Machine.execLitExcRead op s
  | .litZoneWrite op => Sys2Proof.Machine.execLitZoneWrite op s
  | .litZoneRead op => Sys2Proof.Machine.execLitZoneRead op s
  | .litSiteSet op => Sys2Proof.Machine.execLitSiteSet op s
  | .litTzSet op => Sys2Proof.Machine.execLitTzSet op s
  | .litTimeRead op => Sys2Proof.Machine.execLitTimeRead op s
  | .litSunRead op => Sys2Proof.Machine.execLitSunRead op s
  | .litSchedEval op => Sys2Proof.Machine.execLitSchedEval op s
  | .litClassWrite op => Sys2Proof.Machine.execLitClassWrite op s
  | .litClassRead op => Sys2Proof.Machine.execLitClassRead op s
  | .litSpeedWrite op => Sys2Proof.Machine.execLitSpeedWrite op s
  | .litSpeedRead op => Sys2Proof.Machine.execLitSpeedRead op s
  | .litPresenceReport op => Sys2Proof.Machine.execLitPresenceReport op s
  | .litSolverSet op => Sys2Proof.Machine.execLitSolverSet op s
  | .litSolverRead op => Sys2Proof.Machine.execLitSolverRead op s
  | .litSolveRead op => Sys2Proof.Machine.execLitSolveRead op s
  | .litMarkRead op => Sys2Proof.Machine.execLitMarkRead op s
  | .litFadeSet op => Sys2Proof.Machine.execLitFadeSet op s
  | .litFadeRead op => Sys2Proof.Machine.execLitFadeRead op s
  | .litModelWrite op => Sys2Proof.Machine.execLitModelWrite op s
  | .litModelRead op => Sys2Proof.Machine.execLitModelRead op s
  | .litChainSet op => Sys2Proof.Machine.execLitChainSet op s
  | .litChainStatus op => Sys2Proof.Machine.execLitChainStatus op s
  | .litChainAccept op => Sys2Proof.Machine.execLitChainAccept op s
  | .litOutRead op => Sys2Proof.Machine.execLitOutRead op s
  | .dayPlanBuild => Sys2Proof.Machine.execDayPlanBuild s
  | .localOffsetTransition => Sys2Proof.Machine.execLocalOffsetTransition s
  | .tzExpired => Sys2Proof.Machine.execTzExpired s
  | .photocellSettled level => Sys2Proof.Machine.execPhotocellSettled level s
  | .chainShift => Sys2Proof.Machine.execChainShift s
  | .chainShiftDone ret => Sys2Proof.Machine.execChainShiftDone ret s
  | .chainLatch => Sys2Proof.Machine.execChainLatch s
  | .chainScan ret delays => Sys2Proof.Machine.execChainScan ret delays s
  | .chainBoardSilent board => Sys2Proof.Machine.execChainBoardSilent board s
  | .ntcFault board => Sys2Proof.Machine.execNtcFault board s
  | .uplinkPoll frame => Sys2Proof.Machine.execUplinkPoll frame s
  | .uplinkReport frame => Sys2Proof.Machine.execUplinkReport frame s
  | .uplinkImageState frame => Sys2Proof.Machine.execUplinkImageState frame s
  | .nodeEnhAck frame => Sys2Proof.Machine.execNodeEnhAck frame s
  | .enhAckSend shuttle => Sys2Proof.Machine.execEnhAckSend shuttle s
  | .enhAckTimeout shuttle => Sys2Proof.Machine.execEnhAckTimeout shuttle s
  | .foreignBeacon shuttle pan => Sys2Proof.Machine.execForeignBeacon shuttle pan s
  | .receiveWindowEnd pin collided => Sys2Proof.Machine.execReceiveWindowEnd pin collided s
  | .probeDue pin => Sys2Proof.Machine.execProbeDue pin s
  | .pinSilent pin => Sys2Proof.Machine.execPinSilent pin s
  | .imagePicotTimer => Sys2Proof.Machine.execImagePicotTimer s
  | .dutyBinRoll shuttle => Sys2Proof.Machine.execDutyBinRoll shuttle s
  | .profileTakeEffect => Sys2Proof.Machine.execProfileTakeEffect s
  | .shuttleFault shuttle cause => Sys2Proof.Machine.execShuttleFault shuttle cause s
  | .laceFault engine cause => Sys2Proof.Machine.execLaceFault engine cause s
  | .airProfileSet op => Sys2Proof.Machine.execAirProfileSet op s
  | .airProfileRead op => Sys2Proof.Machine.execAirProfileRead op s
  | .airSet op => Sys2Proof.Machine.execAirSet op s
  | .airRead op => Sys2Proof.Machine.execAirRead op s
  | .airFailsafeSet op => Sys2Proof.Machine.execAirFailsafeSet op s
  | .airFailsafeRead op => Sys2Proof.Machine.execAirFailsafeRead op s
  | .airPinRelease op => Sys2Proof.Machine.execAirPinRelease op s
  | .airPinState op => Sys2Proof.Machine.execAirPinState op s
  | .airWake op => Sys2Proof.Machine.execAirWake op s
  | .airImageBegin op => Sys2Proof.Machine.execAirImageBegin op s
  | .airImageData op => Sys2Proof.Machine.execAirImageData op s
  | .airImageStart op => Sys2Proof.Machine.execAirImageStart op s
  | .airImageActivate op => Sys2Proof.Machine.execAirImageActivate op s
  | .airImageStop op => Sys2Proof.Machine.execAirImageStop op s
  | .airImageStatus op => Sys2Proof.Machine.execAirImageStatus op s
  | .ocInstDetect feeder channel bits => Sys2Proof.Machine.execOcInstDetect feeder channel bits s
  | .halfCycleEnd harness bits => Sys2Proof.Machine.execHalfCycleEnd harness bits s
  | .snapshotComplete buffer samples => Sys2Proof.Machine.execSnapshotComplete buffer samples s
  | .snapshotArchived id => Sys2Proof.Machine.execSnapshotArchived id s
  | .feederRearm feeder => Sys2Proof.Machine.execFeederRearm feeder s
  | .measurementWindowClose set bits => Sys2Proof.Machine.execMeasurementWindowClose set bits s
  | .freqOut set out => Sys2Proof.Machine.execFreqOut set out s
  | .chanFault channel => Sys2Proof.Machine.execChanFault channel s
  | .chanOk channel => Sys2Proof.Machine.execChanOk channel s
  | .decOverrun harness runEnds => Sys2Proof.Machine.execDecOverrun harness runEnds s
  | .contactorFbTimeout output => Sys2Proof.Machine.execContactorFbTimeout output s
  | .contactorCloseSettle output => Sys2Proof.Machine.execContactorCloseSettle output s
  | .contactorOutFault output => Sys2Proof.Machine.execContactorOutFault output s
  | .digitalInputChange input level => Sys2Proof.Machine.execDigitalInputChange input level s
  | .dfcPulseEnd output => Sys2Proof.Machine.execDfcPulseEnd output s
  | .harnessInserted harness => Sys2Proof.Machine.execHarnessInserted harness s
  | .harnessPowered harness => Sys2Proof.Machine.execHarnessPowered harness s
  | .harnessSettled harness => Sys2Proof.Machine.execHarnessSettled harness s
  | .harnessRemoved harness => Sys2Proof.Machine.execHarnessRemoved harness s
  | .harnessUnexpected harness => Sys2Proof.Machine.execHarnessUnexpected harness s
  | .harnessSupplyFault harness => Sys2Proof.Machine.execHarnessSupplyFault harness s
  | .harnessFaultRetry harness => Sys2Proof.Machine.execHarnessFaultRetry harness s
  | .testModeExpire => Sys2Proof.Machine.execTestModeExpire s
  | .recoveryExpire => Sys2Proof.Machine.execRecoveryExpire s
  | .periodicSave => Sys2Proof.Machine.execPeriodicSave s
  | .spanRecordDue feeder => Sys2Proof.Machine.execSpanRecordDue feeder s
  | .archiveVerified sequence => Sys2Proof.Machine.execArchiveVerified sequence s
  | .metModeSet op => Sys2Proof.Machine.execMetModeSet op s
  | .metStatus op => Sys2Proof.Machine.execMetStatus op s
  | .metQtyRead op => Sys2Proof.Machine.execMetQtyRead op s
  | .metCalWrite op => Sys2Proof.Machine.execMetCalWrite op s
  | .metCalRead op => Sys2Proof.Machine.execMetCalRead op s
  | .metHarnessSet op => Sys2Proof.Machine.execMetHarnessSet op s
  | .metHarnessRead op => Sys2Proof.Machine.execMetHarnessRead op s
  | .metProtWrite op => Sys2Proof.Machine.execMetProtWrite op s
  | .metProtRead op => Sys2Proof.Machine.execMetProtRead op s
  | .metContactorCfg op => Sys2Proof.Machine.execMetContactorCfg op s
  | .metContactorRead op => Sys2Proof.Machine.execMetContactorRead op s
  | .metContactorSet op => Sys2Proof.Machine.execMetContactorSet op s
  | .metTripReset op => Sys2Proof.Machine.execMetTripReset op s
  | .metDfcSet op => Sys2Proof.Machine.execMetDfcSet op s
  | .metDfcRead op => Sys2Proof.Machine.execMetDfcRead op s
  | .metPeakRead op => Sys2Proof.Machine.execMetPeakRead op s
  | .metPeakClear op => Sys2Proof.Machine.execMetPeakClear op s
  | .metRegRead op => Sys2Proof.Machine.execMetRegRead op s
  | .metLegacyRead op => Sys2Proof.Machine.execMetLegacyRead op s
  | .metIntervalSet op => Sys2Proof.Machine.execMetIntervalSet op s
  | .metIntervalRead op => Sys2Proof.Machine.execMetIntervalRead op s
  | .metSpanRead op => Sys2Proof.Machine.execMetSpanRead op s
  | .metSnapTrigger op => Sys2Proof.Machine.execMetSnapTrigger op s
  | .metSnapList op => Sys2Proof.Machine.execMetSnapList op s
  | .metSnapRead op => Sys2Proof.Machine.execMetSnapRead op s
  | .metSnapSet op => Sys2Proof.Machine.execMetSnapSet op s
  | .metSaveStatus op => Sys2Proof.Machine.execMetSaveStatus op s
  | .ptpSync port m => Sys2Proof.Machine.execPtpSync port m s
  | .ptpFollowUp port m => Sys2Proof.Machine.execPtpFollowUp port m s
  | .ptpDelayReq stamp => Sys2Proof.Machine.execPtpDelayReq stamp s
  | .ptpDelayResp port m => Sys2Proof.Machine.execPtpDelayResp port m s
  | .ptpPdelayReq port stamp => Sys2Proof.Machine.execPtpPdelayReq port stamp s
  | .ptpPdelayReqRx port m => Sys2Proof.Machine.execPtpPdelayReqRx port m s
  | .ptpPdelayResp port m => Sys2Proof.Machine.execPtpPdelayResp port m s
  | .ptpAnnounce port m => Sys2Proof.Machine.execPtpAnnounce port m s
  | .announceReceiptTimeout => Sys2Proof.Machine.execAnnounceReceiptTimeout s
  | .txqDrain => Sys2Proof.Machine.execTxqDrain s
  | .txqStale => Sys2Proof.Machine.execTxqStale s
  | .holdoverExpire => Sys2Proof.Machine.execHoldoverExpire s
  | .ppsInEdge stamp => Sys2Proof.Machine.execPpsInEdge stamp s
  | .ppsInLost => Sys2Proof.Machine.execPpsInLost s
  | .ppsOutPulse => Sys2Proof.Machine.execPpsOutPulse s
  | .ppsOutFall => Sys2Proof.Machine.execPpsOutFall s
  | .leapSecond => Sys2Proof.Machine.execLeapSecond s
  | .clockMonitorSecond count => Sys2Proof.Machine.execClockMonitorSecond count s
  | .pllLockLoss pll => Sys2Proof.Machine.execPllLockLoss pll s
  | .pllRelock pll => Sys2Proof.Machine.execPllRelock pll s
  | .tcxoStop => Sys2Proof.Machine.execTcxoStop s
  | .rtcAlign => Sys2Proof.Machine.execRtcAlign s
  | .rtcSetLoad => Sys2Proof.Machine.execRtcSetLoad s
  | .rtcShiftDone => Sys2Proof.Machine.execRtcShiftDone s
  | .rtcAlarm alarm => Sys2Proof.Machine.execRtcAlarm alarm s
  | .rtcSupplyChangeover toBackup => Sys2Proof.Machine.execRtcSupplyChangeover toBackup s
  | .rtcBatlow mv => Sys2Proof.Machine.execRtcBatlow mv s
  | .rtcLost => Sys2Proof.Machine.execRtcLost s
  | .backupMeasure mv => Sys2Proof.Machine.execBackupMeasure mv s
  | .timStatus op => Sys2Proof.Machine.execTimStatus op s
  | .timPtpSet op => Sys2Proof.Machine.execTimPtpSet op s
  | .timPtpRead op => Sys2Proof.Machine.execTimPtpRead op s
  | .timTimeSet op => Sys2Proof.Machine.execTimTimeSet op s
  | .timRtcRead op => Sys2Proof.Machine.execTimRtcRead op s
  | .timRtcSet op => Sys2Proof.Machine.execTimRtcSet op s
  | .timRtcShift op => Sys2Proof.Machine.execTimRtcShift op s
  | .timAlarmSet op => Sys2Proof.Machine.execTimAlarmSet op s
  | .timAlarmRead op => Sys2Proof.Machine.execTimAlarmRead op s
  | .timAlarmAck op => Sys2Proof.Machine.execTimAlarmAck op s
  | .timPpsSet op => Sys2Proof.Machine.execTimPpsSet op s
  | .timPpsRead op => Sys2Proof.Machine.execTimPpsRead op s
  | .timBackupSet op => Sys2Proof.Machine.execTimBackupSet op s
  | .logStatus op => Sys2Proof.Machine.execLogStatus op s
  | .logRecordRead op => Sys2Proof.Machine.execLogRecordRead op s
  | .logFreeze op => Sys2Proof.Machine.execLogFreeze op s
  | .logThaw op => Sys2Proof.Machine.execLogThaw op s
  | .logMarkSet op => Sys2Proof.Machine.execLogMarkSet op s
  | .logMarkClear op => Sys2Proof.Machine.execLogMarkClear op s
  | .logModeSet op => Sys2Proof.Machine.execLogModeSet op s
  | .logNote op => Sys2Proof.Machine.execLogNote op s
  | .secNonce op => Sys2Proof.Machine.execSecNonce op s
  | .secLogin op => Sys2Proof.Machine.execSecLogin op s
  | .secWhoami op => Sys2Proof.Machine.execSecWhoami op s
  | .secStatus op => Sys2Proof.Machine.execSecStatus op s
  | .secProtRead op => Sys2Proof.Machine.execSecProtRead op s
  | .secProtWrite op => Sys2Proof.Machine.execSecProtWrite op s
  | .secRevoke op => Sys2Proof.Machine.execSecRevoke op s
  | .secMaintSet op => Sys2Proof.Machine.execSecMaintSet op s
  | .maintExpire => Sys2Proof.Machine.execMaintExpire s
  | .secKeyWrite op => Sys2Proof.Machine.execSecKeyWrite op s
  | .secKeyStatus op => Sys2Proof.Machine.execSecKeyStatus op s
  | .secKeyClear op => Sys2Proof.Machine.execSecKeyClear op s
  | .secCertSet op => Sys2Proof.Machine.execSecCertSet op s
  | .secCsrRead op => Sys2Proof.Machine.execSecCsrRead op s
  | .updStatus op => Sys2Proof.Machine.execUpdStatus op s
  | .updBegin op => Sys2Proof.Machine.execUpdBegin op s
  | .updData op => Sys2Proof.Machine.execUpdData op s
  | .updVerify op => Sys2Proof.Machine.execUpdVerify op s
  | .updAbort op => Sys2Proof.Machine.execUpdAbort op s
  | .updActivate op => Sys2Proof.Machine.execUpdActivate op s
  | .updConfirm op => Sys2Proof.Machine.execUpdConfirm op s
  | .updRollback op => Sys2Proof.Machine.execUpdRollback op s
  | .updLoadTimeout => Sys2Proof.Machine.execUpdLoadTimeout s
  | .prbRead op => Sys2Proof.Machine.execPrbRead op s
  | .prbReadRange op => Sys2Proof.Machine.execPrbReadRange op s
  | .prbWrite op => Sys2Proof.Machine.execPrbWrite op s
  | .prbMap op => Sys2Proof.Machine.execPrbMap op s
  | .pnlStatus op => Sys2Proof.Machine.execPnlStatus op s
  | .pnlLock op => Sys2Proof.Machine.execPnlLock op s
  | .pnlPinSet op => Sys2Proof.Machine.execPnlPinSet op s
  | .pnlMessage op => Sys2Proof.Machine.execPnlMessage op s
  | .pnlTest op => Sys2Proof.Machine.execPnlTest op s
  | .pnlScreenRead op => Sys2Proof.Machine.execPnlScreenRead op s
  | .pnlTestEnd cause => Sys2Proof.Machine.execPnlTestEnd cause s
  | .keyPress key => Sys2Proof.Machine.execKeyPress key s
  | .keyRelease key => Sys2Proof.Machine.execKeyRelease key s
  | .keyRepeat key => Sys2Proof.Machine.execKeyRepeat key s
  | .proxWake => Sys2Proof.Machine.execProxWake s
  | .displayDim => Sys2Proof.Machine.execDisplayDim s
  | .controlLapse => Sys2Proof.Machine.execControlLapse s
  | .backHold => Sys2Proof.Machine.execBackHold s
  | .lockoutEnd => Sys2Proof.Machine.execLockoutEnd s
  | .bannerExpire => Sys2Proof.Machine.execBannerExpire s
  | .usbServiceKey => Sys2Proof.Machine.execUsbServiceKey s
  | .usbKeyWindowEnd => Sys2Proof.Machine.execUsbKeyWindowEnd s
  | .usbAttach => Sys2Proof.Machine.execUsbAttach s
  | .usbDetach => Sys2Proof.Machine.execUsbDetach s
  | .linkUp port speed => Sys2Proof.Machine.execLinkUp port speed s
  | .linkDown port => Sys2Proof.Machine.execLinkDown port s
  | .sfpInsert port => Sys2Proof.Machine.execSfpInsert port s
  | .sfpPowered port => Sys2Proof.Machine.execSfpPowered port s
  | .sfpIdentified port id => Sys2Proof.Machine.execSfpIdentified port id s
  | .sfpOut port => Sys2Proof.Machine.execSfpOut port s
  | .ethernetFrame port frame => Sys2Proof.Machine.execEthernetFrame port frame s
  | .fdbAge vid mac => Sys2Proof.Machine.execFdbAge vid mac s
  | .rapsFrame port m => Sys2Proof.Machine.execRapsFrame port m s
  | .rapsTransmit => Sys2Proof.Machine.execRapsTransmit s
  | .ringWtrExpire => Sys2Proof.Machine.execRingWtrExpire s
  | .ringGuardExpire => Sys2Proof.Machine.execRingGuardExpire s
  | .ringHoldOffExpire => Sys2Proof.Machine.execRingHoldOffExpire s
  | .powerFailWarning => Sys2Proof.Machine.execPowerFailWarning s
  | .lastGaspComplete us => Sys2Proof.Machine.execLastGaspComplete us s
  | .dipReturn => Sys2Proof.Machine.execDipReturn s
  | .dcInputOn => Sys2Proof.Machine.execDcInputOn s
  | .supplyPhaseDone => Sys2Proof.Machine.execSupplyPhaseDone s
  | .boot imageA imageB => Sys2Proof.Machine.execBoot imageA imageB s
  | .memoryReady die0 die1 emmc bank0 bank1 => Sys2Proof.Machine.execMemoryReady die0 die1 emmc bank0 bank1 s
  | .restore found => Sys2Proof.Machine.execRestore found s
  | .firstBoundaryRelease => Sys2Proof.Machine.execFirstBoundaryRelease s
  | .groundReloadDone seg ok => Sys2Proof.Machine.execGroundReloadDone seg ok s
  | .watchdogReset unit commit => Sys2Proof.Machine.execWatchdogReset unit commit s
  | .memoryErrorReset commit => Sys2Proof.Machine.execMemoryErrorReset commit s
  | .plannedReset => Sys2Proof.Machine.execPlannedReset s
  | .a0Stop => Sys2Proof.Machine.execA0Stop s
  | .a0Return => Sys2Proof.Machine.execA0Return s
  | .dramDieLost die => Sys2Proof.Machine.execDramDieLost die s
  | .mramBankFault bank => Sys2Proof.Machine.execMramBankFault bank s
  | .emmcFault => Sys2Proof.Machine.execEmmcFault s
  | .settingsStoreVerified ok => Sys2Proof.Machine.execSettingsStoreVerified ok s
  | .resultStoreCopy sequence => Sys2Proof.Machine.execResultStoreCopy sequence s
  | .operatingCountersSave => Sys2Proof.Machine.execOperatingCountersSave s
  | .holdupMeasure ms open_ => Sys2Proof.Machine.execHoldupMeasure ms open_ s
  | .unknownOpcodeRequest session msg => Sys2Proof.Machine.execUnknownOpcodeRequest session msg s
  | .chargerTempHold hot => Sys2Proof.Machine.execChargerTempHold hot s
  | .sodWrap => Sys2Proof.Machine.execSodWrap s

end Sys2Proof.Machine
end

