-- ==== Sys2Proof/Machine/Fabric.lean ====
section
/-! DEFINITION. The fabric's arbiters (R53, R54): one for each of the targets DRAM, Frame SRAM, Skein SRAM, MRAM and peripheral port,
served one FAB cycle at a time. -/

namespace Sys2Proof.Machine

/-- Tile of an initiator: APP, LACE, AIR, METER, NET, KEEP, Plumbing. -/
def tileOf (i : Nat) : Nat :=
  if i < 4 then 0 else if i < 15 then 1 else if i < 19 then 2 else if i < 23 then 3 else if i < 25 then 4 else if i < 28 then 5 else 6

def fabTiles : Nat := 7
def fabInitiators : Nat := 31

/-- FAB cycles of waiting after which a request escalates (R54). -/
def escalateAfter : Nat := 256

/-- Initiators of a tile with a request waiting. -/
def pendingOf (a : Arbiter) (tile : Nat) : List Nat := (a.waiting.filter fun r => tileOf r.initiator == tile).map (·.initiator)

/-- A round begins with as many bursts for each tile as it has initiators with requests pending (R53). -/
def beginRound (a : Arbiter) : Arbiter := { a with shares := (upTo fabTiles).map fun t => (pendingOf a t).length }

/-- The tile the round serves next: the lowest-numbered with a burst left and a request pending (DESIGN CHOICE: the order of tiles in a
round). -/
def nextTile (a : Arbiter) : Option Nat := (upTo fabTiles).find? fun t => a.shares.getD t 0 != 0 && pendingOf a t != []

/-- Within a tile, round-robin: the first pending initiator after the one granted last. -/
def nextInTile (a : Arbiter) (tile : Nat) : Option Nat :=
  ((span (a.last.getD tile 0 + 1) fabInitiators).map (· % fabInitiators)).find? (pendingOf a tile).contains

/-- The oldest escalated request. -/
def escalated (a : Arbiter) : Option Nat := (a.waiting.find? fun r => escalateAfter ≤ r.waited).map (·.initiator)

/-- What an arbiter grants at a burst boundary: an escalated request, oldest first, before the round continues (R54); else the round's
next, a new round beginning when no tile has a burst left (R53). Answers the initiator, whether it escalated, and the arbiter. -/
def grant (a : Arbiter) : Option (Nat × Bool × Arbiter) :=
  match escalated a with
  | some i => some (i, true, a)
  | none =>
    let a := if (nextTile a).isSome then a else beginRound a
    (nextTile a).bind fun t => (nextInTile a t).map fun i =>
      (i, false, { a with shares := listModify a.shares t (· - 1), last := listSet a.last t i })

/-- An initiator with no request outstanding at the arbiter raises one. -/
def arrive (a : Arbiter) (i : Nat) : Arbiter :=
  if (a.waiting.any fun r => r.initiator == i) || (a.burst.any fun b => b.1 == i) then a
  else { a with waiting := a.waiting ++ [{ initiator := i, waited := 0 }] }

/-- The burst in progress after one more cycle. -/
def burstLeft : Option (Nat × Nat) → Option (Nat × Nat)
  | some (i, n + 2) => some (i, n + 1)
  | _ => none

/-- Starts the granted burst of 1 to 16 beats, and counts its grant. -/
def startBurst (t i beats : Nat) (esc : Bool) (a : Arbiter) (x : Tambour) : Tambour :=
  let wait := ((a.waiting.find? fun r => r.initiator == i).map (·.waited)).getD 0
  let a := { a with waiting := a.waiting.filter (fun r => r.initiator != i), burst := some (i, 1 + beats % 16) }
  { x with arbiters := listSet x.arbiters t a, fabEsc := if esc then listModify x.fabEsc t (· + 1) else x.fabEsc,
           fabMaxWait := listModify x.fabMaxWait t fun m => max m (satU 16 wait) }

/-- One FAB cycle of one arbiter: requests arrive, a granted burst goes on to its end, and at a burst boundary the next is granted. -/
def arbiterCycle (cycle : Nat) (x : Tambour) (t : Nat) : Tambour :=
  let a := x.arbiters.getD t default
  let a := ((upTo fabInitiators).filter (Config.fabricRequest cycle t)).foldl arrive a
  let a := { a with burst := burstLeft a.burst, waiting := a.waiting.map fun r => { r with waited := r.waited + 1 } }
  if a.burst.isSome then { x with arbiters := listSet x.arbiters t a }
  else
    match grant a with
    | some (i, esc, a) => startBurst t i (Config.fabricBeats cycle t) esc a x
    | none => { x with arbiters := listSet x.arbiters t a }

/-- One FAB cycle of the fabric. -/
def fabricCycle (cycle : Nat) (x : Tambour) : Tambour := (upTo 5).foldl (arbiterCycle cycle) x

/-- The two FAB cycles of a TIME cycle. -/
def fabricTick (s : State) : State :=
  if s.sys.phase == .off then s else { s with tmb := fabricCycle (s.time.fabCycle + 1) (fabricCycle s.time.fabCycle s.tmb) }

end Sys2Proof.Machine
end

