-- ==== Sys2Proof/Machine/Step.lean ====
section
/-! DEFINITION. One step: the command at the front of the queue has its effect, with the queue's rest waiting. With nothing
waiting, one TIME cycle passes (R30): the clocks count, the fabric's
arbiters serve, aborted engines stop, and the ports' lines go on sending. -/

namespace Sys2Proof.Machine

/-- What passes in one TIME cycle with no command waiting (DESIGN CHOICE: the block's clock runs on an empty queue). -/
def idle (s : State) : State := netTick (abortsDone false (fabricTick (tick s)))

def step (s : State) : Host.Outcome State Fault Refusal :=
  match s.pending with
  | [] => .next (idle s)
  | c :: rest => exec c { s with pending := rest }

/-- A command that a table word spells joins the queue at its front; the table spells none in bits. -/
def State.withFetchWord (s : State) (nbits w : Nat) : State :=
  match Sys2Proof.decodeTableWord nbits w with
  | some c => { s with pending := c :: s.pending }
  | none => s

end Sys2Proof.Machine
end

