-- ==== Sys2Proof/WellFormed.lean ====
section
/-! DEFINITION. Which operands a command can carry: the ranges of the numbers, codes and fields that each row's event has
by the spec. `exec` answers any term; a well-formed one is what the hardware can meet. -/

namespace Sys2Proof

/-- A message's header fields at their widths (Table 13.1); a message that arrived whole carries the length it states. -/
def Message.wellFormed (h : Message) : Bool :=
  h.magic < 65536 && h.version < 256 && h.mailbox < 256 && h.opcode < 65536 && h.length < 4294967296 && h.status < 65536 &&
  (!h.framed || h.payload.length == h.length)

def Request.wellFormed (r : Request) : Bool :=
  r.session < 16 && r.magic < 65536 && r.version < 256 && r.mailbox < 256 && r.length < 4294967296 && r.status < 65536 &&
  (!r.framed || r.payload.length == r.length)

/-- The sixteen mailboxes of R320. -/
def CmdStep.wellFormed : CmdStep → Bool
  | .request r => r.wellFormed
  | .run mailbox => mailbox < 16

/-- Table 8.1's four Shuttles, and a PSDU no longer than 2,047 octets. -/
def RxFrame.wellFormed (f : RxFrame) : Bool := f.shuttle < 4 && f.keyIndex < 256 && f.payload.length ≤ 2047

def Pll.wellFormed : Pll → Bool
  | .e p => p < 6
  | _ => true

def PtpMsg.wellFormed (m : PtpMsg) : Bool := m.domain < 256 && m.source.length == 10 && m.sequence < 65536

def Announce.wellFormed (a : Announce) : Bool :=
  a.domain < 256 && a.source.length == 10 && a.priority1 < 256 && a.clockClass < 256 && a.accuracy < 256 && a.variance < 65536 &&
  a.priority2 < 256 && a.grandmaster.length == 8 && a.steps < 65536

def SfpId.wellFormed (i : SfpId) : Bool := i.power < 256 && i.part.length ≤ 16

def EthFrame.wellFormed (f : EthFrame) : Bool :=
  f.dst.length == 6 && f.src.length == 6 && (match f.vid with | some v => decide (v < 4096) | none => true) && f.pcp < 8 && f.etherType < 65536

def Raps.wellFormed (r : Raps) : Bool := r.request < 16 && r.subcode < 16 && r.bpr < 2 && r.nodeId.length == 6

def ImageCheck.wellFormed (i : ImageCheck) : Bool := i.product < 65536 && i.headerVersion < 65536

def RestoreFound.wellFormed (f : RestoreFound) : Bool := f.badPins.all fun p => p < 8192

/-- Which operands each row can carry. -/
def Instr.wellFormed : Instr → Bool
  | .stitchBoundary => true
  | .stitchPeriodChange => true
  | .journalBatchCommit => true
  | .journalCommitDone _ _ _ => true
  | .freezeExpire => true
  | .softDeadlinePass slot => slot < 1024
  | .frayRecord => true
  | .taskDispatch list => list < 9
  | .heldSourceRelease list => list < 9
  | .scheduleEvaluation block => block < 36
  | .presenceWalk => true
  | .walkLate => true
  | .solveAndRepair seg => seg < 1024
  | .darning seg => seg < 1024
  | .fadeShaping => true
  | .telemetryDecode read => read.shuttle < 4
  | .mailboxCommandExecution mailbox => mailbox < 16
  | .coursePlanning shuttle => shuttle < 4
  | .courseRun shuttle => shuttle < 4
  | .beacon => true
  | .meteringBlock harness bits => harness < 2 && bits.length == 28 && bits.all fun l => l.length == 10000
  | .intervalClose => true
  | .intervalBoundary => true
  | .raptorqEncoding block => block < 256
  | .skeinPushCont skein initiator _ => skein < 128 && initiator < 31
  | .skeinPushEnd skein initiator valid _ => skein < 128 && initiator < 31 && 1 ≤ valid && valid ≤ 4
  | .skeinHeldWrite skein => skein < 128
  | .skeinHeldNotice skein => skein < 128
  | .skeinPop skein initiator _ => skein < 128 && initiator < 31
  | .skeinWriteAbandon skein => skein < 128
  | .skeinReadAbandon skein => skein < 128
  | .jnlRebuild skein => skein < 128
  | .bobStart channel => channel < 32
  | .bobStop channel _ => channel < 32
  | .bobRequest channel _ => channel < 32
  | .bobBurstDone channel _ => channel < 32
  | .bobTransferEnd channel _ => channel < 32
  | .bobPulseRelease entry => entry.channel < 32
  | .tmbClearStats => true
  | .sknClearStats => true
  | .bobClearStats => true
  | .laceClearStats => true
  | .fadeClearStats => true
  | .airClearStats => true
  | .crsClearStats => true
  | .metClearStats => true
  | .timeClearStats => true
  | .netClearStats => true
  | .jnlClearStats => true
  | .smpClearStats => true
  | .mrcClearStats => true
  | .aonClearStats => true
  | .pnlClearStats => true
  | .alarmStatusClear alarm _ => alarm < 2
  | .ringCmdForced port => port < 2
  | .ringCmdManual port => port < 2
  | .ringCmdClear port => port < 2
  | .tbSecLoRead => true
  | .tbFracRead => true
  | .rtcTickLoRead => true
  | .rtcFlagsRead => true
  | .netSettingsWindowWrite offset _ => offset < 65536 && offset % 4 == 0
  | .registerWrite addr _ => addr < 4294967296
  | .slotRead session msg => session < 16 && msg.wellFormed
  | .tlsSessionOpen credential => credential.length == 32
  | .sessionClose mailbox => mailbox < 16
  | .usbPartialTimeout => true
  | .loginBlockEnd => true
  | .sysIdentify op => op.wellFormed
  | .sysStatus op => op.wellFormed
  | .sysCounters op => op.wellFormed
  | .sysNop op => op.wellFormed
  | .sysIoRead op => op.wellFormed
  | .sysSettingsDigest op => op.wellFormed
  | .sysInputSet op => op.wellFormed
  | .sysStitchSet op => op.wellFormed
  | .sysReset op => op.wellFormed
  | .sysStore op => op.wellFormed
  | .sysRevert op => op.wellFormed
  | .sysFactory op => op.wellFormed
  | .tabPinWrite op => op.wellFormed
  | .tabPinClear op => op.wellFormed
  | .tabPinSet op => op.wellFormed
  | .tabPinRead op => op.wellFormed
  | .tabPinClearFault op => op.wellFormed
  | .tabEdgeWrite op => op.wellFormed
  | .tabEdgeRead op => op.wellFormed
  | .tabSegWrite op => op.wellFormed
  | .tabSegClear op => op.wellFormed
  | .tabSegRead op => op.wellFormed
  | .tabBatchOpen op => op.wellFormed
  | .tabBatchClose op => op.wellFormed
  | .tabBatchAbort op => op.wellFormed
  | .tabBatchTimeout => true
  | .tabDigest op => op.wellFormed
  | .tabGroundBegin op => op.wellFormed
  | .tabGroundData op => op.wellFormed
  | .tabGroundCommit op => op.wellFormed
  | .groundCommitVerified seg _ => seg < 1024
  | .tabGroundAbort op => op.wellFormed
  | .tabGroundRead op => op.wellFormed
  | .tabGroundStatus op => op.wellFormed
  | .tabGroundDelete op => op.wellFormed
  | .tabGroundDiscard seg => seg < 1024
  | .tablePersistVerified _ => true
  | .litProfileWrite op => op.wellFormed
  | .litProfileRead op => op.wellFormed
  | .litExcWrite op => op.wellFormed
  | .litExcRead op => op.wellFormed
  | .litZoneWrite op => op.wellFormed
  | .litZoneRead op => op.wellFormed
  | .litSiteSet op => op.wellFormed
  | .litTzSet op => op.wellFormed
  | .litTimeRead op => op.wellFormed
  | .litSunRead op => op.wellFormed
  | .litSchedEval op => op.wellFormed
  | .litClassWrite op => op.wellFormed
  | .litClassRead op => op.wellFormed
  | .litSpeedWrite op => op.wellFormed
  | .litSpeedRead op => op.wellFormed
  | .litPresenceReport op => op.wellFormed
  | .litSolverSet op => op.wellFormed
  | .litSolverRead op => op.wellFormed
  | .litSolveRead op => op.wellFormed
  | .litMarkRead op => op.wellFormed
  | .litFadeSet op => op.wellFormed
  | .litFadeRead op => op.wellFormed
  | .litModelWrite op => op.wellFormed
  | .litModelRead op => op.wellFormed
  | .litChainSet op => op.wellFormed
  | .litChainStatus op => op.wellFormed
  | .litChainAccept op => op.wellFormed
  | .litOutRead op => op.wellFormed
  | .dayPlanBuild => true
  | .localOffsetTransition => true
  | .tzExpired => true
  | .photocellSettled _ => true
  | .chainShift => true
  | .chainShiftDone ret => ret.length ≤ 130
  | .chainLatch => true
  | .chainScan ret delays => ret.length == 4 && (ret.all fun l => l.length ≤ 130) && delays.all fun d => d < 256
  | .chainBoardSilent board => board < 128
  | .ntcFault board => board < 128
  | .uplinkPoll frame => frame.wellFormed
  | .uplinkReport frame => frame.wellFormed
  | .uplinkImageState frame => frame.wellFormed
  | .nodeEnhAck frame => frame.wellFormed
  | .enhAckSend shuttle => shuttle < 4
  | .enhAckTimeout shuttle => shuttle < 4
  | .foreignBeacon shuttle _ => shuttle < 4
  | .receiveWindowEnd pin _ => pin < 8192
  | .probeDue pin => pin < 8192
  | .pinSilent pin => pin < 8192
  | .imagePicotTimer => true
  | .dutyBinRoll shuttle => shuttle < 4
  | .profileTakeEffect => true
  | .shuttleFault shuttle cause => shuttle < 4 && cause < 256
  | .laceFault engine cause => engine < 8 && cause < 256
  | .airProfileSet op => op.wellFormed
  | .airProfileRead op => op.wellFormed
  | .airSet op => op.wellFormed
  | .airRead op => op.wellFormed
  | .airFailsafeSet op => op.wellFormed
  | .airFailsafeRead op => op.wellFormed
  | .airPinRelease op => op.wellFormed
  | .airPinState op => op.wellFormed
  | .airWake op => op.wellFormed
  | .airImageBegin op => op.wellFormed
  | .airImageData op => op.wellFormed
  | .airImageStart op => op.wellFormed
  | .airImageActivate op => op.wellFormed
  | .airImageStop op => op.wellFormed
  | .airImageStatus op => op.wellFormed
  | .ocInstDetect feeder channel bits => feeder < 12 && channel < 56 && bits.length ≤ 10000
  | .halfCycleEnd harness _ => harness < 2
  | .snapshotComplete buffer samples => buffer < 16 && samples.length ≤ 8
  | .snapshotArchived _ => true
  | .feederRearm feeder => feeder < 12
  | .measurementWindowClose set _ => set < 2
  | .freqOut set _ => set < 2
  | .chanFault channel => channel < 56
  | .chanOk channel => channel < 56
  | .decOverrun harness _ => harness < 2
  | .contactorFbTimeout output => output < 8
  | .contactorCloseSettle output => output < 8
  | .contactorOutFault output => output < 8
  | .digitalInputChange input _ => input < 8
  | .dfcPulseEnd output => output < 8
  | .harnessInserted harness => harness < 2
  | .harnessPowered harness => harness < 2
  | .harnessSettled harness => harness < 2
  | .harnessRemoved harness => harness < 2
  | .harnessUnexpected harness => harness < 2
  | .harnessSupplyFault harness => harness < 2
  | .harnessFaultRetry harness => harness < 2
  | .testModeExpire => true
  | .recoveryExpire => true
  | .periodicSave => true
  | .spanRecordDue feeder => feeder < 12
  | .archiveVerified _ => true
  | .metModeSet op => op.wellFormed
  | .metStatus op => op.wellFormed
  | .metQtyRead op => op.wellFormed
  | .metCalWrite op => op.wellFormed
  | .metCalRead op => op.wellFormed
  | .metHarnessSet op => op.wellFormed
  | .metHarnessRead op => op.wellFormed
  | .metProtWrite op => op.wellFormed
  | .metProtRead op => op.wellFormed
  | .metContactorCfg op => op.wellFormed
  | .metContactorRead op => op.wellFormed
  | .metContactorSet op => op.wellFormed
  | .metTripReset op => op.wellFormed
  | .metDfcSet op => op.wellFormed
  | .metDfcRead op => op.wellFormed
  | .metPeakRead op => op.wellFormed
  | .metPeakClear op => op.wellFormed
  | .metRegRead op => op.wellFormed
  | .metLegacyRead op => op.wellFormed
  | .metIntervalSet op => op.wellFormed
  | .metIntervalRead op => op.wellFormed
  | .metSpanRead op => op.wellFormed
  | .metSnapTrigger op => op.wellFormed
  | .metSnapList op => op.wellFormed
  | .metSnapRead op => op.wellFormed
  | .metSnapSet op => op.wellFormed
  | .metSaveStatus op => op.wellFormed
  | .ptpSync port m => port < 7 && m.wellFormed
  | .ptpFollowUp port m => port < 7 && m.wellFormed
  | .ptpDelayReq _ => true
  | .ptpDelayResp port m => port < 7 && m.wellFormed
  | .ptpPdelayReq port _ => port < 7
  | .ptpPdelayReqRx port m => port < 7 && m.wellFormed
  | .ptpPdelayResp port m => port < 7 && m.wellFormed
  | .ptpAnnounce port m => port < 7 && m.wellFormed
  | .announceReceiptTimeout => true
  | .txqDrain => true
  | .txqStale => true
  | .holdoverExpire => true
  | .ppsInEdge _ => true
  | .ppsInLost => true
  | .ppsOutPulse => true
  | .ppsOutFall => true
  | .leapSecond => true
  | .clockMonitorSecond _ => true
  | .pllLockLoss pll => pll.wellFormed
  | .pllRelock pll => pll.wellFormed
  | .tcxoStop => true
  | .rtcAlign => true
  | .rtcSetLoad => true
  | .rtcShiftDone => true
  | .rtcAlarm alarm => alarm < 2
  | .rtcSupplyChangeover _ => true
  | .rtcBatlow _ => true
  | .rtcLost => true
  | .backupMeasure _ => true
  | .timStatus op => op.wellFormed
  | .timPtpSet op => op.wellFormed
  | .timPtpRead op => op.wellFormed
  | .timTimeSet op => op.wellFormed
  | .timRtcRead op => op.wellFormed
  | .timRtcSet op => op.wellFormed
  | .timRtcShift op => op.wellFormed
  | .timAlarmSet op => op.wellFormed
  | .timAlarmRead op => op.wellFormed
  | .timAlarmAck op => op.wellFormed
  | .timPpsSet op => op.wellFormed
  | .timPpsRead op => op.wellFormed
  | .timBackupSet op => op.wellFormed
  | .logStatus op => op.wellFormed
  | .logRecordRead op => op.wellFormed
  | .logFreeze op => op.wellFormed
  | .logThaw op => op.wellFormed
  | .logMarkSet op => op.wellFormed
  | .logMarkClear op => op.wellFormed
  | .logModeSet op => op.wellFormed
  | .logNote op => op.wellFormed
  | .secNonce op => op.wellFormed
  | .secLogin op => op.wellFormed
  | .secWhoami op => op.wellFormed
  | .secStatus op => op.wellFormed
  | .secProtRead op => op.wellFormed
  | .secProtWrite op => op.wellFormed
  | .secRevoke op => op.wellFormed
  | .secMaintSet op => op.wellFormed
  | .maintExpire => true
  | .secKeyWrite op => op.wellFormed
  | .secKeyStatus op => op.wellFormed
  | .secKeyClear op => op.wellFormed
  | .secCertSet op => op.wellFormed
  | .secCsrRead op => op.wellFormed
  | .updStatus op => op.wellFormed
  | .updBegin op => op.wellFormed
  | .updData op => op.wellFormed
  | .updVerify op => op.wellFormed
  | .updAbort op => op.wellFormed
  | .updActivate op => op.wellFormed
  | .updConfirm op => op.wellFormed
  | .updRollback op => op.wellFormed
  | .updLoadTimeout => true
  | .prbRead op => op.wellFormed
  | .prbReadRange op => op.wellFormed
  | .prbWrite op => op.wellFormed
  | .prbMap op => op.wellFormed
  | .pnlStatus op => op.wellFormed
  | .pnlLock op => op.wellFormed
  | .pnlPinSet op => op.wellFormed
  | .pnlMessage op => op.wellFormed
  | .pnlTest op => op.wellFormed
  | .pnlScreenRead op => op.wellFormed
  | .pnlTestEnd _ => true
  | .keyPress key => key < 8
  | .keyRelease key => key < 8
  | .keyRepeat key => key < 8
  | .proxWake => true
  | .displayDim => true
  | .controlLapse => true
  | .backHold => true
  | .lockoutEnd => true
  | .bannerExpire => true
  | .usbServiceKey => true
  | .usbKeyWindowEnd => true
  | .usbAttach => true
  | .usbDetach => true
  | .linkUp port speed => port < 6 && 1 ≤ speed && speed ≤ 4
  | .linkDown port => port < 6
  | .sfpInsert port => port < 2
  | .sfpPowered port => port < 2
  | .sfpIdentified port id => port < 2 && id.wellFormed
  | .sfpOut port => port < 2
  | .ethernetFrame port frame => port < 6 && frame.wellFormed
  | .fdbAge vid mac => vid < 4096 && mac.length == 6
  | .rapsFrame port m => port < 2 && m.wellFormed
  | .rapsTransmit => true
  | .ringWtrExpire => true
  | .ringGuardExpire => true
  | .ringHoldOffExpire => true
  | .powerFailWarning => true
  | .lastGaspComplete _ => true
  | .dipReturn => true
  | .dcInputOn => true
  | .supplyPhaseDone => true
  | .boot imageA imageB => imageA.wellFormed && imageB.wellFormed
  | .memoryReady _ _ _ _ _ => true
  | .restore found => found.wellFormed
  | .firstBoundaryRelease => true
  | .groundReloadDone seg _ => seg < 1024
  | .watchdogReset _ _ => true
  | .memoryErrorReset _ => true
  | .plannedReset => true
  | .a0Stop => true
  | .a0Return => true
  | .dramDieLost die => die < 2
  | .mramBankFault bank => bank < 2
  | .emmcFault => true
  | .settingsStoreVerified _ => true
  | .resultStoreCopy _ => true
  | .operatingCountersSave => true
  | .holdupMeasure _ _ => true
  | .unknownOpcodeRequest session msg => session < 16 && msg.wellFormed
  | .chargerTempHold _ => true
  | .sodWrap => true

end Sys2Proof
end

