-- ==== Sys2Proof/Safety.lean ====
section
/-! DEFINITION. The terms the statements use: a legal state, a command in execution, and the ways its execution ends. -/

namespace Sys2Proof.Machine

/-- The fabric memory is in its canonical form, so that equal memories are equal data. -/
def State.wf (s : State) : Prop := Memory.wf s.bob.mem = true

/-- Mailbox `m` is executing `c`, a command of this opcode whose effect has not begun (R331). -/
def Executing (s : State) (m : Nat) (c : Cmd) (opcode : Nat) : Prop :=
  runningCmd s m = some c ∧ c.opcode = opcode ∧ c.begun = false

/-- The DONE entry of Table 15.3: status, result length, and a result of at most 256 bytes. -/
def doneEntry (m : Nat) (c : Cmd) (status : Nat) (result : Bytes) : JEntry :=
  { seq := c.seq, kind := 7, flags := 0, source := m,
    body := le16 status ++ le16 0 ++ le32 result.length ++ (if result.length ≤ 256 then result else []) }

/-- The EFFECT entry of Table 15.3: Stitch number at effect, result length, result. -/
def effectEntry (m : Nat) (c : Cmd) (stitch : U32) (result : Bytes) : JEntry :=
  { seq := c.seq, kind := 6, flags := 0, source := m, body := leW stitch ++ le16 result.length ++ le16 0 ++ result }

/-- `s` with what a command's completion touches as `t` has it: the mailboxes' contents, the open batch, the task's place in
the Tambour, and the model's own count of free values. -/
def State.beside (s t : State) : State :=
  { s with mbx.boxes := t.mbx.boxes, jnl.batch := t.jnl.batch, tmb.slots := t.tmb.slots, tmb.loads := t.tmb.loads, freeCtr := t.freeCtr }

/-- `t` is `u` after the completion of `c`: the entry `e` joins the open batch, the command's RESULT, with this status and
these bytes, waits for the commit (R331, R368), and beside that only the task's place in the Tambour is given up. -/
def Completed (u t : State) (m : Nat) (c : Cmd) (e : JEntry) (status : Nat) (result : Bytes) : Prop :=
  t = u.beside t ∧ t.jnl.batch = u.jnl.batch ++ [e] ∧ (∀ k, k ≠ m → box t k = box u k) ∧
  box t m = { box u m with cmds := (box u m).cmds.map fun d =>
    if d.seq == c.seq then { d with phase := .finishing, status := status, result := result } else d }

/-- `i` answers a state in which `c` has completed with OK and `result`, and nothing beside the completion has changed. -/
def Reads (i : Instr) (s : State) (m : Nat) (c : Cmd) (result : Bytes) : Prop :=
  ∃ t, exec i s = .next t ∧ Completed s t m c (doneEntry m c 0 result) 0 result

/-- `i` answers the state `u` after `c` has completed with OK, the Stitch of its effect and `result`. -/
def Acts (i : Instr) (s : State) (m : Nat) (c : Cmd) (stitch : U32) (result : Bytes) (u : State) : Prop :=
  ∃ t, exec i s = .next t ∧ Completed u t m c (effectEntry m c stitch result) 0 result

/-- `i` answers a state in which `c` has completed with `status` and an empty result, and nothing beside the completion has
changed but the settings' account of writes that have not been stored, which forgets a write that failed (R409). -/
def Fails (i : Instr) (s : State) (m : Nat) (c : Cmd) (status : Nat) : Prop :=
  ∃ t, exec i s = .next t ∧ Completed { s with set := t.set } t m c (doneEntry m c status []) status [] ∧
    t.set = { s.set with projGen := t.set.projGen, unretired := t.set.unretired }

/-- `i` answers a state in which `c` has completed with OK and `result`, and its change waits for Stitch `n`; the working
copy and everything beside the completion and the due change are as before. -/
def Schedules (i : Instr) (s : State) (m : Nat) (c : Cmd) (n : U32) (beacon : Bool) (change : Change) (result : Bytes) : Prop :=
  ∃ t, exec i s = .next t ∧ Completed { s with set := t.set } t m c (effectEntry m c n result) 0 result ∧
    t.set = { s.set with due := s.set.due ++ [{ mailbox := c.mailbox, seq := c.seq, stitch := n, beacon := beacon, change := change }],
                         unretired := t.set.unretired }

/-- `i` answers the state `u` with `c` marked as begun: it goes on, no entry joins the batch, and it is not executed a
second time. -/
def Begins (i : Instr) (s : State) (m : Nat) (c : Cmd) (u : State) : Prop :=
  ∃ t, exec i s = .next t ∧ t = { u with mbx.boxes := t.mbx.boxes } ∧ (∀ k, k ≠ m → box t k = box u k) ∧
    box t m = { box u m with cmds := (box u m).cmds.map fun d => if d.seq == c.seq then { d with begun := true } else d }

/-- `t` is `s` with a REFUSED owed to the client of mailbox `m` (R326, R328): no sequence is taken, no work joins the batch, and every
mailbox keeps its commands, tags and session; a lack of rights counts (R335); where nothing is owed before it, it is sent at once. -/
def Refused (s t : State) (m : Nat) (opcode : Nat) (tag : U32) (status : Nat) (detail : Bytes) : Prop :=
  t = { s with mbx.boxes := t.mbx.boxes, mbx.sent := t.mbx.sent } ∧ (∀ k, k ≠ m → box t k = box s k) ∧
  (box t m).cmds = (box s m).cmds ∧ (box t m).tags = (box s m).tags ∧ (box t m).session = (box s m).session ∧
  (m < s.mbx.boxes.length → (box t m).deniedCnt = (box s m).deniedCnt + (if status = stDenied then 1 else 0)) ∧
  (m < s.mbx.boxes.length → (box s m).answers = [] → (box s m).session ≠ .closed → s.mbx.a0Running = true →
    (box t m).answers = [] ∧ t.mbx.sent = s.mbx.sent ++ [⟨m, kRefused, false, windowOf s m, opcode, 0, tag, status, detail⟩])

/-- What A0 finds before it looks at a command's own checks: it takes a request of the mailbox now, in service, and one that the panel
sends is of those it sends; the header is a REQUEST's that passes, of a session that is logged in, with a tag that names none of the
mailbox's last 256 commands. -/
def Clear (s : State) (m : Nat) (needs : Needs) (h : Message) : Prop :=
  s.sys.phase ≠ .loader ∧ (a0Takes s m && panelSends s m h.opcode needs) = true ∧ headerCheck m h = .ok ∧ kindOf h.flags = kRequest ∧ (box s m).session ≠ .loginWait ∧
  tagMatch (box s m) h.tag = none

/-- The seven TAB writes and TAB_BATCH_CLOSE, with their opcodes. -/
def tabWriteRows (m : Nat) : List (Nat × Instr) :=
  [(0x0201, .tabPinWrite (.run m)), (0x0202, .tabPinClear (.run m)), (0x0203, .tabPinSet (.run m)),
   (0x0205, .tabPinClearFault (.run m)), (0x0210, .tabEdgeWrite (.run m)), (0x0220, .tabSegWrite (.run m)),
   (0x0221, .tabSegClear (.run m)), (0x0231, .tabBatchClose (.run m))]

/-- The AIR commands, with their opcodes. -/
def airRows (m : Nat) : List (Nat × Instr) :=
  [(0x0401, .airProfileSet (.run m)), (0x0402, .airProfileRead (.run m)), (0x0403, .airSet (.run m)), (0x0404, .airRead (.run m)),
   (0x0405, .airFailsafeSet (.run m)), (0x0406, .airFailsafeRead (.run m)), (0x0407, .airPinRelease (.run m)),
   (0x0408, .airPinState (.run m)), (0x0409, .airWake (.run m)), (0x0410, .airImageBegin (.run m)), (0x0411, .airImageData (.run m)),
   (0x0412, .airImageStart (.run m)), (0x0413, .airImageActivate (.run m)), (0x0414, .airImageStop (.run m)),
   (0x0415, .airImageStatus (.run m))]

/-- The mailbox command that a row is: what its chapter gives for it, and which of its two steps the row's event is. SEC_NONCE
and SEC_LOGIN are answered at once and are not accepted work (R322), and the events of the module are no mailbox commands. -/
def mailboxRow : Instr → Option (CmdSpec × CmdStep)
  | .sysIdentify op => some (sysIdentify, op)
  | .sysStatus op => some (sysStatus, op)
  | .sysCounters op => some (sysCounters, op)
  | .sysNop op => some (sysNop, op)
  | .sysIoRead op => some (sysIoRead, op)
  | .sysSettingsDigest op => some (sysSettingsDigest, op)
  | .sysInputSet op => some (sysInputSet, op)
  | .sysStitchSet op => some (sysStitchSet, op)
  | .sysReset op => some (sysReset, op)
  | .sysStore op => some (sysStore, op)
  | .sysRevert op => some (sysRevert, op)
  | .sysFactory op => some (sysFactory, op)
  | .tabPinWrite op => some ((tabWrite 0x0201 pinWriteForm), op)
  | .tabPinClear op => some ((tabWrite 0x0202 (pinListForm .clear)), op)
  | .tabPinSet op => some ((tabWrite 0x0203 pinSetForm), op)
  | .tabPinRead op => some (tabPinRead, op)
  | .tabPinClearFault op => some ((tabWrite 0x0205 (pinListForm .clearFault)), op)
  | .tabEdgeWrite op => some ((tabWrite 0x0210 edgeWriteForm), op)
  | .tabEdgeRead op => some (tabEdgeRead, op)
  | .tabSegWrite op => some ((tabWrite 0x0220 segWriteForm), op)
  | .tabSegClear op => some ((tabWrite 0x0221 segClearForm), op)
  | .tabSegRead op => some (tabSegRead, op)
  | .tabBatchOpen op => some (tabBatchOpen, op)
  | .tabBatchClose op => some (tabBatchClose, op)
  | .tabBatchAbort op => some (tabBatchAbort, op)
  | .tabDigest op => some (tabDigest, op)
  | .tabGroundBegin op => some (tabGroundBegin, op)
  | .tabGroundData op => some (tabGroundData, op)
  | .tabGroundCommit op => some (tabGroundCommit, op)
  | .tabGroundAbort op => some (tabGroundAbort, op)
  | .tabGroundRead op => some (tabGroundRead, op)
  | .tabGroundStatus op => some (tabGroundStatus, op)
  | .tabGroundDelete op => some (tabGroundDelete, op)
  | .litProfileWrite op => some (litProfileWrite, op)
  | .litProfileRead op => some (litProfileRead, op)
  | .litExcWrite op => some (litExcWrite, op)
  | .litExcRead op => some (litExcRead, op)
  | .litZoneWrite op => some (litZoneWrite, op)
  | .litZoneRead op => some (litZoneRead, op)
  | .litSiteSet op => some (litSiteSet, op)
  | .litTzSet op => some (litTzSet, op)
  | .litTimeRead op => some (litTimeRead, op)
  | .litSunRead op => some (litSunRead, op)
  | .litSchedEval op => some (litSchedEval, op)
  | .litClassWrite op => some (litClassWrite, op)
  | .litClassRead op => some ((sectionRead 0x0311 rScheduleRead secClasses), op)
  | .litSpeedWrite op => some (litSpeedWrite, op)
  | .litSpeedRead op => some ((sectionRead 0x0313 rScheduleRead secSpeeds), op)
  | .litPresenceReport op => some (litPresenceReport, op)
  | .litSolverSet op => some (litSolverSet, op)
  | .litSolverRead op => some ((sectionRead 0x0316 rScheduleRead secSolver), op)
  | .litSolveRead op => some (litSolveRead, op)
  | .litMarkRead op => some (litMarkRead, op)
  | .litFadeSet op => some (litFadeSet, op)
  | .litFadeRead op => some ((sectionRead 0x0321 rScheduleRead secFade), op)
  | .litModelWrite op => some (litModelWrite, op)
  | .litModelRead op => some (litModelRead, op)
  | .litChainSet op => some (litChainSet, op)
  | .litChainStatus op => some (litChainStatus, op)
  | .litChainAccept op => some (litChainAccept, op)
  | .litOutRead op => some (litOutRead, op)
  | .airProfileSet op => some (airProfileSet, op)
  | .airProfileRead op => some ((airCmd (sectionRead 0x0402 rRadioRead secRegion)), op)
  | .airSet op => some (airSet, op)
  | .airRead op => some ((airCmd (sectionRead 0x0404 rRadioRead secAir)), op)
  | .airFailsafeSet op => some (airFailsafeSet, op)
  | .airFailsafeRead op => some ((airCmd (sectionRead 0x0406 rRadioRead secFailsafe)), op)
  | .airPinRelease op => some (airPinRelease, op)
  | .airPinState op => some (airPinState, op)
  | .airWake op => some (airWake, op)
  | .airImageBegin op => some (airImageBegin, op)
  | .airImageData op => some (airImageData, op)
  | .airImageStart op => some (airImageStart, op)
  | .airImageActivate op => some (airImageActivate, op)
  | .airImageStop op => some (airImageStop, op)
  | .airImageStatus op => some (airImageStatus, op)
  | .metModeSet op => some (metModeSet, op)
  | .metStatus op => some (metStatus, op)
  | .metQtyRead op => some (metQtyRead, op)
  | .metCalWrite op => some (metCalWrite, op)
  | .metCalRead op => some (metCalRead, op)
  | .metHarnessSet op => some (metHarnessSet, op)
  | .metHarnessRead op => some (metHarnessRead, op)
  | .metProtWrite op => some (metProtWrite, op)
  | .metProtRead op => some (metProtRead, op)
  | .metContactorCfg op => some (metContactorCfg, op)
  | .metContactorRead op => some (metContactorRead, op)
  | .metContactorSet op => some (metContactorSet, op)
  | .metTripReset op => some (metTripReset, op)
  | .metDfcSet op => some (metDfcSet, op)
  | .metDfcRead op => some (metDfcRead, op)
  | .metPeakRead op => some (metPeakRead, op)
  | .metPeakClear op => some (metPeakClear, op)
  | .metRegRead op => some (metRegRead, op)
  | .metLegacyRead op => some (metLegacyRead, op)
  | .metIntervalSet op => some (metIntervalSet, op)
  | .metIntervalRead op => some (metIntervalRead, op)
  | .metSpanRead op => some (metSpanRead, op)
  | .metSnapTrigger op => some (metSnapTrigger, op)
  | .metSnapList op => some (metSnapList, op)
  | .metSnapRead op => some (metSnapRead, op)
  | .metSnapSet op => some (metSnapSet, op)
  | .metSaveStatus op => some (metSaveStatus, op)
  | .timStatus op => some (timStatus, op)
  | .timPtpSet op => some (timPtpSet, op)
  | .timPtpRead op => some (timPtpRead, op)
  | .timTimeSet op => some (timTimeSet, op)
  | .timRtcRead op => some (timRtcRead, op)
  | .timRtcSet op => some (timRtcSet, op)
  | .timRtcShift op => some (timRtcShift, op)
  | .timAlarmSet op => some (timAlarmSet, op)
  | .timAlarmRead op => some (timAlarmRead, op)
  | .timAlarmAck op => some (timAlarmAck, op)
  | .timPpsSet op => some (timPpsSet, op)
  | .timPpsRead op => some (timPpsRead, op)
  | .timBackupSet op => some (timBackupSet, op)
  | .logStatus op => some (logStatus, op)
  | .logRecordRead op => some (logRecordRead, op)
  | .logFreeze op => some (logFreeze, op)
  | .logThaw op => some (logThaw, op)
  | .logMarkSet op => some (logMarkSet, op)
  | .logMarkClear op => some (logMarkClear, op)
  | .logModeSet op => some (logModeSet, op)
  | .logNote op => some (logNote, op)
  | .secWhoami op => some (secWhoami, op)
  | .secStatus op => some (secStatus, op)
  | .secProtRead op => some (secProtRead, op)
  | .secProtWrite op => some (secProtWrite, op)
  | .secRevoke op => some (secRevoke, op)
  | .secMaintSet op => some (secMaintSet, op)
  | .secKeyWrite op => some (secKeyWrite, op)
  | .secKeyStatus op => some (secKeyStatus, op)
  | .secKeyClear op => some (secKeyClear, op)
  | .secCertSet op => some (secCertSet, op)
  | .secCsrRead op => some (secCsrRead, op)
  | .updStatus op => some (updStatus, op)
  | .updBegin op => some (updBegin, op)
  | .updData op => some (updData, op)
  | .updVerify op => some (updVerify, op)
  | .updAbort op => some (updAbort, op)
  | .updActivate op => some (updActivate, op)
  | .updConfirm op => some (updConfirm, op)
  | .updRollback op => some (updRollback, op)
  | .prbRead op => some (prbRead, op)
  | .prbReadRange op => some (prbReadRange, op)
  | .prbWrite op => some (prbWrite, op)
  | .prbMap op => some (prbMap, op)
  | .pnlStatus op => some (pnlStatus, op)
  | .pnlLock op => some (pnlLock, op)
  | .pnlPinSet op => some (pnlPinSet, op)
  | .pnlMessage op => some (pnlMessage, op)
  | .pnlTest op => some (pnlTest, op)
  | .pnlScreenRead op => some (pnlScreenRead, op)
  | _ => none

end Sys2Proof.Machine
end

