-- ==== Sys2Proof/Certificates/Slice0/Obligations.lean ====
section
/-! DEFINITION. The statements for the provers, each from the rules that its text names. -/

open Sys2Proof Sys2Proof.Machine

/-! The SYS commands. -/

/-- The execution of each SYS read, of SYS_NOP (the Stitch in progress), of each SEC read and of SEC_CSR_READ completes with OK
and its record, and beside the completion nothing changes (from R342, R352, R353, R355, R360). What only the board knows
(voltages, temperatures, raw input levels) is a free value (log entries 5 and 6), and the certificate request is an open function.
-/
def Obligations.SysAndSecReadsAnswer : Prop :=
  (∀ s m c,
  (Executing s m c 0x0101 → Reads (.sysIdentify (.run m)) s m c (identity s)) ∧
  (Executing s m c 0x0102 → Reads (.sysStatus (.run m)) s m c (moduleStatus s.freeCtr s)) ∧
  (Executing s m c 0x0103 → Reads (.sysCounters (.run m)) s m c (countersRecord s)) ∧
  (Executing s m c 0x0104 → Reads (.sysNop (.run m)) s m c (leW s.stitch.number)) ∧
  (Executing s m c 0x0105 → Reads (.sysIoRead (.run m)) s m c
    (le8 (maskOf (s.sys.inputs.map (·.level))) ++ le8 (Config.freeWord s.freeCtr).toNat ++ le8 (driveMask s) ++ le8 0 ++
      (upTo 8).flatMap (fun i => le8 (inputFlag s i)) ++ s.sys.inputs.flatMap fun x => leW x.changes)) ∧
  (Executing s m c 0x0106 → Reads (.sysSettingsDigest (.run m)) s m c
    (leW s.set.workGen ++ leW s.set.storedGen ++ le32 (crc32c (settingsImage s.set.working)) ++
      le32 (crc32c (settingsImage (storedSections s))) ++ le8 (bitN (dirty s) 0 + bitN (s.set.stores != []) 1) ++
      le8 (periodCode (setU16 s secStitch 0)) ++ le16 0))) ∧
  (∀ s m c,
  (Executing s m c 0x0803 → Reads (.secWhoami (.run m)) s m c
    (le8 m ++ le8 (principalOf s m) ++ le16 0 ++ le32 (rightsOf s m) ++ le32 (protGeneration s.sec.prot) ++ le8 (bitN (maintOn s) 0) ++ zeros 3)) ∧
  (Executing s m c 0x0804 → Reads (.secStatus (.run m)) s m c ((upTo 16).flatMap (mailboxRecord s))) ∧
  (Executing s m c 0x0810 → Reads (.secProtRead (.run m)) s m c s.sec.prot) ∧
  (Executing s m c 0x0821 → Reads (.secKeyStatus (.run m)) s m c
    ((span (u8At c.payload 0) (u8At c.payload 1)).flatMap (keyRecord s))) ∧
  (Executing s m c 0x0831 → Reads (.secCsrRead (.run m)) s m c (Config.csr (c.payload.drop 8))))

/-- SYS_INPUT_SET, SYS_STITCH_SET, SYS_REVERT and SYS_FACTORY complete with their results, and their change is due at the first
boundary after the commit; SYS_STORE joins the stores that a later boundary captures (from R356-R359, R410). SYS_RESET makes a
reset pending at the boundary after its delay and records RESET_REQUESTED, or completes with CONFLICT while one is pending; CANCEL
withdraws a reset whose boundary is not the next one and records it, else it completes with CONFLICT (from R360). -/
def Obligations.SysSettingsAndResetAct : Prop :=
  (∀ s m c,
  (Executing s m c 0x0107 → Schedules (.sysInputSet (.run m)) s m c (effectAfterCommit c s) false
    (.settings secStitch 4 c.payload) (leW (effectAfterCommit c s))) ∧
  (Executing s m c 0x0108 → Schedules (.sysStitchSet (.run m)) s m c (effectAfterCommit c s) false
    (.settings secStitch 0 (slice c.payload 0 2)) (leW (genAfter s c.seq))) ∧
  (Executing s m c 0x010B → Schedules (.sysRevert (.run m)) s m c (effectAfterCommit c s) false
    (.revert (genAfter s c.seq)) (leW (genAfter s c.seq) ++ leW (effectAfterCommit c s))) ∧
  (Executing s m c 0x010C → Schedules (.sysFactory (.run m)) s m c (effectAfterCommit c s) false
    (.factory (genAfter s c.seq)) (leW (genAfter s c.seq) ++ leW (effectAfterCommit c s))) ∧
  (Executing s m c 0x010A → Begins (.sysStore (.run m)) s m c
    { s with set.stores := s.set.stores ++ [{ mailbox := m, seq := c.seq, captured := none, generation := 0, stitch := 0 }] })) ∧
  (∀ s m c, Executing s m c 0x0109 →
  (u8At c.payload 0 = 1 → s.sys.pendingReset = none →
    Acts (.sysReset (.run m)) s m c s.stitch.number (leW (resetBoundary (u16At c.payload 2) s))
      (post 0x0102 m (leW (resetBoundary (u16At c.payload 2) s) ++ le16 (u16At c.payload 2))
        { s with sys.pendingReset := some { boundary := resetBoundary (u16At c.payload 2) s, mailbox := m, slot := none, trial := false,
                                            confirm := 0 } })) ∧
  (u8At c.payload 0 = 1 → s.sys.pendingReset ≠ none → Fails (.sysReset (.run m)) s m c stConflict) ∧
  (u8At c.payload 0 ≠ 1 → ∀ r, s.sys.pendingReset = some r → serialAtOrBefore r.boundary (nextStitch s) = false →
    Acts (.sysReset (.run m)) s m c s.stitch.number (le32 0)
      (post 0x0103 m (leW r.boundary) { s with sys.pendingReset := none })) ∧
  (u8At c.payload 0 ≠ 1 → ∀ r, s.sys.pendingReset = some r → serialAtOrBefore r.boundary (nextStitch s) = true →
    Fails (.sysReset (.run m)) s m c stConflict) ∧
  (u8At c.payload 0 ≠ 1 → s.sys.pendingReset = none → Fails (.sysReset (.run m)) s m c stConflict))

/-- A key write or clear is due at the first boundary after its commit; SEC_CERT_SET replaces the certificate; SEC_MAINT_SET
starts maintenance for its minutes and records MAINT_ON, or ends it and records MAINT_OFF (from R340-R342). At the sealing of a
batch whose one entry is a SEC_PROT_WRITE's, SEC_REVOKE's or LIT_PRESENCE_REPORT's, its EFFECT follows its COMMAND entry, and
after that of SEC_REVOKE the REVOKED completions of the commands it stops, in order; at the commit the protection table written is
in force with the next generation, the revocation is recorded, and the reports join their window (from R151, R338, R339, R368).
Executed like any other command, SEC_PROT_WRITE and SEC_REVOKE answer an EFFECT and change nothing. -/
def Obligations.SecurityWritesAct : Prop :=
  (∀ s m c,
  (Executing s m c 0x0820 → Schedules (.secKeyWrite (.run m)) s m c (effectAfterCommit c s) false
    (.keyWrite (u8At c.payload 0) (slice c.payload 4 16) (slice c.payload 20 3)) (leW (effectAfterCommit c s))) ∧
  (Executing s m c 0x0822 → Schedules (.secKeyClear (.run m)) s m c (effectAfterCommit c s) false
    (.keyClear (u8At c.payload 0)) (leW (effectAfterCommit c s))) ∧
  (Executing s m c 0x0830 → Acts (.secCertSet (.run m)) s m c s.stitch.number [] { s with sec.cert := c.payload }) ∧
  (Executing s m c 0x0813 → u8At c.payload 0 ≠ 0 →
    Acts (.secMaintSet (.run m)) s m c s.stitch.number (le32 (60 * u8At c.payload 0))
      (post 0x0309 m (le16 (u8At c.payload 0))
        { s with mbx.maintUntil := some (s.time.cycle + minuteCycles (u8At c.payload 0)), mbx.maintOnBy := m })) ∧
  (Executing s m c 0x0813 → u8At c.payload 0 = 0 →
    Acts (.secMaintSet (.run m)) s m c s.stitch.number (le32 0)
      (postIf (maintOn s) 0x030A noSource [] { s with mbx.maintUntil := none, mbx.maintOnBy := m })) ∧
  (Executing s m c 0x0811 → Acts (.secProtWrite (.run m)) s m c s.stitch.number (le32 (protGeneration s.sec.prot)) s) ∧
  (Executing s m c 0x0812 → Acts (.secRevoke (.run m)) s m c s.stitch.number (zeros 4) s)) ∧
  (∀ (s : State) (m : Nat) (c : Cmd) (e : JEntry),
  s.jnl.batch = [e] → e.kind = 1 → e.source = m → (box s m).cmds.find? (fun d => d.seq == e.seq && d.phase == .batched && sealedOpcode d.opcode) = some c →
  c.mailbox = m →
  (c.opcode = 0x0811 → (sealWork s).jnl.batch = [e, effectEntry m c s.stitch.number (le32 (protGeneration s.sec.prot + 1))] ∧
    (sealedEffect c s).sec.prot = protOf s.sec.prot c.payload ∧
    (sealedEffect c s).sec.service = (if allZero (bindCredential c.payload 14) then s.sec.service else bindCredential c.payload 14)) ∧
  (c.opcode = 0x0314 → (sealWork s).jnl.batch = [e, effectEntry m c s.stitch.number (leW s.stitch.number)] ∧
    sealedEffect c s = presenceCommitted c.payload s) ∧
  (c.opcode = 0x0812 → ∀ l, l = revokeTargets s c.payload c.seq →
    (sealWork s).jnl.batch = [e, effectEntry m c s.stitch.number (le16 l.length ++ le16 0)] ++ l.map (fun d => doneEntry d.mailbox d stRevoked []) ∧
    sealedEffect c s = post 0x0305 m (slice c.payload 0 2 ++ slice c.result 0 2 ++ slice c.payload 4 8) s))

/-! The TAB commands. -/

/-- TAB_DIGEST, TAB_GROUND_READ and TAB_GROUND_STATUS answer what the tables hold, and TAB_GROUND_READ RANGE when no record of
that generation is held any longer. The batch commands and the Ground commands whose change was made at acceptance complete with
the Stitch of their execution; TAB_BATCH_ABORT records TAB_BATCH_DISCARD; TAB_GROUND_DELETE leaves the records it keeps for the
next boundary; TAB_GROUND_COMMIT starts its record's copies, or completes with CONFLICT when its load is gone (from R97, R98,
R134, R135, R152). -/
def Obligations.TabReadsAndActionsAct : Prop :=
  (∀ s m c,
  (Executing s m c 0x0240 → Reads (.tabDigest (.run m)) s m c (digestBytes s)) ∧
  (Executing s m c 0x0254 → ∀ r, recordWith s (u16At c.payload 0) (u32At c.payload 4) = some r →
    Reads (.tabGroundRead (.run m)) s m c (slice r.record (64 * u16At c.payload 8) (64 * u16At c.payload 10))) ∧
  (Executing s m c 0x0254 → recordWith s (u16At c.payload 0) (u32At c.payload 4) = none →
    Fails (.tabGroundRead (.run m)) s m c stRange) ∧
  (Executing s m c 0x0255 → Reads (.tabGroundStatus (.run m)) s m c
    ((span (u16At c.payload 0) (u16At c.payload 2)).flatMap (groundStatus s)))) ∧
  (∀ s m c,
  (Executing s m c 0x0230 → Acts (.tabBatchOpen (.run m)) s m c s.stitch.number [] s) ∧
  (Executing s m c 0x0232 → Acts (.tabBatchAbort (.run m)) s m c s.stitch.number [] (post 0x0507 m (le8 0) s)) ∧
  (Executing s m c 0x0250 → Acts (.tabGroundBegin (.run m)) s m c s.stitch.number [] s) ∧
  (Executing s m c 0x0251 → Acts (.tabGroundData (.run m)) s m c s.stitch.number [] s) ∧
  (Executing s m c 0x0253 → Acts (.tabGroundAbort (.run m)) s m c s.stitch.number [] s) ∧
  (Executing s m c 0x0252 → (s.tab.commits.any fun g => g.seq == c.seq) = true →
    Begins (.tabGroundCommit (.run m)) s m c
      { s with tab.commits := s.tab.commits.map fun g => if g.seq == c.seq then { g with begun := true } else g }) ∧
  (Executing s m c 0x0252 → (s.tab.commits.any fun g => g.seq == c.seq) = false → Fails (.tabGroundCommit (.run m)) s m c stConflict) ∧
  (Executing s m c 0x0256 → Acts (.tabGroundDelete (.run m)) s m c (s.stitch.number + 1) (leW (s.stitch.number + 1))
    { s with tab.groundDue := s.tab.groundDue ++
      [{ seq := c.seq, seg := u16At c.payload 0, record := none, both := u8At c.payload 2 == 0, committed := false }] }))

/-- The execution of a TAB write whose change has taken effect answers the generation of that boundary; one whose change a
boundary has still to make goes on; one whose change waits under R87 answers generation 0; one staged in the batch completes with
STAGED and leaves the tables; and a batch whose membership failed at its close completes with CONFLICT and the lowest inconsistent
Pin (from R86, R87, R97). -/
def Obligations.TabWritesComplete : Prop :=
  (∀ s m c op i, (op, i) ∈ tabWriteRows m → Executing s m c op →
  s.tab.closeFail.find? (fun e => e.1 == c.seq) = none → s.tab.stagedSeqs.contains c.seq = false →
  (∀ n g, s.tab.effected.find? (fun e => e.1 == c.seq) = some (c.seq, n, g) →
    Acts i s m c n (leW g) { s with tab.effected := s.tab.effected.filter fun e => e.1 != c.seq }) ∧
  (s.tab.effected.find? (fun e => e.1 == c.seq) = none → ∀ t, s.tab.changes.find? (fun t => t.seq == c.seq) = some t → t.held = false →
    Begins i s m c s) ∧
  (s.tab.effected.find? (fun e => e.1 == c.seq) = none → ∀ t, s.tab.changes.find? (fun t => t.seq == c.seq) = some t → t.held = true →
    Acts i s m c 0 (leW 0) s)) ∧
  (∀ s m c,
  (∀ op i, (op, i) ∈ (tabWriteRows m).take 7 → Executing s m c op → s.tab.stagedSeqs.contains c.seq = true →
    ∃ t, exec i s = .next t ∧ Completed { s with tab.stagedSeqs := s.tab.stagedSeqs.erase c.seq, set := t.set } t m c
      (doneEntry m c stStaged []) stStaged []) ∧
  (Executing s m c 0x0231 → ∀ p, s.tab.closeFail.find? (fun e => e.1 == c.seq) = some (c.seq, p) →
    ∃ t, exec (.tabBatchClose (.run m)) s = .next t ∧
      Completed { s with tab.closeFail := s.tab.closeFail.filter fun e => e.1 != c.seq, set := t.set } t m c
        (doneEntry m c stConflict (le16 p)) stConflict (le16 p)))

/-! The LIT commands. -/

/-- The execution of each LIT read completes with OK and its record: the working copy of a section, the calendar and its sun
times, the schedule's curve at an instant, the marks, the solver's records, the model table, the chain and the outputs; and beside
the completion nothing changes (from R101, R110, R111, R122, R151, R178). -/
def Obligations.LitReadsAnswer : Prop := ∀ s m c,
  (Executing s m c 0x0302 → Reads (.litProfileRead (.run m)) s m c (profile s (u8At c.payload 0))) ∧
  (Executing s m c 0x0304 → Reads (.litExcRead (.run m)) s m c
    (slice (sect s secExceptions) (16 * u8At c.payload 0) (16 * u8At c.payload 1))) ∧
  (Executing s m c 0x0306 → Reads (.litZoneRead (.run m)) s m c
    (slice (sect s secZones) (16 * u16At c.payload 0) (16 * u16At c.payload 2))) ∧
  (Executing s m c 0x0309 → Reads (.litTimeRead (.run m)) s m c
    (dateBytes (dayNow s) ++ le32 s.rtc.sod ++ le8 s.rtc.wday ++
      le8 (((planOf s (dayNow s)).getD (buildPlan s (dayNow s) s.rtc.wday)).asWeekday.getD s.rtc.wday) ++ leS16 (offsetNow s) ++ leS16 (taiUtc s) ++
      le8 (bitN s.sched.noTime 0 + bitN (utcFromPtp s) 1 + bitN s.sched.tzExpired 2) ++ zeros 3)) ∧
  (Executing s m c 0x030A → ∀ sun, sun = sunOf s (daysFromCivil (u16At c.payload 0) (u8At c.payload 2) (u8At c.payload 3)) →
    Reads (.litSunRead (.run m)) s m c (sun.events.flatMap le32 ++ le8 sun.substituted ++ zeros 3)) ∧
  (Executing s m c 0x030B → ∀ v, v = curve s
      (buildPlan s (daysFromCivil (u16At c.payload 2) (u8At c.payload 4) (u8At c.payload 5)) (u8At c.payload 1)) (u8At c.payload 0) (u8At c.payload 1) (u32At c.payload 8) →
    Reads (.litSchedEval (.run m)) s m c (le16 v.level ++ le16 v.cct ++ le8 v.evaluated ++ le8 v.weekday ++ le16 v.scale)) ∧
  (Executing s m c 0x0311 → Reads (.litClassRead (.run m)) s m c (sect s secClasses)) ∧
  (Executing s m c 0x0313 → Reads (.litSpeedRead (.run m)) s m c (sect s secSpeeds)) ∧
  (Executing s m c 0x0316 → Reads (.litSolverRead (.run m)) s m c (sect s secSolver)) ∧
  (Executing s m c 0x0321 → Reads (.litFadeRead (.run m)) s m c (sect s secFade)) ∧
  (Executing s m c 0x0318 → Reads (.litMarkRead (.run m)) s m c
    ((span (u16At c.payload 0) (u16At c.payload 2)).flatMap fun p => le16 p ++ tabGetD s.lace.markRecords p (zeros 6))) ∧
  (Executing s m c 0x0317 → Reads (.litSolveRead (.run m)) s m c
    ((span (u16At c.payload 0) (u16At c.payload 2)).flatMap (solveReadOf s))) ∧
  (Executing s m c 0x0323 → Reads (.litModelRead (.run m)) s m c
    (slice (sect s secModels) (48 * u8At c.payload 0) (48 * u8At c.payload 1))) ∧
  (Executing s m c 0x0325 → Reads (.litChainStatus (.run m)) s m c
    (le8 (csCode s.chain.state) ++ u8Sat s.chain.count ++ le8 (chainRate s) ++ le8 s.chain.retDelay ++
      (span (u8At c.payload 0) (u8At c.payload 1)).flatMap fun k => le64 (board s k).word.toNat)) ∧
  (Executing s m c 0x0327 → Reads (.litOutRead (.run m)) s m c
    ((span (u16At c.payload 0) (u16At c.payload 2)).flatMap (outRecord s)))

/-- Every LIT write completes with the Stitch at which its section changes, the first boundary at least one full period after its
commit, and the working copy is as before until then (from R120). LIT_PRESENCE_REPORT answers its EFFECT in the Stitch of its
execution. LIT_CHAIN_ACCEPT puts the chain in SCAN, which completes it, and answers no board at once while the chain is OFF (from
R172, R178). -/
def Obligations.LitWritesAndActionsAct : Prop :=
  (∀ s m c, ∀ n, n = effectLit c s →
  (Executing s m c 0x0301 →
    Schedules (.litProfileWrite (.run m)) s m c n false (.settings secProfiles (208 * u8At c.payload 0) c.payload) (leW n)) ∧
  (Executing s m c 0x0303 →
    Schedules (.litExcWrite (.run m)) s m c n false (.settings secExceptions (16 * u8At c.payload 0) (c.payload.drop 4)) (leW n)) ∧
  (Executing s m c 0x0305 →
    Schedules (.litZoneWrite (.run m)) s m c n false (.settings secZones (16 * u16At c.payload 0) (c.payload.drop 4)) (leW n)) ∧
  (Executing s m c 0x0307 → Schedules (.litSiteSet (.run m)) s m c n false (.settings secSite 0 c.payload) (leW n)) ∧
  (Executing s m c 0x0308 → Schedules (.litTzSet (.run m)) s m c n false (.settings secTz 0 (fit 528 c.payload)) (leW n)) ∧
  (Executing s m c 0x0310 → Schedules (.litClassWrite (.run m)) s m c n false (.settings secClasses 0 c.payload) (leW n)) ∧
  (Executing s m c 0x0312 → Schedules (.litSpeedWrite (.run m)) s m c n false (.settings secSpeeds 0 c.payload) (leW n)) ∧
  (Executing s m c 0x0315 → Schedules (.litSolverSet (.run m)) s m c n false (.settings secSolver 0 c.payload) (leW n)) ∧
  (Executing s m c 0x0320 → Schedules (.litFadeSet (.run m)) s m c n false (.settings secFade 0 c.payload) (leW n)) ∧
  (Executing s m c 0x0322 →
    Schedules (.litModelWrite (.run m)) s m c n false (.settings secModels (48 * u8At c.payload 0) (c.payload.drop 4)) (leW n)) ∧
  (Executing s m c 0x0324 → Schedules (.litChainSet (.run m)) s m c n false (.settings secChain 0 c.payload) (leW n))) ∧
  (∀ s m c,
  (Executing s m c 0x0314 → Acts (.litPresenceReport (.run m)) s m c s.stitch.number (leW s.stitch.number) s) ∧
  (Executing s m c 0x0326 → s.chain.state = .off → Acts (.litChainAccept (.run m)) s m c s.stitch.number (zeros 4) s) ∧
  (Executing s m c 0x0326 → s.chain.state ≠ .off → (startScan s).chain.state = .scan ∧
    Begins (.litChainAccept (.run m)) s m c { startScan s with chain.accepts := (startScan s).chain.accepts ++ [(m, c.seq)] }))

/-! The AIR commands. -/

/-- In a variant with radio, the AIR reads answer the radio's sections, the Pins' radio state and the node image session. The
settings of the radio change at the first beacon Stitch after the commit (from R184, R241); a released Pin is freed at the Stitch
its EFFECT names; AIR_WAKE asks for a Picot; and the node image commands open, load, start, activate and stop the session (from
R238, R243 and Table 9.8). -/
def Obligations.AirCommandsAct : Prop :=
  (∀ s m c, hasRadio s = true →
  (Executing s m c 0x0402 → Reads (.airProfileRead (.run m)) s m c (sect s secRegion)) ∧
  (Executing s m c 0x0404 → Reads (.airRead (.run m)) s m c (sect s secAir)) ∧
  (Executing s m c 0x0406 → Reads (.airFailsafeRead (.run m)) s m c (sect s secFailsafe)) ∧
  (Executing s m c 0x0408 → Reads (.airPinState (.run m)) s m c
    ((span (u16At c.payload 0) (u16At c.payload 2)).flatMap (pinStateRecord s))) ∧
  (Executing s m c 0x0415 → Reads (.airImageStatus (.run m)) s m c
    (le8 (match s.air.load with
        | some l => l.session
        | none => match s.air.session with | some z => z.load.session | none => 0) ++
      le8 (imageStateCode s) ++ le16 0 ++ leW (imageSymbols s) ++
      (span (u16At c.payload 0) (u16At c.payload 2)).flatMap fun p =>
        match (radioPin s p).image with
        | some (st, v) => le16 p ++ le8 st ++ le8 0 ++ leW v
        | none => le16 p ++ le8 0xFF ++ le8 0 ++ leW 0))) ∧
  (∀ s m c, hasRadio s = true → ∀ n, n = effectBeacon c s →
  (Executing s m c 0x0401 → Schedules (.airProfileSet (.run m)) s m c n true (.settings secRegion 0 c.payload) (leW n)) ∧
  (Executing s m c 0x0403 → Schedules (.airSet (.run m)) s m c n true (.settings secAir 0 c.payload) (leW n)) ∧
  (Executing s m c 0x0405 → Schedules (.airFailsafeSet (.run m)) s m c n true (.settings secFailsafe 0 c.payload) (leW n)) ∧
  (Executing s m c 0x0407 → ∀ r, s.air.releases.find? (fun r => r.seq == c.seq) = some r → r.done = none →
    Acts (.airPinRelease (.run m)) s m c (s.stitch.number + 1) (leW (s.stitch.number + 1))
      { s with air.releases := s.air.releases.map fun x => if x.seq == c.seq then { x with ready := true } else x }) ∧
  (Executing s m c 0x0407 → ∀ r k, s.air.releases.find? (fun r => r.seq == c.seq) = some r → r.done = some k →
    Acts (.airPinRelease (.run m)) s m c k (leW k) { s with air.releases := s.air.releases.filter fun x => x.seq != c.seq }) ∧
  (Executing s m c 0x0409 → Acts (.airWake (.run m)) s m c s.stitch.number [] (requestPicot (u16At c.payload 0) 1 s)) ∧
  (Executing s m c 0x0410 → Acts (.airImageBegin (.run m)) s m c s.stitch.number [] s) ∧
  (Executing s m c 0x0411 → Acts (.airImageData (.run m)) s m c s.stitch.number [] s) ∧
  (Executing s m c 0x0412 → ∀ z, s.air.session = some z →
    ∀ u, u = (upTo (imgZ z.load)).foldl (fun t b => postTask 3 (newTask (.raptorq b) true (firstBeacon c s) 0 0) t)
      { s with air.session := some { z with begun := true, sending := true, first := firstBeacon c s, picotAt := s.time.cycle } } →
    Acts (.airImageStart (.run m)) s m c (firstBeacon c s) (leW (firstBeacon c s))
      (if (imageTargets u z).any fun e => cTransport e.2 == tSleepy then requestPicot 0xFFFF 2 u else u)) ∧
  (Executing s m c 0x0413 → Acts (.airImageActivate (.run m)) s m c n (leW n)
    { s with air.session := s.air.session.map fun z => { z with activationDue := some (n, BitVec.ofNat 32 (u32At c.payload 4)) } }) ∧
  (Executing s m c 0x0414 → Acts (.airImageStop (.run m)) s m c s.stitch.number [] (endSession s)))

/-- In the WZB-8640-W the Shuttle engines S0 to S3 never run, and the execution of every AIR-group command completes with status
NO_RADIO and changes nothing beside its completion (R5). -/
def Obligations.AirWithoutRadioFails : Prop := ∀ s : State, hasRadio s = false →
  (∀ k, shuttleOn s k = false) ∧
  (∀ m c op i, (op, i) ∈ airRows m → Executing s m c op → Fails i s m c stNoRadio)

/-! The MET commands. -/

/-- The execution of each MET read completes with OK and its record: the meter's state, quantities, calibration, harness,
protection and contactor entries, the DFC outputs, the peaks, the registers and their legacy view, the interval and span records,
the snapshots and the saves; beside the completion nothing changes (from R274 and R291, Tables 10.10 and 11.6). -/
def Obligations.MetReadsAnswer : Prop := ∀ s m c, ∀ items : (State → Nat → Bytes) → Bytes,
    items = (fun f => (span (u8At c.payload 0) (u8At c.payload 1)).flatMap (f s)) →
  (Executing s m c 0x0502 → Reads (.metStatus (.run m)) s m c
    (le8 (modeCode s.met.mode) ++ le8 (harnessCode (harness s 0).state) ++ le8 (harnessCode (harness s 1).state) ++
      le8 (bitN s.met.calValid 0 + bitN (hsNominal s 0 == 60) 1) ++ le32 (testLeft s) ++ le8 (closedMask s) ++ le8 (trippedMask s) ++
      le8 (maskOf (s.met.outputs.map (·.fbFault))) ++ le8 (maskOf (s.met.outputs.map (·.outFault))) ++ leW s.met.calCount ++
      le64 (maskOf s.met.chanFault))) ∧
  (Executing s m c 0x0503 → Reads (.metQtyRead (.run m)) s m c (items fun s n => (feeder s n).record)) ∧
  (Executing s m c 0x0505 → Reads (.metCalRead (.run m)) s m c (items calEntry)) ∧
  (Executing s m c 0x0507 → Reads (.metHarnessRead (.run m)) s m c (slice (sect s secHarness) 0 32)) ∧
  (Executing s m c 0x0509 → Reads (.metProtRead (.run m)) s m c (items prEntry)) ∧
  (Executing s m c 0x050B → Reads (.metContactorRead (.run m)) s m c (items coEntry)) ∧
  (Executing s m c 0x050F → Reads (.metDfcRead (.run m)) s m c
    ((upTo 4).flatMap fun d =>
      le8 (if (s.met.dfc.getD d default).assigned then 1 else 0) ++
        le8 (bitN (s.met.dfc.getD d default).sat 0 + bitN (s.met.dfc.getD d default).pulsing 1) ++ le16 (dfcCode s d) ++ le32 (dfcC s d) ++
        le16 (dfcW s d) ++ le16 0 ++ leW (s.met.dfc.getD d default).pulses)) ∧
  (Executing s m c 0x0510 → Reads (.metPeakRead (.run m)) s m c
    (items fun s n => le8 n ++ le8 (bitN (s.met.peaks.getD n default).clip 0) ++ le16 0 ++
      le32 (satU 32 (s.met.peaks.getD n default).milli) ++ le64 (s.met.peaks.getD n default).stamp)) ∧
  (Executing s m c 0x0520 → Reads (.metRegRead (.run m)) s m c
    (items fun s n => [(feeder s n).ai, (feeder s n).ae, (feeder s n).ri, (feeder s n).re, (feeder s n).ap, (feeder s n).estI,
      (feeder s n).estE, (feeder s n).unmeasured].flatMap le64W)) ∧
  (Executing s m c 0x0521 → Reads (.metLegacyRead (.run m)) s m c
    (items fun s n => [(feeder s n).ai, (feeder s n).ae, (feeder s n).ri, (feeder s n).re, (feeder s n).ap].flatMap fun x => le32 (legacyView x))) ∧
  (Executing s m c 0x0523 → Reads (.metIntervalRead (.run m)) s m c
    ((recordRun s.met.records (u32At c.payload 0) (u16At c.payload 4)).flatMap (·.bytes))) ∧
  (Executing s m c 0x0524 → Reads (.metSpanRead (.run m)) s m c
    ((recordRun s.met.spanRecords (u32At c.payload 0) (u16At c.payload 4)).flatMap (·.bytes))) ∧
  (Executing s m c 0x0526 → Reads (.metSnapList (.run m)) s m c
    ((snapRun s (u32At c.payload 0) (u16At c.payload 4)).flatMap fun x =>
      leW x.id ++ le64 (x.triggers.headD 0) ++ le32 (snapBytes x) ++ le8 x.q ++ le8 (bitN x.traceable 0 + bitN x.archived 1) ++ le16 0 ++ le64 0)) ∧
  (Executing s m c 0x0527 → Reads (.metSnapRead (.run m)) s m c
    (slice ((snapOf s (u32At c.payload 0)).getD []) (u32At c.payload 4) (u32At c.payload 8))) ∧
  (Executing s m c 0x0529 → Reads (.metSaveStatus (.run m)) s m c
    (leW s.met.saveSeq ++ le8 s.met.lastKind ++ le8 (bitN s.met.prevLgOk 0) ++ le16 0 ++ le64 ((lastSave s).elim 0 (·.instant)) ++
      le32 s.met.spans.length))

/-- The harness, protection and contactor settings change at the first boundary after their commit (from R273). A mode command
enters SERVICE, or TEST until its minutes have passed (from R268); a calibration write writes its entries, counts, and records
CAL_CHANGE (from R250); a peak clear clears the channels of its mask (from R256); the interval length and the snapshot's q are
written at the execution (from R279, R290; the model's choice, in the log); a snapshot trigger answers its identity, or LIMIT when
no buffer is free. MET_CONTACTOR_SET and MET_TRIP_RESET join the contactor commands that the next boundary carries out, and a
CLOSE of a tripped output completes with CONFLICT (from R263-R265). MET_DFC_SET writes a sealed output's constants, or, outside
SERVICE, binds an output for a test; in SERVICE a test binding completes with CONFLICT (from R269, R270). -/
def Obligations.MetCommandsAct : Prop :=
  (∀ s m c, ∀ n, n = effectAfterCommit c s →
  (Executing s m c 0x0506 → Schedules (.metHarnessSet (.run m)) s m c n false (.settings secHarness 0 c.payload) (leW n)) ∧
  (Executing s m c 0x0508 →
    Schedules (.metProtWrite (.run m)) s m c n false (.settings secProt (16 * u8At c.payload 0) (c.payload.drop 4)) (leW n)) ∧
  (Executing s m c 0x050A →
    Schedules (.metContactorCfg (.run m)) s m c n false (.settings secContactor (144 * u8At c.payload 0) (c.payload.drop 4)) (leW n))) ∧
  (∀ s m c,
  (Executing s m c 0x0501 → u8At c.payload 0 = 1 → ∀ t, t = (if s.met.mode = .startUp then s else modeTo .service s) →
    Acts (.metModeSet (.run m)) s m c s.stitch.number (le8 (modeCode t.met.mode) ++ zeros 3) t) ∧
  (Executing s m c 0x0501 → u8At c.payload 0 ≠ 1 → ∀ t, t = modeTo .test
      { s with met.testFrom := if s.met.mode == .test then s.met.testFrom else s.met.mode,
               met.testUntil := s.time.cycle + u8At c.payload 1 * 60 * cyclesPerSec } →
    Acts (.metModeSet (.run m)) s m c s.stitch.number (le8 (modeCode t.met.mode) ++ zeros 3) t) ∧
  (Executing s m c 0x0504 → ∀ n, n = s.met.calCount + 1 →
    ∀ w, w = writeNow c secCal (16 * u8At c.payload 0) (c.payload.drop 4) s →
    Acts (.metCalWrite (.run m)) s m c s.stitch.number (leW n)
      (checkStartUp (post 0x070C m (leW n ++ le64 (maskOfItems 56 (span (u8At c.payload 0) (u8At c.payload 1))))
        { w with met := { w.met with calCount := w.met.calCount + 1, calValid := w.met.calValid || u8At c.payload 1 == 56 } }))) ∧
  (Executing s m c 0x0511 → Acts (.metPeakClear (.run m)) s m c s.stitch.number []
    { s with met.peaks := s.met.peaks.zipIdx.map fun e => if bit (u64At c.payload 0) e.2 then clearPeak e.1 else e.1 }) ∧
  (Executing s m c 0x0522 → Acts (.metIntervalSet (.run m)) s m c (s.stitch.number + 1) (le64 (nextHour s))
    (onInterval (fun iv => { iv with length := gridLength s, changeAt := nextHour s }) (writeNow c secInterval 0 (c.payload.take 1) s))) ∧
  (Executing s m c 0x0528 → Acts (.metSnapSet (.run m)) s m c (s.stitch.number + 1) [] (writeNow c secInterval 1 (c.payload.take 1) s)) ∧
  (Executing s m c 0x0525 → (trigger s).1 ≠ 0 → ∀ t, t = (trigger s).2 →
    Acts (.metSnapTrigger (.run m)) s m c s.stitch.number (leW (trigger s).1 ++ le64 (taiNs s)) t) ∧
  (Executing s m c 0x0525 → (trigger s).1 = 0 → ∀ res, res = leW 0 ++ le64 (taiNs s) → ∃ t, exec (.metSnapTrigger (.run m)) s = .next t ∧
    Completed { (trigger s).2 with set := t.set } t m c (doneEntry m c stLimit res) stLimit res)) ∧
  (∀ s m c,
  (Executing s m c 0x050C → ¬(u8At c.payload 1 = 1 ∧ (itemsOf 8 (u8At c.payload 0)).any (fun n => (output s n).tripped) = true) →
    Begins (.metContactorSet (.run m)) s m c { s with met.contDue := s.met.contDue ++
      [{ mailbox := m, seq := c.seq, reset := false, mask := u8At c.payload 0, action := u8At c.payload 1, newTrip := 0 }] }) ∧
  (Executing s m c 0x050C → (u8At c.payload 1 = 1 ∧ (itemsOf 8 (u8At c.payload 0)).any (fun n => (output s n).tripped) = true) →
    Fails (.metContactorSet (.run m)) s m c stConflict) ∧
  (Executing s m c 0x050D → Begins (.metTripReset (.run m)) s m c { s with met.contDue := s.met.contDue ++
    [{ mailbox := m, seq := c.seq, reset := true, mask := u8At c.payload 0, action := 0, newTrip := 0 }] })) ∧
  (∀ s m c, Executing s m c 0x050E →
  (u8At c.payload 1 = 0 → Acts (.metDfcSet (.run m)) s m c s.stitch.number []
    (onDfc (u8At c.payload 0) (fun x => { x with clear := true })
      (writeNow c secDfc (8 * u8At c.payload 0) (le32 (u32At c.payload 4) ++ le16 (u16At c.payload 8) ++ le16 0) s))) ∧
  (u8At c.payload 1 ≠ 0 → s.met.mode ≠ .service → Acts (.metDfcSet (.run m)) s m c s.stitch.number []
    (onDfc (u8At c.payload 0) (fun x => { x with assigned := true, code := u16At c.payload 2, c := u32At c.payload 4, w := u16At c.payload 8,
                                                 clear := true }) s)) ∧
  (u8At c.payload 1 ≠ 0 → s.met.mode = .service → Fails (.metDfcSet (.run m)) s m c stConflict))

/-! The TIM commands. -/

/-- The TIM reads answer the servo, the PTP settings, the RTC, an alarm and the 1PPS unit. The settings commands change at the
first boundary after the commit. TIM_TIME_SET steps the time base, unless PTP or PPS holds it; TIM_RTC_SET leaves a load for the
next LF edge, unless a traceable time base disciplines TICK; TIM_RTC_SHIFT starts a shift, unless one runs; the alarm commands
write an alarm's registers and clear its flags (from R298, R304, R308, R309, R311, R317). -/
def Obligations.TimCommandsAct : Prop :=
  (∀ s m c,
  (Executing s m c 0x0601 → ∀ gm, gm = s.time.ptp.master.map (fun m => m.2) → Reads (.timStatus (.run m)) s m c
    (le8 (servoCode s.time.servo.state) ++ le8 (sourceCode s.time.servo.source) ++
      le8 (bitN s.time.servo.traceable 0 + bitN s.time.refFault 1 + bitN (utcFromPtp s) 2 + bitN s.time.pps.inLost 3) ++ le8 0 ++
      le64 (taiSec s) ++ le32 (taiNs s % 1000000000) ++ leS32 (satS 32 s.time.servo.lastOffset) ++ leS64 s.time.servo.y ++
      le32 s.time.servo.meanPath ++ le32 (holdoverSec s) ++ (gm.elim (zeros 8) fun m => fit 8 m.grandmaster) ++
      le16 (gm.elim 0 (·.steps)) ++ leS16 (taiUtc s))) ∧
  (Executing s m c 0x0603 → Reads (.timPtpRead (.run m)) s m c (slice (sect s secPtp) 0 32)) ∧
  (Executing s m c 0x0605 → Reads (.timRtcRead (.run m)) s m c
    (le64 s.rtc.tick ++ le32 s.rtc.sod ++ le8 s.rtc.wday ++
      le8 (bitN s.rtc.lost 0 + bitN s.rtc.batlow 1 + bitN s.rtc.onBackup 2 + bitN (s.rtc.shiftTotal != 0) 3) ++
      le16 s.rtc.backupMv ++ leS16 s.rtc.shiftLeft)) ∧
  (Executing s m c 0x0609 → Reads (.timAlarmRead (.run m)) s m c
    (alarmSetting (u8At c.payload 0) (alarm s (u8At c.payload 0)) ++ le16 (alarm s (u8At c.payload 0)).count ++
      le8 (alarmFlags (alarm s (u8At c.payload 0))) ++ le8 0)) ∧
  (Executing s m c 0x060C → Reads (.timPpsRead (.run m)) s m c
    (slice (sect s secPps) 0 8 ++ leW s.time.pps.accepted ++ leW s.time.pps.reject))) ∧
  (∀ s m c,
  (Executing s m c 0x0602 → Schedules (.timPtpSet (.run m)) s m c (effectAfterCommit c s) false (.settings secPtp 0 c.payload)
    (leW (effectAfterCommit c s))) ∧
  (Executing s m c 0x060B → Schedules (.timPpsSet (.run m)) s m c (effectAfterCommit c s) false (.settings secPps 0 c.payload)
    (leW (effectAfterCommit c s))) ∧
  (Executing s m c 0x060D → Schedules (.timBackupSet (.run m)) s m c (effectAfterCommit c s) false (.settings secCharger 0 c.payload)
    (leW (effectAfterCommit c s))) ∧
  (Executing s m c 0x0604 → timeSetOpen s = true → ∀ d : Int,
    d = ((u64At c.payload 0 * 1000000000 + u32At c.payload 8 : Nat) : Int) - (taiNs s : Int) → ∀ t, t = stepTime d 1 s →
    Acts (.timTimeSet (.run m)) s m c s.stitch.number (leS64 d)
      (refreshTrace { t with time.servo.secondsBy := if bit (u8At c.payload 12) 0 then .timeSet else .neither })) ∧
  (Executing s m c 0x0604 → timeSetOpen s = false → Fails (.timTimeSet (.run m)) s m c stConflict) ∧
  (Executing s m c 0x0606 → rtcSetOpen c.payload s = true → ∀ w, w = u8At c.payload 13 →
    Acts (.timRtcSet (.run m)) s m c s.stitch.number (le64 (if bit w 0 then u64At c.payload 0 else (s.rtc.tick + 1) % tickSpan))
      { s with rtc.load := some { tick := if bit w 0 then some (u64At c.payload 0) else none, sod := if bit w 1 then some (u32At c.payload 8) else none,
                                  wday := if bit w 2 then some (u8At c.payload 12) else none, align := false } }) ∧
  (Executing s m c 0x0606 → rtcSetOpen c.payload s = false → Fails (.timRtcSet (.run m)) s m c stConflict) ∧
  (Executing s m c 0x0607 → s.rtc.shiftTotal = 0 → Acts (.timRtcShift (.run m)) s m c s.stitch.number []
    { s with rtc := { s.rtc with shiftLeft := s16At c.payload 0, shiftEdges := 0, shiftTotal := s16At c.payload 0 } }) ∧
  (Executing s m c 0x0607 → s.rtc.shiftTotal ≠ 0 → Fails (.timRtcShift (.run m)) s m c stConflict) ∧
  (Executing s m c 0x0608 → Acts (.timAlarmSet (.run m)) s m c s.stitch.number []
    { s with rtc.alarms := listModify s.rtc.alarms (u8At c.payload 0) fun a =>
      { a with en := bit (u8At c.payload 1) 0, oneShot := bit (u8At c.payload 1) 1, mask := u8At c.payload 2, wday := u8At c.payload 3,
               compare := u64At c.payload 4, inRun := false } }) ∧
  (Executing s m c 0x060A → Acts (.timAlarmAck (.run m)) s m c s.stitch.number []
    { s with rtc.alarms := listModify s.rtc.alarms (u8At c.payload 0) (clearAlarmFlags (u8At c.payload 1)) }))

/-! The UPD, LOG and PRB commands. -/

/-- In a running module a load opens over the emptied inactive slot, takes its bytes, and is verified: an image that passes is
VALID in its slot and IMAGE_VERIFIED is recorded, one that fails R403 completes with IMAGE_REJECTED. Activation and rollback ask
for a planned reset; a trial is confirmed with its security version (from R403, R405, R406, R416, R417). A freeze holds the Round
for its mailbox and records LOG_FREEZE; a thaw ends it; a mark is set at a record held in the Round, and cleared; LOG_NOTE records
its text; LOG_MODE_SET changes the mode at the first boundary after its commit; the reads answer the Sampler's state and the
records of an area without corrupt ones (from R391-R393, R397). -/
def Obligations.UpdAndLogCommandsAct : Prop :=
  (∀ s m c, s.sys.phase = .run →
  (Executing s m c 0x0901 → Reads (.updStatus (.run m)) s m c (updRecord s)) ∧
  (Executing s m c 0x0902 → Acts (.updBegin (.run m)) s m c s.stitch.number []
    { s with sys.slots := listSet s.sys.slots (1 - s.sys.active) default,
             sys.load := some { length := u32At c.payload 0, crc := u32At c.payload 4, data := zeros (u32At c.payload 0), ranges := [],
                                verified := false } }) ∧
  (Executing s m c 0x0903 → ∀ l, s.sys.load = some l → Acts (.updData (.run m)) s m c s.stitch.number []
    { s with sys.load := some { l with data := overlay l.data (u32At c.payload 0) (c.payload.drop 8),
                                       ranges := addRange (u32At c.payload 0) (c.payload.drop 8).length l.ranges, verified := false } }) ∧
  (Executing s m c 0x0904 → ∀ l, s.sys.load = some l → covered l.length l.ranges = true → crc32c l.data = l.crc → s.sys.emmcFault = false →
    imageReason s.sys.minSec l.data = none → ∀ x : ImageSlot, x = { state := .valid, version := imVersion l.data, secVersion := imSecurity l.data } →
    Acts (.updVerify (.run m)) s m c s.stitch.number (leW (imVersion l.data) ++ le32 (imSecurity l.data))
      (post 0x0142 (1 - s.sys.active) (leW (imVersion l.data))
        { s with sys.load := some { l with verified := true }, sys.slots := listSet s.sys.slots (1 - s.sys.active) x })) ∧
  (Executing s m c 0x0904 → ∀ l r, s.sys.load = some l → covered l.length l.ranges = true → crc32c l.data = l.crc → s.sys.emmcFault = false →
    imageReason s.sys.minSec l.data = some r → ∃ t, exec (.updVerify (.run m)) s = .next t ∧
      Completed { post 0x0141 noSource (le8 r ++ le16 (imProduct l.data) ++ leW (imVersion l.data)) s with set := t.set } t m c
        (doneEntry m c stImageRejected []) stImageRejected []) ∧
  (Executing s m c 0x0905 → Acts (.updAbort (.run m)) s m c s.stitch.number [] { s with sys.load := none }) ∧
  (Executing s m c 0x0906 → loadVerified s = true → s.sys.pendingReset = none → ∀ b, b = resetBoundary (u16At c.payload 0) s →
    ∀ r : PendingReset, r = { boundary := b, mailbox := m, slot := some (1 - s.sys.active), trial := true, confirm := u16At c.payload 2 } →
    Acts (.updActivate (.run m)) s m c s.stitch.number (leW b)
      (post 0x0102 m (leW b ++ le16 (u16At c.payload 0)) { s with sys.pendingReset := some r })) ∧
  (Executing s m c 0x0907 → (imageSlot s s.sys.running).state = .trial → s.sys.dramImage = none →
    ∀ n, n = max s.sys.minSec (imageSlot s s.sys.running).secVersion →
    ∀ x : ImageSlot, x = { imageSlot s s.sys.running with state := .confirmed } →
    Acts (.updConfirm (.run m)) s m c s.stitch.number (le32 n)
      (post 0x0144 s.sys.running (leW (imageSlot s s.sys.running).version ++ le32 n)
        { s with sys.minSec := n, sys.slots := listSet s.sys.slots s.sys.running x })) ∧
  (Executing s m c 0x0907 → (imageSlot s s.sys.running).state ≠ .trial → Fails (.updConfirm (.run m)) s m c stConflict) ∧
  (Executing s m c 0x0908 → canRollback s = true → s.sys.pendingReset = none → ∀ b, b = resetBoundary (u16At c.payload 0) s →
    ∀ r : PendingReset, r = { boundary := b, mailbox := m, slot := some (1 - s.sys.active), trial := false, confirm := 0 } →
    Acts (.updRollback (.run m)) s m c s.stitch.number (leW b)
      (post 0x0102 m (leW b ++ le16 (u16At c.payload 0)) { s with sys.pendingReset := some r })) ∧
  (Executing s m c 0x0908 → canRollback s = false → Fails (.updRollback (.run m)) s m c stConflict)) ∧
  (∀ s m c,
  (Executing s m c 0x0701 → Reads (.logStatus (.run m)) s m c
    (le8 (if log2210 s then 1 else 0) ++ le8 (smpFlags s.smp) ++ le8 (s.smp.freeze.elim 0xFF (·.mailbox)) ++ le8 0 ++ leW (oldestRound s.smp) ++
      leW s.smp.newest ++ le32 s.smp.round.length ++ le16 s.smp.selvedge.length ++ le16 (logRate s) ++ leW s.smp.suppressed ++
      s.smp.marks.flatMap fun m => leW (markSeq m) ++ le8 (bitN m.isSet 0 + bitN m.overtaken 1) ++ zeros 3)) ∧
  (Executing s m c 0x0702 → ∀ held, held = areaRecords (u8At c.payload 6) s.smp → ∀ first : U32, first = BitVec.ofNat 32 (u32At c.payload 0) →
    ∀ hits, hits = held.filter (fun r => (first == 0 || serialAtOrBefore first r.seq) && bit (u32At c.payload 8) (classOf r.code)) →
    s.smp.corrupt = 0 → Reads (.logRecordRead (.run m)) s m c
      (leW ((held.head?.map (·.seq)).getD 0) ++ leW ((held.getLast?.map (·.seq)).getD 0) ++ le16 (min (u16At c.payload 4) hits.length) ++
        le8 (bitN (first != 0 && held != [] && serialBefore first ((held.head?.map (·.seq)).getD 0)) 0 +
          bitN (decide (u16At c.payload 4 < hits.length)) 1 + bitN false 2) ++
        le8 0 ++ (hits.take (u16At c.payload 4)).flatMap recordBytes)) ∧
  (Executing s m c 0x0703 → s.smp.freeze = none → Acts (.logFreeze (.run m)) s m c s.stitch.number (leW s.smp.newest)
    (post 0x0A03 m (zeros 4)
      { s with smp.freeze := some { mailbox := m, until_ := s.time.cycle + u16At c.payload 0 * cyclesPerSec } })) ∧
  (Executing s m c 0x0703 → s.smp.freeze ≠ none → Fails (.logFreeze (.run m)) s m c stConflict) ∧
  (Executing s m c 0x0704 → freezeOf s m = true →
    Acts (.logThaw (.run m)) s m c s.stitch.number (le16 s.smp.waiting.length ++ le16 0) (endFreeze 2 s)) ∧
  (Executing s m c 0x0704 → freezeOf s m = false → Fails (.logThaw (.run m)) s m c stConflict) ∧
  (Executing s m c 0x0705 → ∀ p : U32, p = BitVec.ofNat 32 (u32At c.payload 4) → ∀ q, q = (if p = 0 then newestRound s.smp else p) →
    (s.smp.round.any fun r => r.seq == q) = true → Acts (.logMarkSet (.run m)) s m c s.stitch.number (leW q)
      (fullCheck { s with smp.marks := listSet s.smp.marks (u8At c.payload 0) { isSet := true, overtaken := false, seq := q } })) ∧
  (Executing s m c 0x0705 → ∀ p : U32, p = BitVec.ofNat 32 (u32At c.payload 4) → ∀ q, q = (if p = 0 then newestRound s.smp else p) →
    (s.smp.round.any fun r => r.seq == q) = false → Fails (.logMarkSet (.run m)) s m c stConflict) ∧
  (Executing s m c 0x0706 → Acts (.logMarkClear (.run m)) s m c s.stitch.number []
    { s with smp.marks := listModify s.smp.marks (u8At c.payload 0) fun k => { k with isSet := false, seq := 0 } }) ∧
  (Executing s m c 0x0707 → Schedules (.logModeSet (.run m)) s m c (effectAfterCommit c s) false (.settings secLog 0 c.payload)
    (leW (effectAfterCommit c s))) ∧
  (Executing s m c 0x0708 → Acts (.logNote (.run m)) s m c s.stitch.number []
    (post 0x0901 m (slice c.payload 4 (u8At c.payload 0)) s)))

/-- PRB_READ and PRB_READ_RANGE answer their words in order and change nothing but the two latches of R318 and R319; PRB_MAP names
the twelve blocks; PRB_WRITE acts on each word in order, reads it back, restores the latches and records PRB_WRITE (from
R361-R363). Only ROOT in maintenance mode has a Probe write accepted: any other is DENIED and changes no register; without
PROBE_READ each read is DENIED (from R13, R335). -/
def Obligations.ProbeCommandsAct : Prop :=
  (∀ s m c,
  (Executing s m c 0x0A01 → ∀ l, l = (upTo (u16At c.payload 0)).map (fun i => u32At c.payload (4 + 4 * i)) → ∃ t,
    exec (.prbRead (.run m)) s = .next t ∧
    ∀ res, res = leW s.stitch.number ++ le16 (u16At c.payload 0) ++ le16 0 ++ (readAll l s).1 →
      Completed { s with time.tbLatch := t.time.tbLatch, rtc.latch := t.rtc.latch } t m c (doneEntry m c 0 res) 0 res) ∧
  (Executing s m c 0x0A02 → ∀ l, l = (upTo (u16At c.payload 4)).map (fun i => u32At c.payload 0 + 4 * i) → ∃ t,
    exec (.prbReadRange (.run m)) s = .next t ∧
    ∀ res, res = leW s.stitch.number ++ le16 (u16At c.payload 4) ++ le16 0 ++ (readAll l s).1 →
      Completed { s with time.tbLatch := t.time.tbLatch, rtc.latch := t.rtc.latch } t m c (doneEntry m c 0 res) 0 res) ∧
  (Executing s m c 0x0A04 → Reads (.prbMap (.run m)) s m c
    (le16 12 ++ le16 0 ++ probeBlocks.flatMap fun b => le32 b ++ le32 65536 ++ le32 ((registerAt 0 b s).elim 0 (·.value)))) ∧
  (Executing s m c 0x0A03 → ∀ n, n = u16At c.payload 0 → ∀ w, w = windowItems c.payload → ∀ b t,
    (upTo n).foldl (writeItem c.payload) ([], s) = (b, t) →
    ∀ v, v = post 0x0902 m (le16 n ++ le16 0 ++ le32 (u32At c.payload 4))
      { t with time.tbLatch := s.time.tbLatch, rtc.latch := s.rtc.latch } →
    ∀ u, u = (if w = [] then v else dueChange c (effectAfterCommit c v) false (.network w) v) →
    ((le16 n ++ le16 0 ++ b).length ≤ 256 → Acts (.prbWrite (.run m)) s m c u.stitch.number (le16 n ++ le16 0 ++ b) u) ∧
    (256 < (le16 n ++ le16 0 ++ b).length → ∃ z, exec (.prbWrite (.run m)) s = .next z ∧
      Completed u z m c (doneEntry m c 0 (le16 n ++ le16 0 ++ b)) 0 (le16 n ++ le16 0 ++ b)))) ∧
  (∀ (s : State) (r : Request), Clear s r.session .rootMaint (messageOf 0x0A03 r) →
  ((principalOf s r.session ≠ 0 ∨ s.mbx.maintUntil = none) →
    ∃ t, exec (.prbWrite (.request r)) s = .next t ∧ Refused s t r.session 0x0A03 r.tag stDenied []) ∧
  (bit (rightsOf s r.session) 19 = false →
    (Clear s r.session (.right 19) (messageOf 0x0A01 r) → ∃ t, exec (.prbRead (.request r)) s = .next t ∧ Refused s t r.session 0x0A01 r.tag stDenied []) ∧
    (Clear s r.session (.right 19) (messageOf 0x0A02 r) → ∃ t, exec (.prbReadRange (.request r)) s = .next t ∧ Refused s t r.session 0x0A02 r.tag stDenied []) ∧
    (Clear s r.session (.right 19) (messageOf 0x0A04 r) → ∃ t, exec (.prbMap (.request r)) s = .next t ∧ Refused s t r.session 0x0A04 r.tag stDenied [])))

/-! The machine as a whole. -/

/-- For every command and state: a step of the state with that command at the front of its queue is exec of the command on the
state with the queue's rest (the model's queue of waiting commands; the rows are those of the list of steps, spec/95). -/
def Obligations.StepRunsTheFront : Prop := ∀ (i : Instr) (rest : List Instr) (s : State), s.pending = i :: rest →
  step s = exec i { s with pending := rest }

/-- On an empty queue a step answers the state one TIME cycle later: the queue stays empty and every byte of the fabric memory
reads as before. That a step does so is the model's choice (log entry 1). -/
def Obligations.EmptyQueueLetsOneCyclePass : Prop := ∀ s : State, s.pending = [] →
  step s = .next (idle s) ∧ (idle s).pending = [] ∧ ∀ a, memRead (idle s).bob.mem a = memRead s.bob.mem a

/-- For every command, operands and state, exec answers a next state, and the commands that wait are as before: no command is
refused and none ends in a fault. -/
def Obligations.EveryCommandAnswers : Prop := ∀ (i : Instr) (s : State), ∃ t, exec i s = .next t ∧ t.pending = s.pending

/-- From every state whose fabric memory is in its canonical form (addresses strictly rising, no entry equal to what an unlisted
address reads as), every step that answers a next state, of any command or of the idle cycle, answers one whose memory is in that
form. -/
def Obligations.EveryStepKeepsTheMemoryCanonical : Prop := ∀ s t : State, s.wf → step s = .next t → t.wf

/-- The state at power-on is legal, its queue is empty, and every byte of its fabric memory reads as 0 (the model's choice, log
entry 2). Nothing runs, no session is open, no work is accepted, every store is empty of records, the tables and Skeins are empty,
the Bobbin channels idle, no calibration is held, the Stitch period is the default, and the RTC is LOST (from R32, R56, R314,
R399, R402). -/
def Obligations.ResetIsTheFactoryModule : Prop :=
  (State.reset.wf ∧ State.reset.pending = [] ∧ ∀ a, memRead State.reset.bob.mem a = 0) ∧
  (State.reset.sys.phase = .off ∧ State.reset.stitch.run = false ∧ State.reset.stitch.period = 20 ∧
  (∀ m, (box State.reset m).session = .closed ∧ (box State.reset m).cmds = [] ∧ (box State.reset m).slots = [] ∧ (box State.reset m).tags = []) ∧
  State.reset.jnl.batch = [] ∧ State.reset.jnl.log = [] ∧ State.reset.jnl.committing = none ∧
  State.reset.tmb.slots = [] ∧ State.reset.tmb.held = [] ∧ (∀ n, (skein State.reset n).packets = [] ∧ (skein State.reset n).en = false) ∧
  (∀ c, c < 32 → (bobbin State.reset c).state = .idle) ∧
  State.reset.tab.live.pins = [] ∧ State.reset.tab.live.edges = [] ∧ State.reset.tab.live.segs = [] ∧ State.reset.tab.batch = none ∧
  State.reset.met.calValid = false ∧ State.reset.chain.state = .off ∧ State.reset.smp.round = [] ∧ State.reset.smp.selvedge = [] ∧
  State.reset.rtc.lost = true ∧ State.reset.rtc.tick = 0 ∧ State.reset.net.fdb = [] ∧ State.reset.pnl.displayOn = false ∧
  State.reset.mbx.maintUntil = none ∧ State.reset.sys.pendingReset = none)

/-- For every command but BOB_BURST_DONE and the nine commands that reset the SoC or end a supply phase, whatever its operands and
the state: if it answers a next state, every byte of the fabric memory reads as before (from R67-R69). -/
def Obligations.OtherCommandsLeaveTheMemory : Prop := ∀ (i : Instr) (s t : State), exec i s = .next t →
  (∀ ch a, i ≠ .bobBurstDone ch a) → (∀ u c, i ≠ .watchdogReset u c) → (∀ c, i ≠ .memoryErrorReset c) → (∀ p, i ≠ .pllLockLoss p) →
  i ≠ .tcxoStop → i ≠ .powerFailWarning → (∀ us, i ≠ .lastGaspComplete us) → i ≠ .dcInputOn → i ≠ .plannedReset →
  ∀ a, memRead t.bob.mem a = memRead s.bob.mem a

/-- In a memory in canonical form, after a write of one byte that address reads the byte written, every other address reads as
before, and the form stays canonical. -/
def Obligations.MemoryReadsWhatWasWritten : Prop := ∀ (m : Memory) (a b : Nat) (v : Byte), Memory.wf m = true →
  memRead (memWrite m a v) b = (if b = a then v else memRead m b) ∧ Memory.wf (memWrite m a v) = true

/-- The write half of a burst to memory, of the channel whose turn it is and at addresses that are open, stores the holding
register's bytes at the channel's destination addresses, in source order, and every address outside these reads as before; with an
incrementing destination each address reads its own byte of the holding register (from R68, R69). -/
def Obligations.BurstStoresAtItsDestination : Prop := ∀ (s t : State) (ch : Nat) (b : Bobbin), b = bobbin s ch → s.wf →
  mayComplete s ch = true → accessFails .ok (nextBurst b) = false → b.hold ≠ [] → bDstSkein b = false → ch < s.bob.channels.length → exec (.bobBurstDone ch .ok) s = .next t →
  (∀ a, (∀ k, k < b.hold.length → a ≠ endAddress b.dst (bDw b) (bDinc b) (b.moved - b.hold.length + k)) →
    memRead t.bob.mem a = memRead s.bob.mem a) ∧
  (bDinc b = true → b.hold.length ≤ 1099511627776 → ∀ k, ∀ h : k < b.hold.length,
    memRead t.bob.mem ((b.dst + (b.moved - b.hold.length + k)) % 1099511627776) = b.hold[k])

/-! The statistics commands. -/

/-- Each STATS clear sets its block's counters to 0, restarts its maxima from the present value where the spec says so, and leaves
every other field of the state as it was (from R52, R77, R78, R153, R179, R244, R275, R381, R398, R419, R433, R446). -/
def Obligations.StatisticsAreCleared : Prop := ∀ s : State,
  (exec .tmbClearStats s = .next
    { s with tmb.lists := s.tmb.lists.zipIdx.map (fun e => clearedList e.1 (readyDepth s e.2)),
             tmb.loads := s.tmb.loads.map (fun l => { l with peak := l.load }),
             tmb.fabEsc := [0, 0, 0, 0, 0], tmb.fabMaxWait := [0, 0, 0, 0, 0], tmb.a0Stop := 0, stitch.skip := 0 }) ∧
  (exec .sknClearStats s = .next { s with skn.skeins := s.skn.skeins.map clearedSkein, skn.eccCorr := 0 }) ∧
  (exec .bobClearStats s = .next
    { s with bob.preempt := 0, bob.retry := 0, bob.ignored := 0, bob.held := 0,
             bob.channels := s.bob.channels.map fun b => { b with compCnt := 0 } }) ∧
  (exec .laceClearStats s = .next
    { s with lace.walkSrc := 0, lace.walkTrunc := 0, lace.walkLate := 0, lace.presSat := 0, lace.presMerged := 0, lace.presDrop := 0,
             lace.shortCnt := 0, lace.repairRaises := 0, lace.repairBudget := 0 }) ∧
  (exec .fadeClearStats s = .next
    { s with fade.cmdGen := 0, fade.cmdChain := 0, fade.cmdDefer := 0, fade.cmdPendWait := 0, chain.frames := 0, chain.skipped := 0,
             chain.crcEcho := 0, chain.retBad := 0, chain.seqMiss := 0, chain.por := 0, chain.topo := 0 }) ∧
  (exec .airClearStats s = .next
    { s with air.tlmBad := 0, air.unkRec := 0, air.picotSent := 0,
             air.shuttles := s.air.shuttles.map fun h =>
               { h with rxOk := 0, rxFcs := 0, rxFormat := 0, rxFilter := 0, rxSec := 0, rxMic := 0, rxReplay := 0, rxDup := 0,
                        rxOffhome := 0, txFrames := 0, ackSent := 0, ackPend := 0, ackMiss := 0, dutyHold := 0 } }) ∧
  (exec .crsClearStats s = .next
    { s with air.panConflict := 0, air.beaconGap := 0,
             air.shuttles := s.air.shuttles.map fun h =>
               { h with crsRun := 0, trySent := 0, tryAcked := 0, cmdFailed := 0, deferCourse := 0, beaconSent := 0, beaconHeld := 0,
                        winPlanned := 0, winMissed := 0, winCollide := 0, probeMiss := 0, groupSent := 0, imageFrames := 0,
                        itemsMax := h.itemsLast } }) ∧
  (exec .metClearStats s = .next
    { s with met.feeders := s.met.feeders.map (fun f => { f with ocInst := 0, ocRms := 0 }),
             met.sets := s.met.sets.map (fun v => { v with sagCnt := 0, swellCnt := 0 }),
             met.dfc := s.met.dfc.map (fun d => { d with pulses := 0 }), met.peaks := s.met.peaks.map clearPeak,
             met.decOverrun := 0, met.clipCnt := 0, met.supplyFault := 0, met.snapTrig := 0, met.snapLost := 0,
             met.snapMergedLost := 0, met.msvLate := 0, met.intvClosed := 0, met.intvPartial := 0, met.spanCnt := 0,
             met.snapArchived := 0, met.snapRawblk := 0, met.snapUnarch := 0 }) ∧
  (exec .timeClearStats s = .next
    { s with time.pps.reject := 0, time.servo.stepCnt := 0, time.servo.offsetReject := 0, time.ptp.txqOverflow := 0,
             time.ptp.txqStale := 0, time.ptp.tsLate := 0, time.ptp.tcCorr := 0, time.ptp.tcLost := 0, time.ptp.ptpFormat := 0,
             time.ptp.annTimeouts := 0 }) ∧
  (exec .netClearStats s = .next
    { s with net.fdbFull := 0, net.hostDrop := 0,
             net.ports := s.net.ports.map fun x =>
               { x with rxFrames := 0, txFrames := 0, rxOctets := 0, txOctets := 0, rxFcs := 0, rxLong := 0, rxVlan := 0, rxStorm := 0,
                        rxBlocked := 0, rxCtrl := 0, txQfull := 0, linkDowns := 0 } }) ∧
  (exec .jnlClearStats s = .next
    { s with jnl.commits := 0, jnl.batchCommits := 0, jnl.commitMax := 0, jnl.a0Hold := 0, jnl.prodHold := 0, jnl.reloc := 0,
             jnl.copyErr := 0, jnl.rebuilds := 0 }) ∧
  (exec .smpClearStats s = .next
    { s with smp.stored := 0, smp.suppressed := 0, smp.ovfRec := 0, smp.fullLost := 0, smp.overtakenCnt := 0,
             smp.intakeMax := s.smp.intake.length }) ∧
  (exec .mrcClearStats s = .next { s with sys.mrcCorr := [0, 0], sys.mrcUncorr := 0 }) ∧
  (exec .aonClearStats s = .next { s with sys.pfWarnCnt := 0 }) ∧
  (exec .pnlClearStats s = .next
    { s with pnl.keyPresses := [0, 0, 0, 0, 0, 0, 0, 0], pnl.proxWakes := 0, pnl.pinFails := 0, pnl.usbAttaches := 0 })

/-! The Tambour. -/

/-- A SOFT task that passes its deadline counts one Fray and keeps its slot; every second the runs of Frays are recorded and
counted anew; the idle engine that has a task starts it; the held source with the lowest number enters when its list has room; a
dispatched mailbox task begins the mailbox's next command and changes nothing else of the module (from R43, R44, R47, R48, R50,
R331). -/
def Obligations.TambourEventsAct : Prop := ∀ s : State,
  (∀ k t, s.tmb.slots.find? (fun t => t.slot == k && t.soft && !t.frayed) = some t →
    exec (.softDeadlinePass k) s = .next
      (fray t { s with tmb.slots := s.tmb.slots.map fun u => if u.slot == k then { u with frayed := true } else u })) ∧
  (∀ k, s.tmb.slots.find? (fun t => t.slot == k && t.soft && !t.frayed) = none → exec (.softDeadlinePass k) s = .next s) ∧
  (∃ t, exec .frayRecord s = .next { t with tmb.frays := (s.tmb.frays.filter fun f => f.count ≠ 0).map fun f => { f with count := 0, running := true } } ∧
    t = s.tmb.frays.foldl (fun t f =>
      if f.count ≠ 0 then post 0x0107 f.list (le32 f.count ++ le8 f.kind ++ le8 (bitN f.soft 0) ++ le8 0) t
      else if f.running then post 0x0107 f.list (le32 0 ++ le8 f.kind ++ le8 (bitN f.soft 0) ++ le8 1) t else t) s) ∧
  (∀ l e k, dispatchChoice s l = some (e, k) → ∃ t, exec (.taskDispatch l) s = .next t ∧ t = { s with tmb := t.tmb } ∧
    t.tmb.slots = s.tmb.slots.map fun u => if u.slot == k.slot then { u with state := .running, engine := e, startedAt := s.time.fabCycle } else u) ∧
  (∀ l h k, firstHeld s l = some h → freeSlot s = some k → exec (.heldSourceRelease l) s = .next
    (if roomFor s l h.source = true then windowMessages (enterHeld h k s) else s)) ∧
  (∀ l, firstHeld s l = none ∨ freeSlot s = none → exec (.heldSourceRelease l) s = .next s) ∧
  (∀ m c, taskRunning s (.mailbox m) = true → mayBegin (box s m) = some c →
    exec (.mailboxCommandExecution m) s = .next
      (onBox m (fun b => { b with lastBegun := c.seq }) (modifyCmd m c.seq (fun c => { c with phase := .running }) s)))

/-- A boundary's cancellation keeps a SOFT task whole, with its slot and deadline, where no other task has its slot; one that
passes its deadline counts as one SOFT Fray of its list, once; and where every other READY task of its list has a later deadline,
it is the task that the next idle engine takes (R43). -/
def Obligations.SoftTasksKeepTheirDeadline : Prop := ∀ s : State, ∀ t ∈ s.tmb.slots, t.soft = true →
  ((∀ u ∈ s.tmb.slots, u.slot = t.slot → u = t) → ∀ n, t ∈ (cancelStrict n s).tmb.slots) ∧
  ((∀ u ∈ s.tmb.slots, u.slot = t.slot → u = t) → t.frayed = false → t.list < s.tmb.lists.length → ∃ v, exec (.softDeadlinePass t.slot) s = .next v ∧
    { t with frayed := true } ∈ v.tmb.slots ∧ (v.tmb.lists.getD t.list default).softFray = (s.tmb.lists.getD t.list default).softFray + 1 ∧
    exec (.softDeadlinePass t.slot) v = .next v) ∧
  (t.state = .ready → affinity s t.kind = none → (∃ e ∈ listEngines s t.list, engineIdle s e = true) →
    (∀ u ∈ s.tmb.slots, u.list = t.list → u.state = .ready → u ≠ t →
      (serialBefore t.dlStitch u.dlStitch = true ∨ (t.dlStitch = u.dlStitch ∧ t.dlOff < u.dlOff))) →
    ∃ e, exec (.taskDispatch t.list) s = .next (startOn e t s))

/-! The light field. -/

/-- The schedule of a block of 256 Pins runs over the plan of the schedule day, or, without a traceable time, over the plan of no
time; a Stitch without a plan keeps the outputs before (from R112, R119). The day plans are built; a change of offset is added to
SOD; TZ_EXPIRED is recorded once when the time base has passed the valid-until instant; a settled level of the photocell's input
counts, unless no input is named (from R100, R101, R103, R109). -/
def Obligations.ScheduleAndCalendarAct : Prop :=
  (∀ s k, taskRunning s (.schedule k) = true →
  ∀ t, t = { s with sched.evaluated := s.sched.evaluated ++ [k] } →
  ∀ plan, plan = (if s.sched.noTime then some (default : DayPlan) else planOf s s.sched.day) →
  (plan = none → exec (.scheduleEvaluation k) s = .next (endBeforeFade (.schedule k) t)) ∧
  (∀ p, plan = some p → exec (.scheduleEvaluation k) s =
    .next (endBeforeFade (.schedule k) ((s.tab.live.pins.filter fun e => e.1 / 256 == k).foldl (scheduleOne p) t)))) ∧
  (∀ s : State,
  (exec .dayPlanBuild s = .next (buildPlans s)) ∧
  (exec .localOffsetTransition s = .next (applyOffset s)) ∧
  (u64At (sect s secTz) 0 < taiSec s → s.sched.tzExpired = false →
    exec .tzExpired s = .next (post 0x040E noSource [] { s with sched.tzExpired := true })) ∧
  (s.sched.tzExpired = true → exec .tzExpired s = .next s) ∧
  (∀ level, setU8 s secSite 8 ≠ 0xFF → exec (.photocellSettled level) s = .next { s with sched.photocell := some level }) ∧
  (∀ level, setU8 s secSite 8 = 0xFF → exec (.photocellSettled level) s = .next s))

/-- The walk takes the closed window's sources and lets the streams start; a walk that is late lets them start without it, and
changes them no more; a road segment that is solvable is solved, or darkened, its half-buffer is free for the next of the stream,
and its Darning task becomes READY; Darning writes the levels, sets DARN_RAISED on the road segment's Pins, and posts its requests
to other road segments for the next Stitch; the fade unit shapes the targets, and the chain's packets go to Skein 25 (from R127,
R129, R137, R138, R141, R146-R148, R157, R164). -/
def Obligations.LightTasksRun : Prop := ∀ s : State,
  (taskRunning s .walk = true → ∀ t, t = s.lace.closed.foldl walkSource s →
    (t.lace.streamsStarted = false → exec .presenceWalk s = .next (endBeforeFade .walk (startStreams t))) ∧
    (t.lace.streamsStarted = true → exec .presenceWalk s = .next (freeTask .walk t))) ∧
  (s.tmb.slots.any (fun t => t.kind == .walk) = true → s.lace.streamsStarted = false →
    ∀ u, u = startStreams { s with lace.walkLate := s.lace.walkLate + 1 } →
    exec .walkLate s = .next (if fadeDue u .walk then postTask srcEngine (fadeTask u) u else u)) ∧
  (∀ g, taskRunning s (.solve g) = true → ∀ u, u = (match matching s g with
      | none => s
      | some r => if isDark s g then darkSegment g s else solveSegment g r s) →
    exec (.solveAndRepair g) s = .next (stream (freeHalf g (postFrom (.solve g) (newTask (.darn g) false (nextStitch u) 0 0) u)))) ∧
  (∀ g, taskRunning s (.darn g) = true → ∀ pins, pins = gPins (segEntry s.tab.live g) → ∀ t, t = writeLevels g s →
    exec (.darning g) s = .next (endBeforeFade (.darn g)
      { setDarnBits (pins.map fun p => (p, darnBit t p)) t with
        lace.posted := ((pins.filter (isFailed t)).flatMap (darnRequests t g)).foldl postRequest t.lace.posted })) ∧
  (taskRunning s .fade = true → exec .fadeShaping s =
    .next (writeChain (freeTask .fade (shapeAll ((lightingPins s).filterMap fun e => shapeOf s e.1 e.2) s))))

/-! The radio. -/

/-- Telemetry is read from its Skein and decoded, or counted as bad; a planned Course becomes READY with its items in the order of
their starts; a Course sends what follows an Enh-Ack, or its next item at its start, with the items that no longer fit deferred,
or ends; a block of the node image is encoded; in a beacon Stitch the Shuttles in service send their beacons once, if the radios
have their clock; a window that ends missed counts, and three in a row set WAKE_ONLY (from R202, R207, R211-R214, R226, R231,
R238). -/
def Obligations.RadioTasksRun : Prop := ∀ s : State,
  (∀ k a, taskRunning s (.telemetry k) = true → ∀ o t, readWhole (4 + k) (appInitiator s (.telemetry k)) a maxWords 0 [] s = (o, t) →
    ∀ u, u = freeTask (.telemetry k) t →
    (o = none → exec (.telemetryDecode ⟨k, a⟩) s = .next u) ∧
    (∀ b, o = some b → tlmBlock (b.drop 10) = none → exec (.telemetryDecode ⟨k, a⟩) s = .next { u with air.tlmBad := u.air.tlmBad + 1 }) ∧
    (∀ b l, o = some b → tlmBlock (b.drop 10) = some l → exec (.telemetryDecode ⟨k, a⟩) s = .next
      { u with air.telemetry := u.air.telemetry ++ tlmStamped (u16At b 0) (u64At b 2) (b.drop 10) l })) ∧
  (∀ k, taskRunning s (.planning k) = true → shuttleOn s k = true →
    ∀ q, q = planSleepy k s → ∀ p, p = onShuttle k (fun h => { h with groups := h.groups ++ newGroups q k }) q →
    ∀ a e, a = courseStart p k → e = courseEnd p →
    ∀ fixed, fixed = sortBy (fun x y => x.1 ≤ y.1) ((p.air.windows.filter fun w => w.shuttle == k).map (windowSpan p k)) →
    ∀ l d, place (candidates p k) (if a < e then gapsOf a e (fixed.filter fun w => a < w.2 && w.1 < e) else []) [] = (l, d) →
    ∀ items, items = (sortBy (fun x y => x.1 ≤ y.1) l).map (·.2) → exec (.coursePlanning k) s = .next
      (postFrom (.planning k) (newTask (.course k) true p.stitch.number ((e - p.stitch.lastBoundary) / 1000) 0)
        (onShuttle k (fun h => { h with plan := items, inCourse := true, itemsLast := items.length, itemsMax := max h.itemsMax items.length,
                                        deferCourse := h.deferCourse + BitVec.ofNat 32 d }) p))) ∧
  (∀ k f, shuttleOn s k = true → ((shuttle s k).owed.isSome || (shuttle s k).awaiting.isSome || decide (taiNs s < (shuttle s k).txTo)) = false →
    (shuttle s k).follow = some f → exec (.courseRun k) s =
      .next (if (shuttle s k).holdTx then onShuttle k (fun h => { h with follow := none }) s else sendFollow k f s)) ∧
  (∀ k, shuttleOn s k = true → ((shuttle s k).owed.isSome || (shuttle s k).awaiting.isSome || decide (taiNs s < (shuttle s k).txTo)) = false →
    (shuttle s k).follow = none → taskRunning s (.course k) = true →
    ∀ left, left = (shuttle s k).plan.filter (itemFits s k) →
    ∀ t, t = deferItem k ((shuttle s k).plan.length - left.length) (onShuttle k (fun h => { h with plan := left }) s) →
    (left = [] → exec (.courseRun k) s = .next (endCourse k t)) ∧
    (∀ i rest, left = i :: rest → taiNs s < itemStart s k i → exec (.courseRun k) s = .next t) ∧
    (∀ i rest, left = i :: rest → itemStart s k i ≤ taiNs s →
      exec (.courseRun k) s = .next (runItem k i (onShuttle k (fun h => { h with plan := rest }) t)))) ∧
  (∀ b, taskRunning s (.raptorq b) = true → ∀ t, t = freeTask (.raptorq b) s → exec (.raptorqEncoding b) s = .next
    { t with air.session := t.air.session.map fun z =>
        { z with encoded := if z.encoded.contains b then z.encoded else z.encoded ++ [b] } }) ∧
  ((!beaconsDue s || !isBeacon s.stitch.number || s.air.beaconAt == some s.stitch.number) = false →
    ∀ e, e = (if s.time.radiosHeld then [] else inServiceShuttles s).foldl sendBeacon (false, s) →
    exec .beacon s = .next { descriptorStep (beaconGap e.1 e.2) with air.beaconAt := some e.2.stitch.number }) ∧
  (∀ p w, s.air.windows.find? (fun w => w.pin == p) = some w →
    exec (.receiveWindowEnd p true) s = .next (onShuttle w.shuttle (fun h => { h with winCollide := h.winCollide + 1 })
      { s with air.windows := s.air.windows.filter (· != w) })) ∧
  (∀ p w, s.air.windows.find? (fun w => w.pin == p) = some w →
    ∀ t, t = onShuttle w.shuttle (fun h => { h with winMissed := h.winMissed + 1 }) { s with air.windows := s.air.windows.filter (· != w) } →
    ∀ u, u = onRadio p (fun r => { r with missedRow := r.missedRow + 1,
                                          missedInstants := if (pinState s p).switchedOff then r.missedInstants else r.missedInstants + 1 }) t →
    exec (.receiveWindowEnd p false) s = .next (if 3 ≤ (radioPin u p).missedRow then onPin p (fun t => { t with wakeOnly := true }) u else u))

/-- A poll, report or image-state frame that passes the checks of its Shuttle is accepted and owed an Enh-Ack, and an expected one
closes its window; a repeated frame only counts in RX_DUP; the content of a new one is taken by its kind; and a frame that fails a
check counts in that check's counter and does nothing else (from R188, R194, R195, R199, R201, R226, R240). -/
def Obligations.UplinkFramesAreTaken : Prop := ∀ s f,
  (f.shuttle < 4 && hasRadio s && running s && pfEn (region s) f.shuttle && !(shuttle s f.shuttle).failed && !s.time.radiosHeld && hears f false s) = true →
  ∀ rows, rows = [(0x20, exec (.uplinkPoll f) s, fun (_ : Nat) (t : State) => t), (0x21, exec (.uplinkReport f) s, handleReport f),
      (0x0E, exec (.uplinkImageState f) s, fun p t =>
        onRadio p (fun r => { r with image := some (u8At f.payload 2, BitVec.ofNat 32 (u32At f.payload 5)) }) t)] →
  ∀ kind answer take, (kind, answer, take) ∈ rows → u8At f.payload 0 = kind →
  (∀ d, rxCheck f false s = .error d → answer = .next (countDrop f.shuttle d s)) ∧
  (∀ p, rxCheck f false s = .ok p →
    ∀ dup, dup = (f.seq.toNat == (pinState s p).upSeq &&
      (match (radioPin s p).heardAt with | some c => decide (s.time.cycle - c ≤ 10 * cyclesPerSec) | none => false)) →
    ∀ u, u = (match expectedWindow s p f.shuttle f.sfdEnd with
      | some w => oweAck f p (clampOffset (tdiv ((f.sfdEnd : Int) - w.instant) 1000)) (expectedFrame p w f.sfdEnd (rxAccept f p s))
      | none => oweAck f p 0 (rxAccept f p s)) →
    answer = .next (if dup then onShuttle f.shuttle (fun h => { h with rxDup := h.rxDup + 1 }) u
      else take p (onPin p (fun t => { t with upSeq := f.seq.toNat }) u)))

/-- A node's Enh-Ack that passes the checks and matches the try outstanding ends it, and a command it answers is DELIVERED; one
that does not match is ignored; with none by the end of the window the try is missed. The Enh-Ack that the module owes is sent,
and counted, unless the duty limit holds it (from R193, R194, R196, R197, R216, R220, R227). A beacon with the module's own PAN ID
counts, and is recorded at most once a minute; a Pin not heard for KEEPALIVE seconds gets a probe; one that stays silent gets
class SILENT; a sleepy target of a node image session is called by a Picot once a minute; the transmit totals lose the bins older
than an hour; a Shuttle or a Lace engine that fails is recorded and leaves service (from R19, R149, R185, R220, R221, R234, R239).
-/
def Obligations.EnhAcksAndRadioEventsAct : Prop :=
  (∀ s : State,
  (∀ f, (receives s f.shuttle && hears f true s) = true →
    (∀ d, rxCheck f true s = .error d → exec (.nodeEnhAck f) s = .next (countDrop f.shuttle d s)) ∧
    (∀ p a, rxCheck f true s = .ok p → (shuttle s f.shuttle).awaiting = some a →
      (ackMatches p f a = false → exec (.nodeEnhAck f) s = .next s) ∧
      (ackMatches p f a = true → ∀ u, u = onShuttle f.shuttle (fun h => { h with awaiting := none }) (rxAccept f p s) →
        (∀ q c, a.command = some q → commandOf u p q = some c → exec (.nodeEnhAck f) s = .next (deliverCommand f.shuttle p c u)) ∧
        (a.command = none → exec (.nodeEnhAck f) s = .next (if a.sync then syncDone p a u else u))))) ∧
  (∀ k a, (shuttle s k).awaiting = some a → exec (.enhAckTimeout k) s = .next (tryMissed k a s)) ∧
  (∀ k o, (shuttle s k).owed = some o → ∀ t, t = onShuttle k (fun h => { h with owed := none }) s →
    ((shuttle s k).holdAck = true → exec (.enhAckSend k) s = .next t) ∧
    ((shuttle s k).holdAck = false → airOn s = true → (shuttle s k).failed = false →
      ∀ c u, sendFrame (taiNs s) o.mode 33 (plainFrame k (if o.pending then fcAckPending else fcAck) o.seq (airPan s) (some (0x0800 + o.pin)) 0x09
          (o.keyIndex - 1) (ackIes o.offset) (leW o.counter)) t = (some c, u) →
      exec (.enhAckSend k) s = .next (onShuttle k (fun h =>
        { h with ackSent := h.ackSent + 1, ackPend := if o.pending then h.ackPend + 1 else h.ackPend,
                 follow := if o.pending && o.sleepy then some { pin := o.pin, sync := o.sync } else h.follow }) u)))) ∧
  (∀ s : State,
  (∀ k pan, (pan.toNat != airPan s || !hasRadio s || !pfEn (region s) k) = false →
    ∀ t, t = { s with air.panConflict := s.air.panConflict + 1, air.panCount := s.air.panCount + 1 } →
    ((∀ c, s.air.panMinute = some c → 60 * cyclesPerSec ≤ s.time.cycle - c) → exec (.foreignBeacon k pan) s = .next
      (post 0x0601 k (le16 (min 65535 t.air.panCount)) { t with air.panCount := 0, air.panMinute := some s.time.cycle })) ∧
    (∀ c, s.air.panMinute = some c → s.time.cycle - c < 60 * cyclesPerSec → exec (.foreignBeacon k pan) s = .next t)) ∧
  (∀ p conf, conf = pinConf s.tab.live p → cTransport conf = tMains → isRadio conf = true → (pinState s p).pending = false →
    (∀ e ∈ s.air.probes, e.1 ≠ p) → inFlight s p = false →
    (radioPin s p).probeAt ≤ s.time.cycle → keepalive s ≤ secSince s ((radioPin s p).heardAt.getD s.sys.startCycle) →
    exec (.probeDue p) s = .next { s with air.probes := s.air.probes ++ [(p, s.stitch.number)] }) ∧
  (∀ p conf, conf = pinConf s.tab.live p → isRadio conf = true → (pinState s p).switchedOff = false → (pinState s p).failure = 0 →
    (cTransport conf = tMains → silentMains s ≤ secSince s (silentFrom s p)) →
    (cTransport conf ≠ tMains → silentSleepy s ≤ (radioPin s p).missedInstants) →
    ∀ t, t = onPin p (fun t => { t with failure := 1 }) s →
    exec (.pinSilent p) s = .next { t with air.heardNow := t.air.heardNow.filter (· != p) }) ∧
  (∀ z, s.air.session = some z → z.sending = true → ((imageTargets s z).any fun e => cTransport e.2 == tSleepy) = true →
    60 * cyclesPerSec ≤ s.time.cycle - z.picotAt →
    exec .imagePicotTimer s = .next (requestPicot 0xFFFF 2 { s with air.session := some { z with picotAt := s.time.cycle } })) ∧
  (∀ k, k < 4 → ∀ keep, keep = (fun t : Tab Nat => t.filter fun e => decide (upSec s < e.1 + 3600)) →
    ∀ t, t = onShuttle k (fun h => { h with bins := keep h.bins }) s →
    exec (.dutyBinRoll k) s = .next (dutyUpdate k { t with air.wakeBins := keep t.air.wakeBins })) ∧
  (∀ k cause, k < 4 → hasRadio s = true → (shuttle s k).failed = false → (shuttle s k).leaving = false →
    exec (.shuttleFault k cause) s = .next (post 0x0207 k (le8 cause) (onShuttle k (fun h => { h with leaving := true }) s))) ∧
  (∀ e cause, s.lace.inService.getD e false = true → s.lace.leaving.contains e = false → exec (.laceFault e cause) s = .next
    (post 0x0206 e (le8 cause) { s with lace.leaving := s.lace.leaving ++ [e], lace.inService := listSet s.lace.inService e false })))

/-! Skeins, Bobbins and registers. -/

/-- The answer of a pop port is kept in skn.pops: its data and its tag, whose bit 7 is VALID. A read of a Skein that holds no
visible packet returns VALID = 0 and only counts in EMPTY_RD; one by an initiator outside the reader set the same, counted as
FOREIGN (R62). A reader of the set gets the next 16 bytes of the oldest packet, with its tag; the FIRST word holds the packet for
it and the LAST one frees it; while it holds the packet another reader gets VALID = 0 and counts in EMPTY_RD; a packet held too
long without a read is discarded and counted as ABANDONED (R63). An uncorrectable word is answered by the bad-packet marker and
the rest of the packet is gone. -/
def Obligations.SkeinReadsAnswer : Prop :=
  (∀ s n, ∀ k, k = skein s n → ∀ r ecc,
  ∀ answered : State → State, answered =
    (fun t => { t with skn.pops := t.skn.pops ++ [{ skein := n, initiator := r, data := zeros 16, tag := 0 }] }) →
  (portStalled s r = false → bit k.readers r = true → k.packets = [] →
    exec (.skeinPop n r ecc) s = .next (answered (onSkein n (fun k => { k with emptyRd := k.emptyRd + 1 }) s))) ∧
  (portStalled s r = false → bit k.readers r = false →
    exec (.skeinPop n r ecc) s = .next (answered (onSkein n (fun k => { k with foreign := min (k.foreign + 1) 255 }) s))) ∧
  (portStalled s r = true → exec (.skeinPop n r ecc) s =
    .next { s with skn.waiting := s.skn.waiting ++ [{ initiator := r, skein := n, push := none, ecc := ecc }] })) ∧
  (∀ s n r p rest, ∀ k, k = skein s n →
  portStalled s r = false → bit k.readers r = true → k.packets = p :: rest →
  ∀ answered : Bytes → Nat → State → State, answered =
    (fun d tag t => { t with skn.pops := t.skn.pops ++ [{ skein := n, initiator := r, data := d, tag := tag }] }) →
  (∀ h ecc, k.reading = some h → h.reader ≠ r →
    exec (.skeinPop n r ecc) s = .next (answered (zeros 16) 0 (onSkein n (fun k => { k with emptyRd := k.emptyRd + 1 }) s))) ∧
  (∀ done, k.reading.getD { reader := r, done := 0 } = { reader := r, done := done } →
    (∀ left, left = p.bytes.length - 16 * done → ∀ t, t = (if 16 < left then
          onSkein n (fun k => { k with reading := some { reader := r, done := done + 1 } }) s
        else onSkein n (fun k => { k with packets := rest, reading := none }) s) →
      exec (.skeinPop n r .ok) s = .next (answered
        (slice p.bytes (16 * done) (min 16 left) ++ zeros (16 - min 16 left))
        (128 + (if 16 < left then 0 else 64) + (if done = 0 then 32 else 0) + min 16 left) t)) ∧
    exec (.skeinPop n r .uncorrectable) s = .next (answered (zeros 16) 192 (post 0x0202 n []
      (onSkein n (fun k => { k with packets := rest, reading := none, eccDrop := min (k.eccDrop + 1) 255,
                                    lost := k.lost || carriesWork n }) s))))) ∧
  (∀ s n, ∀ k, k = skein s n → k.reading.isSome = true → exec (.skeinReadAbandon n) s = .next
    (onSkein n (fun k => { k with packets := k.packets.drop 1, reading := none, abandoned := min (k.abandoned + 1) 255,
                                  lost := k.lost || carriesWork n }) s))

/-- A word pushed by a writer of the set into an enabled Skein that ends its packet in the room left makes the packet visible; one
that continues it waits in the open packet; one that finds no room in a Skein that stalls is held, and is stored once there is
room, and with it the writer's accesses that waited for it; a held notice enters its list; an open or held packet left for 4,096
FAB cycles is discarded and counted; a Skein of accepted work that lost a packet is written again from the journal (from R57-R60,
R64, R371). -/
def Obligations.SkeinEventsAct : Prop := ∀ s n, ∀ k, k = skein s n →
  (∀ w word, bit k.writers w = true → k.en = true → portStalled s w = false →
    (∀ k', storeWord k w 0 word = (k', .stored) → exec (.skeinPushCont n w word) s = .next (onSkein n (fun _ => k') s)) ∧
    (∀ valid k' b, 1 ≤ valid → valid ≤ 4 → storeWord k w valid word = (k', .closed b) →
      exec (.skeinPushEnd n w valid word) s = .next (packetVisible n b (onSkein n (fun _ => k') s))) ∧
    (∀ k', storeWord k w 0 word = (k', .stalled) → exec (.skeinPushCont n w word) s = .next
      (onSkein n (fun k => { k with heldWrites := k.heldWrites ++ [{ writer := w, valid := 0, word := word }], stall := k.stall + 1 }) s))) ∧
  (∀ w word, portStalled s w = true → exec (.skeinPushCont n w word) s =
    .next { s with skn.waiting := s.skn.waiting ++ [{ initiator := w, skein := n, push := some (0, word), ecc := .ok }] }) ∧
  (∀ h, k.heldWrites.find? (fun h => (storeWord k h.writer h.valid h.word).2 != .stalled) = some h → ∀ k' r, storeWord { k with heldWrites := k.heldWrites.erase h } h.writer h.valid h.word = (k', r) →
    exec (.skeinHeldWrite n) s = .next (resumePort h.writer (afterPush n k' r s))) ∧
  (∀ slot, k.heldNotices ≠ 0 → roomFor s k.noticeList srcSkein = true → freeSlot s = some slot →
    exec (.skeinHeldNotice n) s = .next (onSkein n (fun k => { k with heldNotices := k.heldNotices - 1 }) (enterTask (noticeTask n s) slot s))) ∧
  (k.opened.isSome = true → exec (.skeinWriteAbandon n) s = .next
    (onSkein n (fun k => { k with opened := none, abandoned := min (k.abandoned + 1) 255, lost := k.lost || carriesWork n }) s)) ∧
  (carriesWork n = true → k.lost = true →
    ∀ packets, packets = ((s.jnl.log.filterMap fun i => if i.live then i.entry else none).filter (carried s n)).map
      (fun e => ({ bytes := entryImage e } : Packet)) →
    ∀ t, t = onSkein n (fun k => packets.foldl (fun k p => if n ≤ 11 then placePacket p.bytes k else carry p.bytes k)
        { k with packets := [], reading := none, lost := false }) s →
    exec (.jnlRebuild n) s = .next { t with jnl.rebuilds := t.jnl.rebuilds + 1 })

/-- A start loads the channel's working registers and makes it ACTIVE, or WAIT_REQ where its request line gates it; a failed check
halts it with CFG_ERR, with LINK_USED 0, and moves nothing; a start of a channel that runs is ignored and counted. A line found
high starts a burst, one found low changes nothing. A stop halts the channel with STOPPED and records it; where the last write is
acknowledged first, the completion wins. The burst of the channel whose turn it is reads up to 512 bytes into the empty holding
register, or writes it out, and the path passes on; a bus error is retried until the retries are spent. A transfer that is over,
with its words acknowledged, sends its completion: with none to send and no link the channel is IDLE; a linked descriptor is
loaded once it is fetched; a completion held goes on once it enters (from R67, R68, R70-R74, R76). -/
def Obligations.BobbinsAct : Prop :=
  (∀ s c, ∀ b, b = bobbin s c →
  ∀ halted : Nat → Bobbin → Bobbin, halted = (fun e b =>
    { b with state := .halted, error := e, phase := 0, tries := 0, hold := [], packet := [], long := false, stopping := false }) →
  (c < 32 → bobActive b = false → startError s c = false → exec (.bobStart c) s = .next (settlePath (onBobbin c (fun b =>
    { b with used := 0, remain := b.count, hold := [], packet := [], moved := 0, lastRead := false, fetching := false, error := 0,
             phase := 0, tries := 0, long := false, stopping := false, state := if bReqEn b then .waitReq else .active }) s))) ∧
  (c < 32 → bobActive b = false → startError s c = true → exec (.bobStart c) s = .next (post 0x0203 c (le8 3 ++ le8 0 ++ le8 0)
    (onBobbin c (halted 3) (onBobbin c (fun b => { b with used := 0 }) s)))) ∧
  (c < 32 → bobActive b = true → exec (.bobStart c) s = .next { s with bob.ignored := s.bob.ignored + 1 }) ∧
  (b.state = .waitReq → exec (.bobRequest c true) s = .next (settlePath (onBobbin c (fun b => { b with state := .active }) s))) ∧
  (exec (.bobRequest c false) s = .next s) ∧
  (bobActive b = true → exec (.bobStop c false) s = .next (settlePath (post 0x0203 c (le8 6 ++ le8 0 ++ le8 0) (onBobbin c (halted 6) s)))) ∧
  (b.state = .active → transferOver b = true → b.fetching = false → bKind b = 0 → exec (.bobStop c true) s = .next (settlePath
    (onBobbin c (fun b => { b with state := .idle, fetching := false, stopping := false, tries := 0 })
      (onBobbin c (fun b => { b with stopping := true }) { s with bob.ignored := s.bob.ignored + 1 }))))) ∧
  (∀ s c, ∀ b, b = bobbin s c →
  (mayComplete s c = true → b.hold = [] → bSrcSkein b = false → accessFails .ok (nextBurst b) = false →
    ∀ n, n = min 512 (b.count - b.moved) → ∀ t, t = onBobbin c (fun b => { b with tries := 0 }) s →
    exec (.bobBurstDone c .ok) s = .next (passPath (onBobbin c (fun x =>
      { x with hold := (burstAddresses b.src (bSw b) (bSinc b) b.moved n).map (memRead s.bob.mem),
               moved := x.moved + n, lastRead := x.moved + n == x.count }) t))) ∧
  (mayComplete s c = true → b.hold ≠ [] → accessFails .ok (nextBurst b) = false → exec (.bobBurstDone c .ok) s =
    .next (passPath (writeBurst c (onBobbin c (fun b => { b with tries := 0 }) s)))) ∧
  (mayComplete s c = true → b.hold ≠ [] → b.tries < bRetry b → exec (.bobBurstDone c .busError) s =
    .next (settlePath { onBobbin c (fun x => { x with tries := x.tries + 1, phase := 1 }) s with bob.retry := s.bob.retry + 1 })) ∧
  (mayComplete s c = true → b.hold ≠ [] → bRetry b ≤ b.tries → exec (.bobBurstDone c .busError) s =
    .next (settlePath (haltBobbin c 1 1 (b.tries + 1) s))) ∧
  (∀ token fetch, acknowledged s = true → b.fetching = false → b.state = .active → transferOver b = true → bKind b = 0 → bLinkEn b = false →
    exec (.bobTransferEnd c ⟨token, fetch⟩) s =
      .next (settlePath (onBobbin c (fun b => { b with state := .idle, fetching := false, stopping := false, tries := 0 }) s))) ∧
  (∀ token fetch, acknowledged s = true → b.fetching = true → b.state = .active →
    exec (.bobTransferEnd c ⟨token, fetch⟩) s = .next (settlePath (loadDescriptor c fetch s))) ∧
  (∀ token fetch, acknowledged s = false → exec (.bobTransferEnd c ⟨token, fetch⟩) s = .next s) ∧
  (∀ token fetch t, b.state = .pulseHeld → sendCompletion c token s = (.sent, t) →
    exec (.bobPulseRelease ⟨c, token, fetch⟩) s = .next (settlePath (goOn c fetch t))) ∧
  (∀ token fetch t, b.state = .pulseHeld → sendCompletion c token s = (.held, t) → exec (.bobPulseRelease ⟨c, token, fetch⟩) s = .next s) ∧
  (∀ token fetch t, b.state = .pulseHeld → sendCompletion c token s = (.failed, t) →
    exec (.bobPulseRelease ⟨c, token, fetch⟩) s = .next (settlePath (busError c 3 t))))

/-- A W1C write clears the alarm flags it selects; RING_CMD gives the ring a command; the first word of a latched group latches
its others and the last releases them; a word of the network settings window is staged for the next boundary. A word written to
Probe space acts under its register's access code: the slot selector takes its ten bits; bit 0 of a STATS word clears that block's
statistics; an idle Bobbin channel takes its count, and one that runs ignores the write and counts it; a read-only word, and an
address outside every block, are left as they are (from R13, R55, R67, R78, R311, R318, R319, R398, R426, R431, R433). -/
def Obligations.RegisterAccessesAct : Prop :=
  (∀ s : State,
  (∀ k v, exec (.alarmStatusClear k v) s = .next { s with rtc.alarms := listModify s.rtc.alarms k fun a =>
    { a with fired := a.fired && !bit v.toNat 0, skipped := a.skipped && !bit v.toNat 1, jumped := a.jumped && !bit v.toNat 2,
             repeat_ := a.repeat_ && !bit v.toNat 3, onBackup := a.onBackup && !bit v.toNat 4 } }) ∧
  (∀ p, p < 2 → exec (.ringCmdForced p) s = .next (ringEvent (.forced p) s)) ∧
  (∀ p, p < 2 → exec (.ringCmdManual p) s = .next (ringEvent (.manual p) s)) ∧
  (∀ p, exec (.ringCmdClear p) s = .next (ringEvent .clear s)) ∧
  (exec .tbSecLoRead s = .next { s with time.tbLatch := some s.time.tb }) ∧
  (exec .tbFracRead s = .next { s with time.tbLatch := none }) ∧
  (exec .rtcTickLoRead s = .next { s with rtc.latch := some (s.rtc.tick / 4294967296, s.rtc.sod, rtcFlags s.rtc) }) ∧
  (exec .rtcFlagsRead s = .next { s with rtc.latch := none }) ∧
  (∀ o v id at_, windowWord (o - o % 4) = some (id, at_) →
    exec (.netSettingsWindowWrite o v) s = .next { s with set.staged := s.set.staged ++ [(id, at_, leW v)] }) ∧
  (∀ o v, windowWord (o - o % 4) = none → exec (.netSettingsWindowWrite o v) s = .next s)) ∧
  (∀ s : State, ∀ v : U32,
  (exec (.registerWrite 0x01000500 v) s = .next { s with tmb.slotSel := v.toNat % 1024 }) ∧
  (bit v.toNat 0 = true → exec (.registerWrite 0x06010004 v) s = exec .smpClearStats s) ∧
  (bit v.toNat 0 = false → exec (.registerWrite 0x06010004 v) s = .next s) ∧
  (∀ c, c < 32 → (bobbin s c).state = .idle →
    exec (.registerWrite (0x01201010 + 0x40 * c) v) s = .next (onBobbin c (fun b => { b with count := v.toNat % 268435456 }) s)) ∧
  (∀ c, c < 32 → (bobbin s c).state = .active →
    exec (.registerWrite (0x01201010 + 0x40 * c) v) s = .next { s with bob.ignored := s.bob.ignored + 1 }) ∧
  (exec (.registerWrite 0x01000000 v) s = .next s) ∧
  (∀ a, blockOf a = none → exec (.registerWrite a v) s = .next s))

/-! The Chainstitch port. -/

/-- After the first fade shaping since reset, a frame of 128 blocks is built from the levels in the packets of Skein 25, unless
one is still shifting or waits for its commit; its shift done, its return words are taken and its topology is checked, once; it is
latched when its commit has completed and its checks passed. A scan sets the count, the delay and the chain's state. A board that
stays silent is noted SILENT for its Pins at the next boundary, and one without a valid code for 60 s takes 25.0 degrees (from
R164, R166, R167, R170, R172, R175, R176). -/
def Obligations.ChainEventsAct : Prop := ∀ s : State,
  (s.chain.state ≠ .off → s.chain.state ≠ .scan → s.chain.packetsAt ≠ none →
    (∀ f, s.chain.frame = some f → f.shifted = true ∧ f.committed = true) → ∀ u, u = chainPackets s →
    ∃ t, exec .chainShift s = .next t ∧ t = { s with chain := t.chain, smp := t.smp, skn := t.skn } ∧
      (∃ f, t.chain.frame = some f ∧ f.seq = s.chain.built % 256 ∧ f.levels = (chainPins s).map (fun e => (e.1, packetLevel u e.1)) ∧
        f.blocks.length = 128 ∧ f.shifted = false ∧ f.committed = false) ∧
      t.chain.built = s.chain.built + 1 ∧
      t.chain.skipped = (if s.chain.frame.isSome then s.chain.skipped + 1 else s.chain.skipped)) ∧
  (s.chain.packetsAt = none → exec .chainShift s = .next s) ∧
  (∀ ret f, s.chain.frame = some f → f.shifted = false → ∃ t, exec (.chainShiftDone ret) s = .next t ∧
    ((wordAt ret 0).isSome = true → t.chain.frame = some { f with shifted := true, topoOk := t.chain.state == .run })) ∧
  (∀ ret f, s.chain.frame = some f → f.shifted = true → exec (.chainShiftDone ret) s = .next s) ∧
  (∀ f, s.chain.frame = some f → f.shifted = true → f.committed = true → f.topoOk = true → s.chain.state = .run →
    exec .chainLatch s = .next ((chainPins s).foldl (fun t e => modifyQueue e.1 (fun q => if q.committed then { q with latched := true } else q) t)
      { s with chain.frame := none, chain.latched := some f, chain.frames := s.chain.frames + 1,
               chain.shown := s.chain.shown ++ (f.levels.map (·.1)).filter fun p => !s.chain.shown.contains p })) ∧
  (∀ ret delays, s.chain.state = .scan → ∃ t, exec (.chainScan ret delays) s = .next t ∧
    t.chain.count = boardCount ((ret.take 4).getLast?.getD []) ∧ t.chain.frame = none ∧
    t.chain.state = (if 128 < boardCount ((ret.take 4).getLast?.getD []) then .overlength else .run) ∧
    t.chain.lost = !((ret.take 4).any fun l => l.any rwValid) ∧
    (((ret.take 4).any fun l => l.any rwValid) = true → ∀ d, scanDelay delays = some d → t.chain.retDelay = d)) ∧
  (∀ ret delays, s.chain.state ≠ .scan → exec (.chainScan ret delays) s = .next s) ∧
  (∀ b, exec (.chainBoardSilent b) s = .next ((chainPins s).foldl (fun t e =>
    if mBoard e.2 == b && chnSilent t ≤ tabGetD t.chain.silence e.1 0 && !(pinState t e.1).switchedOff && (pinState t e.1).failure == 0
    then noteClass e.1 1 t else t) s)) ∧
  (∀ b, b < 128 → (s.chain.boards.getD b default).ntcFault = false → 60 * cyclesPerSec ≤ s.time.cycle - (s.chain.boards.getD b default).codeAt →
    ∀ t, t = { s with chain.boards := listModify s.chain.boards b fun x => { x with ntcFault := true } } →
    exec (.ntcFault b) s = .next ((chainPins t).foldl (fun u e => if mBoard e.2 == b then onPin e.1 (fun x => { x with temperature := 250 }) u else u) t))

/-! Metering. -/

/-- The decimators of a harness in SETTLING or RUN take 1 ms of modulator edges; in RUN the block goes to its engine's Skein and
its task becomes READY, or, with no room, is dropped, and the engine works off the blocks that wait, in order. A block's samples
are conditioned with the channels' calibration (what the spec leaves open in the filters is free, log entry 8); peaks and clips
are kept, gaps close or open, the six feeders' registers take the energies of their phases, the DFC outputs accumulate, and the
interval's flags and the last instant registered follow; a harness in neither state registers nothing (from R245, R247, R248,
R251, R255, R256, R260, R270, R276, R277, R285). A window gives the six feeders their quantity records and the set its frequency,
and starts the window's peaks anew; a half-cycle that has ended in the samples judges voltage and current; a block dropped opens a
span in all three phases of the six feeders and counts, and METER_GAP gives a run's length (from R252, R253, R258, R260, R265,
R285). -/
def Obligations.MeteringBlocksAndWindowsRegister : Prop :=
  ((∀ s h bits,
    (harnessRuns s h = false → (harness s h).state ≠ .settling → exec (.meteringBlock h bits) s = .next s) ∧
    (harnessRuns s h = false → (harness s h).state = .settling → exec (.meteringBlock h bits) s = .next (decimateBlock h bits s).2) ∧
    (harnessRuns s h = true → ∀ samples a, decimateBlock h bits s = (samples, a) →
      ∀ b, b = (if noBlockRoom h a then dropBlock h a else blockArrives h samples (if (harness a h).dropped = 0 then a else endDrops h a)) →
      exec (.meteringBlock h bits) s = .next ((upTo b.met.blocks.length).foldl (fun t _ => runBlock h t) b))) ∧
  (∀ s (x : MeterBlock), ∀ h, h = x.harness → ∀ k a, drawFree s = (k, a) →
    ∀ codes, codes = (fun c : Nat => x.samples.getD c []) →
    ∀ fs, fs = ((upTo 28).map fun c => filterBlock k (28 * h + c) (50000 - calDelay (calEntry a (28 * h + c)))
      ((codes c).map (sampleValue (calEntry a (28 * h + c)))) (a.met.filters.getD (28 * h + c) default)) →
    ∀ xs, xs = fs.map (·.1) → ∀ finish, finish = x.instants.getLastD 0 →
    ∀ b, b = { a with
      met.peaks := a.met.peaks.zipIdx.map (fun e => if e.2 / 28 = h then peakChannel x.instants (codes (e.2 % 28)) (xs.getD (e.2 % 28) []) e.1 else e.1),
      met.filters := a.met.filters.zipIdx.map (fun e => if e.2 / 28 = h then (fs.getD (e.2 % 28) ([], e.1)).2 else e.1),
      met.sets := listModify a.met.sets h (fun v => { v with window := List.zipWith (· ++ ·) v.window xs, half := List.zipWith (· ++ ·) v.half xs }),
      met.clipCnt := a.met.clipCnt + BitVec.ofNat 32 ((upTo 28).map fun c => ((codes c).filter fun r => mainLimit ≤ r.natAbs).length).sum } →
    ∀ c, c = (feedersOf h).foldl (fun t n => spanBlock (finish - 1000000) n t) b →
    ∀ es, es = (feedersOf h).map (fun n => (upTo 3).map fun p =>
      phaseEnergy c n p (xs.getD (uChan n p % 28) []) (xs.getD (iChan n p % 28) [])) →
    ∀ d, d = (upTo 4).foldl (dfcBlock h c.met.feeders es) (es.zipIdx.foldl (fun t e => registerFeeder (6 * h + e.2) e.1 t) c) →
    registerBlock x s = noteFlags { d with met.blockEnd := max d.met.blockEnd finish })) ∧
  (∀ s h, harnessRuns s h = true →
  (∀ r bits, s = blockBefore h bits r → ∀ v, v = beginWindow s h → windowEnd s h v = none → exec (.measurementWindowClose h bits) r = .next (onSet h (fun _ => v) s)) ∧
  (∀ r bits, s = blockBefore h bits r → ∀ v, v = beginWindow s h → ∀ n origin cs, windowEnd s h v = some (n, origin, cs) → ∀ k a, drawFree s = (k, a) →
    ∀ w, w = quantitiesOf k (hsNominal a h) cs ((upTo 28).map fun c => fullScale (calEntry a (28 * h + c))) (v.window.map (·.take n)) →
    ∀ t, t = (feedersOf h).foldl (fun t n => onFeeder n (fun f => { windowSums n w f with record := quantityRecord a k n w }) t) a →
    exec (.measurementWindowClose h bits) r = .next { t with
      met.sets := listModify t.met.sets h (fun _ => { v with frequency := milliU w.frequency, origin := origin, window := v.window.map (·.drop n) }),
      met.peaks := t.met.peaks.zipIdx.map fun e => if e.2 / 28 = h then { e.1 with windowMilli := 0, windowClip := false } else e.1 }) ∧
  (∀ r bits, s = blockBefore h bits r → halfCycle s h = none → exec (.halfCycleEnd h bits) r = .next s) ∧
  (∀ r bits, s = blockBefore h bits r → ∀ l rest, halfCycle s h = some (l, rest) → ∀ t, t = onSet h (fun v => { v with halfBegun := true, half := rest }) s →
    exec (.halfCycleEnd h bits) r = .next (if (voltSet s h).halfBegun then (feedersOf h).foldl (rmsFeeder h l) (voltHalf h l t) else t)) ∧
  (∀ t, t = (feedersOf h).foldl (fun t n => openSpan n 7 7 (taiNs s - sampleDelay - 1000000) t) s →
    ∀ u, u = onHarness h (fun x => { x with dropped := x.dropped + 1 }) { t with met.decOverrun := t.met.decOverrun + 1 } →
    exec (.decOverrun h false) s = .next u ∧
    exec (.decOverrun h true) s =
      .next (onHarness h (fun x => { x with dropped := 0 }) (post 0x0709 h (le32 (harness u h).dropped) u))))

/-- An interval that has passed its boundary closes, unless the journal's space holds it, and its close task builds the record,
which joins the batch under the next acceptance sequence; a closed span gives its record likewise, once the minute after it is
over, and a late one counts as unmeasured; a record whose archive copy is verified retires its journal entry; once a second the
meter is saved to the older of its two slots (from R279, R281-R283, R286). -/
def Obligations.MeterRecordsAreMade : Prop := ∀ s : State,
  (∀ b, b = gridStart s (gridLength s) (taiSec s) → running s = true → s.met.restored = true → s.met.interval.lastClosed < b →
    s.met.interval.start < b → logTight s = false → exec .intervalBoundary s = .next (postTask 3 (softTask .interval 10000 s) (closeAt b s))) ∧
  (∀ c rest, taskRunning s .interval = true → s.met.closing = c :: rest → ∀ seq, seq = s.jnl.nextSeq →
    ∃ t, exec .intervalClose s = .next t ∧ t = { s with tmb := (freeTask .interval s).tmb, jnl := t.jnl, met := t.met } ∧
      t.jnl = { s.jnl with nextSeq := seqNext seq,
                           batch := s.jnl.batch ++ [⟨seq, 3, 0, 0, intervalRecord c seq⟩] } ∧
      t.met = { s.met with closing := rest, records := s.met.records ++ [⟨seq, intervalRecord c seq, false, false⟩] }) ∧
  (∀ n c, s.met.closed.find? (fun c => c.span.feeder == n) = some c → (logTight s || (c.late && !s.time.servo.traceable) || !minuteOver s c) = false →
    ∀ seq, seq = s.jnl.nextSeq → ∃ t, exec (.spanRecordDue n) s = .next t ∧ t = { s with jnl := t.jnl, met := t.met } ∧
      t.jnl = { s.jnl with nextSeq := seqNext seq, batch := s.jnl.batch ++ [⟨seq, 4, 0, n, spanRecord c seq⟩] } ∧
      ∀ fs, fs = (if c.late then listModify s.met.feeders n (fun f =>
          { f with unmeasured := f.unmeasured + BitVec.ofNat 64 (msBetween c.span.start c.finish) }) else s.met.feeders) →
      t.met = { s.met with feeders := fs, closed := s.met.closed.erase c, spanRecords := s.met.spanRecords ++ [⟨seq, spanRecord c seq, false, false⟩] }) ∧
  (∀ q : U32, ∀ here : List MetRecord → Bool, here = (fun l => l.any fun r => r.seq == q && r.accepted && !r.archived) →
    (here s.met.records || here s.met.spanRecords) = true → s.sys.emmcFault = false →
    ∀ mark : List MetRecord → List MetRecord, mark = (fun l => l.map fun r => if r.seq == q then { r with archived := true } else r) →
    ∀ t, t = retire q { s with met.records := mark s.met.records, met.spanRecords := mark s.met.spanRecords } →
    exec (.archiveVerified q) s = .next { t with jnl := spaceHolds t.jnl }) ∧
  ((running s && s.met.restored && s.sys.bankOk.getD 0 false) = true → ∀ k, k = periodicSlot s → ∀ late, late =
      (s.met.lastKind == 1 && s.met.lastSaveAt != 0 && decide (440000000 < s.time.cycle - s.met.lastSaveAt)) →
    ∀ m, m = { s.met with saveSeq := s.met.saveSeq + 1, saveSlot := k, lastKind := 1, lastSaveAt := s.time.cycle,
                          msvLate := if late then s.met.msvLate + 1 else s.met.msvLate } →
    exec .periodicSave s = .next (checkStartUp { s with met := if k = 0 then { m with saveA := some (saveOf 1 s) } else { m with saveB := some (saveOf 1 s) } }))

/-- A feeder armed in RUN whose watched channel's last fast samples are all above its instantaneous threshold is detected, and
rearmed; a snapshot complete is coded, and once archived its buffer is free (from R258, R259, R261, R287, R290). FREQ_OUT and a
stuck channel are recorded at their edges; a contactor whose feedback has not followed is recorded once, one that has settled
closed is marked so, and one whose coil is overloaded is switched off and latched; a debounced input that changes counts and is
recorded; a DFC pulse ends (from R252, R255, R262-R266, R270, R454). Insertion, power, settling and removal take a fitted harness
round the states of Table 10.8 with their records; one not fitted is recorded once; a supply fault is retried three times; TEST
and RECOVERY end with their time (from R268, R271, R272). -/
def Obligations.ProtectionAndOutputEventsAct : Prop :=
  (∀ s : State,
  (∀ n c bits l, l = lastFast s n c bits → n < 12 → harnessRuns s (n / 6) = true → (feeder s n).armed = true → prInst (prEntry s n) ≠ 0 →
    ((watched s n).any fun k => iChan n k == c) = true → l.length = prInstCount (prEntry s n) →
    (∀ q ∈ l, fastThreshold s n c < (q.natAbs : Int)) → exec (.ocInstDetect n c bits) s = .next (detect n c 0 (fastPeak s c l) s)) ∧
  (∀ n, exec (.feederRearm n) s = .next { s with met.feeders := listModify s.met.feeders n fun f => { f with armed := true } }) ∧
  (∀ b samples x, s.met.snaps.find? (fun x => x.buffer == b && x.coded.isNone && !x.lost) = some x →
    ∀ t, t = { s with freeCtr := s.freeCtr + 1 } → ∀ coded raw, codeSnapshot t x (Config.freeNat s.freeCtr) samples = (coded, raw) →
    exec (.snapshotComplete b samples) s = .next
      { t with met.snaps := t.met.snaps.map (fun y => if y.id == x.id then { y with coded := some coded } else y),
               met.snapRawblk := t.met.snapRawblk + BitVec.ofNat 32 raw }) ∧
  (∀ id : U32, (s.met.snaps.any fun x => x.id == id && x.coded.isSome && !x.archived) = true → s.sys.emmcFault = false →
    ∀ l, l = s.met.snaps.map (fun y => if y.id == id then { y with archived := true } else y) →
    exec (.snapshotArchived id) s = .next { s with met.snaps := trimArchive l.length l, met.snapArchived := s.met.snapArchived + 1 })) ∧
  (∀ s : State,
  (∀ set out, set < 2 → (voltSet s set).freqOut ≠ out → exec (.freqOut set out) s =
    .next (noteFlags (post 0x0708 set (edge out) (onSet set (fun v => { v with freqOut := out }) (noteFlags s))))) ∧
  (∀ c, s.met.chanFault.getD c true = false →
    exec (.chanFault c) s = .next (post 0x070A c [] { s with met.chanFault := listSet s.met.chanFault c true })) ∧
  (∀ c, s.met.chanFault.getD c false = true →
    exec (.chanOk c) s = .next (post 0x070B c [] { s with met.chanFault := listSet s.met.chanFault c false })) ∧
  (∀ n f x, x = output s n → fbClosed s n = some f → n < 8 → x.fbWait = true → coTimeout (coEntry s n) ≤ sinceDrive s n →
    exec (.contactorFbTimeout n) s = .next (postIf (f != x.closed && !x.fbFault) 0x0707 n (le8 0)
      (onOutput n (fun y => { y with fbWait := false, fbFault := f != y.closed }) s))) ∧
  (∀ n, n < 8 → (output s n).closed = true → positionClosed s n = true → (fbClosed s n).getD true = true →
    coSettle (coEntry s n) ≤ settling s n → exec (.contactorCloseSettle n) s = .next (onOutput n (fun x => { x with settled := true }) s)) ∧
  (∀ n, n < 8 → (output s n).drive = true →
    ∀ t, t = onOutput n (fun x => { x with drive := false, outFault := true, settled := false }) s →
    exec (.contactorOutFault n) s = .next (post 0x0706 noSource (le8 (2 ^ n) ++ le8 (closedMask t) ++ le8 3) (post 0x0707 n (le8 1) t))) ∧
  (∀ n level, n < 8 → (s.sys.inputs.getD n default).level ≠ level →
    ∀ x, x = { s.sys.inputs.getD n default with level := level, changes := (s.sys.inputs.getD n default).changes + 1 } →
    ∀ t, t = { s with sys.inputs := listSet s.sys.inputs n x } →
    exec (.digitalInputChange n level) s = .next (if running t then feedbackChanged n (recordInput n t) else t)) ∧
  (∀ d, (s.met.dfc.getD d default).pulsing = true → exec (.dfcPulseEnd d) s =
    .next { s with met.dfc := listModify s.met.dfc d fun x => { x with pulsing := false, edgeAt := s.time.cycle } })) ∧
  (∀ s h, h < 2 → ∀ x, x = harness s h →
  ∀ goes : HarnessState → State → State, goes = (fun st t => onHarness h (fun y => { y with state := st, since := t.time.cycle }) t) →
  (x.state = .absent → exec (.harnessInserted h) s = .next (onHarness h (fun y => { y with present := true }) (goes .powering s))) ∧
  (x.state = .powering → exec (.harnessPowered h) s = .next (goes .settling s)) ∧
  (x.state = .settling → exec (.harnessSettled h) s = .next (checkStartUp (postIf x.left 0x070F h []
    (post 0x0710 h [] (onHarness h (fun y => { y with retries := 0 }) (goes .run s)))))) ∧
  (x.state ≠ .notFitted → x.state ≠ .absent → exec (.harnessRemoved h) s = .next (checkStartUp (post 0x0711 h []
    (onHarness h (fun y => { y with present := false, retries := 0 }) (goes .absent (leaveRun h (taiNs s - 4000000) s)))))) ∧
  (x.state = .notFitted → exec (.harnessRemoved h) s = .next (onHarness h (fun y => { y with present := false }) s)) ∧
  (x.state = .notFitted → exec (.harnessUnexpected h) s = .next (postIf (!x.unexpected) 0x0713 h []
    (onHarness h (fun y => { y with present := true, unexpected := true }) s))) ∧
  (x.state = .powering ∨ x.state = .settling ∨ x.state = .run → ∀ t, t = goes .fault (leaveRun h (taiNs s - sampleDelay) s) →
    exec (.harnessSupplyFault h) s = .next (post 0x0712 h (le8 x.retries) { t with met.supplyFault := t.met.supplyFault + 1 })) ∧
  (x.state = .fault → x.retries < 3 →
    exec (.harnessFaultRetry h) s = .next (onHarness h (fun y => { y with retries := y.retries + 1 }) (goes .powering s))) ∧
  (x.state = .fault → 3 ≤ x.retries → exec (.harnessFaultRetry h) s = .next s) ∧
  (s.met.mode = .test → exec .testModeExpire s =
    .next (if s.met.testFrom == .startUp && startUpOver s then modeTo (afterStartUp s) s else modeTo s.met.testFrom s)) ∧
  (s.met.mode = .recovery → exec .recoveryExpire s = .next (modeTo .service s)) ∧
  (s.met.mode = .test → s.met.testFrom = .recovery → exec .recoveryExpire s = .next { s with met.testFrom := .service }))

/-! Time. -/

/-- At an unblocked port taking part in PTP, in the module's domain: the Sync of the selected master is kept for its Follow_Up;
the Follow_Up completes it; the Delay_Resp to the module's own request completes the measurement of path and offset; a Pdelay_Req
is answered with the turnaround, which is free; a Pdelay_Resp gives the port's link delay; an Announce on a ring port joins the
foreign masters, of which the best is selected. The module sends its Delay_Req and Pdelay_Req with the next sequence number, the
egress stamp entering the queue of 16 or being discarded; a silent master is dropped; the oldest entry of the transmit timestamp
queue is drained, or goes stale and is counted; a leap second changes the offset and SOD (from R299-R303). -/
def Obligations.PtpActs : Prop :=
  (∀ s port, port < 7 → portUp s port = true →
  ∀ arrives, arrives = (fun kind => onPort port (fun x => { x with rxFrames := x.rxFrames + 1, rxOctets := x.rxOctets + ptpOctets kind }) s) →
  (∀ k, blocked (arrives k) port = false ∧ portPtp (arrives k) port = true) →
  (∀ m a, a = arrives 11 → ptpEn a = true → m.domain ≤ 127 → m.domain = ptpDomain a → port < 2 →
    exec (.ptpAnnounce port m) s = .next (selectMaster
      { a with time.ptp.foreign := (a.time.ptp.foreign.filter fun x => !(x.1 == port && x.2.source == m.source)) ++ [(port, m)] })) ∧
  (∀ m : PtpMsg, m.domain ≤ 127 →
    (∀ a ns t2, a = arrives 0 → ours a m = true → ptpTc a = false → m.stamp = .at ns → fromMaster a port m = true →
      t2 = ((ns : Int) + asym a port).toNat →
      (m.twoStep = true → exec (.ptpSync port m) s = .next { a with time.ptp.sync := some (port, m.sequence, t2, none, m.correction) }) ∧
      (m.twoStep = false → exec (.ptpSync port m) s = .next (syncComplete port t2 ((t2 : Int) - (m.origin : Int) - m.correction)
        { a with time.ptp.sync := some (port, m.sequence, t2, some (m.origin : Int), m.correction) }))) ∧
    (∀ a t2 c, a = arrives 8 → ours a m = true → ptpTc a = false → fromMaster a port m = true →
      a.time.ptp.sync = some (port, m.sequence, t2, none, c) →
      exec (.ptpFollowUp port m) s = .next (syncComplete port t2 ((t2 : Int) - (m.origin : Int) - c - m.correction)
        { a with time.ptp.sync := some (port, m.sequence, t2, some (m.origin : Int), c + m.correction) })) ∧
    (∀ a t3 d t2 q n o c, a = arrives 9 → ours a m = true →
      a.time.ptp.reqTransit.find? (fun r => r.1 == m.requester && r.2.1 == m.sequence) = none →
      a.time.ptp.delayReq = some (m.sequence, t3) → a.time.ptp.t21 = some d → a.time.ptp.sync = some (q, n, t2, o, c) →
      fromMaster a port m = true → ∀ back : Int, back = (m.origin : Int) - (t3 : Int) - m.correction →
      exec (.ptpDelayResp port m) s = .next (measure .ptp (tdiv (d - back) 2) t2
        { a with time.ptp.delayReq := none, time.servo.meanPath := (tdiv (d + back) 2).toNat })) ∧
    (∀ a ns, a = arrives 2 → ours a m = true → ptpProfile a = 1 → m.stamp = .at ns → exec (.ptpPdelayReqRx port m) s =
      .next (sendPtp port 3 m.sequence (m.correction + (Config.freeNat s.freeCtr : Int)) { a with freeCtr := s.freeCtr + 1 })) ∧
    (∀ a t4 t1, a = arrives 3 → ours a m = true → ptpProfile a = 1 → m.stamp = .at t4 →
      tabGet a.time.ptp.pdelay port = some (t1, m.sequence) → exec (.ptpPdelayResp port m) s = .next
      { a with time.ptp.linkDelay := tabSet a.time.ptp.linkDelay port (tdiv ((t4 : Int) + asym a port - (t1 : Int) - m.correction) 2).toNat,
               time.ptp.pdelay := tabErase a.time.ptp.pdelay port }))) ∧
  (∀ s : State,
  (∀ port m ns, s.time.ptp.master = some (port, m) → ptpEn s = true → ptpProfile s = 0 → forwarding s port = true → portPtp s port = true →
    ∀ t, t = sendPtp port 1 s.time.ptp.delaySeq 0 { s with time.ptp.delaySeq := (s.time.ptp.delaySeq + 1) % 65536 } →
    (t.time.ptp.txq.length < 16 → exec (.ptpDelayReq (.at ns)) s = .next
      { t with time.ptp.delayReq := none, time.ptp.delayWait := some (s.time.ptp.delaySeq, t.time.ptp.nextId),
               time.ptp.nextId := (t.time.ptp.nextId + 1) % 65536,
               time.ptp.txq := t.time.ptp.txq ++ [{ id := t.time.ptp.nextId, port := port, stamp := ns, cycle := t.time.cycle }] }) ∧
    (16 ≤ t.time.ptp.txq.length → exec (.ptpDelayReq (.at ns)) s = .next
      { (enqueueStamp port ns t).2 with time.ptp.delayReq := none, time.ptp.delayWait := none }) ∧
    exec (.ptpDelayReq .lost) s = .next
      { t with time.ptp.delayReq := none, time.ptp.delayWait := none,
               time.ptp.tsLate := t.time.ptp.tsLate + 1, time.ptp.nextId := (t.time.ptp.nextId + 1) % 65536 }) ∧
  (∀ port ns, ptpEn s = true → ptpProfile s = 1 → port < 6 → forwarding s port = true → portPtp s port = true →
    ∀ t, t = sendPtp port 2 s.time.ptp.pdelaySeq 0 { s with time.ptp.pdelaySeq := (s.time.ptp.pdelaySeq + 1) % 65536 } →
    (t.time.ptp.txq.length < 16 → exec (.ptpPdelayReq port (.at ns)) s = .next
      { t with time.ptp.pdelay := tabErase t.time.ptp.pdelay port,
               time.ptp.pdelayWait := tabSet t.time.ptp.pdelayWait port (s.time.ptp.pdelaySeq, t.time.ptp.nextId),
               time.ptp.nextId := (t.time.ptp.nextId + 1) % 65536,
               time.ptp.txq := t.time.ptp.txq ++ [{ id := t.time.ptp.nextId, port := port, stamp := ns, cycle := t.time.cycle }] }) ∧
    (16 ≤ t.time.ptp.txq.length → exec (.ptpPdelayReq port (.at ns)) s = .next
      { (enqueueStamp port ns t).2 with time.ptp.pdelay := tabErase t.time.ptp.pdelay port,
                                        time.ptp.pdelayWait := tabErase t.time.ptp.pdelayWait port }) ∧
    exec (.ptpPdelayReq port .lost) s = .next
      { t with time.ptp.pdelay := tabErase t.time.ptp.pdelay port, time.ptp.pdelayWait := tabErase t.time.ptp.pdelayWait port,
               time.ptp.tsLate := t.time.ptp.tsLate + 1, time.ptp.nextId := (t.time.ptp.nextId + 1) % 65536 }) ∧
  (∀ port m, s.time.ptp.master = some (port, m) → exec .announceReceiptTimeout s = .next (selectMaster
    { s with time.ptp.annTimeouts := s.time.ptp.annTimeouts + 1,
             time.ptp.foreign := s.time.ptp.foreign.filter fun x => !(x.1 == port && x.2.source == m.source) })) ∧
  (∀ e rest, s.time.ptp.txq = e :: rest →
    (∀ k, transitOf s e.id = some k → exec .txqDrain s = .next (sendFollowUps k
      { s with time.ptp.txq := rest, time.ptp.transit := listModify s.time.ptp.transit k fun t =>
        { t with awaited := t.awaited.filter (fun a => a.1 != e.id), egress := tabSet t.egress e.port e.stamp } })) ∧
    (transitOf s e.id = none → exec .txqDrain s = .next (ownStamp e (some e.stamp) { s with time.ptp.txq := rest }) ∧
      (cyclesPerSec ≤ s.time.cycle - e.cycle → exec .txqStale s = .next (ownStamp e none { s with time.ptp.txq := rest, time.ptp.txqStale := s.time.ptp.txqStale + 1 }))) ∧
    (∀ seq stamp t, t.time.ptp.delayWait = some (seq, e.id) → tabGet t.time.ptp.pdelayWait e.port = none →
      ownStamp e stamp t = { t with time.ptp.delayWait := none, time.ptp.delayReq := stamp.map fun x => (seq, x) }) ∧
    (∀ seq stamp t, t.time.ptp.delayWait = none → tabGet t.time.ptp.pdelayWait e.port = some (seq, e.id) →
      ownStamp e stamp t =
        { t with time.ptp.pdelayWait := tabErase t.time.ptp.pdelayWait e.port,
                 time.ptp.pdelay := stamp.elim t.time.ptp.pdelay fun x => tabSet t.time.ptp.pdelay e.port (x, seq) }) ∧
    (∀ k, transitOf s e.id = some k → cyclesPerSec ≤ s.time.cycle - e.cycle → exec .txqStale s = .next
      { s with time.ptp.txq := rest, time.ptp.txqStale := s.time.ptp.txqStale + 1, time.ptp.tcLost := s.time.ptp.tcLost + 1,
               time.ptp.transit := listModify s.time.ptp.transit k fun t => { t with awaited := t.awaited.filter fun a => a.1 != e.id } })) ∧
  (∀ d, d = s.time.ptp.leapPending → d ≠ 0 → utcFromPtp s = true →
    ∀ t, t = { s with time.ptp.utcOffset := s.time.ptp.utcOffset + d, time.ptp.leapPending := 0 } →
    exec .leapSecond s = .next (post 0x0407 noSource (leS16 t.time.ptp.utcOffset ++ leS8 d) (onRtc (sodAdjust (-d)) t))))

/-- Holdover ends in FREERUN; an edge of the 1PPS input near a whole second, and not too soon after the last, is accepted, ends
the loss of the input, and is measured when it is the source; a stamp lost is counted; three seconds without an edge lose the
input; the 1PPS output rises in the modes that Table 12.4 gives, and falls (from R295-R298, R304, R305). The clock monitor counts
the seconds in which the reference is beyond 200 ppm; the third in a row sets REF_FAULT and begins holdover, and a good one ends
the run and the fault. The loss of a PLL that the SoC needs resets it with that PLL's cause; a lost port PLL takes its port down,
the network PLL all six, and a lost radio PLL holds the Shuttles, until their relock; a stopped TCXO holds the SoC in reset (from
R30, R31 and Table 2.2). -/
def Obligations.ClockEventsAct : Prop :=
  (∀ s : State,
  (s.time.servo.state = .holdover → exec .holdoverExpire s = .next (refreshTrace
    { s with time.servo.state := .freerun, time.servo.holdFromTraceable := false })) ∧
  (ppsInEn s = true → exec (.ppsInEdge .lost) s = .next { s with time.ptp.tsLate := s.time.ptp.tsLate + 1 }) ∧
  (∀ ns : Nat, ppsInEn s = true → ∀ t : Int, t = (ns : Int) - cableDelay s → ∀ soon, soon =
      (s.time.pps.lastAccepted.elim false fun l => decide (t < (l : Int) + 900000000)) →
    ((decide (100000000 < (fromSecond t).natAbs) || soon) = true →
      exec (.ppsInEdge (.at ns)) s = .next { s with time.pps.reject := s.time.pps.reject + 1 }) ∧
    ((decide (100000000 < (fromSecond t).natAbs) || soon) = false →
      ∀ u, u = postIf s.time.pps.inLost 0x0406 noSource []
        { s with time.pps.accepted := s.time.pps.accepted + 1, time.pps.inNs := (t % 1000000000).toNat,
                 time.pps.lastAccepted := some t.toNat, time.pps.inLost := false } →
      exec (.ppsInEdge (.at ns)) s = .next (if ppsUse u && u.time.ptp.master.isNone then
        measure .pps (fromSecond t) t.toNat { u with time.servo.lastAt := s.time.pps.lastAccepted.getD s.time.servo.lastAt } else u))) ∧
  (ppsInEn s = true → s.time.pps.inLost = false → ∀ t, t = post 0x0405 noSource [] { s with time.pps.inLost := true } →
    exec .ppsInLost s = .next (if t.time.servo.source == .pps then sourceLost t else t)) ∧
  (running s = true → (ppsMode s = 1 ∧ s.time.servo.traceable = true) ∨ 2 ≤ ppsMode s →
    exec .ppsOutPulse s = .next { s with time.pps.outHigh := true }) ∧
  (exec .ppsOutFall s = .next { s with time.pps.outHigh := false })) ∧
  (∀ s : State,
  (∀ count, 5000 < absDiff count 25000000 → (s.time.refBad + 1 < 3 ∨ s.time.refFault = true) →
    exec (.clockMonitorSecond count) s = .next { s with time.refBad := s.time.refBad + 1 }) ∧
  (∀ count, 5000 < absDiff count 25000000 → 3 ≤ s.time.refBad + 1 → s.time.refFault = false →
    ∀ t, t = post 0x0205 noSource [1] { s with time.refBad := s.time.refBad + 1, time.refFault := true } →
    exec (.clockMonitorSecond count) s =
      .next (refreshTrace (if t.time.servo.state == .holdover then t else enterHoldover t))) ∧
  (∀ count, ¬(5000 < absDiff count 25000000) → ∀ t, t = { s with time.refBad := 0, time.refFault := false } →
    exec (.clockMonitorSecond count) s = .next (if s.time.refFault then refreshTrace (post 0x0205 noSource [0] t) else t)) ∧
  (∀ p, p = .f ∨ p = .a ∨ p = .d ∨ p = .t → socRuns s = true → exec (.pllLockLoss p) s =
    .next (faultReset 6 (2 ^ (11 + pllIndex p)) .torn (latchNow 0x0204 0 (le8 (pllLetter p)) s))) ∧
  (∀ p, p = .n ∨ (∃ k, p = .e k) → running s = true → exec (.pllLockLoss p) s =
    .next ((affectedPorts p).foldl (fun t k => linkLost k t) (setPll p false (post 0x0204 1 (le8 (pllLetter p)) s)))) ∧
  (running s = true → ∀ t, t = setPll .r false (post 0x0204 2 (le8 (pllLetter .r)) s) →
    exec (.pllLockLoss .r) s = .next { t with time.radiosHeld := true }) ∧
  (∀ k, running s = true → exec (.pllRelock (.e k)) s = .next (setPll (.e k) true s)) ∧
  (running s = true → exec (.pllRelock .n) s = .next (switchRestart (setPll .n true s))) ∧
  (running s = true → ∀ t, t = setPll .r true s → exec (.pllRelock .r) s = .next { t with time.radiosHeld := false }) ∧
  (socRuns s = true → ∀ t, t = resetSoc true (latchNow 0x0204 4 (le8 0) s) →
    exec .tcxoStop s = .next { t with sys.phase := .held, time.tcxoStopped := true }))

/-- A traceable time base aligns TICK at its instants: it waits on a shift or a load, sets a TICK that is far off or LOST, shifts
one that is off by 16 ticks or more, and compares SOD. A load takes effect at the LF edge; one of SOD or WDAY alone only adjusts.
A shift ends with its record (from R308-R310, R317). An enabled alarm fires at the first value of a run that matches; SOD wraps at
midnight and WDAY follows; the domain runs on its backup and measures it; below its thresholds BATLOW is set, and then the whole
domain is LOST; a coin-cell profile suspends charging above 60 degrees (from R306, R311, R314, R315). -/
def Obligations.RtcActs : Prop :=
  (∀ s : State,
  (∀ e : Int, e = (s.rtc.tick : Int) - (baseTicks s : Int) → s.time.servo.traceable = true → s.rtc.shiftTotal = 0 → s.rtc.load = none →
    ((32767 < e.natAbs ∨ s.rtc.lost = true) → exec .rtcAlign s = .next
      { s with rtc.load := some { tick := some (baseTicks s), sod := none, wday := none, align := true } }) ∧
    (¬(32767 < e.natAbs ∨ s.rtc.lost = true) → ∀ d, d = signedDay ((sodOfTick s s.rtc.tick : Int) - (s.rtc.sod : Int)) →
      ∀ t, t = (if d = 0 then s else { s with rtc := sodAdjust d s.rtc }) →
      exec .rtcAlign s = .next (if e.natAbs < 16 then t else startShift (-e) t))) ∧
  (s.time.servo.traceable = false → exec .rtcAlign s = .next s) ∧
  (∀ v, s.rtc.load = some { tick := none, sod := some v, wday := none, align := false } →
    ∀ t, t = rtcEdge { s with rtc.load := none } → exec .rtcSetLoad s =
      .next { t with rtc := sodAdjust (signedDay ((v : Int) - (t.rtc.sod : Int))) t.rtc }) ∧
  (∀ b, s.rtc.load = some { tick := some b, sod := none, wday := none, align := false } →
    ∀ t, t = loadTick b { s with rtc.load := none, rtc.shiftLeft := 0, rtc.shiftEdges := 0, rtc.shiftTotal := 0 } →
    exec .rtcSetLoad s = .next (post 0x0408 noSource (le64 s.rtc.tick ++ le64 t.rtc.tick) { t with rtc.setCnt := t.rtc.setCnt + 1 })) ∧
  (s.rtc.shiftTotal ≠ 0 → s.rtc.shiftLeft = 0 → exec .rtcShiftDone s = .next (post 0x0409 noSource (leS16 s.rtc.shiftTotal)
    { s with rtc.shiftTotal := 0, rtc.shiftEdges := 0, rtc.shiftCnt := s.rtc.shiftCnt + 1 }))) ∧
  (∀ s : State,
  (∀ k, k < 2 → (alarm s k).en = true → (alarm s k).inRun = false → alarmMatches (alarm s k) s.rtc.tick (wdayNow s.rtc) = true →
    exec (.rtcAlarm k) s = .next (fireAlarm k s.rtc.tick false s)) ∧
  (exec .sodWrap s = .next { s with rtc := wrapNow s.rtc }) ∧
  (∀ b, exec (.rtcSupplyChangeover b) s = .next { s with rtc.onBackup := b }) ∧
  (∀ mv, s.rtc.onBackup = true → exec (.rtcBatlow mv) s = .next { s with rtc.batlow := true, rtc.backupMv := min mv 8191 }) ∧
  (exec .rtcLost s = .next { s with rtc := { lostRtc with batlow := s.rtc.batlow, onBackup := s.rtc.onBackup, tempHold := s.rtc.tempHold } }) ∧
  (∀ mv, mainOff s = false → exec (.backupMeasure mv) s = .next { s with rtc.backupMv := min mv 8191 }) ∧
  (∀ mv, mainOff s = true → exec (.backupMeasure mv) s = .next s) ∧
  (∀ hot, chargerProfile s = 1 ∨ chargerProfile s = 2 → exec (.chargerTempHold hot) s = .next { s with rtc.tempHold := hot }) ∧
  (∀ hot, ¬(chargerProfile s = 1 ∨ chargerProfile s = 2) → exec (.chargerTempHold hot) s = .next s))

/-! The panel and the network. -/

/-- The lock and the PIN change at the first boundary after the commit; a message stands for its seconds; a test runs until its
end completes it; the screen is the text of the page, or the display test's pattern, or dark, and the texts that the spec does not
give are free (log entry 7). A key press counts; in service it clears the banners, wakes the display, and acts when the display
was lit and the lock allows it; UP or DOWN held acts again; the proximity pad wakes a dark display; the display goes dark and
CONTROL lapses; BACK held returns to VIEW; banners go when their time is past; a LOCKOUT ends with its record. A test ends with
its outcome, recorded; the SERVICE key opens the USB window for 60 minutes; a cable attached is counted and recorded, and its
removal closes the session and the window (from R434-R436, R438-R444). -/
def Obligations.PanelActs : Prop :=
  (∀ s m c,
  (Executing s m c 0x0B01 → Reads (.pnlStatus (.run m)) s m c
    (le8 (lockMode s) ++ le8 (panelLevel s) ++ le8 s.pnl.page ++ le8 (usbCode s) ++ le16 (lockoutLeft s) ++ le16 0 ++ le32 (ledWord s))) ∧
  (Executing s m c 0x0B02 → Schedules (.pnlLock (.run m)) s m c (effectAfterCommit c s) false (.settings secPanel 0 (c.payload.take 2))
    (leW (effectAfterCommit c s))) ∧
  (Executing s m c 0x0B03 → Schedules (.pnlPinSet (.run m)) s m c (effectAfterCommit c s) false
    (.panelPin ((slice c.payload 4 8).take (u8At c.payload 0))) (leW (effectAfterCommit c s))) ∧
  (Executing s m c 0x0B04 → Acts (.pnlMessage (.run m)) s m c s.stitch.number []
    { s with pnl.message := if u16At c.payload 0 = 0 then none
                            else some (slice c.payload 4 42, s.time.cycle + u16At c.payload 0 * cyclesPerSec) }) ∧
  (Executing s m c 0x0B05 → s.pnl.test = none → Begins (.pnlTest (.run m)) s m c
    { s with pnl.test := some { mailbox := m, test := u8At c.payload 0, until_ := s.time.cycle + u8At c.payload 1 * cyclesPerSec, seen := 0 } }) ∧
  (Executing s m c 0x0B05 → s.pnl.test ≠ none → Fails (.pnlTest (.run m)) s m c stConflict) ∧
  (Executing s m c 0x0B06 → Reads (.pnlScreenRead (.run m)) s m c
    (le8 s.pnl.page ++ le8 (bitN s.pnl.displayOn 0) ++ le16 0 ++ screenBytes s.freeCtr s))) ∧
  (∀ s : State,
  (∀ k, k < 8 → ∀ t, t = { s with pnl.keyPresses := listModify s.pnl.keyPresses k (· + 1), pnl.keysNow := listSet s.pnl.keysNow k true } →
    (running s = false → exec (.keyPress k) s = .next t) ∧
    (running s = true → ∀ w, w = wake t → ∀ u, u = { w with pnl.banners := [] } →
      exec (.keyPress k) s = .next (if s.pnl.displayOn && lockMode u ≠ 2 then actOnKey k u else u))) ∧
  (∀ k, exec (.keyRelease k) s = .next { s with pnl.keysNow := listSet s.pnl.keysNow k false }) ∧
  (∀ k, (k < 2 ∧ s.pnl.keysNow.getD k false = true) → running s = true → s.pnl.displayOn = true → lockMode s ≠ 2 →
    exec (.keyRepeat k) s = .next (actOnKey k s)) ∧
  (running s = true → lockMode s ≠ 2 → s.pnl.displayOn = false →
    exec .proxWake s = .next (wake { s with pnl.proxWakes := s.pnl.proxWakes + 1 })) ∧
  (exec .displayDim s = .next { s with pnl.displayOn := false }) ∧
  (exec .controlLapse s = .next { s with pnl.control := false }) ∧
  (s.pnl.keysNow.getD 5 false = true → exec .backHold s = .next { s with pnl.control := false }) ∧
  (s.pnl.lockout = true → exec .lockoutEnd s = .next (post 0x0942 noSource [0] { s with pnl.lockout := false })) ∧
  (exec .bannerExpire s = .next { s with pnl.banners := s.pnl.banners.filter (fun b => decide (s.time.cycle < b.until_)),
                                         pnl.message := s.pnl.message.filter fun m => decide (s.time.cycle < m.2) })) ∧
  (∀ s : State,
  (∀ cause t, s.pnl.test = some t → ¬(cause = .back ∧ t.test = 2) →
    ∀ u, u = post 0x0947 t.mailbox (le8 t.test ++ le8 (testOutcome cause)) { s with pnl.test := none } →
    (runningCmd u t.mailbox = none → exec (.pnlTestEnd cause) s = .next u) ∧
    (∀ c, runningCmd u t.mailbox = some c → c.opcode = 0x0B05 → exec (.pnlTestEnd cause) s = .next (freeTask (.mailbox t.mailbox)
      (completeWith t.mailbox c.seq (.effect s.stitch.number (le8 (testOutcome cause) ++ le8 0 ++ le16 t.seen)) u)))) ∧
  (usbMode s = 1 → running s = true →
    exec .usbServiceKey s = .next (post 0x0948 noSource (le16 60) (usbRefresh { s with pnl.keyWindow := true }))) ∧
  (exec .usbKeyWindowEnd s = .next (usbRefresh { s with pnl.keyWindow := false })) ∧
  (s.pnl.vbus = false → ∀ t, t = usbRefresh { s with pnl.vbus := true, pnl.usbAttaches := s.pnl.usbAttaches + 1 } →
    exec .usbAttach s = .next (post 0x0945 noSource (le8 (usbMode t) ++ le8 (bitN t.pnl.connected 0)) t)) ∧
  (s.pnl.vbus = true → exec .usbDetach s = .next (post 0x0946 noSource (le8 (bitN ((box s 14).session == .opened) 0))
    (usbRefresh { s with pnl.vbus := false, pnl.keyWindow := false }))))

/-- A port that is enabled, clocked and fits the speed comes up and is recorded; one whose link is lost goes down; a cage goes
from ABSENT through its power-up and its identification to an accepted or rejected module, with the record of each; a module taken
out takes its port down (from R420-R422). An R-APS message is counted, passed on round the ring while neither ring port is
blocked, and resolved, unless the guard runs or it is the node's own; the node's request goes out on both ring ports; the wait to
restore, the guard and the hold-off end (from R426-R428). A frame received that fails its FCS, is too long, or carries MAC control
is counted and dropped; so is one at a blocked port, one of a VLAN the port is no member of, and one beyond the storm limit; any
other is learned from and forwarded; a learned address that ages out leaves the table (from R423-R425, R427, R429). -/
def Obligations.NetworkActs : Prop :=
  (∀ s p,
  (∀ speed, p < 6 → (port s p).link = false → portEn s p = true → speedFits s p speed = true → portClocked s p = true →
    ∀ t, t = post 0x0801 p (le8 speed) (onPort p (fun x => { x with link := true, speed := speed }) s) →
    exec (.linkUp p speed) s = .next (if p < 2 && ringEn t then sfEnds p t else t)) ∧
  (p < 6 → exec (.linkDown p) s = .next (linkLost p s)) ∧
  (p < 2 → (port s p).sfp = .absent → exec (.sfpInsert p) s = .next (onPort p (fun x => { x with sfp := .powering }) s)) ∧
  (p < 2 → (port s p).sfp = .powering → exec (.sfpPowered p) s = .next (onPort p (fun x => { x with sfp := .reading }) s)) ∧
  (∀ m, p < 2 → (port s p).sfp = .reading →
    (∀ speed, sfpJudge (portSpeed s p) m = .ok speed → exec (.sfpIdentified p m) s =
      .next (post 0x0803 p (le8 speed ++ fit 7 m.part) (onPort p (fun x => { x with sfp := .accepted, speed := speed, module := some m }) s))) ∧
    (∀ reason, sfpJudge (portSpeed s p) m = .error reason →
      ∀ t, t = post 0x0805 p (le8 reason) (onPort p (fun x => { x with sfp := .rejected, module := some m }) s) →
      exec (.sfpIdentified p m) s = .next (if ringEn t && !t.net.ring.sf.getD p false then sfBegins p t else t))) ∧
  (p < 2 → (port s p).sfp ≠ .absent →
    ∀ t, t = onPort p (fun x => { x with sfp := .absent, speed := 0, module := none }) (post 0x0804 p [] (linkLost p s)) →
    exec (.sfpOut p) s = .next (if ringEn t && !t.net.ring.sf.getD p false then sfBegins p t else t))) ∧
  (∀ s : State,
  (∀ p m, p < 2 → portUp s p = true →
    ∀ t, t = onPort p (fun x => { x with rxFrames := x.rxFrames + 1, rxOctets := x.rxOctets + rapsOctets }) s →
    ∀ u, u = (if ringEn t && !blocked t 0 && !blocked t 1 then rapsOut m none (1 - p) t else t) →
    ((u.net.ring.guard_ || m.nodeId == Config.baseMac) = true → exec (.rapsFrame p m) s = .next u) ∧
    (∀ e, (u.net.ring.guard_ || m.nodeId == Config.baseMac) = false → rapsEvent m = some e → exec (.rapsFrame p m) s = .next (ringEvent e u))) ∧
  (∀ r, s.net.ring.tx = some r → ∀ m : Raps,
    m = { request := r.request, subcode := 0, rplBlocked := r.rb, doNotFlush := r.dnf, bpr := if blocked s 0 then 0 else 1,
          nodeId := Config.baseMac } →
    exec .rapsTransmit s = .next (rapsOut m (some (moduleMac 2)) 1 (rapsOut m (some (moduleMac 1)) 0 { s with net.ring.burst := s.net.ring.burst - 1 }))) ∧
  (s.net.ring.wtr = true → exec .ringWtrExpire s = .next (ringEvent .wtrExpires s)) ∧
  (exec .ringGuardExpire s = .next { s with net.ring.guard_ := false }) ∧
  (exec .ringHoldOffExpire s =
    .next ((upTo 2).foldl (fun t p => if t.net.ring.holdOff.getD p false then sfBegins p t else t) s))) ∧
  (∀ s,
  (∀ vid mac, exec (.fdbAge vid mac) s = .next { s with net.fdb := s.net.fdb.filter fun x => !(x.vid == vid && x.mac == mac && agedOut s x) }) ∧
  (∀ p f, p < 7 → portUp s p = true → ∀ t, t = countRx p f s →
    (f.fcsOk = false → exec (.ethernetFrame p f) s = .next (onPort p (fun x => { x with rxFcs := x.rxFcs + 1 }) t)) ∧
    (f.fcsOk = true → 1522 < f.length → exec (.ethernetFrame p f) s = .next (onPort p (fun x => { x with rxLong := x.rxLong + 1 }) t)) ∧
    (f.fcsOk = true → f.length ≤ 1522 → f.etherType = 0x8808 →
      exec (.ethernetFrame p f) s = .next (onPort p (fun x => { x with rxCtrl := x.rxCtrl + 1 }) t)) ∧
    (f.fcsOk = true → f.length ≤ 1522 → f.etherType ≠ 0x8808 → isRaps f = false →
      (blocked t p = true → exec (.ethernetFrame p f) s = .next (onPort p (fun x => { x with rxBlocked := x.rxBlocked + 1 }) t)) ∧
      (blocked t p = false → ∀ vid, vid = frameVid t p f →
        (bit (vlanMembers t vid) p = false → exec (.ethernetFrame p f) s = .next (onPort p (fun x => { x with rxVlan := x.rxVlan + 1 }) t)) ∧
        (bit (vlanMembers t vid) p = true → stormAllows t p f = false → exec (.ethernetFrame p f) s = .next (stormDrop p t)) ∧
        (bit (vlanMembers t vid) p = true → stormAllows t p f = true →
          ∀ u, u = onPort p (fun x => { x with storm := if isGroup f.dst then stormRecent t p ++ [t.time.cycle] else stormRecent t p }) t →
          exec (.ethernetFrame p f) s = .next (forward p vid f (learn vid p f.src u)))))))

/-! Stores, power and the start. -/

/-- A batch left for 300 s is discarded and recorded, and so is a Ground load; a Ground commit that is verified completes with its
Stitch and its record waits for the commit, one that fails completes with STORAGE_FAULT; a change verified in its store is
persisted, and its journal entry retires when its command is complete; a Ground record copied from the eMMC is in DRAM once it is
verified, and is treated as absent when it fails (from R93, R97, R135, R136, R152). The radio's settings of a beacon Stitch take
effect in acceptance order and the stores that waited for them capture; a captured copy that is verified is in force and the
writes before its STORE retire, or its STORE fails with STORAGE_FAULT; a result copied to the result store is released from the
log; the operating counters are saved in service; a freeze ends when its time runs out; a firmware load without a command for 600
s is discarded (from R184, R355, R369, R393, R409, R410, R416). -/
def Obligations.StoreEventsAct : Prop :=
  (∀ s : State,
  (∀ b, s.tab.batch = some b → exec .tabBatchTimeout s = .next (post 0x0507 b.mailbox (le8 1) (reproject { s with tab.batch := none }))) ∧
  (∀ g, (loadOf s g).isSome = true →
    exec (.tabGroundDiscard g) s = .next (post 0x0508 g [] { s with tab.loads := s.tab.loads.filter fun l => l.seg != g })) ∧
  (∀ seg g, s.tab.commits.find? (fun g => g.seg == seg && g.begun) = some g →
    ∀ m, (upTo 16).find? (fun m => (runningCmd s m).any fun c => c.seq == g.seq) = some m → m ≠ 16 →
    ∀ t, t = { s with tab.commits := s.tab.commits.filter fun k => k.seq != g.seq } →
    exec (.groundCommitVerified seg false) s = .next (freeTask (.mailbox m) (completeWith m g.seq (.done stStorageFault []) t)) ∧
    (generationHeld t seg g.ground.generation = false →
      ∀ r, r = { g.ground with order := t.tab.groundOrder } →
      exec (.groundCommitVerified seg true) s = .next (freeTask (.mailbox m) (completeWith m g.seq (.effect (nextStitch t) (leW (nextStitch t)))
        { t with tab.groundOrder := t.tab.groundOrder + 1,
                 tab.groundDue := t.tab.groundDue ++ [⟨g.seq, seg, some r, false, false⟩] })) ∧
      ∀ e held, dueRecords e held ⟨g.seq, seg, some r, false, true⟩ = listSet held (replaceIndex held (gGeneration e)) r)) ∧
  (∀ q e, s.tab.unpersisted.find? (fun e => e.1 == q) = some e → s.sys.bankOk.getD 0 false = true →
    ∀ t, t = { s with tab.stored := applyItems e.2 s.tab.stored, tab.storedPrev := s.tab.stored, tab.storeGen := s.tab.storeGen + 1,
                      tab.unpersisted := s.tab.unpersisted.filter fun e => e.1 != q } →
    exec (.tablePersistVerified q) s = .next
      (if (upTo 16).all fun m => (box s m).cmds.all fun c => c.seq != q || c.phase == .held then retire q t else t)) ∧
  (∀ g, s.tab.reload.head? = some g → s.sys.emmcFault = false →
    exec (.groundReloadDone g true) s = .next { s with tab.reload := s.tab.reload.erase g, tab.groundDram := s.tab.groundDram ++ [g] } ∧
    exec (.groundReloadDone g false) s = .next (dropMatching g { s with tab.reload := s.tab.reload.erase g, tab.groundDram := s.tab.groundDram.erase g }))) ∧
  (∀ s : State,
  (exec .profileTakeEffect s = .next (captureStores ((upTo 4).foldl (fun t k => dutyUpdate k t) ((inOrder (s.set.due.filter fun d => d.beacon && dueNow s d)).foldl (fun t d => applyDue d t)
    { s with set.due := s.set.due.filter fun d => !(d.beacon && dueNow s d) })))) ∧
  (∀ x rest t, s.set.stores = x :: rest → x.captured = some t → exec (.settingsStoreVerified false) s = .next (storeFailed x s)) ∧
  (∀ x rest t, s.set.stores = x :: rest → x.captured = some t → ∀ gen, gen = s.set.storedGen + 1 →
    ∃ u, exec (.settingsStoreVerified true) s = .next u ∧ u.set.storedGen = gen ∧ u.set.lastCopy = storeTarget s.set ∧
    (∀ k, k < s.set.copies.length → k = storeTarget s.set → (u.set.copies.getD k default).valid = true ∧
      (u.set.copies.getD k default).storedGen = gen ∧ (u.set.copies.getD k default).sections = t ∧
      (u.set.copies.getD k default).workGen = x.generation) ∧
    (∀ j, j ≠ storeTarget s.set → u.set.copies.getD j default = s.set.copies.getD j default) ∧
    u.set.unretired = (s.set.unretired.filter fun w => !serialBefore w.1 x.seq)) ∧
  (∀ q : U32, ∀ live, live = (fun k : Nat => s.jnl.log.any fun i => i.live && i.entry.any fun e => e.seq == q && e.kind == k && (k != jkDone || u32At e.body 4 ≤ 256)) →
    ((live jkEffect || live jkDone) && !live jkCommand && !s.sys.emmcFault) = true →
    exec (.resultStoreCopy q) s = .next
      { s with mbx.boxes := s.mbx.boxes.map fun b => { b with slots := b.slots.map fun r => if r.seq == q then { r with copied := true } else r },
               jnl := spaceHolds { s.jnl with log := releaseLog (fun e => e.seq == q && (e.kind == jkEffect || e.kind == jkDone)) s.jnl.log } }) ∧
  (running s = true → exec .operatingCountersSave s = .next (saveCounters s)) ∧
  (exec .freezeExpire s = .next (endFreeze 1 s)) ∧
  (exec .updLoadTimeout s = .next { s with sys.load := none, sys.loadNext := none }))

/-- The warning, in service, misses the tries in flight, takes the ports down, closes the network sessions and saves; before the
first boundary it ends the start without a save. The last gasp commits, saves, sets LG_DONE and leaves the SoC in reset. An input
that stands again gives a start of kind DIP; a new input starts with the kind that LG_DONE tells, and a sequence cut short was
missed. A pending reset is made at its boundary as a PLANNED one (from R373, R376, R400, R413, R414, R417). A0's stop ends
acceptance, counts, and is recorded; on its return every session has closed, and the panel's own opens again. The loss of a DRAM
die is recorded and loses what only that die held; a lost bank is not used again; a lost eMMC stops its users; the hold-up
measured is kept, and its edge recorded (from R22, R23, R372, R404, R415, R470). -/
def Obligations.PowerAndPartFaultsAct : Prop :=
  (∀ s : State,
  (∀ w, w = { s with sys.pfWarn := true, sys.pfWarnCnt := s.sys.pfWarnCnt + 1 } →
    (s.sys.phase = .run →
      ∀ a, a = (upTo 4).foldl (fun t k => match (shuttle t k).awaiting with | some x => tryMissed k x t | none => t) w →
      ∀ b, b = (upTo 6).foldl (fun t k => linkLost k t) a →
      ∀ c, c = (upTo 14).foldl (fun t m => if (box t m).session == .closed then t else dropSession m t) b →
      exec .powerFailWarning s = .next (gaspSave 2 { c with sys.phase := .lastGasp, sys.lgDone := false })) ∧
    (s.sys.phase = .wait → exec .powerFailWarning s = .next (onRunPhase .off (resetSoc true w)))) ∧
  (∀ us, s.sys.phase = .lastGasp →
    ∃ t, exec (.lastGaspComplete us) s = .next t ∧ t.sys.phase = .gaspDone ∧ t.sys.lgDone = true ∧ t.sys.lgLastUs = satU 16 us ∧
      t.tmb = State.reset.tmb ∧ t.skn = State.reset.skn ∧ t.bob = State.reset.bob) ∧
  (s.sys.phase = .gaspDone → exec .dipReturn s = .next { s with sys.phase := .supply, sys.kind := 2, sys.baseKind := 2, sys.causeBits := 0 }) ∧
  ((s.sys.phase = .off ∨ s.sys.phase = .gaspDone) → exec .dcInputOn s = .next (dcStart (if s.sys.lgDone then 0 else 1) s)) ∧
  (s.sys.phase = .lastGasp → ∃ t, exec .dcInputOn s = .next t ∧ t.sys.phase = .supply ∧ t.sys.kind = 1 ∧ t.sys.lgMissed = s.sys.lgMissed + 1) ∧
  (∀ p, s.sys.pendingReset = some p → running s = true → serialAtOrBefore p.boundary (nextStitch s) = true →
    ∀ t, t = resetSoc true (startSlot p (saveCounters (commitAll (samplerStitchEnd (gaspSave 3 s))))) →
    exec .plannedReset s = .next { t with sys.phase := .supply, sys.kind := 3, sys.baseKind := 3, sys.causeBits := 0 })) ∧
  (∀ s : State,
  (running s = true → s.mbx.a0Running = true → exec .a0Stop s = .next (post 0x0104 noSource (leW (s.tmb.a0Stop + 1))
    { s with mbx.a0Running := false, mbx.a0Stops := s.mbx.a0Stops + 1, tmb.a0Stop := s.tmb.a0Stop + 1 })) ∧
  (running s = true → s.mbx.a0Running = false →
    ∀ a, a = (upTo 16).foldl (fun t m => if (box t m).session == .closed then t else dropSession m t) s →
    ∀ b, b = { a with mbx.a0Running := true } → ∀ c, c = (if bindEn b.sec.prot 15 then openSession 15 .opened b else b) →
    exec .a0Return s = .next (windowMessages (if c.pnl.connected && bindEn c.sec.prot 14 then openSession 14 .loginWait c else c))) ∧
  (∀ d, d < 2 → running s = true → s.sys.diesLost.contains d = false →
    ∀ t, t = loseLong (post 0x0208 d [] { s with sys.diesLost := s.sys.diesLost ++ [d] }) →
    exec (.dramDieLost d) s = .next
      { t with tab.groundDram := [], tab.reload := (usedSegs t).filter (fun g => (matching t g).isSome),
               met.snaps := t.met.snaps.map fun x => if x.archived then x else { x with coded := none, lost := true } }) ∧
  (∀ b, b < 2 → s.sys.bankOk.getD b false = true → exec (.mramBankFault b) s = .next (loseBank b s)) ∧
  (running s = true → exec .emmcFault s = .next { s with jnl.resultsDown := true, sys.emmcFault := true }) ∧
  (∀ ms open_, ∀ t, t = { s with sys.holdupMs := satU 16 ms, sys.holdupLow := decide (ms < 150), sys.bankFault := open_ || decide (ms < 25) } →
    (decide (ms < 150) = s.sys.holdupLow → exec (.holdupMeasure ms open_) s = .next t) ∧
    (decide (ms < 150) ≠ s.sys.holdupLow →
      exec (.holdupMeasure ms open_) s = .next (bootRecord 0x014D noSource (edge (decide (ms < 150)) ++ le16 (satU 16 ms)) t))))

/-- A watchdog or memory-error reset of a SoC that runs carries its kind and cause bits, starts again from the supply phase, and
keeps the RTC, the settings copies, the protection table, the areas of the Sampler, the mailboxes' slots and the log; the Tambour,
the Skeins, the Bobbins, the chain and the working copy of the settings are as reset leaves them (from R23, R373, R376, R384). -/
def Obligations.FaultResetsKeepWhatIsStored : Prop := ∀ s cut, socRuns s = true → ∀ i kind cause, (i, kind, cause) ∈
    [(Instr.watchdogReset .k0 cut, 5, 256), (Instr.watchdogReset .t0 cut, 5, 512), (Instr.watchdogReset .fabric cut, 5, 1024),
     (Instr.memoryErrorReset cut, 7, 32768)] →
  ∃ t, exec i s = .next t ∧ t.sys.phase = .supply ∧ t.sys.kind = kind ∧ t.sys.causeBits = BitVec.ofNat 32 cause ∧
    t.rtc = s.rtc ∧ t.set.copies = s.set.copies ∧ t.set.working = State.reset.set.working ∧ t.sec.prot = s.sec.prot ∧
    t.smp.selvedge = s.smp.selvedge ∧ t.smp.round = s.smp.round ∧ t.smp.intake = [] ∧ t.jnl.log = s.jnl.log ∧ t.jnl.batch = [] ∧
    t.jnl.nextSeq = s.jnl.nextSeq ∧ (∀ m, m < s.mbx.boxes.length → (box t m).slots = (box s m).slots ∧ (box t m).session = .closed) ∧
    t.tmb = State.reset.tmb ∧ t.skn = State.reset.skn ∧ t.bob = State.reset.bob ∧ t.chain = State.reset.chain ∧
    t.pending = s.pending

/-- Each phase of a start begins when the one before it ends. The supply phase ends with the boot ROM; the boot selects the image;
the memory phase notes the parts that failed and goes on, unless bank 0 is one of them, which leaves LOADER; the restoration runs
in the order of Table 17.1 and hands the commands not complete to their mailboxes; at the first boundary the generator starts in
FREE at a whole TAI second, the Skeins are allocated, and the first commit begins (from R39, R56, R94, R374, R386, R399, R403,
R404, R470). -/
def Obligations.StartRunsItsPhases : Prop := ∀ s : State,
  (s.sys.phase = .supply → exec .supplyPhaseDone s = .next { s with sys.phase := .boot, sys.bankCharging := false }) ∧
  (∀ a b, s.sys.phase = .boot → exec (.boot a b) s = .next (selectImage (fun k => if k = 0 then a else b) (readRtcFlags s))) ∧
  (∀ d0 d1 emmc b1, s.sys.phase = .memory → ∀ dies : List Nat, dies = (if d0 then [] else [0]) ++ (if d1 then [] else [1]) →
    ∀ t, t = { s with time.plls := List.replicate 12 true, sys.diesLost := dies, sys.emmcFault := !emmc, sys.bankOk := [true, true] } →
    ∀ u, u = (if b1 then wholeRound (dies.foldl (fun t d => bootRecord 0x0208 d [] t) t)
      else loseBank 1 (dies.foldl (fun t d => bootRecord 0x0208 d [] t) t)) →
    exec (.memoryReady d0 d1 emmc true b1) s = .next { u with sys.phase := .restore } ∧
    exec (.memoryReady d0 d1 emmc false b1) s = .next (enterLoader { u with sys.bankOk := listSet u.sys.bankOk 0 false })) ∧
  (∀ f, s.sys.phase = .restore →
    ∀ a, a = chooseJournal f (settingsEvents (startEvents (expectStitch (seedTime (restoreSettings f (startCounts s)))))) →
    ∀ b, b = restoreKeys (restoreMetering f (fittedAtBoundary (replayLoads (rebuildSettings (replayMailboxes f a))))) →
    ∀ c, c = restoreTables f (restoreSampler f b) →
    ∀ d, d = buildPlans (restoreOutputs (restoreSnaps (replayReleases ((liveEntries c jkPinCmd).foldl replayPin c)))) →
    exec (.restore f) s = .next (postMailboxTasks { d with jnl := spaceHolds { d.jnl with replayDone := true }, sys.phase := .wait })) ∧
  (s.sys.phase = .wait → ∀ b, b = (taiNs s + 500000000) / 1000000000 * 1000000000 → ∀ n, n = stitchNumberAt s.stitch.period b →
    ∀ ms, ms = satU 16 (s.time.cycle / 400000) →
    ∀ st, st = { s.stitch with run := true, number := n, state := .free, phase := 0, step := 0, lastBoundary := b,
                               nextBoundary := b + s.stitch.period * 1000000, busy := true } →
    ∀ q, q = requeuePins { s with stitch := st, smp.intake := s.smp.intake.map (fun e : Event => { e with stitch := n }), skn.skeins := skeinsAllocated,
                                  lace.inService := List.replicate 8 true } →
    ∀ t, t = { q with sys.phase := .run, sys.startMs := ms, sys.startCycle := s.time.cycle, sys.latched := [], sys.bootEvents := [] } →
    q = { s with stitch := st, smp.intake := s.smp.intake.map (fun e : Event => { e with stitch := n }), skn := q.skn, lace.inService := List.replicate 8 true } ∧
    ∀ u, u = chainRateChanged 0 (ringSettings (usbRefresh t)) →
    ∀ v, v = postClosing (samplerStitchEnd (if bindEn u.sec.prot 15 then openSession 15 .opened u else u)) →
    exec .firstBoundaryRelease s = .next (sealBatch true (sealWork
      (post 0x0140 v.sys.running (leW (runningImage v).version ++ le16 ms ++ edge (isTrial v)) v))))

/-! Mailboxes and commits. -/

/-- A TLS client whose credential is an enabled binding's opens that mailbox, an open session on it being replaced and recorded;
any other client is counted and recorded; a module that is not in service, or whose A0 has stopped, answers nothing. A session
closed loses its state and owed answers; a partial message of the service port leaves nothing; the login block and maintenance
mode end (from R321, R322, R338, R340). SEC_NONCE gives 16 random bytes, which replace any nonce before; SEC_LOGIN uses the nonce
up, and opens the session when its proof is the HMAC of a nonce no older than 60 s and no block holds; else it is answered
AUTH_FAILED, recorded, and the fifth failure within 10 min blocks; outside LOGIN_WAIT both are DENIED, and on another mailbox
BAD_OPCODE (from R322, R342). -/
def Obligations.SessionsAndLoginAct : Prop :=
  (∀ s : State,
  (∀ cred, running s = true → s.mbx.a0Running = true →
    (bindingOf s cred = none → ∀ l, l = (s.mbx.handshakeFails.filter fun c => s.time.cycle - c < 600 * cyclesPerSec) ++ [s.time.cycle] →
      exec (.tlsSessionOpen cred) s = .next (post 0x0301 noSource (le8 (satU 8 l.length)) { s with mbx.handshakeFails := l })) ∧
    (∀ m, bindingOf s cred = some m → (box s m).session = .closed → ∃ t, exec (.tlsSessionOpen cred) s = .next t ∧
      t = { s with mbx.boxes := t.mbx.boxes } ∧ (∀ k, k ≠ m → box t k = box s k) ∧
      (m < s.mbx.boxes.length → box t m = { box s m with session := .opened, lastWindow := windowOf s m, sessions := (box s m).sessions + 1 })) ∧
    (∀ m, bindingOf s cred = some m → (box s m).session ≠ .closed →
      exec (.tlsSessionOpen cred) s = .next (openSession m .opened (post 0x0302 m [] (dropSession m s))))) ∧
  (∀ cred, running s = false ∨ s.mbx.a0Running = false → exec (.tlsSessionOpen cred) s = .next s) ∧
  (∀ m, m < 14 → (box s m).session ≠ .closed → exec (.sessionClose m) s = .next (dropSession m s)) ∧
  (∀ m, m < s.mbx.boxes.length → (box (dropSession m s) m).session = .closed ∧ (box (dropSession m s) m).answers = [] ∧
    (box (dropSession m s) m).cmds = (box s m).cmds ∧ (∀ f, s.smp.freeze = some f → f.mailbox = m → (dropSession m s).smp.freeze = none)) ∧
  (exec .usbPartialTimeout s = .next s) ∧
  (s.mbx.loginBlocked = true → exec .loginBlockEnd s = .next { s with mbx.loginBlocked := false, mbx.loginFails := [] }) ∧
  (s.mbx.loginBlocked = false → exec .loginBlockEnd s = .next s) ∧
  (s.mbx.maintUntil.isSome = true → exec .maintExpire s = .next (post 0x030A noSource [] { s with mbx.maintUntil := none })) ∧
  (s.mbx.maintUntil = none → exec .maintExpire s = .next s)) ∧
  (∀ s (r : Request), a0Takes s r.session = true →
  ∀ h, h = messageOf 0x0802 r → ∀ g, g = messageOf 0x0801 r → kindOf r.flags = kRequest →
  headerCheck r.session h = .ok → headerCheck r.session g = .ok →
  (r.session ≠ 14 → exec (.secNonce (.request r)) s = .next (refuseRequest r.session g stBadOpcode [] s) ∧
    exec (.secLogin (.request r)) s = .next (refuseRequest r.session h stBadOpcode [] s)) ∧
  (r.session = 14 → (box s 14).session ≠ .loginWait → exec (.secNonce (.request r)) s = .next (refuseRequest 14 g stDenied [] s) ∧
    exec (.secLogin (.request r)) s = .next (refuseRequest 14 h stDenied [] s)) ∧
  (r.session = 14 → (box s 14).session = .loginWait →
    (r.payload = [] → ∀ n, n = fit 16 (Config.random s.freeCtr 16) → exec (.secNonce (.request r)) s =
      .next (send 14 kResult false 0x0801 0 r.tag stOk n { s with freeCtr := s.freeCtr + 1, mbx.nonce := some n, mbx.nonceAt := s.time.cycle })) ∧
    (r.payload.length = 32 → ∀ n, s.mbx.nonce = some n → s.time.cycle - s.mbx.nonceAt ≤ 60 * cyclesPerSec → s.mbx.loginBlocked = false →
      r.payload = Config.hmacSha256 s.sec.service (n ++ Config.eui64) → exec (.secLogin (.request r)) s =
        .next (send 14 kResult false 0x0802 0 r.tag stOk (le8 (principalOf s 14) ++ zeros 3 ++ le32 (rightsOf s 14))
          (openSession 14 .opened { s with mbx.nonce := none }))) ∧
    (r.payload.length = 32 → (s.mbx.nonce = none ∨ 60 * cyclesPerSec < s.time.cycle - s.mbx.nonceAt ∨ s.mbx.loginBlocked = true ∨
        ∃ n, s.mbx.nonce = some n ∧ r.payload ≠ Config.hmacSha256 s.sec.service (n ++ Config.eui64)) →
      ∀ l, l = (s.mbx.loginFails.filter fun c => s.time.cycle - c < 600 * cyclesPerSec) ++ (if s.mbx.loginBlocked then [] else [s.time.cycle]) →
      exec (.secLogin (.request r)) s = .next (send 14 kResult false 0x0802 0 r.tag stAuthFailed [] (post 0x0301 14 (le8 (satU 8 l.length))
        { s with mbx.nonce := none, mbx.loginFails := l, mbx.loginBlocked := s.mbx.loginBlocked || decide (5 ≤ l.length) })))))

/-- A request of any command of the table that passes every check takes the next acceptance sequence, joins the open batch with
its COMMAND entry, takes a place in its mailbox, and is kept in its mailbox's tags; its ACCEPTED waits for the commit; every other
mailbox is as before; a WINDOW message follows where one is due (from R326-R330). -/
def Obligations.RequestsAreAccepted : Prop := ∀ s i spec r, mailboxRow i = some (spec, .request r) → ∀ m, m = r.session →
  ∀ h, h = messageOf spec.opcode r → Clear s m spec.needs h → allowed s m spec.needs = true → spec.check m h.payload s = none →
  m < s.mbx.boxes.length → ∀ seq, seq = s.jnl.nextSeq →
  ∀ c : Cmd, c = ⟨m, seq, spec.opcode, r.tag, pushOf r.flags, r.payload, principalOf s m, BitVec.ofNat 32 (rightsOf s m), maintOn s, .batched, 0, 0,
    [], false, false⟩ →
  ∃ t, exec i s = .next (windowMessage m t) ∧
    t.jnl = { s.jnl with
      nextSeq := seqNext seq
      batch := s.jnl.batch ++ [⟨seq, 1, 0, m, commandBody m h (principalOf s m) (rightsOf s m) (maintOn s) seq⟩] } ∧
    (∀ k, k ≠ m → box t k = box s k) ∧
    (box t m).cmds = (box s m).cmds ++ [c] ∧ (box t m).tags = (box s m).tags ++ [⟨r.tag, spec.opcode, payloadCrc r.payload, seq, 0, false⟩] ∧
    ((box s m).answers = [] → (∀ x ∈ (box s m).tags, x.seq ≠ seq) →
      (box t m).answers = [.accepted seq spec.opcode r.tag] ∧ t.mbx.sent = s.mbx.sent)

/-- A header that fails R325, a duplicate tag, a session not logged in, a lack of rights, the first payload check that fails, and
an opcode that no command has: each has its answer, and none becomes accepted work; a request that A0 does not take now, or that
the panel does not send, changes nothing (from R325, R326, R329, R335, R343, R348). -/
def Obligations.RequestsAreRefused : Prop :=
  (∀ s i spec r, mailboxRow i = some (spec, .request r) → ∀ m, m = r.session →
  ∀ h, h = messageOf spec.opcode r →
  ∀ refused : State → Nat → Bytes → Prop, refused = (fun u st d => ∃ t, exec i s = .next t ∧ Refused u t m spec.opcode r.tag st d) →
  ((a0Takes s m && panelSends s m spec.opcode spec.needs) = false → exec i s = .next s) ∧
  ((a0Takes s m && panelSends s m spec.opcode spec.needs) = true →
    (∀ st d, headerCheck m h = .refuse st d → refused s st d) ∧
    (headerCheck m h = .close → exec i s = .next (post 0x0303 m [] (dropSession m s))) ∧
    (headerCheck m h = .discard → exec i s = .next (onBox 14 (fun b => { b with usbCrcErr := sat16Inc b.usbCrcErr }) s)) ∧
    (headerCheck m h = .ok → kindOf h.flags = kRequest →
      ((box s m).session = .loginWait → refused s stDenied []) ∧
      ((box s m).session ≠ .loginWait → s.sys.phase = .loader → spec.loader = false → refused s stBadOpcode []) ∧
      ((box s m).session ≠ .loginWait → s.sys.phase ≠ .loader →
        (∀ x, tagMatch (box s m) r.tag = some x → ¬(x.opcode = spec.opcode ∧ x.crc = payloadCrc r.payload) → refused s stConflict []) ∧
        (∀ x, tagMatch (box s m) r.tag = some x → x.opcode = spec.opcode → x.crc = payloadCrc r.payload → ∃ t, exec i s = .next t ∧
          t = { s with mbx.boxes := t.mbx.boxes, mbx.sent := t.mbx.sent } ∧ (∀ k, k ≠ m → box t k = box s k) ∧
          (box t m).cmds = (box s m).cmds ∧ (box t m).tags = (box s m).tags ∧
          (m < s.mbx.boxes.length → (box t m).dupCnt = (box s m).dupCnt + 1) ∧
          (m < s.mbx.boxes.length → (box s m).answers = [] → (box s m).session ≠ .closed → s.mbx.a0Running = true →
            ∀ y, tagOf (box s m) x.seq = some y →
            (y.committed = true → t.mbx.sent = s.mbx.sent ++ [⟨m, kAccepted, false, windowOf s m, spec.opcode, x.seq, r.tag, 0, leW y.stitch⟩]) ∧
            (y.committed = false → (box t m).answers = [.repeated x.seq spec.opcode r.tag] ∧ t.mbx.sent = s.mbx.sent))) ∧
        (tagMatch (box s m) r.tag = none → allowed s m spec.needs = false → refused s stDenied []) ∧
        (tagMatch (box s m) r.tag = none → allowed s m spec.needs = true → ∀ st d, spec.check m r.payload s = some (st, d) →
          refused (spec.onRefuse r.payload st s) st d))))) ∧
  (∀ s m (h : Message), a0Takes s m = true → kindOf h.flags = kRequest →
  headerCheck m h = .ok → (box s m).session ≠ .loginWait →
  ∃ t, exec (.unknownOpcodeRequest m h) s = .next t ∧ Refused s t m h.opcode h.tag stBadOpcode [])

/-- A SLOT_READ of its own mailbox is answered at once: a command not complete is PENDING with its state, a result kept comes
again with REPEAT, one whose long result is lost is RESULT_LOST, one released is EXPIRED, and any other sequence UNKNOWN_SEQ;
beside the mailboxes nothing changes (from R333 and Table 13.3). -/
def Obligations.SlotReadsAnswer : Prop := ∀ s m (h : Message), a0Reads s m = true → headerCheck m h = .ok → kindOf h.flags = kSlotRead →
  (box s m).session ≠ .loginWait → (box s m).session ≠ .closed →
  ∀ answers : Bool → Nat → U32 → Nat → Bytes → Prop, answers = (fun rep op tag st p => ∃ t, exec (.slotRead m h) s = .next t ∧
    t = { s with mbx.boxes := t.mbx.boxes, mbx.sent := t.mbx.sent } ∧ t.mbx.sent = s.mbx.sent ++
      [⟨m, kResult, rep, windowOf s m, op, h.seq, tag, st, p⟩]) →
  (∀ c, (box s m).cmds.find? (fun c => c.seq == h.seq && c.phase != .batched && (tagOf (box s m) h.seq).any (·.committed)) = some c →
    answers false c.opcode c.tag stPending (le8 (match c.phase with | .waiting => 0 | .held => 2 | _ => 1) ++ zeros 3)) ∧
  ((box s m).cmds.find? (fun c => c.seq == h.seq && c.phase != .batched && (tagOf (box s m) h.seq).any (·.committed)) = none →
    (∀ x, (box s m).slots.find? (fun x => x.seq == h.seq) = some x →
      ((x.lost || (x.copied && s.jnl.resultsDown)) = false → answers true x.opcode x.tag x.status x.result) ∧
      ((x.lost || (x.copied && s.jnl.resultsDown)) = true → answers false x.opcode x.tag stResultLost (le16 x.status ++ le16 0))) ∧
    ((box s m).slots.find? (fun x => x.seq == h.seq) = none →
      ((box s m).released.contains h.seq = true → answers false 0 h.tag stExpired []) ∧
      ((box s m).released.contains h.seq = false → answers false 0 h.tag stUnknownSeq [])))

/-- Unless a boundary may not come, both rows run it. The number advances by 1, or, where the time base has stepped by more than
half a period, follows R33 forward, with the Stitches left out counted, or keeps counting with the offset kept; a stored period
that is due is in force with the number of its own grid; the Stitch that begins is its period long within 1/2000; and the
boundary's commit begins, unless one is in progress (from R34-R38, R367). -/
def Obligations.BoundaryAdvancesTheStitch : Prop := ∀ s : State, ∀ g, g = s.stitch →
  (boundaryFree s = false → exec .stitchBoundary s = .next s ∧ exec .stitchPeriodChange s = .next s) ∧
  (boundaryFree s = true → ∃ t, exec .stitchBoundary s = .next t ∧
    t.stitch.busy = true ∧ t.stitch.lastBoundary = g.nextBoundary ∧ t.stitch.step = 0 ∧
    (t.stitch.nextBoundary : Int) - g.nextBoundary ≤ t.stitch.period * 1000000 + t.stitch.period * 500 ∧
    (t.stitch.period : Int) * 1000000 - t.stitch.period * 500 ≤ t.stitch.nextBoundary - g.nextBoundary ∧
    (∀ p, periodDue s = some p → exec .stitchPeriodChange s = .next t ∧ t.stitch.period = p ∧ t.stitch.newPeriod = none ∧
      t.stitch.number = BitVec.ofNat 32 (gridIndex (p * 1000000) g.nextBoundary) ∧ t.stitch.offset = 0) ∧
    (periodDue s = none → exec .stitchPeriodChange s = .next s ∧ t.stitch.period = g.period ∧ t.stitch.newPeriod = g.newPeriod ∧
      (g.step.natAbs ≤ g.period * 500000 → t.stitch.number = g.number + 1 ∧ t.stitch.offset = g.offset ∧ t.stitch.skip = g.skip) ∧
      (g.period * 500000 < g.step.natAbs →
        ∀ would, would = g.number + 1 → ∀ r33, r33 = BitVec.ofNat 32 (gridIndex (g.period * 1000000) g.nextBoundary) →
        (0 < g.step ∧ serialBefore would r33 = true →
          t.stitch.number = r33 ∧ t.stitch.offset = 0 ∧ t.stitch.skip = g.skip + (r33 - would)) ∧
        (¬(0 < g.step ∧ serialBefore would r33 = true) →
          t.stitch.number = would ∧ t.stitch.offset = would - r33 ∧ t.stitch.skip = g.skip))) ∧
    (s.jnl.committing = none → ∃ b, t.jnl.committing = some b ∧ b.boundary = true ∧ t.jnl.batch = [] ∧ t.jnl.stitchOfCommit = t.stitch.number))

/-- A batch over 4 KB commits between boundaries, and a smaller one does not; a commit that is verified in a copy in use does its
entries' work and counts, and is followed by what its kind asks for; with both copies failed it does not complete, and both banks
are lost (from R326-R328, R367, R368, R470). -/
def Obligations.CommitsComplete : Prop := ∀ s : State,
  ((running s = true ∨ s.sys.phase = .wait) → s.jnl.committing = none → 4096 < batchBytes s.jnl.batch →
    exec .journalBatchCommit s = .next (sealBatch false (sealWork s))) ∧
  (batchBytes s.jnl.batch ≤ 4096 → exec .journalBatchCommit s = .next s) ∧
  (∀ c0 c1 us, s.jnl.committing = none → exec (.journalCommitDone c0 c1 us) s = .next s) ∧
  (∀ b us, s.jnl.committing = some b → (s.jnl.copy0Ok = true ∨ s.jnl.copy1Ok = true) →
    ∀ t, t = { s with jnl.committing := none, jnl.commitNo := s.jnl.commitNo + 1, jnl.commits := s.jnl.commits + 1,
                      jnl.lastSeq := ((b.entries.filter fun e => e.kind ≤ 5).map (·.seq)).getLast?.getD s.jnl.lastSeq,
                      jnl.batchCommits := s.jnl.batchCommits + (if b.boundary then 0 else 1),
                      jnl.commitMax := max s.jnl.commitMax (satU 16 us) } →
    exec (.journalCommitDone .verified .verified us) s = .next
      (if running (commitWork b t) = false then commitWork b t
       else if b.boundary then boundaryWork (commitWork b t)
       else if (commitWork b t).stitch.busy then beginCommit (commitWork b t) else postMailboxTasks (commitWork b t))) ∧
  (∀ b us, s.jnl.committing = some b → s.jnl.copy0Ok = true → s.jnl.copy1Ok = true →
    exec (.journalCommitDone .failed .failed us) s = .next (loseBank 1 (loseBank 0 s)))

/-- The execution of TAB_PIN_READ, TAB_EDGE_READ and TAB_SEG_READ answers the live image, under its generation, and changes
nothing; a request that is otherwise in order and reaches beyond Pin 9215, edge 9215 or road segment 1023 is refused with RANGE
(R96). -/
def Obligations.TableReadsAnswerOneGeneration : Prop := ∀ s : State,
  (∀ m c, ∀ l, l = span (u16At c.payload 0) (u16At c.payload 2) →
    (Executing s m c 0x0204 → Reads (.tabPinRead (.run m)) s m c (leW s.tab.generation ++ l.flatMap fun p =>
      (if bit (u8At c.payload 4) 0 then pinConf s.tab.live p else []) ++ (if bit (u8At c.payload 4) 1 then stateHalf s p else []))) ∧
    (Executing s m c 0x0211 → Reads (.tabEdgeRead (.run m)) s m c (leW s.tab.generation ++ l.flatMap (pinEdges s.tab.live))) ∧
    (Executing s m c 0x0222 → Reads (.tabSegRead (.run m)) s m c (leW s.tab.generation ++ l.flatMap (segEntry s.tab.live)))) ∧
  (∀ r : Request, ∀ p, p = r.payload → bit (rightsOf s r.session) 2 = true →
    ∀ refused : Instr → Nat → Prop, refused = (fun i op => Clear s r.session (.right 2) (messageOf op r) →
      ∃ t, exec i s = .next t ∧ Refused s t r.session op r.tag stRange []) →
    (p.length = 8 → slice p 5 3 = zeros 3 → 1 ≤ u8At p 4 → u8At p 4 ≤ 3 → 1 ≤ u16At p 2 → u16At p 2 ≤ 60 → 9216 < u16At p 0 + u16At p 2 →
      refused (.tabPinRead (.request r)) 0x0204) ∧
    (p.length = 4 → 1 ≤ u16At p 2 → u16At p 2 ≤ 112 → 9216 < u16At p 0 + u16At p 2 → refused (.tabEdgeRead (.request r)) 0x0211) ∧
    (p.length = 4 → 1 ≤ u16At p 2 → u16At p 2 ≤ 31 → 1024 < u16At p 0 + u16At p 2 → refused (.tabSegRead (.request r)) 0x0222))

/-- SYS_STITCH_SET schedules a change that writes the Stitch period into the working copy; a STORE that is verified has a period
that differs from the stored one wait for the first whole TAI second at least 2 s later, from which a boundary takes it; a request
with a period outside the five values is refused with BAD_PAYLOAD (R357). -/
def Obligations.StitchPeriodIsSet : Prop := ∀ s : State,
  (∀ m c, Executing s m c 0x0108 → Schedules (.sysStitchSet (.run m)) s m c (effectAfterCommit c s) false
    (.settings 1 0 (slice c.payload 0 2)) (leW (genAfter s c.seq))) ∧
  (∀ d : Due, ∀ b, d.change = .settings 1 0 b → b.length = 2 → 2 ≤ (sect s 1).length → setU16 (applyDue d s) 1 0 = u16At b 0) ∧
  (∀ x rest t, s.set.stores = x :: rest → x.captured = some t → ∀ p, p = u16At (tabGetD t 1 []) 0 →
    p ≠ u16At (tabGetD (storedSections s) 1 []) 0 → p ≠ s.stitch.period → ∃ u, exec (.settingsStoreVerified true) s = .next u ∧
      u.stitch = { s.stitch with newPeriod := some (p, (taiNs s + 2999999999) / 1000000000) }) ∧
  (∀ r : Request, Clear s r.session (.right 1) (messageOf 0x0108 r) → bit (rightsOf s r.session) 1 = true → r.payload.length = 4 →
    slice r.payload 2 2 = zeros 2 → u16At r.payload 0 ∉ [10, 20, 25, 40, 50] →
    ∃ t, exec (.sysStitchSet (.request r)) s = .next t ∧ Refused s t r.session 0x0108 r.tag stBadPayload [])

/-- Of the commands at the head of a mailbox's queue, all those whose completion is committed leave it, their RESULTs pushed in
that order where PUSH asks for them, and the first that is not complete keeps its place with every command behind it; the commands
of other mailboxes stay (from R331, R332). -/
def Obligations.ResultsLeaveInOrder : Prop := ∀ (s : State) (m : Nat) (done rest : List Cmd), m < s.mbx.boxes.length →
  (box s m).cmds = done ++ rest → (∀ c ∈ done, c.phase = .held) → (∀ c, rest.head? = some c → c.phase ≠ .held) →
  ((done ++ rest).map (·.seq)).Nodup → (box s m).session ≠ .closed → s.mbx.a0Running = true →
  ∀ t, t = produceResults m (done ++ rest).length s →
  (box t m).cmds = rest ∧ t.mbx.sent.map (·.seq) = s.mbx.sent.map (·.seq) ++ (done.filter (·.push)).map (·.seq) ∧
  (∀ k, k ≠ m → (box t k).cmds = (box s k).cmds)

/-- Every command of Table 14.2 that is accepted work has the opcode and the Needs of its row; a right is one of the mask that the
principal's row and the binding's give together, ROOT and AUDITOR are the principal of the binding, whatever the mask, and
maintenance mode is the module's now (from R335, R344). -/
def Obligations.CommandsHaveTheirOpcodesAndNeeds : Prop := ∀ (op : CmdStep) (has : Instr → Nat → Needs → Prop),
  has = (fun i o n => ∃ spec, mailboxRow i = some (spec, op) ∧ spec.opcode = o ∧ spec.needs = n) →
  (∀ s m b, allowed s m (.right b) = bit (protRights s.sec.prot (principalOf s m) &&& bindMask s.sec.prot m) b) ∧
  (∀ s m, (allowed s m .root = true ↔ principalOf s m = 0) ∧ (allowed s m .rootOrAuditor = true ↔ principalOf s m = 0 ∨ principalOf s m = 4) ∧
    (allowed s m .rootMaint = true ↔ principalOf s m = 0 ∧ s.mbx.maintUntil ≠ none) ∧ allowed s m .any = true) ∧
  has (.sysIdentify op) 0x0101 rSysRead ∧ has (.sysStatus op) 0x0102 rSysRead ∧ has (.sysCounters op) 0x0103 rSysRead ∧
  has (.sysNop op) 0x0104 rSysRead ∧ has (.sysIoRead op) 0x0105 rSysRead ∧ has (.sysSettingsDigest op) 0x0106 rSysRead ∧
  has (.sysInputSet op) 0x0107 rSysControl ∧ has (.sysStitchSet op) 0x0108 rSysControl ∧ has (.sysReset op) 0x0109 rSysControl ∧
  has (.sysStore op) 0x010A rStore ∧ has (.sysRevert op) 0x010B rStore ∧ has (.sysFactory op) 0x010C .root ∧
  has (.tabPinWrite op) 0x0201 rTableWrite ∧ has (.tabPinClear op) 0x0202 rTableWrite ∧ has (.tabPinSet op) 0x0203 rTableWrite ∧
  has (.tabPinRead op) 0x0204 rTableRead ∧ has (.tabPinClearFault op) 0x0205 rTableWrite ∧ has (.tabEdgeWrite op) 0x0210 rTableWrite ∧
  has (.tabEdgeRead op) 0x0211 rTableRead ∧ has (.tabSegWrite op) 0x0220 rTableWrite ∧ has (.tabSegClear op) 0x0221 rTableWrite ∧
  has (.tabSegRead op) 0x0222 rTableRead ∧ has (.tabBatchOpen op) 0x0230 rTableWrite ∧ has (.tabBatchClose op) 0x0231 rTableWrite ∧
  has (.tabBatchAbort op) 0x0232 rTableWrite ∧ has (.tabDigest op) 0x0240 rTableRead ∧ has (.tabGroundBegin op) 0x0250 rTableWrite ∧
  has (.tabGroundData op) 0x0251 rTableWrite ∧ has (.tabGroundCommit op) 0x0252 rTableWrite ∧ has (.tabGroundAbort op) 0x0253 rTableWrite ∧
  has (.tabGroundRead op) 0x0254 rTableRead ∧ has (.tabGroundStatus op) 0x0255 rTableRead ∧ has (.tabGroundDelete op) 0x0256 rTableWrite ∧
  has (.litProfileWrite op) 0x0301 rScheduleWrite ∧ has (.litProfileRead op) 0x0302 rScheduleRead ∧ has (.litExcWrite op) 0x0303 rScheduleWrite ∧
  has (.litExcRead op) 0x0304 rScheduleRead ∧ has (.litZoneWrite op) 0x0305 rScheduleWrite ∧ has (.litZoneRead op) 0x0306 rScheduleRead ∧
  has (.litSiteSet op) 0x0307 rScheduleWrite ∧ has (.litTzSet op) 0x0308 rScheduleWrite ∧ has (.litTimeRead op) 0x0309 rScheduleRead ∧
  has (.litSunRead op) 0x030A rScheduleRead ∧ has (.litSchedEval op) 0x030B rScheduleRead ∧ has (.litClassWrite op) 0x0310 rScheduleWrite ∧
  has (.litClassRead op) 0x0311 rScheduleRead ∧ has (.litSpeedWrite op) 0x0312 rScheduleWrite ∧ has (.litSpeedRead op) 0x0313 rScheduleRead ∧
  has (.litPresenceReport op) 0x0314 rPresenceWrite ∧ has (.litSolverSet op) 0x0315 rScheduleWrite ∧ has (.litSolverRead op) 0x0316 rScheduleRead ∧
  has (.litSolveRead op) 0x0317 rScheduleRead ∧ has (.litMarkRead op) 0x0318 rScheduleRead ∧ has (.litFadeSet op) 0x0320 rScheduleWrite ∧
  has (.litFadeRead op) 0x0321 rScheduleRead ∧ has (.litModelWrite op) 0x0322 rScheduleWrite ∧ has (.litModelRead op) 0x0323 rScheduleRead ∧
  has (.litChainSet op) 0x0324 rScheduleWrite ∧ has (.litChainStatus op) 0x0325 rScheduleRead ∧ has (.litChainAccept op) 0x0326 rTableWrite ∧
  has (.litOutRead op) 0x0327 rScheduleRead ∧ has (.airProfileSet op) 0x0401 rRadioWrite ∧ has (.airProfileRead op) 0x0402 rRadioRead ∧
  has (.airSet op) 0x0403 rRadioWrite ∧ has (.airRead op) 0x0404 rRadioRead ∧ has (.airFailsafeSet op) 0x0405 rRadioWrite ∧
  has (.airFailsafeRead op) 0x0406 rRadioRead ∧ has (.airPinRelease op) 0x0407 rRadioWrite ∧ has (.airPinState op) 0x0408 rRadioRead ∧
  has (.airWake op) 0x0409 rRadioWrite ∧ has (.airImageBegin op) 0x0410 rNodeImage ∧ has (.airImageData op) 0x0411 rNodeImage ∧
  has (.airImageStart op) 0x0412 rNodeImage ∧ has (.airImageActivate op) 0x0413 rNodeImage ∧ has (.airImageStop op) 0x0414 rNodeImage ∧
  has (.airImageStatus op) 0x0415 rRadioRead ∧ has (.metModeSet op) 0x0501 rCalibrate ∧ has (.metStatus op) 0x0502 rMeterRead ∧
  has (.metQtyRead op) 0x0503 rMeterRead ∧ has (.metCalWrite op) 0x0504 rCalibrate ∧ has (.metCalRead op) 0x0505 rMeterRead ∧
  has (.metHarnessSet op) 0x0506 rMeterWrite ∧ has (.metHarnessRead op) 0x0507 rMeterRead ∧ has (.metProtWrite op) 0x0508 rMeterWrite ∧
  has (.metProtRead op) 0x0509 rMeterRead ∧ has (.metContactorCfg op) 0x050A rMeterWrite ∧ has (.metContactorRead op) 0x050B rMeterRead ∧
  has (.metContactorSet op) 0x050C rSwitch ∧ has (.metTripReset op) 0x050D rSwitch ∧ has (.metDfcSet op) 0x050E rCalibrate ∧
  has (.metDfcRead op) 0x050F rMeterRead ∧ has (.metPeakRead op) 0x0510 rMeterRead ∧ has (.metPeakClear op) 0x0511 rMeterWrite ∧
  has (.metRegRead op) 0x0520 rMeterRead ∧ has (.metLegacyRead op) 0x0521 rMeterRead ∧ has (.metIntervalSet op) 0x0522 rMeterWrite ∧
  has (.metIntervalRead op) 0x0523 rMeterRead ∧ has (.metSpanRead op) 0x0524 rMeterRead ∧ has (.metSnapTrigger op) 0x0525 rMeterWrite ∧
  has (.metSnapList op) 0x0526 rMeterRead ∧ has (.metSnapRead op) 0x0527 rMeterRead ∧ has (.metSnapSet op) 0x0528 rMeterWrite ∧
  has (.metSaveStatus op) 0x0529 rMeterRead ∧ has (.timStatus op) 0x0601 rTimeRead ∧ has (.timPtpSet op) 0x0602 rTimeWrite ∧
  has (.timPtpRead op) 0x0603 rTimeRead ∧ has (.timTimeSet op) 0x0604 rTimeWrite ∧ has (.timRtcRead op) 0x0605 rTimeRead ∧
  has (.timRtcSet op) 0x0606 rTimeWrite ∧ has (.timRtcShift op) 0x0607 rTimeWrite ∧ has (.timAlarmSet op) 0x0608 rTimeWrite ∧
  has (.timAlarmRead op) 0x0609 rTimeRead ∧ has (.timAlarmAck op) 0x060A rTimeWrite ∧ has (.timPpsSet op) 0x060B rTimeWrite ∧
  has (.timPpsRead op) 0x060C rTimeRead ∧ has (.timBackupSet op) 0x060D rTimeWrite ∧ has (.logStatus op) 0x0701 rLogRead ∧
  has (.logRecordRead op) 0x0702 rLogRead ∧ has (.logFreeze op) 0x0703 rLogRead ∧ has (.logThaw op) 0x0704 rLogRead ∧
  has (.logMarkSet op) 0x0705 rLogWrite ∧ has (.logMarkClear op) 0x0706 rLogWrite ∧ has (.logModeSet op) 0x0707 rLogWrite ∧
  has (.logNote op) 0x0708 rLogWrite ∧ has (.secWhoami op) 0x0803 .any ∧ has (.secStatus op) 0x0804 rSysRead ∧
  has (.secProtRead op) 0x0810 .rootOrAuditor ∧ has (.secProtWrite op) 0x0811 .root ∧ has (.secRevoke op) 0x0812 .root ∧
  has (.secMaintSet op) 0x0813 .root ∧ has (.secKeyWrite op) 0x0820 rKeyWrite ∧ has (.secKeyStatus op) 0x0821 rRadioRead ∧
  has (.secKeyClear op) 0x0822 rKeyWrite ∧ has (.secCertSet op) 0x0830 .root ∧ has (.secCsrRead op) 0x0831 .root ∧
  has (.updStatus op) 0x0901 rFirmware ∧ has (.updBegin op) 0x0902 rFirmware ∧ has (.updData op) 0x0903 rFirmware ∧
  has (.updVerify op) 0x0904 rFirmware ∧ has (.updAbort op) 0x0905 rFirmware ∧ has (.updActivate op) 0x0906 rFirmware ∧
  has (.updConfirm op) 0x0907 rFirmware ∧ has (.updRollback op) 0x0908 rFirmware ∧ has (.prbRead op) 0x0A01 rProbeRead ∧
  has (.prbReadRange op) 0x0A02 rProbeRead ∧ has (.prbWrite op) 0x0A03 .rootMaint ∧ has (.prbMap op) 0x0A04 rProbeRead ∧
  has (.pnlStatus op) 0x0B01 rPanelControl ∧ has (.pnlLock op) 0x0B02 rPanelControl ∧ has (.pnlPinSet op) 0x0B03 rPanelControl ∧
  has (.pnlMessage op) 0x0B04 rPanelControl ∧ has (.pnlTest op) 0x0B05 rPanelControl ∧ has (.pnlScreenRead op) 0x0B06 rPanelControl

/-- Where the row's event is at hand, by conditions on the state and the operands alone, exec answers a next state with the row's
own effect, or the next state that the named operation gives: STITCH_BOUNDARY, STITCH_PERIOD_CHANGE, JOURNAL_BATCH_COMMIT,
JOURNAL_COMMIT_DONE, FREEZE_EXPIRE, SOFT_DEADLINE_PASS, FRAY_RECORD, TASK_DISPATCH, HELD_SOURCE_RELEASE, the evaluation, the walk,
WALK_LATE, the solver, Darning, the fade unit, mailbox execution, the words pushed into a Skein, held words and notices, the pop,
both abandons, JNL_REBUILD, the Bobbin events, the fifteen clears, a register write, and the chain's frames, latch, scan, silent
boards and dead sensors. -/
def Obligations.LightAndMovesComplete : Prop := ∀ s : State,
  (boundaryFree s = true →
    (∃ t, exec .stitchBoundary s = .next t ∧ t.stitch.lastBoundary = s.stitch.nextBoundary ∧ t.stitch.busy = true) ∧
    (∀ p, periodDue s = some p → ∃ t, exec .stitchPeriodChange s = .next t ∧ t.stitch.period = p)) ∧
  (running s = true → s.jnl.committing = none → 4096 < batchBytes s.jnl.batch → ∃ t, exec .journalBatchCommit s = .next t ∧
    t.jnl.batch = [] ∧ t.jnl.stitchOfCommit = s.stitch.number ∧
    t.jnl.committing = some { entries := (sealWork s).jnl.batch, boundary := false }) ∧
  (∀ b us, s.jnl.committing = some b → (s.jnl.copy0Ok || s.jnl.copy1Ok) = true → ∃ j, j.committing = none ∧ j.commits = s.jnl.commits + 1 ∧
    j.commitNo = s.jnl.commitNo + 1 ∧ exec (.journalCommitDone .verified .verified us) s = .next (afterCommit b (commitWork b { s with jnl := j }))) ∧
  (∃ t, exec .freezeExpire s = .next t ∧ t.smp.freeze = none) ∧
  (∀ k x, s.tmb.slots.find? (fun t => t.slot == k && t.soft && !t.frayed) = some x → ∃ t, exec (.softDeadlinePass k) s = .next t ∧
    ∀ u ∈ t.tmb.slots, u.slot = k → u.frayed = true) ∧
  (∃ t, exec .frayRecord s = .next t ∧
    t.tmb.frays = (s.tmb.frays.filter fun f => f.count ≠ 0).map fun f => { f with count := 0, running := true }) ∧
  (∀ l e x, dispatchChoice s l = some (e, x) → ∃ t, exec (.taskDispatch l) s = .next t ∧
    t.tmb.slots = s.tmb.slots.map fun u => if u.slot == x.slot then { u with state := .running, engine := e, startedAt := s.time.fabCycle } else u) ∧
  (∀ l h k, firstHeld s l = some h → freeSlot s = some k → roomFor s l h.source = true →
    exec (.heldSourceRelease l) s = .next (windowMessages (enterHeld h k s))) ∧
  (∀ b plan, taskRunning s (.schedule b) = true → s.sched.noTime = false → planOf s s.sched.day = some plan →
    exec (.scheduleEvaluation b) s = .next (endBeforeFade (.schedule b) ((s.tab.live.pins.filter fun e => e.1 / 256 == b).foldl (scheduleOne plan)
      { s with sched.evaluated := s.sched.evaluated ++ [b] }))) ∧
  (taskRunning s .walk = true → (s.lace.closed.foldl walkSource s).lace.streamsStarted = false →
    exec .presenceWalk s = .next (endBeforeFade .walk (startStreams (s.lace.closed.foldl walkSource s)))) ∧
  (s.tmb.slots.any (fun t => t.kind == .walk) = true → s.lace.streamsStarted = false → ∀ t, t = startStreams { s with lace.walkLate := s.lace.walkLate + 1 } →
    exec .walkLate s = .next (if fadeDue t .walk then postTask srcEngine (fadeTask t) t else t)) ∧
  (∀ g r, taskRunning s (.solve g) = true → matching s g = some r → isDark s g = false → exec (.solveAndRepair g) s =
    .next (stream (freeHalf g (postFrom (.solve g) (newTask (.darn g) false (nextStitch (solveSegment g r s)) 0 0) (solveSegment g r s))))) ∧
  (∀ g, taskRunning s (.darn g) = true → ∀ w, w = writeLevels g s → ∀ pins, pins = gPins (segEntry s.tab.live g) → exec (.darning g) s =
    .next (endBeforeFade (.darn g) (setDarnBits (pins.map fun p => (p, darnBit w p))
      { w with lace.posted := ((pins.filter (isFailed w)).flatMap (darnRequests w g)).foldl postRequest w.lace.posted }))) ∧
  (taskRunning s .fade = true → ∃ t, exec .fadeShaping s = .next (writeChain t) ∧
    t = freeTask .fade (shapeAll ((lightingPins s).filterMap fun e => shapeOf s e.1 e.2) s)) ∧
  (∀ m c, taskRunning s (.mailbox m) = true → mayBegin (box s m) = some c → exec (.mailboxCommandExecution m) s =
    .next (onBox m (fun b => { b with lastBegun := c.seq }) (modifyCmd m c.seq (fun c => { c with phase := .running }) s))) ∧
  (∀ k i w, ∃ t, exec (.skeinPushCont k i w) s = .next t ∧ t = pushAccess k i 0 w s) ∧
  (∀ k i v w, ∃ t, exec (.skeinPushEnd k i v w) s = .next t ∧ t = pushAccess k i (clampN v 1 4) w s) ∧
  (∀ k h, (skein s k).heldWrites.find? (fun h => (storeWord (skein s k) h.writer h.valid h.word).2 != .stalled) = some h →
    ∀ q r, storeWord { skein s k with heldWrites := (skein s k).heldWrites.erase h } h.writer h.valid h.word = (q, r) →
    exec (.skeinHeldWrite k) s = .next (resumePort h.writer (afterPush k q r s))) ∧
  (∀ k n, freeSlot s = some n → (skein s k).heldNotices ≠ 0 → roomFor s (skein s k).noticeList srcSkein = true →
    exec (.skeinHeldNotice k) s = .next (onSkein k (fun q => { q with heldNotices := q.heldNotices - 1 }) (enterTask (noticeTask k s) n s))) ∧
  (∀ k i e, portStalled s i = false → exec (.skeinPop k i e) s = .next (popAccess k i e s)) ∧
  (∀ k, (skein s k).opened.isSome = true → exec (.skeinWriteAbandon k) s =
    .next (onSkein k (fun q => { q with opened := none, abandoned := sat8 q.abandoned, lost := q.lost || carriesWork k }) s)) ∧
  (∀ k, (skein s k).reading.isSome = true → exec (.skeinReadAbandon k) s = .next
    (onSkein k (fun q => { q with packets := q.packets.drop 1, reading := none, abandoned := sat8 q.abandoned, lost := q.lost || carriesWork k }) s)) ∧
  (∀ k, carriesWork k = true → (skein s k).lost = true → ∃ t, exec (.jnlRebuild k) s = .next t ∧ t.jnl.rebuilds = s.jnl.rebuilds + 1) ∧
  (∀ c, c < 32 → bobActive (bobbin s c) = false → startError s c = false → ∃ t, exec (.bobStart c) s = .next (settlePath t) ∧
    t.bob.channels = listModify s.bob.channels c fun b =>
      { b with used := 0, remain := b.count, hold := [], packet := [], moved := 0, lastRead := false, fetching := false, long := false,
               stopping := false, error := 0, phase := 0, tries := 0, state := if bReqEn b then .waitReq else .active }) ∧
  (∀ c, bobActive (bobbin s c) = true → exec (.bobStop c false) s = .next (settlePath (haltBobbin c beStopped 0 0 s))) ∧
  (∀ c, (bobbin s c).state = .waitReq → exec (.bobRequest c true) s = .next (settlePath (onBobbin c (fun b => { b with state := .active }) s))) ∧
  (∀ c, mayComplete s c = true → accessFails .ok (nextBurst (bobbin s c)) = false → ∀ t, t = onBobbin c (fun b => { b with tries := 0 }) s →
    exec (.bobBurstDone c .ok) s = .next (passPath (if (bobbin s c).hold == [] then readBurst c .ok t else writeBurst c t))) ∧
  (∀ c f, (bobbin s c).state = .active → acknowledged s = true → (bobbin s c).fetching = false → transferOver (bobbin s c) = true →
    exec (.bobTransferEnd c ⟨.ok, f⟩) s = .next (settlePath (endTransfer c .ok f s))) ∧
  (∀ c f u, (bobbin s c).state = .pulseHeld → sendCompletion c .ok s = (.sent, u) → exec (.bobPulseRelease ⟨c, .ok, f⟩) s = .next (settlePath (goOn c f u))) ∧
  (∃ t, exec .tmbClearStats s = .next t ∧ t.tmb.a0Stop = 0 ∧ t.stitch.skip = 0) ∧ (∃ t, exec .sknClearStats s = .next t ∧ t.skn.eccCorr = 0) ∧
  (∃ t, exec .bobClearStats s = .next t ∧ t.bob.preempt = 0) ∧ (∃ t, exec .laceClearStats s = .next t ∧ t.lace.walkSrc = 0) ∧
  (∃ t, exec .fadeClearStats s = .next t ∧ t.fade.cmdGen = 0 ∧ t.chain.frames = 0) ∧ (∃ t, exec .airClearStats s = .next t ∧ t.air.tlmBad = 0) ∧
  (∃ t, exec .crsClearStats s = .next t ∧ t.air.panConflict = 0) ∧ (∃ t, exec .metClearStats s = .next t ∧ t.met.clipCnt = 0) ∧
  (∃ t, exec .timeClearStats s = .next t ∧ t.time.servo.stepCnt = 0) ∧ (∃ t, exec .netClearStats s = .next t ∧ t.net.fdbFull = 0) ∧
  (∃ t, exec .jnlClearStats s = .next t ∧ t.jnl.commits = 0) ∧ (∃ t, exec .smpClearStats s = .next t ∧ t.smp.stored = 0) ∧
  (∃ t, exec .mrcClearStats s = .next t ∧ t.sys.mrcUncorr = 0) ∧ (∃ t, exec .aonClearStats s = .next t ∧ t.sys.pfWarnCnt = 0) ∧
  (∃ t, exec .pnlClearStats s = .next t ∧ t.pnl.pinFails = 0) ∧
  (∀ a (v : U32), exec (.registerWrite a v) s = .next (writeWord a v.toNat s)) ∧
  (s.chain.state = .run → s.chain.frame = none → s.chain.packetsAt.isSome = true → ∃ t f, exec .chainShift s = .next t ∧ t.chain.frame = some f ∧
    f.shifted = false ∧ f.committed = false) ∧
  (∀ f ret, s.chain.frame = some f → f.shifted = false → ∃ t : State, exec (.chainShiftDone ret) s = .next (scanCheck ret
    { t with chain.frame := some { f with shifted := true, topoOk := t.chain.state == .run } })) ∧
  (∀ f, s.chain.frame = some f → f.shifted = true → f.committed = true → f.topoOk = true → s.chain.state = .run →
    ∃ t, exec .chainLatch s = .next t ∧ t.chain.frame = none ∧ t.chain.latched = some f ∧ t.chain.frames = s.chain.frames + 1) ∧
  (∀ ret d, s.chain.state = .scan → ∃ t, exec (.chainScan ret d) s = .next (completeAccepts (boardCount ((ret.take 4).getLast?.getD [])) t) ∧
    t.chain.before = boardCount ((ret.take 4).getLast?.getD []) ∧ t.chain.steady = 0) ∧
  (∀ b, ∃ t, exec (.chainBoardSilent b) s = .next t ∧ t = (chainPins s).foldl (fun u e =>
    if mBoard e.2 == b && chnSilent u ≤ tabGetD u.chain.silence e.1 0 && !(pinState u e.1).switchedOff && (pinState u e.1).failure == 0
    then noteClass e.1 1 u else u) s) ∧
  (∀ b, b < 128 → (s.chain.boards.getD b default).ntcFault = false → 60 * cyclesPerSec ≤ s.time.cycle - (s.chain.boards.getD b default).codeAt →
    ∀ t, t = { s with chain.boards := listModify s.chain.boards b fun x => { x with ntcFault := true } } →
    exec (.ntcFault b) s = .next ((chainPins t).foldl (fun t e => if mBoard e.2 == b then onPin e.1 (fun x => { x with temperature := 250 }) t else t) t))

/-- The eight TAB writes, each by its own row, answer the boundary and the generation of their change; a poll, a report and an
image-state frame that pass their checks and are new are accepted, owed an Enh-Ack, and their content taken; a watchdog reset of
each unit and a memory error reset start again with their kind and cause, and keep the RTC and the log. -/
def Obligations.WritesUplinksAndResetsComplete : Prop := ∀ s : State,
  (∀ m c n g, s.tab.closeFail.find? (fun e => e.1 == c.seq) = none → s.tab.stagedSeqs.contains c.seq = false →
    s.tab.effected.find? (fun e => e.1 == c.seq) = some (c.seq, n, g) →
    ∀ t, t = { s with tab.effected := s.tab.effected.filter fun e => e.1 != c.seq } →
    (Executing s m c 0x0201 → Acts (.tabPinWrite (.run m)) s m c n (leW g) t) ∧ (Executing s m c 0x0202 → Acts (.tabPinClear (.run m)) s m c n (leW g) t) ∧
    (Executing s m c 0x0203 → Acts (.tabPinSet (.run m)) s m c n (leW g) t) ∧ (Executing s m c 0x0205 → Acts (.tabPinClearFault (.run m)) s m c n (leW g) t) ∧
    (Executing s m c 0x0210 → Acts (.tabEdgeWrite (.run m)) s m c n (leW g) t) ∧ (Executing s m c 0x0220 → Acts (.tabSegWrite (.run m)) s m c n (leW g) t) ∧
    (Executing s m c 0x0221 → Acts (.tabSegClear (.run m)) s m c n (leW g) t) ∧ (Executing s m c 0x0231 → Acts (.tabBatchClose (.run m)) s m c n (leW g) t)) ∧
  (∀ f p, (f.shuttle < 4 && hasRadio s && running s && pfEn (region s) f.shuttle && !(shuttle s f.shuttle).failed && !s.time.radiosHeld &&
      hears f false s) = true → rxCheck f false s = .ok p → expectedWindow s p f.shuttle f.sfdEnd = none → f.seq.toNat ≠ (pinState s p).upSeq →
    ∀ t, t = onPin p (fun x => { x with upSeq := f.seq.toNat }) (oweAck f p 0 (rxAccept f p s)) →
    (u8At f.payload 0 = 0x20 → exec (.uplinkPoll f) s = .next t) ∧ (u8At f.payload 0 = 0x21 → exec (.uplinkReport f) s = .next (handleReport f p t)) ∧
    (u8At f.payload 0 = 0x0E → exec (.uplinkImageState f) s =
      .next (onRadio p (fun r => { r with image := some (u8At f.payload 2, BitVec.ofNat 32 (u32At f.payload 5)) }) t))) ∧
  (∀ cut, socRuns s = true →
    (∀ u cause, (u, cause) ∈ [(Watchdog.k0, 256), (.t0, 512), (.fabric, 1024)] → ∃ t, exec (.watchdogReset u cut) s = .next t ∧ t.sys.phase = .supply ∧
      t.sys.kind = 5 ∧ t.sys.causeBits = BitVec.ofNat 32 cause ∧ t.rtc = s.rtc ∧ t.jnl.log = s.jnl.log) ∧
    (∃ t, exec (.memoryErrorReset cut) s = .next t ∧ t.sys.phase = .supply ∧ t.sys.kind = 7 ∧ t.sys.causeBits = 32768 ∧ t.rtc = s.rtc ∧ t.jnl.log = s.jnl.log))
end

