-- ==== Sys2Proof/Laws/State.lean ====
section
/-! SUPPORT. Beside State, for each named update what it leaves of every field and what it makes of its own, each true by
unfolding: a proof rewrites with these and never opens a record update. -/

namespace Sys2Proof.Machine

@[simp] theorem onBox_fields (m : Nat) (f : Mailbox → Mailbox) (s : State) :
    (onBox m f s).pending = s.pending ∧ (onBox m f s).jnl = s.jnl ∧ (onBox m f s).smp = s.smp ∧ (onBox m f s).set = s.set ∧
    (onBox m f s).sec = s.sec ∧ (onBox m f s).time = s.time ∧ (onBox m f s).rtc = s.rtc ∧ (onBox m f s).stitch = s.stitch ∧
    (onBox m f s).tmb = s.tmb ∧ (onBox m f s).skn = s.skn ∧ (onBox m f s).bob = s.bob ∧ (onBox m f s).tab = s.tab ∧
    (onBox m f s).sched = s.sched ∧ (onBox m f s).lace = s.lace ∧ (onBox m f s).fade = s.fade ∧ (onBox m f s).chain = s.chain ∧
    (onBox m f s).air = s.air ∧ (onBox m f s).met = s.met ∧ (onBox m f s).sys = s.sys ∧ (onBox m f s).net = s.net ∧
    (onBox m f s).pnl = s.pnl ∧ (onBox m f s).freeCtr = s.freeCtr := by
  and_intros <;> rfl
@[simp] theorem onBox_mbx (m : Nat) (f : Mailbox → Mailbox) (s : State) : (onBox m f s).mbx = { s.mbx with boxes := listModify s.mbx.boxes m f } := rfl

@[simp] theorem onMbx_fields (f : Mailboxes → Mailboxes) (s : State) :
    (onMbx f s).pending = s.pending ∧ (onMbx f s).jnl = s.jnl ∧ (onMbx f s).smp = s.smp ∧ (onMbx f s).set = s.set ∧
    (onMbx f s).sec = s.sec ∧ (onMbx f s).time = s.time ∧ (onMbx f s).rtc = s.rtc ∧ (onMbx f s).stitch = s.stitch ∧
    (onMbx f s).tmb = s.tmb ∧ (onMbx f s).skn = s.skn ∧ (onMbx f s).bob = s.bob ∧ (onMbx f s).tab = s.tab ∧
    (onMbx f s).sched = s.sched ∧ (onMbx f s).lace = s.lace ∧ (onMbx f s).fade = s.fade ∧ (onMbx f s).chain = s.chain ∧
    (onMbx f s).air = s.air ∧ (onMbx f s).met = s.met ∧ (onMbx f s).sys = s.sys ∧ (onMbx f s).net = s.net ∧
    (onMbx f s).pnl = s.pnl ∧ (onMbx f s).freeCtr = s.freeCtr := by
  and_intros <;> rfl
@[simp] theorem onMbx_mbx (f : Mailboxes → Mailboxes) (s : State) : (onMbx f s).mbx = f s.mbx := rfl

@[simp] theorem onJnl_fields (f : Journal → Journal) (s : State) :
    (onJnl f s).pending = s.pending ∧ (onJnl f s).mbx = s.mbx ∧ (onJnl f s).smp = s.smp ∧ (onJnl f s).set = s.set ∧
    (onJnl f s).sec = s.sec ∧ (onJnl f s).time = s.time ∧ (onJnl f s).rtc = s.rtc ∧ (onJnl f s).stitch = s.stitch ∧
    (onJnl f s).tmb = s.tmb ∧ (onJnl f s).skn = s.skn ∧ (onJnl f s).bob = s.bob ∧ (onJnl f s).tab = s.tab ∧
    (onJnl f s).sched = s.sched ∧ (onJnl f s).lace = s.lace ∧ (onJnl f s).fade = s.fade ∧ (onJnl f s).chain = s.chain ∧
    (onJnl f s).air = s.air ∧ (onJnl f s).met = s.met ∧ (onJnl f s).sys = s.sys ∧ (onJnl f s).net = s.net ∧
    (onJnl f s).pnl = s.pnl ∧ (onJnl f s).freeCtr = s.freeCtr := by
  and_intros <;> rfl
@[simp] theorem onJnl_jnl (f : Journal → Journal) (s : State) : (onJnl f s).jnl = f s.jnl := rfl

@[simp] theorem onSmp_fields (f : Sampler → Sampler) (s : State) :
    (onSmp f s).pending = s.pending ∧ (onSmp f s).mbx = s.mbx ∧ (onSmp f s).jnl = s.jnl ∧ (onSmp f s).set = s.set ∧
    (onSmp f s).sec = s.sec ∧ (onSmp f s).time = s.time ∧ (onSmp f s).rtc = s.rtc ∧ (onSmp f s).stitch = s.stitch ∧
    (onSmp f s).tmb = s.tmb ∧ (onSmp f s).skn = s.skn ∧ (onSmp f s).bob = s.bob ∧ (onSmp f s).tab = s.tab ∧
    (onSmp f s).sched = s.sched ∧ (onSmp f s).lace = s.lace ∧ (onSmp f s).fade = s.fade ∧ (onSmp f s).chain = s.chain ∧
    (onSmp f s).air = s.air ∧ (onSmp f s).met = s.met ∧ (onSmp f s).sys = s.sys ∧ (onSmp f s).net = s.net ∧
    (onSmp f s).pnl = s.pnl ∧ (onSmp f s).freeCtr = s.freeCtr := by
  and_intros <;> rfl
@[simp] theorem onSmp_smp (f : Sampler → Sampler) (s : State) : (onSmp f s).smp = f s.smp := rfl

@[simp] theorem onSettings_fields (f : Settings → Settings) (s : State) :
    (onSettings f s).pending = s.pending ∧ (onSettings f s).mbx = s.mbx ∧ (onSettings f s).jnl = s.jnl ∧ (onSettings f s).smp = s.smp ∧
    (onSettings f s).sec = s.sec ∧ (onSettings f s).time = s.time ∧ (onSettings f s).rtc = s.rtc ∧ (onSettings f s).stitch = s.stitch ∧
    (onSettings f s).tmb = s.tmb ∧ (onSettings f s).skn = s.skn ∧ (onSettings f s).bob = s.bob ∧ (onSettings f s).tab = s.tab ∧
    (onSettings f s).sched = s.sched ∧ (onSettings f s).lace = s.lace ∧ (onSettings f s).fade = s.fade ∧ (onSettings f s).chain = s.chain ∧
    (onSettings f s).air = s.air ∧ (onSettings f s).met = s.met ∧ (onSettings f s).sys = s.sys ∧ (onSettings f s).net = s.net ∧
    (onSettings f s).pnl = s.pnl ∧ (onSettings f s).freeCtr = s.freeCtr := by
  and_intros <;> rfl
@[simp] theorem onSettings_set (f : Settings → Settings) (s : State) : (onSettings f s).set = f s.set := rfl

@[simp] theorem onSec_fields (f : Security → Security) (s : State) :
    (onSec f s).pending = s.pending ∧ (onSec f s).mbx = s.mbx ∧ (onSec f s).jnl = s.jnl ∧ (onSec f s).smp = s.smp ∧
    (onSec f s).set = s.set ∧ (onSec f s).time = s.time ∧ (onSec f s).rtc = s.rtc ∧ (onSec f s).stitch = s.stitch ∧
    (onSec f s).tmb = s.tmb ∧ (onSec f s).skn = s.skn ∧ (onSec f s).bob = s.bob ∧ (onSec f s).tab = s.tab ∧
    (onSec f s).sched = s.sched ∧ (onSec f s).lace = s.lace ∧ (onSec f s).fade = s.fade ∧ (onSec f s).chain = s.chain ∧
    (onSec f s).air = s.air ∧ (onSec f s).met = s.met ∧ (onSec f s).sys = s.sys ∧ (onSec f s).net = s.net ∧
    (onSec f s).pnl = s.pnl ∧ (onSec f s).freeCtr = s.freeCtr := by
  and_intros <;> rfl
@[simp] theorem onSec_sec (f : Security → Security) (s : State) : (onSec f s).sec = f s.sec := rfl

@[simp] theorem onKey_fields (k : Nat) (f : KeySlot → KeySlot) (s : State) :
    (onKey k f s).pending = s.pending ∧ (onKey k f s).mbx = s.mbx ∧ (onKey k f s).jnl = s.jnl ∧ (onKey k f s).smp = s.smp ∧
    (onKey k f s).set = s.set ∧ (onKey k f s).time = s.time ∧ (onKey k f s).rtc = s.rtc ∧ (onKey k f s).stitch = s.stitch ∧
    (onKey k f s).tmb = s.tmb ∧ (onKey k f s).skn = s.skn ∧ (onKey k f s).bob = s.bob ∧ (onKey k f s).tab = s.tab ∧
    (onKey k f s).sched = s.sched ∧ (onKey k f s).lace = s.lace ∧ (onKey k f s).fade = s.fade ∧ (onKey k f s).chain = s.chain ∧
    (onKey k f s).air = s.air ∧ (onKey k f s).met = s.met ∧ (onKey k f s).sys = s.sys ∧ (onKey k f s).net = s.net ∧
    (onKey k f s).pnl = s.pnl ∧ (onKey k f s).freeCtr = s.freeCtr := by
  and_intros <;> rfl
@[simp] theorem onKey_sec (k : Nat) (f : KeySlot → KeySlot) (s : State) : (onKey k f s).sec = { s.sec with slots := listModify s.sec.slots k f } := rfl

@[simp] theorem onTime_fields (f : TimeUnit → TimeUnit) (s : State) :
    (onTime f s).pending = s.pending ∧ (onTime f s).mbx = s.mbx ∧ (onTime f s).jnl = s.jnl ∧ (onTime f s).smp = s.smp ∧
    (onTime f s).set = s.set ∧ (onTime f s).sec = s.sec ∧ (onTime f s).rtc = s.rtc ∧ (onTime f s).stitch = s.stitch ∧
    (onTime f s).tmb = s.tmb ∧ (onTime f s).skn = s.skn ∧ (onTime f s).bob = s.bob ∧ (onTime f s).tab = s.tab ∧
    (onTime f s).sched = s.sched ∧ (onTime f s).lace = s.lace ∧ (onTime f s).fade = s.fade ∧ (onTime f s).chain = s.chain ∧
    (onTime f s).air = s.air ∧ (onTime f s).met = s.met ∧ (onTime f s).sys = s.sys ∧ (onTime f s).net = s.net ∧
    (onTime f s).pnl = s.pnl ∧ (onTime f s).freeCtr = s.freeCtr := by
  and_intros <;> rfl
@[simp] theorem onTime_time (f : TimeUnit → TimeUnit) (s : State) : (onTime f s).time = f s.time := rfl

@[simp] theorem onServo_fields (f : Servo → Servo) (s : State) :
    (onServo f s).pending = s.pending ∧ (onServo f s).mbx = s.mbx ∧ (onServo f s).jnl = s.jnl ∧ (onServo f s).smp = s.smp ∧
    (onServo f s).set = s.set ∧ (onServo f s).sec = s.sec ∧ (onServo f s).rtc = s.rtc ∧ (onServo f s).stitch = s.stitch ∧
    (onServo f s).tmb = s.tmb ∧ (onServo f s).skn = s.skn ∧ (onServo f s).bob = s.bob ∧ (onServo f s).tab = s.tab ∧
    (onServo f s).sched = s.sched ∧ (onServo f s).lace = s.lace ∧ (onServo f s).fade = s.fade ∧ (onServo f s).chain = s.chain ∧
    (onServo f s).air = s.air ∧ (onServo f s).met = s.met ∧ (onServo f s).sys = s.sys ∧ (onServo f s).net = s.net ∧
    (onServo f s).pnl = s.pnl ∧ (onServo f s).freeCtr = s.freeCtr := by
  and_intros <;> rfl
@[simp] theorem onServo_time (f : Servo → Servo) (s : State) : (onServo f s).time = { s.time with servo := f s.time.servo } := rfl

@[simp] theorem onPtp_fields (f : Ptp → Ptp) (s : State) :
    (onPtp f s).pending = s.pending ∧ (onPtp f s).mbx = s.mbx ∧ (onPtp f s).jnl = s.jnl ∧ (onPtp f s).smp = s.smp ∧
    (onPtp f s).set = s.set ∧ (onPtp f s).sec = s.sec ∧ (onPtp f s).rtc = s.rtc ∧ (onPtp f s).stitch = s.stitch ∧
    (onPtp f s).tmb = s.tmb ∧ (onPtp f s).skn = s.skn ∧ (onPtp f s).bob = s.bob ∧ (onPtp f s).tab = s.tab ∧
    (onPtp f s).sched = s.sched ∧ (onPtp f s).lace = s.lace ∧ (onPtp f s).fade = s.fade ∧ (onPtp f s).chain = s.chain ∧
    (onPtp f s).air = s.air ∧ (onPtp f s).met = s.met ∧ (onPtp f s).sys = s.sys ∧ (onPtp f s).net = s.net ∧
    (onPtp f s).pnl = s.pnl ∧ (onPtp f s).freeCtr = s.freeCtr := by
  and_intros <;> rfl
@[simp] theorem onPtp_time (f : Ptp → Ptp) (s : State) : (onPtp f s).time = { s.time with ptp := f s.time.ptp } := rfl

@[simp] theorem onPps_fields (f : Pps → Pps) (s : State) :
    (onPps f s).pending = s.pending ∧ (onPps f s).mbx = s.mbx ∧ (onPps f s).jnl = s.jnl ∧ (onPps f s).smp = s.smp ∧
    (onPps f s).set = s.set ∧ (onPps f s).sec = s.sec ∧ (onPps f s).rtc = s.rtc ∧ (onPps f s).stitch = s.stitch ∧
    (onPps f s).tmb = s.tmb ∧ (onPps f s).skn = s.skn ∧ (onPps f s).bob = s.bob ∧ (onPps f s).tab = s.tab ∧
    (onPps f s).sched = s.sched ∧ (onPps f s).lace = s.lace ∧ (onPps f s).fade = s.fade ∧ (onPps f s).chain = s.chain ∧
    (onPps f s).air = s.air ∧ (onPps f s).met = s.met ∧ (onPps f s).sys = s.sys ∧ (onPps f s).net = s.net ∧
    (onPps f s).pnl = s.pnl ∧ (onPps f s).freeCtr = s.freeCtr := by
  and_intros <;> rfl
@[simp] theorem onPps_time (f : Pps → Pps) (s : State) : (onPps f s).time = { s.time with pps := f s.time.pps } := rfl

@[simp] theorem onRtc_fields (f : Rtc → Rtc) (s : State) :
    (onRtc f s).pending = s.pending ∧ (onRtc f s).mbx = s.mbx ∧ (onRtc f s).jnl = s.jnl ∧ (onRtc f s).smp = s.smp ∧
    (onRtc f s).set = s.set ∧ (onRtc f s).sec = s.sec ∧ (onRtc f s).time = s.time ∧ (onRtc f s).stitch = s.stitch ∧
    (onRtc f s).tmb = s.tmb ∧ (onRtc f s).skn = s.skn ∧ (onRtc f s).bob = s.bob ∧ (onRtc f s).tab = s.tab ∧
    (onRtc f s).sched = s.sched ∧ (onRtc f s).lace = s.lace ∧ (onRtc f s).fade = s.fade ∧ (onRtc f s).chain = s.chain ∧
    (onRtc f s).air = s.air ∧ (onRtc f s).met = s.met ∧ (onRtc f s).sys = s.sys ∧ (onRtc f s).net = s.net ∧
    (onRtc f s).pnl = s.pnl ∧ (onRtc f s).freeCtr = s.freeCtr := by
  and_intros <;> rfl
@[simp] theorem onRtc_rtc (f : Rtc → Rtc) (s : State) : (onRtc f s).rtc = f s.rtc := rfl

@[simp] theorem onAlarm_fields (k : Nat) (f : Alarm → Alarm) (s : State) :
    (onAlarm k f s).pending = s.pending ∧ (onAlarm k f s).mbx = s.mbx ∧ (onAlarm k f s).jnl = s.jnl ∧ (onAlarm k f s).smp = s.smp ∧
    (onAlarm k f s).set = s.set ∧ (onAlarm k f s).sec = s.sec ∧ (onAlarm k f s).time = s.time ∧ (onAlarm k f s).stitch = s.stitch ∧
    (onAlarm k f s).tmb = s.tmb ∧ (onAlarm k f s).skn = s.skn ∧ (onAlarm k f s).bob = s.bob ∧ (onAlarm k f s).tab = s.tab ∧
    (onAlarm k f s).sched = s.sched ∧ (onAlarm k f s).lace = s.lace ∧ (onAlarm k f s).fade = s.fade ∧ (onAlarm k f s).chain = s.chain ∧
    (onAlarm k f s).air = s.air ∧ (onAlarm k f s).met = s.met ∧ (onAlarm k f s).sys = s.sys ∧ (onAlarm k f s).net = s.net ∧
    (onAlarm k f s).pnl = s.pnl ∧ (onAlarm k f s).freeCtr = s.freeCtr := by
  and_intros <;> rfl
@[simp] theorem onAlarm_rtc (k : Nat) (f : Alarm → Alarm) (s : State) : (onAlarm k f s).rtc = { s.rtc with alarms := listModify s.rtc.alarms k f } := rfl

@[simp] theorem onStitch_fields (f : StitchGen → StitchGen) (s : State) :
    (onStitch f s).pending = s.pending ∧ (onStitch f s).mbx = s.mbx ∧ (onStitch f s).jnl = s.jnl ∧ (onStitch f s).smp = s.smp ∧
    (onStitch f s).set = s.set ∧ (onStitch f s).sec = s.sec ∧ (onStitch f s).time = s.time ∧ (onStitch f s).rtc = s.rtc ∧
    (onStitch f s).tmb = s.tmb ∧ (onStitch f s).skn = s.skn ∧ (onStitch f s).bob = s.bob ∧ (onStitch f s).tab = s.tab ∧
    (onStitch f s).sched = s.sched ∧ (onStitch f s).lace = s.lace ∧ (onStitch f s).fade = s.fade ∧ (onStitch f s).chain = s.chain ∧
    (onStitch f s).air = s.air ∧ (onStitch f s).met = s.met ∧ (onStitch f s).sys = s.sys ∧ (onStitch f s).net = s.net ∧
    (onStitch f s).pnl = s.pnl ∧ (onStitch f s).freeCtr = s.freeCtr := by
  and_intros <;> rfl
@[simp] theorem onStitch_stitch (f : StitchGen → StitchGen) (s : State) : (onStitch f s).stitch = f s.stitch := rfl

@[simp] theorem onList_fields (l : Nat) (f : ReadyList → ReadyList) (s : State) :
    (onList l f s).pending = s.pending ∧ (onList l f s).mbx = s.mbx ∧ (onList l f s).jnl = s.jnl ∧ (onList l f s).smp = s.smp ∧
    (onList l f s).set = s.set ∧ (onList l f s).sec = s.sec ∧ (onList l f s).time = s.time ∧ (onList l f s).rtc = s.rtc ∧
    (onList l f s).stitch = s.stitch ∧ (onList l f s).skn = s.skn ∧ (onList l f s).bob = s.bob ∧ (onList l f s).tab = s.tab ∧
    (onList l f s).sched = s.sched ∧ (onList l f s).lace = s.lace ∧ (onList l f s).fade = s.fade ∧ (onList l f s).chain = s.chain ∧
    (onList l f s).air = s.air ∧ (onList l f s).met = s.met ∧ (onList l f s).sys = s.sys ∧ (onList l f s).net = s.net ∧
    (onList l f s).pnl = s.pnl ∧ (onList l f s).freeCtr = s.freeCtr := by
  and_intros <;> rfl
@[simp] theorem onList_tmb (l : Nat) (f : ReadyList → ReadyList) (s : State) : (onList l f s).tmb = { s.tmb with lists := listModify s.tmb.lists l f } := rfl

@[simp] theorem onSkein_fields (n : Nat) (f : Skein → Skein) (s : State) :
    (onSkein n f s).pending = s.pending ∧ (onSkein n f s).mbx = s.mbx ∧ (onSkein n f s).jnl = s.jnl ∧ (onSkein n f s).smp = s.smp ∧
    (onSkein n f s).set = s.set ∧ (onSkein n f s).sec = s.sec ∧ (onSkein n f s).time = s.time ∧ (onSkein n f s).rtc = s.rtc ∧
    (onSkein n f s).stitch = s.stitch ∧ (onSkein n f s).tmb = s.tmb ∧ (onSkein n f s).bob = s.bob ∧ (onSkein n f s).tab = s.tab ∧
    (onSkein n f s).sched = s.sched ∧ (onSkein n f s).lace = s.lace ∧ (onSkein n f s).fade = s.fade ∧ (onSkein n f s).chain = s.chain ∧
    (onSkein n f s).air = s.air ∧ (onSkein n f s).met = s.met ∧ (onSkein n f s).sys = s.sys ∧ (onSkein n f s).net = s.net ∧
    (onSkein n f s).pnl = s.pnl ∧ (onSkein n f s).freeCtr = s.freeCtr := by
  and_intros <;> rfl
@[simp] theorem onSkein_skn (n : Nat) (f : Skein → Skein) (s : State) : (onSkein n f s).skn = { s.skn with skeins := listModify s.skn.skeins n f } := rfl

@[simp] theorem onBobbin_fields (c : Nat) (f : Bobbin → Bobbin) (s : State) :
    (onBobbin c f s).pending = s.pending ∧ (onBobbin c f s).mbx = s.mbx ∧ (onBobbin c f s).jnl = s.jnl ∧ (onBobbin c f s).smp = s.smp ∧
    (onBobbin c f s).set = s.set ∧ (onBobbin c f s).sec = s.sec ∧ (onBobbin c f s).time = s.time ∧ (onBobbin c f s).rtc = s.rtc ∧
    (onBobbin c f s).stitch = s.stitch ∧ (onBobbin c f s).tmb = s.tmb ∧ (onBobbin c f s).skn = s.skn ∧ (onBobbin c f s).tab = s.tab ∧
    (onBobbin c f s).sched = s.sched ∧ (onBobbin c f s).lace = s.lace ∧ (onBobbin c f s).fade = s.fade ∧ (onBobbin c f s).chain = s.chain ∧
    (onBobbin c f s).air = s.air ∧ (onBobbin c f s).met = s.met ∧ (onBobbin c f s).sys = s.sys ∧ (onBobbin c f s).net = s.net ∧
    (onBobbin c f s).pnl = s.pnl ∧ (onBobbin c f s).freeCtr = s.freeCtr := by
  and_intros <;> rfl
@[simp] theorem onBobbin_bob (c : Nat) (f : Bobbin → Bobbin) (s : State) : (onBobbin c f s).bob = { s.bob with channels := listModify s.bob.channels c f } := rfl

@[simp] theorem onPin_fields (p : Nat) (f : PinState → PinState) (s : State) :
    (onPin p f s).pending = s.pending ∧ (onPin p f s).mbx = s.mbx ∧ (onPin p f s).jnl = s.jnl ∧ (onPin p f s).smp = s.smp ∧
    (onPin p f s).set = s.set ∧ (onPin p f s).sec = s.sec ∧ (onPin p f s).time = s.time ∧ (onPin p f s).rtc = s.rtc ∧
    (onPin p f s).stitch = s.stitch ∧ (onPin p f s).tmb = s.tmb ∧ (onPin p f s).skn = s.skn ∧ (onPin p f s).bob = s.bob ∧
    (onPin p f s).sched = s.sched ∧ (onPin p f s).lace = s.lace ∧ (onPin p f s).fade = s.fade ∧ (onPin p f s).chain = s.chain ∧
    (onPin p f s).air = s.air ∧ (onPin p f s).met = s.met ∧ (onPin p f s).sys = s.sys ∧ (onPin p f s).net = s.net ∧
    (onPin p f s).pnl = s.pnl ∧ (onPin p f s).freeCtr = s.freeCtr := by
  and_intros <;> rfl
@[simp] theorem onPin_tab (p : Nat) (f : PinState → PinState) (s : State) : (onPin p f s).tab = { s.tab with state := tabModify s.tab.state p f } := rfl

@[simp] theorem onLace_fields (f : Lace → Lace) (s : State) :
    (onLace f s).pending = s.pending ∧ (onLace f s).mbx = s.mbx ∧ (onLace f s).jnl = s.jnl ∧ (onLace f s).smp = s.smp ∧
    (onLace f s).set = s.set ∧ (onLace f s).sec = s.sec ∧ (onLace f s).time = s.time ∧ (onLace f s).rtc = s.rtc ∧
    (onLace f s).stitch = s.stitch ∧ (onLace f s).tmb = s.tmb ∧ (onLace f s).skn = s.skn ∧ (onLace f s).bob = s.bob ∧
    (onLace f s).tab = s.tab ∧ (onLace f s).sched = s.sched ∧ (onLace f s).fade = s.fade ∧ (onLace f s).chain = s.chain ∧
    (onLace f s).air = s.air ∧ (onLace f s).met = s.met ∧ (onLace f s).sys = s.sys ∧ (onLace f s).net = s.net ∧
    (onLace f s).pnl = s.pnl ∧ (onLace f s).freeCtr = s.freeCtr := by
  and_intros <;> rfl
@[simp] theorem onLace_lace (f : Lace → Lace) (s : State) : (onLace f s).lace = f s.lace := rfl

@[simp] theorem onFade_fields (f : FadeUnit → FadeUnit) (s : State) :
    (onFade f s).pending = s.pending ∧ (onFade f s).mbx = s.mbx ∧ (onFade f s).jnl = s.jnl ∧ (onFade f s).smp = s.smp ∧
    (onFade f s).set = s.set ∧ (onFade f s).sec = s.sec ∧ (onFade f s).time = s.time ∧ (onFade f s).rtc = s.rtc ∧
    (onFade f s).stitch = s.stitch ∧ (onFade f s).tmb = s.tmb ∧ (onFade f s).skn = s.skn ∧ (onFade f s).bob = s.bob ∧
    (onFade f s).tab = s.tab ∧ (onFade f s).sched = s.sched ∧ (onFade f s).lace = s.lace ∧ (onFade f s).chain = s.chain ∧
    (onFade f s).air = s.air ∧ (onFade f s).met = s.met ∧ (onFade f s).sys = s.sys ∧ (onFade f s).net = s.net ∧
    (onFade f s).pnl = s.pnl ∧ (onFade f s).freeCtr = s.freeCtr := by
  and_intros <;> rfl
@[simp] theorem onFade_fade (f : FadeUnit → FadeUnit) (s : State) : (onFade f s).fade = f s.fade := rfl

@[simp] theorem onChain_fields (f : Chain → Chain) (s : State) :
    (onChain f s).pending = s.pending ∧ (onChain f s).mbx = s.mbx ∧ (onChain f s).jnl = s.jnl ∧ (onChain f s).smp = s.smp ∧
    (onChain f s).set = s.set ∧ (onChain f s).sec = s.sec ∧ (onChain f s).time = s.time ∧ (onChain f s).rtc = s.rtc ∧
    (onChain f s).stitch = s.stitch ∧ (onChain f s).tmb = s.tmb ∧ (onChain f s).skn = s.skn ∧ (onChain f s).bob = s.bob ∧
    (onChain f s).tab = s.tab ∧ (onChain f s).sched = s.sched ∧ (onChain f s).lace = s.lace ∧ (onChain f s).fade = s.fade ∧
    (onChain f s).air = s.air ∧ (onChain f s).met = s.met ∧ (onChain f s).sys = s.sys ∧ (onChain f s).net = s.net ∧
    (onChain f s).pnl = s.pnl ∧ (onChain f s).freeCtr = s.freeCtr := by
  and_intros <;> rfl
@[simp] theorem onChain_chain (f : Chain → Chain) (s : State) : (onChain f s).chain = f s.chain := rfl

@[simp] theorem onAir_fields (f : Air → Air) (s : State) :
    (onAir f s).pending = s.pending ∧ (onAir f s).mbx = s.mbx ∧ (onAir f s).jnl = s.jnl ∧ (onAir f s).smp = s.smp ∧
    (onAir f s).set = s.set ∧ (onAir f s).sec = s.sec ∧ (onAir f s).time = s.time ∧ (onAir f s).rtc = s.rtc ∧
    (onAir f s).stitch = s.stitch ∧ (onAir f s).tmb = s.tmb ∧ (onAir f s).skn = s.skn ∧ (onAir f s).bob = s.bob ∧
    (onAir f s).tab = s.tab ∧ (onAir f s).sched = s.sched ∧ (onAir f s).lace = s.lace ∧ (onAir f s).fade = s.fade ∧
    (onAir f s).chain = s.chain ∧ (onAir f s).met = s.met ∧ (onAir f s).sys = s.sys ∧ (onAir f s).net = s.net ∧
    (onAir f s).pnl = s.pnl ∧ (onAir f s).freeCtr = s.freeCtr := by
  and_intros <;> rfl
@[simp] theorem onAir_air (f : Air → Air) (s : State) : (onAir f s).air = f s.air := rfl

@[simp] theorem onShuttle_fields (k : Nat) (f : Shuttle → Shuttle) (s : State) :
    (onShuttle k f s).pending = s.pending ∧ (onShuttle k f s).mbx = s.mbx ∧ (onShuttle k f s).jnl = s.jnl ∧ (onShuttle k f s).smp = s.smp ∧
    (onShuttle k f s).set = s.set ∧ (onShuttle k f s).sec = s.sec ∧ (onShuttle k f s).time = s.time ∧ (onShuttle k f s).rtc = s.rtc ∧
    (onShuttle k f s).stitch = s.stitch ∧ (onShuttle k f s).tmb = s.tmb ∧ (onShuttle k f s).skn = s.skn ∧ (onShuttle k f s).bob = s.bob ∧
    (onShuttle k f s).tab = s.tab ∧ (onShuttle k f s).sched = s.sched ∧ (onShuttle k f s).lace = s.lace ∧ (onShuttle k f s).fade = s.fade ∧
    (onShuttle k f s).chain = s.chain ∧ (onShuttle k f s).met = s.met ∧ (onShuttle k f s).sys = s.sys ∧ (onShuttle k f s).net = s.net ∧
    (onShuttle k f s).pnl = s.pnl ∧ (onShuttle k f s).freeCtr = s.freeCtr := by
  and_intros <;> rfl
@[simp] theorem onShuttle_air (k : Nat) (f : Shuttle → Shuttle) (s : State) : (onShuttle k f s).air = { s.air with shuttles := listModify s.air.shuttles k f } := rfl

@[simp] theorem onRadio_fields (p : Nat) (f : RadioPin → RadioPin) (s : State) :
    (onRadio p f s).pending = s.pending ∧ (onRadio p f s).mbx = s.mbx ∧ (onRadio p f s).jnl = s.jnl ∧ (onRadio p f s).smp = s.smp ∧
    (onRadio p f s).set = s.set ∧ (onRadio p f s).sec = s.sec ∧ (onRadio p f s).time = s.time ∧ (onRadio p f s).rtc = s.rtc ∧
    (onRadio p f s).stitch = s.stitch ∧ (onRadio p f s).tmb = s.tmb ∧ (onRadio p f s).skn = s.skn ∧ (onRadio p f s).bob = s.bob ∧
    (onRadio p f s).tab = s.tab ∧ (onRadio p f s).sched = s.sched ∧ (onRadio p f s).lace = s.lace ∧ (onRadio p f s).fade = s.fade ∧
    (onRadio p f s).chain = s.chain ∧ (onRadio p f s).met = s.met ∧ (onRadio p f s).sys = s.sys ∧ (onRadio p f s).net = s.net ∧
    (onRadio p f s).pnl = s.pnl ∧ (onRadio p f s).freeCtr = s.freeCtr := by
  and_intros <;> rfl
@[simp] theorem onRadio_air (p : Nat) (f : RadioPin → RadioPin) (s : State) : (onRadio p f s).air = { s.air with radio := tabSet s.air.radio p (f (tabGetD s.air.radio p default)) } := rfl

@[simp] theorem onMet_fields (f : Met → Met) (s : State) :
    (onMet f s).pending = s.pending ∧ (onMet f s).mbx = s.mbx ∧ (onMet f s).jnl = s.jnl ∧ (onMet f s).smp = s.smp ∧
    (onMet f s).set = s.set ∧ (onMet f s).sec = s.sec ∧ (onMet f s).time = s.time ∧ (onMet f s).rtc = s.rtc ∧
    (onMet f s).stitch = s.stitch ∧ (onMet f s).tmb = s.tmb ∧ (onMet f s).skn = s.skn ∧ (onMet f s).bob = s.bob ∧
    (onMet f s).tab = s.tab ∧ (onMet f s).sched = s.sched ∧ (onMet f s).lace = s.lace ∧ (onMet f s).fade = s.fade ∧
    (onMet f s).chain = s.chain ∧ (onMet f s).air = s.air ∧ (onMet f s).sys = s.sys ∧ (onMet f s).net = s.net ∧
    (onMet f s).pnl = s.pnl ∧ (onMet f s).freeCtr = s.freeCtr := by
  and_intros <;> rfl
@[simp] theorem onMet_met (f : Met → Met) (s : State) : (onMet f s).met = f s.met := rfl

@[simp] theorem onHarness_fields (h : Nat) (f : Harness → Harness) (s : State) :
    (onHarness h f s).pending = s.pending ∧ (onHarness h f s).mbx = s.mbx ∧ (onHarness h f s).jnl = s.jnl ∧ (onHarness h f s).smp = s.smp ∧
    (onHarness h f s).set = s.set ∧ (onHarness h f s).sec = s.sec ∧ (onHarness h f s).time = s.time ∧ (onHarness h f s).rtc = s.rtc ∧
    (onHarness h f s).stitch = s.stitch ∧ (onHarness h f s).tmb = s.tmb ∧ (onHarness h f s).skn = s.skn ∧ (onHarness h f s).bob = s.bob ∧
    (onHarness h f s).tab = s.tab ∧ (onHarness h f s).sched = s.sched ∧ (onHarness h f s).lace = s.lace ∧ (onHarness h f s).fade = s.fade ∧
    (onHarness h f s).chain = s.chain ∧ (onHarness h f s).air = s.air ∧ (onHarness h f s).sys = s.sys ∧ (onHarness h f s).net = s.net ∧
    (onHarness h f s).pnl = s.pnl ∧ (onHarness h f s).freeCtr = s.freeCtr := by
  and_intros <;> rfl
@[simp] theorem onHarness_met (h : Nat) (f : Harness → Harness) (s : State) : (onHarness h f s).met = { s.met with harnesses := listModify s.met.harnesses h f } := rfl

@[simp] theorem onFeeder_fields (n : Nat) (f : Feeder → Feeder) (s : State) :
    (onFeeder n f s).pending = s.pending ∧ (onFeeder n f s).mbx = s.mbx ∧ (onFeeder n f s).jnl = s.jnl ∧ (onFeeder n f s).smp = s.smp ∧
    (onFeeder n f s).set = s.set ∧ (onFeeder n f s).sec = s.sec ∧ (onFeeder n f s).time = s.time ∧ (onFeeder n f s).rtc = s.rtc ∧
    (onFeeder n f s).stitch = s.stitch ∧ (onFeeder n f s).tmb = s.tmb ∧ (onFeeder n f s).skn = s.skn ∧ (onFeeder n f s).bob = s.bob ∧
    (onFeeder n f s).tab = s.tab ∧ (onFeeder n f s).sched = s.sched ∧ (onFeeder n f s).lace = s.lace ∧ (onFeeder n f s).fade = s.fade ∧
    (onFeeder n f s).chain = s.chain ∧ (onFeeder n f s).air = s.air ∧ (onFeeder n f s).sys = s.sys ∧ (onFeeder n f s).net = s.net ∧
    (onFeeder n f s).pnl = s.pnl ∧ (onFeeder n f s).freeCtr = s.freeCtr := by
  and_intros <;> rfl
@[simp] theorem onFeeder_met (n : Nat) (f : Feeder → Feeder) (s : State) : (onFeeder n f s).met = { s.met with feeders := listModify s.met.feeders n f } := rfl

@[simp] theorem onSet_fields (h : Nat) (f : VoltSet → VoltSet) (s : State) :
    (onSet h f s).pending = s.pending ∧ (onSet h f s).mbx = s.mbx ∧ (onSet h f s).jnl = s.jnl ∧ (onSet h f s).smp = s.smp ∧
    (onSet h f s).set = s.set ∧ (onSet h f s).sec = s.sec ∧ (onSet h f s).time = s.time ∧ (onSet h f s).rtc = s.rtc ∧
    (onSet h f s).stitch = s.stitch ∧ (onSet h f s).tmb = s.tmb ∧ (onSet h f s).skn = s.skn ∧ (onSet h f s).bob = s.bob ∧
    (onSet h f s).tab = s.tab ∧ (onSet h f s).sched = s.sched ∧ (onSet h f s).lace = s.lace ∧ (onSet h f s).fade = s.fade ∧
    (onSet h f s).chain = s.chain ∧ (onSet h f s).air = s.air ∧ (onSet h f s).sys = s.sys ∧ (onSet h f s).net = s.net ∧
    (onSet h f s).pnl = s.pnl ∧ (onSet h f s).freeCtr = s.freeCtr := by
  and_intros <;> rfl
@[simp] theorem onSet_met (h : Nat) (f : VoltSet → VoltSet) (s : State) : (onSet h f s).met = { s.met with sets := listModify s.met.sets h f } := rfl

@[simp] theorem onOutput_fields (n : Nat) (f : Contactor → Contactor) (s : State) :
    (onOutput n f s).pending = s.pending ∧ (onOutput n f s).mbx = s.mbx ∧ (onOutput n f s).jnl = s.jnl ∧ (onOutput n f s).smp = s.smp ∧
    (onOutput n f s).set = s.set ∧ (onOutput n f s).sec = s.sec ∧ (onOutput n f s).time = s.time ∧ (onOutput n f s).rtc = s.rtc ∧
    (onOutput n f s).stitch = s.stitch ∧ (onOutput n f s).tmb = s.tmb ∧ (onOutput n f s).skn = s.skn ∧ (onOutput n f s).bob = s.bob ∧
    (onOutput n f s).tab = s.tab ∧ (onOutput n f s).sched = s.sched ∧ (onOutput n f s).lace = s.lace ∧ (onOutput n f s).fade = s.fade ∧
    (onOutput n f s).chain = s.chain ∧ (onOutput n f s).air = s.air ∧ (onOutput n f s).sys = s.sys ∧ (onOutput n f s).net = s.net ∧
    (onOutput n f s).pnl = s.pnl ∧ (onOutput n f s).freeCtr = s.freeCtr := by
  and_intros <;> rfl
@[simp] theorem onOutput_met (n : Nat) (f : Contactor → Contactor) (s : State) : (onOutput n f s).met = { s.met with outputs := listModify s.met.outputs n f } := rfl

@[simp] theorem onDfc_fields (n : Nat) (f : Dfc → Dfc) (s : State) :
    (onDfc n f s).pending = s.pending ∧ (onDfc n f s).mbx = s.mbx ∧ (onDfc n f s).jnl = s.jnl ∧ (onDfc n f s).smp = s.smp ∧
    (onDfc n f s).set = s.set ∧ (onDfc n f s).sec = s.sec ∧ (onDfc n f s).time = s.time ∧ (onDfc n f s).rtc = s.rtc ∧
    (onDfc n f s).stitch = s.stitch ∧ (onDfc n f s).tmb = s.tmb ∧ (onDfc n f s).skn = s.skn ∧ (onDfc n f s).bob = s.bob ∧
    (onDfc n f s).tab = s.tab ∧ (onDfc n f s).sched = s.sched ∧ (onDfc n f s).lace = s.lace ∧ (onDfc n f s).fade = s.fade ∧
    (onDfc n f s).chain = s.chain ∧ (onDfc n f s).air = s.air ∧ (onDfc n f s).sys = s.sys ∧ (onDfc n f s).net = s.net ∧
    (onDfc n f s).pnl = s.pnl ∧ (onDfc n f s).freeCtr = s.freeCtr := by
  and_intros <;> rfl
@[simp] theorem onDfc_met (n : Nat) (f : Dfc → Dfc) (s : State) : (onDfc n f s).met = { s.met with dfc := listModify s.met.dfc n f } := rfl

@[simp] theorem onInterval_fields (f : Interval → Interval) (s : State) :
    (onInterval f s).pending = s.pending ∧ (onInterval f s).mbx = s.mbx ∧ (onInterval f s).jnl = s.jnl ∧ (onInterval f s).smp = s.smp ∧
    (onInterval f s).set = s.set ∧ (onInterval f s).sec = s.sec ∧ (onInterval f s).time = s.time ∧ (onInterval f s).rtc = s.rtc ∧
    (onInterval f s).stitch = s.stitch ∧ (onInterval f s).tmb = s.tmb ∧ (onInterval f s).skn = s.skn ∧ (onInterval f s).bob = s.bob ∧
    (onInterval f s).tab = s.tab ∧ (onInterval f s).sched = s.sched ∧ (onInterval f s).lace = s.lace ∧ (onInterval f s).fade = s.fade ∧
    (onInterval f s).chain = s.chain ∧ (onInterval f s).air = s.air ∧ (onInterval f s).sys = s.sys ∧ (onInterval f s).net = s.net ∧
    (onInterval f s).pnl = s.pnl ∧ (onInterval f s).freeCtr = s.freeCtr := by
  and_intros <;> rfl
@[simp] theorem onInterval_met (f : Interval → Interval) (s : State) : (onInterval f s).met = { s.met with interval := f s.met.interval } := rfl

@[simp] theorem onSys_fields (f : Sys → Sys) (s : State) :
    (onSys f s).pending = s.pending ∧ (onSys f s).mbx = s.mbx ∧ (onSys f s).jnl = s.jnl ∧ (onSys f s).smp = s.smp ∧
    (onSys f s).set = s.set ∧ (onSys f s).sec = s.sec ∧ (onSys f s).time = s.time ∧ (onSys f s).rtc = s.rtc ∧
    (onSys f s).stitch = s.stitch ∧ (onSys f s).tmb = s.tmb ∧ (onSys f s).skn = s.skn ∧ (onSys f s).bob = s.bob ∧
    (onSys f s).tab = s.tab ∧ (onSys f s).sched = s.sched ∧ (onSys f s).lace = s.lace ∧ (onSys f s).fade = s.fade ∧
    (onSys f s).chain = s.chain ∧ (onSys f s).air = s.air ∧ (onSys f s).met = s.met ∧ (onSys f s).net = s.net ∧
    (onSys f s).pnl = s.pnl ∧ (onSys f s).freeCtr = s.freeCtr := by
  and_intros <;> rfl
@[simp] theorem onSys_sys (f : Sys → Sys) (s : State) : (onSys f s).sys = f s.sys := rfl

@[simp] theorem onNet_fields (f : Net → Net) (s : State) :
    (onNet f s).pending = s.pending ∧ (onNet f s).mbx = s.mbx ∧ (onNet f s).jnl = s.jnl ∧ (onNet f s).smp = s.smp ∧
    (onNet f s).set = s.set ∧ (onNet f s).sec = s.sec ∧ (onNet f s).time = s.time ∧ (onNet f s).rtc = s.rtc ∧
    (onNet f s).stitch = s.stitch ∧ (onNet f s).tmb = s.tmb ∧ (onNet f s).skn = s.skn ∧ (onNet f s).bob = s.bob ∧
    (onNet f s).tab = s.tab ∧ (onNet f s).sched = s.sched ∧ (onNet f s).lace = s.lace ∧ (onNet f s).fade = s.fade ∧
    (onNet f s).chain = s.chain ∧ (onNet f s).air = s.air ∧ (onNet f s).met = s.met ∧ (onNet f s).sys = s.sys ∧
    (onNet f s).pnl = s.pnl ∧ (onNet f s).freeCtr = s.freeCtr := by
  and_intros <;> rfl
@[simp] theorem onNet_net (f : Net → Net) (s : State) : (onNet f s).net = f s.net := rfl

@[simp] theorem onPort_fields (p : Nat) (f : SwPort → SwPort) (s : State) :
    (onPort p f s).pending = s.pending ∧ (onPort p f s).mbx = s.mbx ∧ (onPort p f s).jnl = s.jnl ∧ (onPort p f s).smp = s.smp ∧
    (onPort p f s).set = s.set ∧ (onPort p f s).sec = s.sec ∧ (onPort p f s).time = s.time ∧ (onPort p f s).rtc = s.rtc ∧
    (onPort p f s).stitch = s.stitch ∧ (onPort p f s).tmb = s.tmb ∧ (onPort p f s).skn = s.skn ∧ (onPort p f s).bob = s.bob ∧
    (onPort p f s).tab = s.tab ∧ (onPort p f s).sched = s.sched ∧ (onPort p f s).lace = s.lace ∧ (onPort p f s).fade = s.fade ∧
    (onPort p f s).chain = s.chain ∧ (onPort p f s).air = s.air ∧ (onPort p f s).met = s.met ∧ (onPort p f s).sys = s.sys ∧
    (onPort p f s).pnl = s.pnl ∧ (onPort p f s).freeCtr = s.freeCtr := by
  and_intros <;> rfl
@[simp] theorem onPort_net (p : Nat) (f : SwPort → SwPort) (s : State) : (onPort p f s).net = { s.net with ports := listModify s.net.ports p f } := rfl

@[simp] theorem onRing_fields (f : Ring → Ring) (s : State) :
    (onRing f s).pending = s.pending ∧ (onRing f s).mbx = s.mbx ∧ (onRing f s).jnl = s.jnl ∧ (onRing f s).smp = s.smp ∧
    (onRing f s).set = s.set ∧ (onRing f s).sec = s.sec ∧ (onRing f s).time = s.time ∧ (onRing f s).rtc = s.rtc ∧
    (onRing f s).stitch = s.stitch ∧ (onRing f s).tmb = s.tmb ∧ (onRing f s).skn = s.skn ∧ (onRing f s).bob = s.bob ∧
    (onRing f s).tab = s.tab ∧ (onRing f s).sched = s.sched ∧ (onRing f s).lace = s.lace ∧ (onRing f s).fade = s.fade ∧
    (onRing f s).chain = s.chain ∧ (onRing f s).air = s.air ∧ (onRing f s).met = s.met ∧ (onRing f s).sys = s.sys ∧
    (onRing f s).pnl = s.pnl ∧ (onRing f s).freeCtr = s.freeCtr := by
  and_intros <;> rfl
@[simp] theorem onRing_net (f : Ring → Ring) (s : State) : (onRing f s).net = { s.net with ring := f s.net.ring } := rfl

@[simp] theorem onPanel_fields (f : Panel → Panel) (s : State) :
    (onPanel f s).pending = s.pending ∧ (onPanel f s).mbx = s.mbx ∧ (onPanel f s).jnl = s.jnl ∧ (onPanel f s).smp = s.smp ∧
    (onPanel f s).set = s.set ∧ (onPanel f s).sec = s.sec ∧ (onPanel f s).time = s.time ∧ (onPanel f s).rtc = s.rtc ∧
    (onPanel f s).stitch = s.stitch ∧ (onPanel f s).tmb = s.tmb ∧ (onPanel f s).skn = s.skn ∧ (onPanel f s).bob = s.bob ∧
    (onPanel f s).tab = s.tab ∧ (onPanel f s).sched = s.sched ∧ (onPanel f s).lace = s.lace ∧ (onPanel f s).fade = s.fade ∧
    (onPanel f s).chain = s.chain ∧ (onPanel f s).air = s.air ∧ (onPanel f s).met = s.met ∧ (onPanel f s).sys = s.sys ∧
    (onPanel f s).net = s.net ∧ (onPanel f s).freeCtr = s.freeCtr := by
  and_intros <;> rfl
@[simp] theorem onPanel_pnl (f : Panel → Panel) (s : State) : (onPanel f s).pnl = f s.pnl := rfl

@[simp] theorem modifyCmd_fields (m : Nat) (q : U32) (f : Cmd → Cmd) (s : State) :
    (modifyCmd m q f s).pending = s.pending ∧ (modifyCmd m q f s).jnl = s.jnl ∧ (modifyCmd m q f s).smp = s.smp ∧ (modifyCmd m q f s).set = s.set ∧
    (modifyCmd m q f s).sec = s.sec ∧ (modifyCmd m q f s).time = s.time ∧ (modifyCmd m q f s).rtc = s.rtc ∧ (modifyCmd m q f s).stitch = s.stitch ∧
    (modifyCmd m q f s).tmb = s.tmb ∧ (modifyCmd m q f s).skn = s.skn ∧ (modifyCmd m q f s).bob = s.bob ∧ (modifyCmd m q f s).tab = s.tab ∧
    (modifyCmd m q f s).sched = s.sched ∧ (modifyCmd m q f s).lace = s.lace ∧ (modifyCmd m q f s).fade = s.fade ∧ (modifyCmd m q f s).chain = s.chain ∧
    (modifyCmd m q f s).air = s.air ∧ (modifyCmd m q f s).met = s.met ∧ (modifyCmd m q f s).sys = s.sys ∧ (modifyCmd m q f s).net = s.net ∧
    (modifyCmd m q f s).pnl = s.pnl ∧ (modifyCmd m q f s).freeCtr = s.freeCtr := by
  and_intros <;> rfl

@[simp] theorem joinRef_fields (q : U32) (k src : Nat) (b : Bytes) (s : State) :
    (joinRef q k src b s).pending = s.pending ∧ (joinRef q k src b s).mbx = s.mbx ∧ (joinRef q k src b s).smp = s.smp ∧ (joinRef q k src b s).set = s.set ∧
    (joinRef q k src b s).sec = s.sec ∧ (joinRef q k src b s).time = s.time ∧ (joinRef q k src b s).rtc = s.rtc ∧ (joinRef q k src b s).stitch = s.stitch ∧
    (joinRef q k src b s).tmb = s.tmb ∧ (joinRef q k src b s).skn = s.skn ∧ (joinRef q k src b s).bob = s.bob ∧ (joinRef q k src b s).tab = s.tab ∧
    (joinRef q k src b s).sched = s.sched ∧ (joinRef q k src b s).lace = s.lace ∧ (joinRef q k src b s).fade = s.fade ∧ (joinRef q k src b s).chain = s.chain ∧
    (joinRef q k src b s).air = s.air ∧ (joinRef q k src b s).met = s.met ∧ (joinRef q k src b s).sys = s.sys ∧ (joinRef q k src b s).net = s.net ∧
    (joinRef q k src b s).pnl = s.pnl ∧ (joinRef q k src b s).freeCtr = s.freeCtr := by
  and_intros <;> rfl

@[simp] theorem throughSkein_fields (n : Nat) (b : Bytes) (s : State) :
    (throughSkein n b s).pending = s.pending ∧ (throughSkein n b s).mbx = s.mbx ∧ (throughSkein n b s).jnl = s.jnl ∧ (throughSkein n b s).smp = s.smp ∧
    (throughSkein n b s).set = s.set ∧ (throughSkein n b s).sec = s.sec ∧ (throughSkein n b s).time = s.time ∧ (throughSkein n b s).rtc = s.rtc ∧
    (throughSkein n b s).stitch = s.stitch ∧ (throughSkein n b s).tmb = s.tmb ∧ (throughSkein n b s).bob = s.bob ∧ (throughSkein n b s).tab = s.tab ∧
    (throughSkein n b s).sched = s.sched ∧ (throughSkein n b s).lace = s.lace ∧ (throughSkein n b s).fade = s.fade ∧ (throughSkein n b s).chain = s.chain ∧
    (throughSkein n b s).air = s.air ∧ (throughSkein n b s).met = s.met ∧ (throughSkein n b s).sys = s.sys ∧ (throughSkein n b s).net = s.net ∧
    (throughSkein n b s).pnl = s.pnl ∧ (throughSkein n b s).freeCtr = s.freeCtr := by
  and_intros <;> rfl

@[simp] theorem post_fields (code src : Nat) (b : Bytes) (s : State) :
    (post code src b s).pending = s.pending ∧ (post code src b s).mbx = s.mbx ∧ (post code src b s).jnl = s.jnl ∧ (post code src b s).set = s.set ∧
    (post code src b s).sec = s.sec ∧ (post code src b s).time = s.time ∧ (post code src b s).rtc = s.rtc ∧ (post code src b s).stitch = s.stitch ∧
    (post code src b s).tmb = s.tmb ∧ (post code src b s).bob = s.bob ∧ (post code src b s).tab = s.tab ∧ (post code src b s).sched = s.sched ∧
    (post code src b s).lace = s.lace ∧ (post code src b s).fade = s.fade ∧ (post code src b s).chain = s.chain ∧ (post code src b s).air = s.air ∧
    (post code src b s).met = s.met ∧ (post code src b s).sys = s.sys ∧ (post code src b s).net = s.net ∧ (post code src b s).freeCtr = s.freeCtr := by
  unfold post
  dsimp only
  split <;> (and_intros <;> rfl)

@[simp] theorem retire_fields (q : U32) (s : State) :
    (retire q s).pending = s.pending ∧ (retire q s).mbx = s.mbx ∧ (retire q s).smp = s.smp ∧ (retire q s).set = s.set ∧
    (retire q s).sec = s.sec ∧ (retire q s).time = s.time ∧ (retire q s).rtc = s.rtc ∧ (retire q s).stitch = s.stitch ∧
    (retire q s).tmb = s.tmb ∧ (retire q s).skn = s.skn ∧ (retire q s).bob = s.bob ∧ (retire q s).tab = s.tab ∧
    (retire q s).sched = s.sched ∧ (retire q s).lace = s.lace ∧ (retire q s).fade = s.fade ∧ (retire q s).chain = s.chain ∧
    (retire q s).air = s.air ∧ (retire q s).met = s.met ∧ (retire q s).sys = s.sys ∧ (retire q s).net = s.net ∧
    (retire q s).pnl = s.pnl ∧ (retire q s).freeCtr = s.freeCtr := by
  and_intros <;> rfl

@[simp] theorem freeSlotOf_fields (t : TaskSlot) (s : State) :
    (freeSlotOf t s).pending = s.pending ∧ (freeSlotOf t s).mbx = s.mbx ∧ (freeSlotOf t s).jnl = s.jnl ∧ (freeSlotOf t s).smp = s.smp ∧
    (freeSlotOf t s).set = s.set ∧ (freeSlotOf t s).sec = s.sec ∧ (freeSlotOf t s).time = s.time ∧ (freeSlotOf t s).rtc = s.rtc ∧
    (freeSlotOf t s).stitch = s.stitch ∧ (freeSlotOf t s).skn = s.skn ∧ (freeSlotOf t s).bob = s.bob ∧ (freeSlotOf t s).tab = s.tab ∧
    (freeSlotOf t s).sched = s.sched ∧ (freeSlotOf t s).lace = s.lace ∧ (freeSlotOf t s).fade = s.fade ∧ (freeSlotOf t s).chain = s.chain ∧
    (freeSlotOf t s).air = s.air ∧ (freeSlotOf t s).met = s.met ∧ (freeSlotOf t s).sys = s.sys ∧ (freeSlotOf t s).net = s.net ∧
    (freeSlotOf t s).pnl = s.pnl ∧ (freeSlotOf t s).freeCtr = s.freeCtr := by
  and_intros <;> rfl

@[simp] theorem freeTask_fields (k : TaskKind) (s : State) :
    (freeTask k s).pending = s.pending ∧ (freeTask k s).mbx = s.mbx ∧ (freeTask k s).jnl = s.jnl ∧ (freeTask k s).smp = s.smp ∧
    (freeTask k s).set = s.set ∧ (freeTask k s).sec = s.sec ∧ (freeTask k s).time = s.time ∧ (freeTask k s).rtc = s.rtc ∧
    (freeTask k s).stitch = s.stitch ∧ (freeTask k s).skn = s.skn ∧ (freeTask k s).bob = s.bob ∧ (freeTask k s).tab = s.tab ∧
    (freeTask k s).sched = s.sched ∧ (freeTask k s).lace = s.lace ∧ (freeTask k s).fade = s.fade ∧ (freeTask k s).chain = s.chain ∧
    (freeTask k s).air = s.air ∧ (freeTask k s).met = s.met ∧ (freeTask k s).sys = s.sys ∧ (freeTask k s).net = s.net ∧
    (freeTask k s).pnl = s.pnl ∧ (freeTask k s).freeCtr = s.freeCtr := by
  unfold freeTask
  split <;> simp

@[simp] theorem postIf_fields (c : Bool) (code src : Nat) (b : Bytes) (s : State) :
    (postIf c code src b s).pending = s.pending ∧ (postIf c code src b s).mbx = s.mbx ∧ (postIf c code src b s).jnl = s.jnl ∧ (postIf c code src b s).set = s.set ∧
    (postIf c code src b s).sec = s.sec ∧ (postIf c code src b s).time = s.time ∧ (postIf c code src b s).rtc = s.rtc ∧ (postIf c code src b s).stitch = s.stitch ∧
    (postIf c code src b s).tmb = s.tmb ∧ (postIf c code src b s).bob = s.bob ∧ (postIf c code src b s).tab = s.tab ∧
    (postIf c code src b s).sched = s.sched ∧ (postIf c code src b s).lace = s.lace ∧ (postIf c code src b s).fade = s.fade ∧ (postIf c code src b s).chain = s.chain ∧
    (postIf c code src b s).air = s.air ∧ (postIf c code src b s).met = s.met ∧ (postIf c code src b s).sys = s.sys ∧ (postIf c code src b s).net = s.net ∧
    (postIf c code src b s).freeCtr = s.freeCtr := by
  unfold postIf
  split <;> simp

@[simp] theorem dropSetting_fields (q : U32) (s : State) :
    (dropSetting q s).pending = s.pending ∧ (dropSetting q s).mbx = s.mbx ∧ (dropSetting q s).jnl = s.jnl ∧ (dropSetting q s).smp = s.smp ∧
    (dropSetting q s).sec = s.sec ∧ (dropSetting q s).time = s.time ∧ (dropSetting q s).rtc = s.rtc ∧ (dropSetting q s).stitch = s.stitch ∧
    (dropSetting q s).tmb = s.tmb ∧ (dropSetting q s).skn = s.skn ∧ (dropSetting q s).bob = s.bob ∧ (dropSetting q s).tab = s.tab ∧
    (dropSetting q s).sched = s.sched ∧ (dropSetting q s).lace = s.lace ∧ (dropSetting q s).fade = s.fade ∧ (dropSetting q s).chain = s.chain ∧
    (dropSetting q s).air = s.air ∧ (dropSetting q s).met = s.met ∧ (dropSetting q s).sys = s.sys ∧ (dropSetting q s).net = s.net ∧
    (dropSetting q s).pnl = s.pnl ∧ (dropSetting q s).freeCtr = s.freeCtr := by
  unfold dropSetting
  split <;> simp

@[simp] theorem completeWith_fields (m : Nat) (q : U32) (o : CmdOutcome) (s : State) :
    (completeWith m q o s).pending = s.pending ∧ (completeWith m q o s).smp = s.smp ∧ (completeWith m q o s).sec = s.sec ∧ (completeWith m q o s).time = s.time ∧
    (completeWith m q o s).rtc = s.rtc ∧ (completeWith m q o s).stitch = s.stitch ∧ (completeWith m q o s).tmb = s.tmb ∧ (completeWith m q o s).skn = s.skn ∧
    (completeWith m q o s).bob = s.bob ∧ (completeWith m q o s).tab = s.tab ∧ (completeWith m q o s).sched = s.sched ∧ (completeWith m q o s).lace = s.lace ∧
    (completeWith m q o s).fade = s.fade ∧ (completeWith m q o s).chain = s.chain ∧ (completeWith m q o s).air = s.air ∧ (completeWith m q o s).met = s.met ∧
    (completeWith m q o s).sys = s.sys ∧ (completeWith m q o s).net = s.net ∧ (completeWith m q o s).pnl = s.pnl ∧ (completeWith m q o s).freeCtr = s.freeCtr := by
  cases o <;> simp [completeWith]
  split <;> simp

end Sys2Proof.Machine
end

