-- ==== Sys2Proof/Laws/Commands.lean ====
section
/-! SUPPORT. The execution of a mailbox command, once for every command: what the row's answer is when the command's own part
ends with DONE, ends with EFFECT, or goes on. -/

namespace Sys2Proof.Machine

theorem listModify_at {α : Type} (d : α) (f : α → α) (hd : f d = d) :
    ∀ (l : List α) (k : Nat), (listModify l k f).getD k d = f (l.getD k d)
  | [], _ => by simp [listModify, hd]
  | _ :: _, 0 => by simp [listModify]
  | _ :: t, k + 1 => by
      have := listModify_at d f hd t k
      simpa [listModify] using this

theorem listModify_other {α : Type} (d : α) (f : α → α) : ∀ (l : List α) (k j : Nat), j ≠ k → (listModify l k f).getD j d = l.getD j d
  | [], _, _, _ => by simp [listModify]
  | _ :: _, 0, 0, h => absurd rfl h
  | _ :: _, 0, j + 1, _ => by simp [listModify]
  | _ :: _, k + 1, 0, _ => by simp [listModify]
  | _ :: t, k + 1, j + 1, h => by
      have := listModify_other d f t k j (by omega)
      simpa [listModify] using this

theorem modifyCmd_at (m : Nat) (q : U32) (f : Cmd → Cmd) (s : State) :
    box (modifyCmd m q f s) m = { box s m with cmds := (box s m).cmds.map fun d => if d.seq == q then f d else d } :=
  listModify_at default _ rfl s.mbx.boxes m

theorem modifyCmd_other (m : Nat) (q : U32) (f : Cmd → Cmd) (s : State) {k : Nat} (h : k ≠ m) : box (modifyCmd m q f s) k = box s k :=
  listModify_other default _ s.mbx.boxes m k h

theorem freeTask_only (k : TaskKind) (s : State) : freeTask k s = { s with tmb := (freeTask k s).tmb } := by
  unfold freeTask; split <;> rfl

theorem freeTask_batch (k : TaskKind) (s : State) : (freeTask k s).jnl = s.jnl := by
  rw [freeTask_only]

theorem freeTask_box (k : TaskKind) (s : State) (m : Nat) : box (freeTask k s) m = box s m := by
  rw [freeTask_only]; rfl

/-- The completion with DONE of a command's execution. -/
theorem run_done {spec : CmdSpec} {s t : State} {m st : Nat} {c : Cmd} {res : Bytes} (h : Executing s m c spec.opcode)
    (hr : spec.run m c s = (t, .done st res)) :
    mailboxCommand spec (.run m) s = completeWith m c.seq (.done st res) (freeTask (.mailbox m) t) := by
  obtain ⟨h1, h2, h3⟩ := h
  simp [mailboxCommand, runCommand, h1, h2, h3, hr]

theorem run_effect {spec : CmdSpec} {s t : State} {m : Nat} {n : U32} {c : Cmd} {res : Bytes} (h : Executing s m c spec.opcode)
    (hr : spec.run m c s = (t, .effect n res)) :
    mailboxCommand spec (.run m) s = completeWith m c.seq (.effect n res) (freeTask (.mailbox m) t) := by
  obtain ⟨h1, h2, h3⟩ := h
  simp [mailboxCommand, runCommand, h1, h2, h3, hr]

theorem run_waits {spec : CmdSpec} {s t : State} {m : Nat} {c : Cmd} (h : Executing s m c spec.opcode)
    (hr : spec.run m c s = (t, .waits)) :
    mailboxCommand spec (.run m) s = modifyCmd m c.seq (fun c => { c with begun := true }) t := by
  obtain ⟨h1, h2, h3⟩ := h
  simp [mailboxCommand, runCommand, h1, h2, h3, hr]

/-- What freeing a task's slot changes. -/
theorem freeTask_only' (k : TaskKind) (s : State) : ∃ a b, freeTask k s = { s with tmb.slots := a, tmb.loads := b } := by
  unfold freeTask; split
  · exact ⟨s.tmb.slots, s.tmb.loads, rfl⟩
  · exact ⟨_, _, rfl⟩

theorem dropSetting_set (q : U32) (s : State) :
    ∃ x, dropSetting q s = { s with set := x } ∧ x = { s.set with projGen := x.projGen, unretired := x.unretired } := by
  unfold dropSetting; split
  · exact ⟨_, rfl, rfl⟩
  · exact ⟨s.set, rfl, rfl⟩

/-- Freeing the task, then completing the command. -/
theorem completed_of (m : Nat) (c : Cmd) (e : JEntry) (st : Nat) (res : Bytes) (t : State) (he : e.seq = c.seq) (hf : e.flags = 0)
    (hs : e.source = m) :
    Completed t (joinRef c.seq e.kind m e.body (modifyCmd m c.seq (fun d => { d with phase := .finishing, status := st, result := res })
      (freeTask (.mailbox m) t))) m c e st res := by
  have hb : ∀ k, box (freeTask (.mailbox m) t) k = box t k := freeTask_box _ t
  refine ⟨?_, ?_, ?_, ?_⟩
  · obtain ⟨a, b, hab⟩ := freeTask_only' (.mailbox m) t
    rw [hab]; rfl
  · show (freeTask (.mailbox m) t).jnl.batch ++ _ = _
    rw [freeTask_batch, ← he, ← hf, ← hs]
  · intro k hk
    exact (modifyCmd_other m c.seq _ _ hk).trans (hb k)
  · have := modifyCmd_at m c.seq (fun d => { d with phase := .finishing, status := st, result := res }) (freeTask (.mailbox m) t)
    rw [hb m] at this
    exact this

theorem completed_done (m : Nat) (c : Cmd) (res : Bytes) (t : State) :
    Completed t (completeWith m c.seq (.done 0 res) (freeTask (.mailbox m) t)) m c (doneEntry m c 0 res) 0 res :=
  completed_of m c (doneEntry m c 0 res) 0 res t rfl rfl rfl

theorem completed_effect (m : Nat) (c : Cmd) (n : U32) (res : Bytes) (t : State) :
    Completed t (completeWith m c.seq (.effect n res) (freeTask (.mailbox m) t)) m c (effectEntry m c n res) 0 res :=
  completed_of m c (effectEntry m c n res) 0 res t rfl rfl rfl

/-- A command whose part answers DONE with OK. -/
theorem doneOk_of_run {i : Instr} {spec : CmdSpec} {s t : State} {m : Nat} {c : Cmd} {res : Bytes}
    (hi : exec i s = .next (mailboxCommand spec (.run m) s)) (h : Executing s m c spec.opcode)
    (hr : spec.run m c s = (t, .done 0 res)) : ∃ u, exec i s = .next u ∧ Completed t u m c (doneEntry m c 0 res) 0 res := by
  rw [run_done h hr] at hi
  exact ⟨_, hi, completed_done m c res t⟩

/-- The same where the command's part changes nothing, or only draws free values. -/
theorem reads_of_draw {i : Instr} {spec : CmdSpec} {s : State} {m n : Nat} {c : Cmd} {res : Bytes}
    (hi : exec i s = .next (mailboxCommand spec (.run m) s)) (h : Executing s m c spec.opcode)
    (hr : spec.run m c s = ({ s with freeCtr := n }, .done 0 res)) : Reads i s m c res := by
  rw [run_done h hr] at hi
  exact ⟨_, hi, completed_done m c res { s with freeCtr := n }⟩

theorem reads_of_run {i : Instr} {spec : CmdSpec} {s : State} {m : Nat} {c : Cmd} {res : Bytes}
    (hi : exec i s = .next (mailboxCommand spec (.run m) s)) (h : Executing s m c spec.opcode)
    (hr : spec.run m c s = (s, .done 0 res)) : Reads i s m c res :=
  reads_of_draw (n := s.freeCtr) hi h hr

/-- A command whose part answers EFFECT. -/
theorem acts_of_run {i : Instr} {spec : CmdSpec} {s t : State} {m : Nat} {c : Cmd} {n : U32} {res : Bytes}
    (hi : exec i s = .next (mailboxCommand spec (.run m) s)) (h : Executing s m c spec.opcode)
    (hr : spec.run m c s = (t, .effect n res)) : Acts i s m c n res t := by
  rw [run_effect h hr] at hi
  exact ⟨_, hi, completed_effect m c n res t⟩

/-- A command whose part answers DONE with any status. -/
theorem done_of_run' {i : Instr} {spec : CmdSpec} {s t : State} {m st : Nat} {c : Cmd} {res : Bytes}
    (hi : exec i s = .next (mailboxCommand spec (.run m) s)) (h : Executing s m c spec.opcode)
    (hr : spec.run m c s = (t, .done st res)) :
    ∃ u, exec i s = .next u ∧ Completed { t with set := u.set } u m c (doneEntry m c st res) st res ∧
      u.set = { t.set with projGen := u.set.projGen, unretired := u.set.unretired } := by
  rw [run_done h hr] at hi
  refine ⟨_, hi, ?_⟩
  have key : ∀ x : Settings, freeTask (.mailbox m) { t with set := x } = { freeTask (.mailbox m) t with set := x } := by
    intro x
    unfold freeTask
    dsimp only
    cases t.tmb.slots.find? fun t => t.kind == .mailbox m && t.state == .running <;> rfl
  obtain ⟨x, hx, hx'⟩ := dropSetting_set c.seq (freeTask (.mailbox m) t)
  have ht : (freeTask (.mailbox m) t).set = t.set := by rw [freeTask_only]
  rw [ht] at hx'
  have e : ∃ y, y = { t.set with projGen := y.projGen, unretired := y.unretired } ∧
      completeWith m c.seq (.done st res) (freeTask (.mailbox m) t) =
      joinRef c.seq 7 m (doneEntry m c st res).body (modifyCmd m c.seq (fun d => { d with phase := .finishing, status := st, result := res })
        (freeTask (.mailbox m) { t with set := y })) := by
    have e0 : ∃ y, y = { t.set with projGen := y.projGen, unretired := y.unretired } ∧
        (if isFailure st = true then dropSetting c.seq (freeTask (.mailbox m) t) else freeTask (.mailbox m) t) =
        freeTask (.mailbox m) { t with set := y } := by
      by_cases hf : isFailure st = true
      · exact ⟨x, hx', by rw [if_pos hf, hx]; exact (key x).symm⟩
      · exact ⟨t.set, rfl, by rw [if_neg hf]⟩
    obtain ⟨y, hy', hy⟩ := e0
    refine ⟨y, hy', ?_⟩
    unfold completeWith
    dsimp only
    rw [hy]; rfl
  obtain ⟨y, hy', hy⟩ := e
  rw [hy]
  have hc := completed_of m c (doneEntry m c st res) st res { t with set := y } rfl rfl rfl
  have hset : (joinRef c.seq 7 m (doneEntry m c st res).body (modifyCmd m c.seq (fun d => { d with phase := .finishing, status := st, result := res })
        (freeTask (.mailbox m) { t with set := y }))).set = y := by
    show (freeTask (.mailbox m) { t with set := y }).set = y
    rw [key]
  rw [hset]; exact ⟨hc, hy'⟩

theorem done_of_run {i : Instr} {spec : CmdSpec} {s t : State} {m st : Nat} {c : Cmd} {res : Bytes}
    (hi : exec i s = .next (mailboxCommand spec (.run m) s)) (h : Executing s m c spec.opcode)
    (hr : spec.run m c s = (t, .done st res)) :
    ∃ u, exec i s = .next u ∧ Completed { t with set := u.set } u m c (doneEntry m c st res) st res := by
  obtain ⟨u, h1, h2, -⟩ := done_of_run' hi h hr
  exact ⟨u, h1, h2⟩

theorem fails_of_run {i : Instr} {spec : CmdSpec} {s : State} {m st : Nat} {c : Cmd}
    (hi : exec i s = .next (mailboxCommand spec (.run m) s)) (h : Executing s m c spec.opcode)
    (hr : spec.run m c s = (s, .done st [])) : Fails i s m c st := done_of_run' hi h hr

/-- A command whose part leaves a due change. -/
theorem schedules_of_run {i : Instr} {spec : CmdSpec} {s : State} {m : Nat} {c : Cmd} {n : U32} {b : Bool} {ch : Change} {res : Bytes}
    (hi : exec i s = .next (mailboxCommand spec (.run m) s)) (h : Executing s m c spec.opcode)
    (hr : spec.run m c s = (dueChange c n b ch s, .effect n res)) : Schedules i s m c n b ch res := by
  obtain ⟨t, h1, h2⟩ := acts_of_run hi h hr
  have h3 : t.set = (dueChange c n b ch s).set := by rw [h2.1]; rfl
  refine ⟨t, h1, ?_, by rw [h3]; rfl⟩
  rw [h3]; exact h2

/-- A command whose part goes on. -/
theorem begins_of_run {i : Instr} {spec : CmdSpec} {s t : State} {m : Nat} {c : Cmd}
    (hi : exec i s = .next (mailboxCommand spec (.run m) s)) (h : Executing s m c spec.opcode)
    (hr : spec.run m c s = (t, .waits)) : Begins i s m c t := by
  rw [run_waits h hr] at hi
  exact ⟨_, hi, rfl, fun k hk => modifyCmd_other m c.seq _ t hk, modifyCmd_at m c.seq _ t⟩

end Sys2Proof.Machine
end

