-- ==== Sys2Proof/Laws/Requests.lean ====
section
/-! SUPPORT. A request at A0: what an answer changes, what a refusal leaves, what a row's acceptance keeps; and small facts of the
commands' own parts. -/

namespace Sys2Proof.Machine

theorem listModify_in {α : Type} (d : α) (f : α → α) : ∀ (l : List α) (k : Nat), k < l.length → (listModify l k f).getD k d = f (l.getD k d)
  | [], _, h => by simp at h
  | _ :: _, 0, _ => by simp [listModify]
  | _ :: t, k + 1, h => by
      have := listModify_in d f t k (by simpa using h)
      simpa [listModify] using this

theorem onBox_in (m : Nat) (f : Mailbox → Mailbox) (s : State) (h : m < s.mbx.boxes.length) : box (onBox m f s) m = f (box s m) :=
  listModify_in default f _ _ h

theorem onBox_other (m k : Nat) (f : Mailbox → Mailbox) (s : State) (h : k ≠ m) : box (onBox m f s) k = box s k :=
  listModify_other default f _ m k h

theorem listModify_out {α : Type} (f : α → α) : ∀ (l : List α) (k : Nat), l.length ≤ k → listModify l k f = l
  | [], _, _ => by simp [listModify]
  | _ :: _, 0, h => by simp at h
  | a :: t, k + 1, h => by
      have := listModify_out f t k (by simpa using h)
      simp [listModify, this]

theorem listModify_length {α : Type} (f : α → α) : ∀ (l : List α) (k : Nat), (listModify l k f).length = l.length
  | [], _ => by simp [listModify]
  | _ :: _, 0 => by simp [listModify]
  | a :: t, k + 1 => by simp [listModify, listModify_length f t k]

/-- Only what answers mailbox `m` is owed and sent has changed. -/
structure AnswersOnly (m : Nat) (s t : State) : Prop where
  rest : t = { s with mbx.boxes := t.mbx.boxes, mbx.sent := t.mbx.sent }
  others : ∀ k, k ≠ m → box t k = box s k
  own : ∃ a w, box t m = { box s m with answers := a, lastWindow := w }
  length : t.mbx.boxes.length = s.mbx.boxes.length

theorem AnswersOnly.rfl' (m : Nat) (s : State) : AnswersOnly m s s := ⟨rfl, fun _ _ => rfl, ⟨_, _, rfl⟩, rfl⟩

theorem AnswersOnly.trans {m : Nat} {s t u : State} (a : AnswersOnly m s t) (b : AnswersOnly m t u) : AnswersOnly m s u := by
  obtain ⟨a1, a2, ⟨x, y, a3⟩, a4⟩ := a
  obtain ⟨b1, b2, ⟨z, w, b3⟩, b4⟩ := b
  refine ⟨?_, fun k hk => (b2 k hk).trans (a2 k hk), ⟨z, w, ?_⟩, b4.trans a4⟩
  · rw [b1, a1]
  · rw [b3, a3]

theorem answersOnly_onBox (m : Nat) (f : Mailbox → Mailbox) (s : State) (h : ∀ b, ∃ a w, f b = { b with answers := a, lastWindow := w }) :
    AnswersOnly m s (onBox m f s) := by
  refine ⟨rfl, fun k hk => onBox_other m k f s hk, ?_, listModify_length _ _ _⟩
  by_cases hm : m < s.mbx.boxes.length
  · rw [onBox_in m f s hm]; exact h _
  · refine ⟨(box s m).answers, (box s m).lastWindow, ?_⟩
    show (listModify s.mbx.boxes m f).getD m default = _
    rw [listModify_out f _ _ (by omega)]; rfl

theorem answersOnly_send (m kind : Nat) (rep : Bool) (op : Nat) (q t : U32) (st : Nat) (p : Bytes) (s : State) :
    AnswersOnly m s (send m kind rep op q t st p s) := by
  unfold send
  split
  · exact AnswersOnly.rfl' m s
  · have := answersOnly_onBox m (fun b => { b with lastWindow := windowOf s m }) s (fun _ => ⟨_, _, rfl⟩)
    exact ⟨rfl, this.2, this.3, this.4⟩

theorem answersOnly_flush (m : Nat) : ∀ (n : Nat) (s : State), AnswersOnly m s (flushAnswers m n s)
  | 0, s => AnswersOnly.rfl' m s
  | n + 1, s => by
      have ob : ∀ rest, AnswersOnly m s (onBox m (fun b => { b with answers := rest }) s) := fun rest =>
        answersOnly_onBox m _ s (fun _ => ⟨_, _, rfl⟩)
      unfold flushAnswers
      dsimp only
      split
      · exact AnswersOnly.rfl' m s
      · exact ((ob _).trans (answersOnly_send ..)).trans (answersOnly_flush m n _)
      all_goals
        split
        · split
          · exact ((ob _).trans (answersOnly_send ..)).trans (answersOnly_flush m n _)
          · exact AnswersOnly.rfl' m s
        · exact (ob _).trans (answersOnly_flush m n _)

theorem answersOnly_answer (m : Nat) (a : Answer) (s : State) : AnswersOnly m s (answer m a s) :=
  (answersOnly_onBox m (fun b => { b with answers := b.answers ++ [a] }) s (fun _ => ⟨_, _, rfl⟩)).trans (answersOnly_flush m _ _)

/-- A refusal to a mailbox that is owed nothing is sent at once. -/
theorem answer_refused (m op : Nat) (tag : U32) (st : Nat) (d : Bytes) (s : State) (hm : m < s.mbx.boxes.length)
    (ha : (box s m).answers = []) (hs : (box s m).session ≠ .closed) (hr : s.mbx.a0Running = true) :
    (box (answer m (.refused op tag st d) s) m).answers = [] ∧ (answer m (.refused op tag st d) s).mbx.sent = s.mbx.sent ++
      [⟨m, kRefused, false, windowOf s m, op, 0, tag, st, d⟩] := by
  have h1 : box (onBox m (fun b => { b with answers := b.answers ++ [Answer.refused op tag st d] }) s) m =
      { box s m with answers := [.refused op tag st d] } := by rw [onBox_in m _ s hm, ha]; rfl
  unfold answer
  dsimp only
  rw [h1]
  show (box (flushAnswers m 1 _) m).answers = [] ∧ (flushAnswers m 1 _).mbx.sent = _
  unfold flushAnswers
  dsimp only
  rw [h1]
  dsimp only
  unfold flushAnswers
  generalize hu : onBox m (fun b => { b with answers := b.answers ++ [Answer.refused op tag st d] }) s = u at h1
  have hl : m < u.mbx.boxes.length := by rw [← hu]; exact (listModify_length _ _ _).symm ▸ hm
  have h2 : box (onBox m (fun b => { b with answers := [] }) u) m = { box s m with answers := [] } := by
    rw [onBox_in m _ u hl, h1]
  have hsent : (onBox m (fun b => { b with answers := [] }) u).mbx.sent = s.mbx.sent := by rw [← hu]; rfl
  have hrun : (onBox m (fun b => { b with answers := [] }) u).mbx.a0Running = true := by rw [← hu]; exact hr
  have hw : windowOf (onBox m (fun b => { b with answers := [] }) u) m = windowOf s m := by
    unfold windowOf
    rw [h2]
    have : a0HeldFor (onBox m (fun b => { b with answers := [] }) u) m = a0HeldFor s m := by rw [← hu]; rfl
    rw [this]
  generalize onBox m (fun b => { b with answers := [] }) u = v at h2 hsent hrun hw ⊢
  have hv : m < v.mbx.boxes.length := by
    by_contra hh
    have : box v m = default := by
      unfold box; rw [List.getD_eq_default]; omega
    rw [h2] at this
    have := congrArg Mailbox.session this
    exact hs this
  have hc : ((box v m).session == SessionState.closed || !v.mbx.a0Running) = false := by
    rw [h2, hrun]
    cases h : (box s m).session <;> simp_all
  unfold send
  rw [if_neg (by rw [hc]; decide)]
  constructor
  · show (box (onBox m _ v) m).answers = []
    rw [onBox_in m _ v hv, h2]
  · show v.mbx.sent ++ _ = _
    rw [hsent, hw]

theorem refuseRequest_refused (m : Nat) (h : Message) (st : Nat) (d : Bytes) (s : State) :
    Refused s (refuseRequest m h st d s) m h.opcode h.tag st d := by
  unfold refuseRequest
  have key : ∀ u : State, AnswersOnly m u (answer m (.refused h.opcode h.tag st d) u) := fun u => answersOnly_answer m _ u
  by_cases hst : st = stDenied
  · subst hst
    dsimp only
    simp only [beq_self_eq_true, if_true]
    generalize hu : onBox m (fun b => { b with deniedCnt := b.deniedCnt + 1 }) s = u
    have hb : m < s.mbx.boxes.length → box u m = { box s m with deniedCnt := (box s m).deniedCnt + 1 } := by
      intro hm; rw [← hu, onBox_in m _ s hm]
    have hb' : (box u m).cmds = (box s m).cmds ∧ (box u m).tags = (box s m).tags ∧ (box u m).session = (box s m).session := by
      by_cases hm : m < s.mbx.boxes.length
      · rw [hb hm]; exact ⟨rfl, rfl, rfl⟩
      · have : box u m = box s m := by
          rw [← hu]; show (listModify s.mbx.boxes m _).getD m default = _
          rw [listModify_out _ _ _ (by omega)]; rfl
        rw [this]; exact ⟨rfl, rfl, rfl⟩
    have hx : u = { s with mbx.boxes := u.mbx.boxes } := by rw [← hu]; rfl
    obtain ⟨k1, k2, ⟨a, w, k3⟩, k4⟩ := key u
    refine ⟨?_, ?_, ?_, ?_, ?_, ?_, ?_⟩
    · rw [k1, hx]
    · intro k hk; rw [k2 k hk, ← hu, onBox_other m k _ s hk]
    · rw [k3]; exact hb'.1
    · rw [k3]; exact hb'.2.1
    · rw [k3]; exact hb'.2.2
    · intro hm; rw [k3, hb hm]; rfl
    · intro hm ha hs hr
      have := answer_refused m h.opcode h.tag stDenied d u (by rw [← hu]; exact (listModify_length _ _ _).symm ▸ hm)
        (by rw [hb hm]; exact ha) (by rw [hb hm]; exact hs) (by rw [hx]; exact hr)
      refine ⟨this.1, this.2.trans ?_⟩
      have e : windowOf u m = windowOf s m := by
        unfold windowOf; rw [hb'.1]
        have : a0HeldFor u m = a0HeldFor s m := by rw [hx]; rfl
        rw [this]
      rw [e]
      have : u.mbx.sent = s.mbx.sent := by rw [hx]
      rw [this]
  · have : (st == stDenied) = false := by simpa using hst
    simp only [this]
    obtain ⟨k1, k2, ⟨a, w, k3⟩, k4⟩ := key s
    refine ⟨k1, k2, ?_, ?_, ?_, ?_, ?_⟩
    · rw [if_neg (by decide), k3]
    · rw [if_neg (by decide), k3]
    · rw [if_neg (by decide), k3]
    · intro _; rw [if_neg (by decide), k3, if_neg hst]; simp
    · intro hm ha hs hr
      exact answer_refused m h.opcode h.tag st d s hm ha hs hr

theorem row_exec {i : Instr} {spec : CmdSpec} {op : CmdStep} (s : State) (h : mailboxRow i = some (spec, op)) :
    exec i s = .next (mailboxCommand spec op s) := by
  cases i <;> first
    | (simp only [mailboxRow, reduceCtorEq] at h; done)
    | (simp only [mailboxRow, Option.some.injEq, Prod.mk.injEq] at h; obtain ⟨rfl, rfl⟩ := h; rfl)

/-- What a command changes at its acceptance leaves the journal and the mailboxes. -/
def KeepsWork (spec : CmdSpec) : Prop := ∀ m q p s, (spec.onAccept m q p s).jnl = s.jnl ∧ (spec.onAccept m q p s).mbx = s.mbx

theorem keeps_air {c : CmdSpec} (h : KeepsWork c) : KeepsWork (airCmd c) := by
  intro m q p s
  show (if hasRadio s then c.onAccept m q p s else s).jnl = _ ∧ (if hasRadio s then c.onAccept m q p s else s).mbx = _
  split
  · exact h m q p s
  · exact ⟨rfl, rfl⟩

theorem keeps_tab (op : Nat) (f : WriteForm) : KeepsWork (tabWrite op f) := by
  intro m q p s
  show (writeAccepted f m q p s).jnl = _ ∧ (writeAccepted f m q p s).mbx = _
  unfold writeAccepted
  split
  · exact ⟨rfl, rfl⟩
  · split <;> exact ⟨rfl, rfl⟩

theorem row_keeps {i : Instr} {spec : CmdSpec} {op : CmdStep} (h : mailboxRow i = some (spec, op)) : KeepsWork spec := by
  have plain : ∀ c : CmdSpec, (∀ m q p s, c.onAccept m q p s = s) → KeepsWork c := fun c hc m q p s => by rw [hc]; exact ⟨rfl, rfl⟩
  cases i <;> first
    | (simp only [mailboxRow, reduceCtorEq] at h; done)
    | (simp only [mailboxRow, Option.some.injEq, Prod.mk.injEq] at h; obtain ⟨rfl, -⟩ := h
       first
         | exact fun m q p s => ⟨rfl, rfl⟩
         | exact keeps_tab _ _
         | exact keeps_air (fun m q p s => ⟨rfl, rfl⟩)
         | skip)
  all_goals first
    | (refine fun m q p s => ?_
       show (if _ then _ else _ : State).jnl = _ ∧ (if _ then _ else _ : State).mbx = _
       split <;> exact ⟨rfl, rfl⟩)
    | (refine keeps_air (fun m q p s => ?_)
       dsimp only
       split <;> exact ⟨rfl, rfl⟩)
    | (refine fun m q p s => ?_
       show (batchCloseAccepted m q p s).jnl = _ ∧ (batchCloseAccepted m q p s).mbx = _
       unfold batchCloseAccepted
       split
       · exact ⟨rfl, rfl⟩
       · dsimp only; split <;> exact ⟨rfl, rfl⟩)
    | (refine fun m q p s => ?_
       simp only [tabGroundCommit]
       split <;> exact ⟨rfl, rfl⟩)

theorem answersOnly_jnl {m : Nat} {s t : State} (h : AnswersOnly m s t) : t.jnl = s.jnl := by rw [h.1]

theorem take_ok {i : Instr} {spec : CmdSpec} {r : Request} (s : State) (h : mailboxRow i = some (spec, .request r)) :
    exec i s = .next (takeRequest spec r.session (messageOf spec.opcode r) s) := row_exec s h

theorem send_open (m kind : Nat) (rep : Bool) (op : Nat) (q t : U32) (st : Nat) (p : Bytes) (s : State)
    (hs : (box s m).session ≠ .closed) (hr : s.mbx.a0Running = true) :
    (send m kind rep op q t st p s).mbx.sent = s.mbx.sent ++ [⟨m, kind, rep, windowOf s m, op, q, t, st, p⟩] := by
  unfold send
  have : ((box s m).session == .closed || !s.mbx.a0Running) = false := by
    cases h : (box s m).session <;> simp_all
  rw [if_neg (by rw [this]; decide)]

/-- What each row of the TAB writes executes: its own command, whose part is `writeRun` where its batch has not failed. -/
theorem write_spec (m : Nat) : ∀ r ∈ tabWriteRows m, ∃ spec : CmdSpec, spec.opcode = r.1 ∧
    (∀ s, exec r.2 s = .next (mailboxCommand spec (.run m) s)) ∧
    ∀ c s, s.tab.closeFail.find? (fun e => e.1 == c.seq) = none → spec.run m c s = writeRun m c s := by
  have one : ∀ op f (i : Instr), (∀ s, exec i s = .next (mailboxCommand (tabWrite op f) (.run m) s)) → ∃ spec : CmdSpec,
      spec.opcode = op ∧ (∀ s, exec i s = .next (mailboxCommand spec (.run m) s)) ∧
      ∀ c s, s.tab.closeFail.find? (fun e => e.1 == c.seq) = none → spec.run m c s = writeRun m c s :=
    fun op f i hi => ⟨tabWrite op f, rfl, hi, fun _ _ _ => rfl⟩
  refine List.forall_mem_cons.2 ⟨one _ pinWriteForm _ fun _ => rfl, ?_⟩
  refine List.forall_mem_cons.2 ⟨one _ (pinListForm .clear) _ fun _ => rfl, ?_⟩
  refine List.forall_mem_cons.2 ⟨one _ pinSetForm _ fun _ => rfl, ?_⟩
  refine List.forall_mem_cons.2 ⟨one _ (pinListForm .clearFault) _ fun _ => rfl, ?_⟩
  refine List.forall_mem_cons.2 ⟨one _ edgeWriteForm _ fun _ => rfl, ?_⟩
  refine List.forall_mem_cons.2 ⟨one _ segWriteForm _ fun _ => rfl, ?_⟩
  refine List.forall_mem_cons.2 ⟨one _ segClearForm _ fun _ => rfl, ?_⟩
  refine List.forall_mem_cons.2 ⟨⟨tabBatchClose, rfl, fun _ => rfl, fun c s h => ?_⟩, List.forall_mem_nil _⟩
  simp only [tabBatchClose, batchCloseRun, h]

theorem air_run {c : CmdSpec} {s : State} (hr : hasRadio s = true) (m : Nat) (k : Cmd) : (airCmd c).run m k s = c.run m k s := by
  simp only [airCmd, hr, if_true]

theorem post_stitch_eq (a b : Nat) (c : Sys2Proof.Bytes) (s : State) : (post a b c s).stitch = s.stitch := by simp

theorem postEvent_newest (e : Event) (p : Sampler) : (postEvent e p).newest = p.newest := by
  unfold postEvent; split <;> rfl

theorem post_newest (a b : Nat) (c : Sys2Proof.Bytes) (s : State) : (post a b c s).smp.newest = s.smp.newest := by
  unfold post; dsimp only; split
  · rfl
  · exact postEvent_newest _ _

theorem did_post (a b : Nat) (p r : Sys2Proof.Bytes) (u : State) : did (post a b p u) r = .effect u.stitch.number r := by
  rw [did, post_stitch_eq]

theorem fullCheck_stitch (s : State) : (fullCheck s).stitch = s.stitch := by unfold fullCheck; split <;> rfl

theorem overtake_stitch (a b : U32) (s : State) (k : Nat) : (overtake a b s k).stitch = s.stitch := by
  unfold overtake; dsimp only; split
  · rw [post_stitch_eq]
  · rfl

theorem foldl_keep {α β : Type} (g : State → α → State) (f : State → β) (h : ∀ s a, f (g s a) = f s) : ∀ (l : List α) (s : State), f (l.foldl g s) = f s
  | [], _ => rfl
  | a :: t, s => by rw [List.foldl_cons, foldl_keep g f h t, h]

theorem roundWrite_stitch (r : Record) (s : State) : (roundWrite r s).stitch = s.stitch := by
  unfold roundWrite
  dsimp only
  split
  · split
    · rw [foldl_keep _ (fun s : State => s.stitch) (overtake_stitch _ _)]; rfl
    · rfl
  · rfl

theorem endFreeze_stitch (k : Nat) (s : State) : (endFreeze k s).stitch = s.stitch := by
  unfold endFreeze
  split
  · rfl
  · rw [post_stitch_eq]
    rw [foldl_keep _ (fun s : State => s.stitch) (fun s a => roundWrite_stitch a s)]

theorem probe_only (a : Nat) (s : State) : ∃ x y, (readProbe a s).2 = { s with time.tbLatch := x, rtc.latch := y, freeCtr := s.freeCtr + 1 } := by
  unfold readProbe
  dsimp only [drawFree]
  split
  · exact ⟨_, _, rfl⟩
  · split
    · exact ⟨_, _, rfl⟩
    · split
      · exact ⟨_, _, rfl⟩
      · split <;> exact ⟨_, _, rfl⟩

theorem readAll_only (l : List Nat) (s : State) : ∃ x y n, (readAll l s).2 = { s with time.tbLatch := x, rtc.latch := y, freeCtr := n } := by
  have key : ∀ (l : List Nat) (b : Sys2Proof.Bytes) (t : State), (∃ x y n, t = { s with time.tbLatch := x, rtc.latch := y, freeCtr := n }) →
      ∃ x y n, (l.foldl (fun (acc : Sys2Proof.Bytes × State) a => let (v, t) := readProbe a acc.2; (acc.1 ++ le32 v, t)) (b, t)).2 =
        { s with time.tbLatch := x, rtc.latch := y, freeCtr := n } := by
    intro l
    induction l with
    | nil => intro b t h; exact h
    | cons a l ih =>
      intro b t ⟨x, y, n, h⟩
      rw [List.foldl_cons]
      refine ih _ _ ?_
      obtain ⟨x', y', h'⟩ := probe_only a t
      exact ⟨x', y', _, by show (readProbe a t).2 = _; rw [h', h]⟩
  obtain ⟨x, y, n, h⟩ := key l [] s ⟨_, _, _, rfl⟩
  unfold readAll
  dsimp only
  generalize l.foldl _ _ = p at h
  obtain ⟨b, t⟩ := p
  dsimp only at h ⊢
  subst h
  split <;> split <;> exact ⟨_, _, _, rfl⟩

end Sys2Proof.Machine
end

