-- ==== Sys2Proof/Laws/Same.lean ====
section
/-! SUPPORT. What a command leaves alone beside its own effect: the queue of waiting commands, and the fabric memory. `Same` says
that both stay as they are, `Keeps` that the memory keeps its canonical form (a Bobbin's write, a reset). Beside each operation of
the model one lemma, in the other Same files, says which of the two it does; the lemmas below serve their proofs. -/

namespace Sys2Proof.Machine

/-- `t` has the queue of `s`, and every byte of the fabric memory as in `s`. -/
structure Same (s t : State) : Prop where
  queue : t.pending = s.pending
  mem : t.bob.mem = s.bob.mem

theorem Same.refl (s : State) : Same s s := ⟨rfl, rfl⟩
theorem Same.trans {s t u : State} (a : Same s t) (b : Same t u) : Same s u := ⟨b.1.trans a.1, b.2.trans a.2⟩

/-- `t` has the queue of `s`, and the fabric memory keeps its canonical form. -/
structure Keeps (s t : State) : Prop where
  queue : t.pending = s.pending
  mem : Memory.wf s.bob.mem = true → Memory.wf t.bob.mem = true

theorem Keeps.refl (s : State) : Keeps s s := ⟨rfl, id⟩
theorem Keeps.trans {s t u : State} (a : Keeps s t) (b : Keeps t u) : Keeps s u := ⟨b.1.trans a.1, b.2 ∘ a.2⟩
theorem Same.keeps {s t : State} (h : Same s t) : Keeps s t := ⟨h.1, fun w => h.2 ▸ w⟩
theorem keeps_of_same {s t u : State} (h : Same t u) (k : Keeps s t) : Keeps s u := k.trans h.keeps

/-- The outcome is a next state with the same queue and memory. -/
def GoesSame (s : State) (o : Out) : Prop := ∃ u, o = .next u ∧ Same s u
theorem goesSame_next {s u : State} (h : Same s u) : GoesSame s (next u) := ⟨u, rfl, h⟩
/-- The outcome is a next state with the same queue and a memory in its form. -/
def GoesKeeping (s : State) (o : Out) : Prop := ∃ u, o = .next u ∧ Keeps s u
theorem goesKeeping_next {s u : State} (h : Keeps s u) : GoesKeeping s (next u) := ⟨u, rfl, h⟩
theorem GoesSame.keeping {s : State} {o : Out} (h : GoesSame s o) : GoesKeeping s o := by
  obtain ⟨u, e, h⟩ := h; exact ⟨u, e, h.keeps⟩

/-- Every part of a mailbox command leaves queue and memory. -/
structure SpecSame (spec : CmdSpec) : Prop where
  onAccept : ∀ {s t : State} (m : Nat) (q : U32) (p : Bytes), Same s t → Same s (spec.onAccept m q p t)
  onRefuse : ∀ {s t : State} (p : Bytes) (st : Nat), Same s t → Same s (spec.onRefuse p st t)
  run : ∀ {s t : State} (m : Nat) (c : Cmd), Same s t → Same s (spec.run m c t).1

/-! Shapes of the definitions that carry a state along. -/

theorem same_rec {s t : State} (h : Same s t) (mbx : Mailboxes) (jnl : Journal) (smp : Sampler) (set : Settings) (sec : Security)
    (time : TimeUnit) (rtc : Rtc) (stitch : StitchGen) (tmb : Tambour) (skn : SkeinUnit) (tab : Tables) (sched : Schedule)
    (lace : Lace) (fade : FadeUnit) (chain : Chain) (air : Air) (met : Met) (sys : Sys) (net : Net) (pnl : Panel) (ctr : Nat) :
    Same s ⟨t.pending, mbx, jnl, smp, set, sec, time, rtc, stitch, tmb, skn, t.bob, tab, sched, lace, fade, chain, air, met, sys, net, pnl, ctr⟩ :=
  ⟨h.1, h.2⟩

theorem same_bob {s t : State} (h : Same s t) (mbx : Mailboxes) (jnl : Journal) (smp : Sampler) (set : Settings) (sec : Security)
    (time : TimeUnit) (rtc : Rtc) (stitch : StitchGen) (tmb : Tambour) (skn : SkeinUnit) (channels : List Bobbin) (turn : Nat)
    (preempt retry ignored held : U32) (tab : Tables) (sched : Schedule)
    (lace : Lace) (fade : FadeUnit) (chain : Chain) (air : Air) (met : Met) (sys : Sys) (net : Net) (pnl : Panel) (ctr : Nat) :
    Same s ⟨t.pending, mbx, jnl, smp, set, sec, time, rtc, stitch, tmb, skn, ⟨channels, t.bob.mem, turn, preempt, retry, ignored, held⟩,
      tab, sched, lace, fade, chain, air, met, sys, net, pnl, ctr⟩ :=
  ⟨h.1, h.2⟩

theorem same_foldl {s t : State} {α : Type} {g : State → α → State} {l : List α} (h : Same s t)
    (hg : ∀ t x, Same s t → Same s (g t x)) : Same s (l.foldl g t) := by
  induction l generalizing t with
  | nil => exact h
  | cons x l ih => exact ih (hg t x h)

theorem same_foldl_fst {s : State} {α β : Type} {g : State × β → α → State × β} {l : List α} {a : State × β} (h : Same s a.1)
    (hg : ∀ a x, Same s a.1 → Same s (g a x).1) : Same s (l.foldl g a).1 := by
  induction l generalizing a with
  | nil => exact h
  | cons x l ih => exact ih (hg a x h)

theorem same_foldl_snd {s : State} {α β : Type} {g : β × State → α → β × State} {l : List α} {a : β × State} (h : Same s a.2)
    (hg : ∀ a x, Same s a.2 → Same s (g a x).2) : Same s (l.foldl g a).2 := by
  induction l generalizing a with
  | nil => exact h
  | cons x l ih => exact ih (hg a x h)

theorem same_ite {s a b : State} {c : Prop} [Decidable c] (ha : Same s a) (hb : Same s b) : Same s (if c then a else b) := by
  split <;> assumption

theorem same_fst {s u : State} {β : Type} {p : State × β} {b : β} (e : p = (u, b)) (h : Same s p.1) : Same s u := by subst e; exact h
theorem same_snd {s u : State} {α : Type} {p : α × State} {a : α} (e : p = (a, u)) (h : Same s p.2) : Same s u := by subst e; exact h
theorem same_trd {s u : State} {α β : Type} {p : α × β × State} {a : α} {b : β} (e : p = (a, b, u)) (h : Same s p.2.2) : Same s u := by
  subst e; exact h
theorem same_elim {s a : State} {α : Type} {o : Option α} {f : α → State} (ha : Same s a) (hf : ∀ x, Same s (f x)) :
    Same s (o.elim a f) := by cases o with | none => exact ha | some x => exact hf x

theorem keeps_rec {s t : State} (h : Keeps s t) (mbx : Mailboxes) (jnl : Journal) (smp : Sampler) (set : Settings) (sec : Security)
    (time : TimeUnit) (rtc : Rtc) (stitch : StitchGen) (tmb : Tambour) (skn : SkeinUnit) (tab : Tables) (sched : Schedule)
    (lace : Lace) (fade : FadeUnit) (chain : Chain) (air : Air) (met : Met) (sys : Sys) (net : Net) (pnl : Panel) (ctr : Nat) :
    Keeps s ⟨t.pending, mbx, jnl, smp, set, sec, time, rtc, stitch, tmb, skn, t.bob, tab, sched, lace, fade, chain, air, met, sys, net, pnl, ctr⟩ :=
  ⟨h.1, h.2⟩

theorem keeps_bob {s t : State} (h : Keeps s t) (mbx : Mailboxes) (jnl : Journal) (smp : Sampler) (set : Settings) (sec : Security)
    (time : TimeUnit) (rtc : Rtc) (stitch : StitchGen) (tmb : Tambour) (skn : SkeinUnit) (channels : List Bobbin) (turn : Nat)
    (preempt retry ignored held : U32) (tab : Tables) (sched : Schedule)
    (lace : Lace) (fade : FadeUnit) (chain : Chain) (air : Air) (met : Met) (sys : Sys) (net : Net) (pnl : Panel) (ctr : Nat) :
    Keeps s ⟨t.pending, mbx, jnl, smp, set, sec, time, rtc, stitch, tmb, skn, ⟨channels, t.bob.mem, turn, preempt, retry, ignored, held⟩,
      tab, sched, lace, fade, chain, air, met, sys, net, pnl, ctr⟩ :=
  ⟨h.1, h.2⟩

theorem keeps_foldl {s t : State} {α : Type} {g : State → α → State} {l : List α} (h : Keeps s t)
    (hg : ∀ t x, Keeps s t → Keeps s (g t x)) : Keeps s (l.foldl g t) := by
  induction l generalizing t with
  | nil => exact h
  | cons x l ih => exact ih (hg t x h)

theorem keeps_foldl_fst {s : State} {α β : Type} {g : State × β → α → State × β} {l : List α} {a : State × β} (h : Keeps s a.1)
    (hg : ∀ a x, Keeps s a.1 → Keeps s (g a x).1) : Keeps s (l.foldl g a).1 := by
  induction l generalizing a with
  | nil => exact h
  | cons x l ih => exact ih (hg a x h)

theorem keeps_foldl_snd {s : State} {α β : Type} {g : β × State → α → β × State} {l : List α} {a : β × State} (h : Keeps s a.2)
    (hg : ∀ a x, Keeps s a.2 → Keeps s (g a x).2) : Keeps s (l.foldl g a).2 := by
  induction l generalizing a with
  | nil => exact h
  | cons x l ih => exact ih (hg a x h)

theorem keeps_ite {s a b : State} {c : Prop} [Decidable c] (ha : Keeps s a) (hb : Keeps s b) : Keeps s (if c then a else b) := by
  split <;> assumption

theorem keeps_fst {s u : State} {β : Type} {p : State × β} {b : β} (e : p = (u, b)) (h : Keeps s p.1) : Keeps s u := by subst e; exact h
theorem keeps_snd {s u : State} {α : Type} {p : α × State} {a : α} (e : p = (a, u)) (h : Keeps s p.2) : Keeps s u := by subst e; exact h
theorem keeps_trd {s u : State} {α β : Type} {p : α × β × State} {a : α} {b : β} (e : p = (a, b, u)) (h : Keeps s p.2.2) : Keeps s u := by
  subst e; exact h
theorem keeps_elim {s a : State} {α : Type} {o : Option α} {f : α → State} (ha : Keeps s a) (hf : ∀ x, Keeps s (f x)) :
    Keeps s (o.elim a f) := by cases o with | none => exact ha | some x => exact hf x

/-! The memory (R67, R68). -/

theorem memWfFrom_weaken {lo lo' : Nat} (hl : lo' ≤ lo) : ∀ {m : Memory}, memWfFrom (some lo) m = true → memWfFrom (some lo') m = true
  | [], _ => rfl
  | (a, v) :: t, h => by
    simp only [memWfFrom, Bool.and_eq_true, decide_eq_true_eq] at h ⊢
    exact ⟨⟨by omega, h.1.2⟩, h.2⟩

theorem memWfFrom_none {l : Nat} : ∀ {m : Memory}, memWfFrom (some l) m = true → memWfFrom none m = true
  | [], _ => rfl
  | (a, v) :: t, h => by
    simp only [memWfFrom, Bool.and_eq_true] at h ⊢
    exact ⟨⟨trivial, h.1.2⟩, h.2⟩

theorem memWrite_wfFrom {m : Memory} {lo : Option Nat} {a : Nat} {v : Byte} (hm : memWfFrom lo m = true)
    (ha : ∀ l, lo = some l → l < a) : memWfFrom lo (memWrite m a v) = true := by
  induction m generalizing lo with
  | nil =>
    by_cases hv : v = unlisted
    · simp [memWrite, hv, memWfFrom]
    · cases lo with
      | none => simp [memWrite, hv, memWfFrom]
      | some l => simp [memWrite, hv, memWfFrom, ha l rfl]
  | cons c t ih =>
    obtain ⟨b, w⟩ := c
    simp only [memWfFrom, Bool.and_eq_true] at hm
    obtain ⟨⟨h1, h2⟩, h3⟩ := hm
    unfold memWrite
    split
    · rename_i hab
      split
      · simp [memWfFrom, h1, h2, h3]
      · rename_i hv
        cases lo with
        | none => simp [memWfFrom, hv, hab, h2, h3]
        | some l => simp [memWfFrom, hv, hab, h2, h3, ha l rfl]
    · split
      · rename_i hba hab
        subst hab
        split
        · cases lo with
          | none => exact memWfFrom_none h3
          | some l =>
            simp only [decide_eq_true_eq] at h1
            exact memWfFrom_weaken (by omega) h3
        · rename_i hv
          cases lo with
          | none => simp [memWfFrom, hv, h3]
          | some l => simp [memWfFrom, hv, h3, ha l rfl]
      · rename_i hba hab
        have := ih (lo := some b) h3 (by intro l hl; cases hl; omega)
        simp [memWfFrom, h1, h2, this]

theorem memWrite_wf {m : Memory} (h : Memory.wf m = true) (a : Nat) (v : Byte) : Memory.wf (memWrite m a v) = true :=
  memWrite_wfFrom h (by simp)

theorem memWriteAll_wf {m : Memory} (h : Memory.wf m = true) (l : List (Nat × Byte)) : Memory.wf (memWriteAll m l) = true := by
  induction l generalizing m with
  | nil => exact h
  | cons c l ih => exact ih (memWrite_wf h c.1 c.2)

theorem keeps_mem {s t : State} (h : Keeps s t) (l : List (Nat × Byte)) : Keeps s { t with bob.mem := memWriteAll t.bob.mem l } :=
  ⟨h.1, fun hm => memWriteAll_wf (h.2 hm) l⟩

end Sys2Proof.Machine
end

