-- ==== Sys2Proof/Laws/SameShared.lean ====
section
/-! SUPPORT. The operations every unit shares: what each operation and command leaves of the queue and the memory. -/

set_option linter.all false

namespace Sys2Proof.Machine

theorem drawFree_same {s t : State} (h : Same s t) : Same s (drawFree t).2 := by
  unfold drawFree
  repeat' with_reducible (first | intro _ | assumption | fail_if_no_progress apply same_rec | apply same_ite | refine same_fst (by assumption) ?_ | refine same_snd (by assumption) ?_ | refine same_trd (by assumption) ?_ | dsimp only | split)

theorem onSkein_same {s t : State} (a0 : Nat) (a1 : Skein → Skein) (h : Same s t) : Same s (onSkein a0 a1 t) := by
  unfold onSkein
  repeat' with_reducible (first | intro _ | assumption | fail_if_no_progress apply same_rec | apply same_ite | dsimp only | split)

theorem throughSkein_same {s t : State} (a0 : Nat) (a1 : Bytes) (h : Same s t) : Same s (throughSkein a0 a1 t) := by
  unfold throughSkein
  repeat' with_reducible (first | intro _ | assumption | apply onSkein_same | apply same_ite | dsimp only | split)

theorem dropPacket_same {s t : State} (a0 : Nat) (h : Same s t) : Same s (dropPacket a0 t) := by
  unfold dropPacket
  repeat' with_reducible (first | intro _ | assumption | apply onSkein_same | fail_if_no_progress apply same_rec | apply same_ite | refine same_fst (by assumption) ?_ | refine same_snd (by assumption) ?_ | refine same_trd (by assumption) ?_ | dsimp only | split)

theorem post_same {s t : State} (a0 : Nat) (a1 : Nat) (a2 : Bytes) (h : Same s t) : Same s (post a0 a1 a2 t) := by
  unfold post
  repeat' with_reducible (first | intro _ | assumption | apply onSkein_same | apply throughSkein_same | fail_if_no_progress apply same_rec | apply same_ite | dsimp only | split)

theorem postIf_same {s t : State} (a0 : Bool) (a1 : Nat) (a2 : Nat) (a3 : Bytes) (h : Same s t) : Same s (postIf a0 a1 a2 a3 t) := by
  unfold postIf
  repeat' with_reducible (first | intro _ | assumption | apply post_same | apply same_ite | dsimp only | split)

theorem joinRef_same {s t : State} (a0 : U32) (a1 : Nat) (a2 : Nat) (a3 : Bytes) (h : Same s t) : Same s (joinRef a0 a1 a2 a3 t) := by
  unfold joinRef
  repeat' with_reducible (first | intro _ | assumption | fail_if_no_progress apply same_rec | apply same_ite | dsimp only | split)

theorem joinWork_same {s t : State} (a0 : Nat) (a1 : Nat) (a2 : U32 → Bytes) (h : Same s t) : Same s (joinWork a0 a1 a2 t).2 := by
  unfold joinWork
  repeat' with_reducible (first | intro _ | assumption | fail_if_no_progress apply same_rec | apply same_ite | dsimp only | split)

theorem retire_same {s t : State} (a0 : U32) (h : Same s t) : Same s (retire a0 t) := by
  unfold retire
  repeat' with_reducible (first | intro _ | assumption | fail_if_no_progress apply same_rec | apply same_ite | dsimp only | split)

theorem onBox_same {s t : State} (a0 : Nat) (a1 : Mailbox → Mailbox) (h : Same s t) : Same s (onBox a0 a1 t) := by
  unfold onBox
  repeat' with_reducible (first | intro _ | assumption | fail_if_no_progress apply same_rec | apply same_ite | dsimp only | split)

theorem send_same {s t : State} (a0 : Nat) (a1 : Nat) (a2 : Bool) (a3 : Nat) (a4 : U32) (a5 : U32) (a6 : Nat) (a7 : Bytes) (h : Same s t) : Same s (send a0 a1 a2 a3 a4 a5 a6 a7 t) := by
  unfold send
  repeat' with_reducible (first | intro _ | assumption | apply onBox_same | fail_if_no_progress apply same_rec | apply same_ite | dsimp only | split)

theorem windowMessage_same {s t : State} (a0 : Nat) (h : Same s t) : Same s (windowMessage a0 t) := by
  unfold windowMessage
  repeat' with_reducible (first | intro _ | assumption | apply send_same | apply same_ite | dsimp only | split)

theorem windowMessages_same {s t : State} (h : Same s t) : Same s (windowMessages t) := by
  unfold windowMessages
  repeat' with_reducible (first | intro _ | assumption | apply windowMessage_same | apply same_ite | apply same_foldl | apply same_foldl_fst | apply same_foldl_snd | dsimp only | split)

theorem flushAnswers_same {s t : State} (a0 : Nat) (a1 : Nat) (h : Same s t) : Same s (flushAnswers a0 a1 t) := by
  induction a1 generalizing t  with
  | zero => exact h
  | succ n ih =>
    unfold flushAnswers
    repeat' with_reducible (first | with_reducible apply ih | intro _ | assumption | apply onBox_same | apply send_same | fail_if_no_progress apply same_rec | apply same_ite | apply same_foldl | apply same_foldl_fst | apply same_foldl_snd | apply same_elim | dsimp only | split)

theorem answer_same {s t : State} (a0 : Nat) (a1 : Answer) (h : Same s t) : Same s (answer a0 a1 t) := by
  unfold answer
  repeat' with_reducible (first | intro _ | assumption | apply onBox_same | apply flushAnswers_same | fail_if_no_progress apply same_rec | apply same_ite | dsimp only | split)

theorem closeSession_same {s t : State} (a0 : Nat) (h : Same s t) : Same s (closeSession a0 t) := by
  unfold closeSession
  repeat' with_reducible (first | intro _ | assumption | apply onBox_same | fail_if_no_progress apply same_rec | apply same_ite | refine same_fst (by assumption) ?_ | refine same_snd (by assumption) ?_ | refine same_trd (by assumption) ?_ | dsimp only | split)

theorem fabricTick_same {s t : State} (h : Same s t) : Same s (fabricTick t) := by
  unfold fabricTick
  repeat' with_reducible (first | intro _ | assumption | fail_if_no_progress apply same_rec | apply same_ite | dsimp only | split)

theorem joinEvent_same {s t : State} (a0 : Event) (h : Same s t) : Same s (joinEvent a0 t) := by
  unfold joinEvent
  repeat' with_reducible (first | intro _ | assumption | apply joinWork_same | apply same_ite | apply same_foldl | apply same_foldl_fst | apply same_foldl_snd | dsimp only | split)

theorem fullCheck_same {s t : State} (h : Same s t) : Same s (fullCheck t) := by
  unfold fullCheck
  repeat' with_reducible (first | intro _ | assumption | fail_if_no_progress apply same_rec | apply same_ite | dsimp only | split)

theorem notMade_same {s t : State} (a0 : Nat) (h : Same s t) : Same s (notMade a0 t) := by
  unfold notMade
  repeat' with_reducible (first | intro _ | assumption | fail_if_no_progress apply same_rec | apply same_ite | dsimp only | split)

theorem enterEvent_same {s t : State} (a0 : Event) (h : Same s t) : Same s (enterEvent a0 t) := by
  unfold enterEvent
  repeat' with_reducible (first | intro _ | assumption | apply joinEvent_same | apply notMade_same | apply same_ite | dsimp only | split)

theorem enterIntake_same {s t : State} (a0 : List Event) (a1 : Nat) (a2 : Nat) (h : Same s t) : Same s (enterIntake a0 a1 a2 t).1 := by
  induction a0 generalizing t a1 a2 with
  | nil => exact h
  | cons e l ih =>
    unfold enterIntake
    repeat' with_reducible (first | with_reducible apply ih | intro _ | assumption | apply enterEvent_same | fail_if_no_progress apply same_rec | apply same_ite | apply same_foldl | apply same_foldl_fst | apply same_foldl_snd | apply same_elim | dsimp only | split)

theorem overflowFor_same {s : State} {t : State × Nat} (a0 : Nat) (h : Same s t.1) : Same s (overflowFor a0 t).1 := by
  unfold overflowFor
  repeat' with_reducible (first | intro _ | assumption | apply joinEvent_same | fail_if_no_progress apply same_rec | apply same_ite | refine same_fst (by assumption) ?_ | refine same_snd (by assumption) ?_ | refine same_trd (by assumption) ?_ | dsimp only | split)

theorem suppressOld_same {s t : State} (h : Same s t) : Same s (suppressOld t) := by
  unfold suppressOld
  repeat' with_reducible (first | intro _ | assumption | fail_if_no_progress apply same_rec | apply same_ite | apply same_foldl | apply same_foldl_fst | apply same_foldl_snd | dsimp only | split)

theorem takeStalled_same {s t : State} (h : Same s t) : Same s (takeStalled t) := by
  unfold takeStalled
  repeat' with_reducible (first | intro _ | assumption | apply dropPacket_same | fail_if_no_progress apply same_rec | apply same_ite | apply same_foldl | apply same_foldl_fst | apply same_foldl_snd | dsimp only | split)

theorem enterRecords_same {s t : State} (h : Same s t) : Same s (enterRecords t) := by
  unfold enterRecords
  have h1 := enterIntake_same t.smp.intake (logRate t) 256 h
  rcases he : enterIntake t.smp.intake (logRate t) 256 t with ⟨t1, rest, cap⟩
  rw [he] at h1
  dsimp only at h1 ⊢
  generalize upTo 11 = l
  have h2 := same_foldl_fst (g := fun a c => overflowFor c a) (l := l) (a := ({ t1 with smp := { t1.smp with intake := rest } }, cap))
    (same_rec h1 ..) fun a x ha => overflowFor_same _ ha
  rcases hf : l.foldl (fun a c => overflowFor c a) ({ t1 with smp := { t1.smp with intake := rest } }, cap) with ⟨t2, c2⟩
  rw [hf] at h2
  exact same_rec (suppressOld_same h2) ..

theorem samplerStitchEnd_same {s t : State} (h : Same s t) : Same s (samplerStitchEnd t) := by
  unfold samplerStitchEnd
  repeat' with_reducible (first | intro _ | assumption | apply enterRecords_same | apply takeStalled_same | apply same_ite | dsimp only | split)

theorem overtake_same {s t : State} (a0 : U32) (a1 : U32) (a2 : Nat) (h : Same s t) : Same s (overtake a0 a1 t a2) := by
  unfold overtake
  repeat' with_reducible (first | intro _ | assumption | apply post_same | fail_if_no_progress apply same_rec | apply same_ite | dsimp only | split)

theorem roundWrite_same {s t : State} (a0 : Record) (h : Same s t) : Same s (roundWrite a0 t) := by
  unfold roundWrite
  repeat' with_reducible (first | intro _ | assumption | apply retire_same | apply overtake_same | fail_if_no_progress apply same_rec | apply same_ite | apply same_foldl | apply same_foldl_fst | apply same_foldl_snd | dsimp only | split)

theorem endFreeze_same {s t : State} (a0 : Nat) (h : Same s t) : Same s (endFreeze a0 t) := by
  unfold endFreeze
  repeat' with_reducible (first | intro _ | assumption | apply roundWrite_same | apply post_same | fail_if_no_progress apply same_rec | apply same_ite | apply same_foldl | apply same_foldl_fst | apply same_foldl_snd | dsimp only | split)

theorem roundStore_same {s t : State} (a0 : Record) (h : Same s t) : Same s (roundStore a0 t) := by
  unfold roundStore
  repeat' with_reducible (first | intro _ | assumption | apply endFreeze_same | apply roundWrite_same | fail_if_no_progress apply same_rec | apply same_ite | dsimp only | split)

theorem storeRecord_same {s t : State} (a0 : Record) (h : Same s t) : Same s (storeRecord a0 t) := by
  unfold storeRecord
  repeat' with_reducible (first | intro _ | assumption | apply retire_same | apply roundStore_same | apply postIf_same | fail_if_no_progress apply same_rec | apply same_ite | dsimp only | split)

theorem storeRecords_same {s t : State} (a0 : List JEntry) (h : Same s t) : Same s (storeRecords a0 t) := by
  unfold storeRecords
  repeat' with_reducible (first | intro _ | assumption | apply storeRecord_same | apply same_ite | apply same_foldl | apply same_foldl_fst | apply same_foldl_snd | dsimp only | split)

theorem sealBatch_same {s t : State} (a0 : Bool) (h : Same s t) : Same s (sealBatch a0 t) := by
  unfold sealBatch
  repeat' with_reducible (first | intro _ | assumption | fail_if_no_progress apply same_rec | apply same_ite | dsimp only | split)

theorem refuseRequest_same {s t : State} (a0 : Nat) (a1 : Message) (a2 : Nat) (a3 : Bytes) (h : Same s t) : Same s (refuseRequest a0 a1 a2 a3 t) := by
  unfold refuseRequest
  repeat' with_reducible (first | intro _ | assumption | apply onBox_same | apply answer_same | fail_if_no_progress apply same_rec | apply same_ite | dsimp only | split)

theorem accept_same {s t : State} (a0 : CmdSpec) (a1 : Nat) (a2 : Message) (hs : SpecSame a0) (h : Same s t) : Same s (accept a0 a1 a2 t) := by
  unfold accept
  repeat' with_reducible (first | intro _ | assumption | apply hs.run | apply hs.onAccept | apply hs.onRefuse | exact hs | apply joinWork_same | apply onBox_same | apply answer_same | fail_if_no_progress apply same_rec | apply same_ite | refine same_fst (by assumption) ?_ | refine same_snd (by assumption) ?_ | refine same_trd (by assumption) ?_ | dsimp only | split)

theorem dropSession_same {s t : State} (a0 : Nat) (h : Same s t) : Same s (dropSession a0 t) := by
  unfold dropSession
  repeat' with_reducible (first | intro _ | assumption | apply closeSession_same | apply endFreeze_same | fail_if_no_progress apply same_rec | apply same_ite | dsimp only | split)

theorem openSession_same {s t : State} (a0 : Nat) (a1 : SessionState) (h : Same s t) : Same s (openSession a0 a1 t) := by
  unfold openSession
  repeat' with_reducible (first | intro _ | assumption | apply onBox_same | fail_if_no_progress apply same_rec | apply same_ite | refine same_fst (by assumption) ?_ | refine same_snd (by assumption) ?_ | refine same_trd (by assumption) ?_ | dsimp only | split)

theorem runNow_same {s t : State} (a0 : CmdSpec) (a1 : Nat) (a2 : Message) (hs : SpecSame a0) (h : Same s t) : Same s (runNow a0 a1 a2 t) := by
  unfold runNow
  repeat' with_reducible (first | intro _ | assumption | apply hs.run | apply hs.onAccept | apply hs.onRefuse | exact hs | apply send_same | fail_if_no_progress apply same_rec | apply same_ite | refine same_fst (by assumption) ?_ | refine same_snd (by assumption) ?_ | refine same_trd (by assumption) ?_ | dsimp only | split)

theorem takeRequest_same {s t : State} (a0 : CmdSpec) (a1 : Nat) (a2 : Message) (hs : SpecSame a0) (h : Same s t) : Same s (takeRequest a0 a1 a2 t) := by
  unfold takeRequest
  repeat' with_reducible (first | intro _ | assumption | apply hs.run | apply hs.onAccept | apply hs.onRefuse | exact hs | apply onBox_same | apply post_same | apply dropSession_same | apply refuseRequest_same | apply runNow_same | apply answer_same | apply windowMessage_same | apply accept_same | fail_if_no_progress apply same_rec | apply same_ite | refine same_fst (by assumption) ?_ | refine same_snd (by assumption) ?_ | refine same_trd (by assumption) ?_ | dsimp only | split)

theorem modifyCmd_same {s t : State} (a0 : Nat) (a1 : U32) (a2 : Cmd → Cmd) (h : Same s t) : Same s (modifyCmd a0 a1 a2 t) := by
  unfold modifyCmd
  repeat' with_reducible (first | intro _ | assumption | apply onBox_same | fail_if_no_progress apply same_rec | apply same_ite | dsimp only | split)

theorem freeSlotOf_same {s t : State} (a0 : TaskSlot) (h : Same s t) : Same s (freeSlotOf a0 t) := by
  unfold freeSlotOf
  repeat' with_reducible (first | intro _ | assumption | fail_if_no_progress apply same_rec | apply same_ite | dsimp only | split)

theorem freeTask_same {s t : State} (a0 : TaskKind) (h : Same s t) : Same s (freeTask a0 t) := by
  unfold freeTask
  repeat' with_reducible (first | intro _ | assumption | apply freeSlotOf_same | fail_if_no_progress apply same_rec | apply same_ite | dsimp only | split)

theorem dropSetting_same {s t : State} (a0 : U32) (h : Same s t) : Same s (dropSetting a0 t) := by
  unfold dropSetting
  repeat' with_reducible (first | intro _ | assumption | fail_if_no_progress apply same_rec | apply same_ite | dsimp only | split)

theorem completeWith_same {s t : State} (a0 : Nat) (a1 : U32) (a2 : CmdOutcome) (h : Same s t) : Same s (completeWith a0 a1 a2 t) := by
  unfold completeWith
  repeat' with_reducible (first | intro _ | assumption | apply dropSetting_same | apply joinRef_same | apply modifyCmd_same | fail_if_no_progress apply same_rec | apply same_ite | refine same_fst (by assumption) ?_ | refine same_snd (by assumption) ?_ | refine same_trd (by assumption) ?_ | dsimp only | split)

theorem runCommand_same {s t : State} (a0 : CmdSpec) (a1 : Nat) (hs : SpecSame a0) (h : Same s t) : Same s (runCommand a0 a1 t) := by
  unfold runCommand
  repeat' with_reducible (first | intro _ | assumption | apply hs.run | apply hs.onAccept | apply hs.onRefuse | exact hs | apply modifyCmd_same | apply completeWith_same | apply freeTask_same | fail_if_no_progress apply same_rec | apply same_ite | refine same_fst (by assumption) ?_ | refine same_snd (by assumption) ?_ | refine same_trd (by assumption) ?_ | dsimp only | split)

theorem mailboxCommand_same {s t : State} (a0 : CmdSpec) (a1 : CmdStep) (hs : SpecSame a0) (h : Same s t) : Same s (mailboxCommand a0 a1 t) := by
  unfold mailboxCommand
  repeat' with_reducible (first | intro _ | assumption | apply hs.run | apply hs.onAccept | apply hs.onRefuse | exact hs | apply takeRequest_same | apply runCommand_same | fail_if_no_progress apply same_rec | apply same_ite | dsimp only | split)

theorem dueChange_same {s t : State} (a0 : Cmd) (a1 : U32) (a2 : Bool) (a3 : Change) (h : Same s t) : Same s (dueChange a0 a1 a2 a3 t) := by
  unfold dueChange
  repeat' with_reducible (first | intro _ | assumption | fail_if_no_progress apply same_rec | apply same_ite | refine same_fst (by assumption) ?_ | refine same_snd (by assumption) ?_ | refine same_trd (by assumption) ?_ | dsimp only | split)

theorem writeSetting_same {s t : State} (a0 : Nat) (a1 : Nat) (a2 : Bytes) (a3 : Cmd → State → U32) (a4 : Bool) (a5 : Cmd) (h : Same s t) : Same s (writeSetting a0 a1 a2 a3 a4 a5 t).1 := by
  unfold writeSetting
  repeat' with_reducible (first | intro _ | assumption | apply dueChange_same | apply same_ite | refine same_fst (by assumption) ?_ | refine same_snd (by assumption) ?_ | refine same_trd (by assumption) ?_ | dsimp only | split)

theorem settingAccepted_same {s t : State} (a0 : Nat) (a1 : U32) (a2 : Bytes) (h : Same s t) : Same s (settingAccepted a0 a1 a2 t) := by
  unfold settingAccepted
  repeat' with_reducible (first | intro _ | assumption | fail_if_no_progress apply same_rec | apply same_ite | refine same_fst (by assumption) ?_ | refine same_snd (by assumption) ?_ | refine same_trd (by assumption) ?_ | dsimp only | split)

theorem onList_same {s t : State} (a0 : Nat) (a1 : ReadyList → ReadyList) (h : Same s t) : Same s (onList a0 a1 t) := by
  unfold onList
  repeat' with_reducible (first | intro _ | assumption | fail_if_no_progress apply same_rec | apply same_ite | dsimp only | split)

theorem enterTask_same {s t : State} (a0 : TaskSlot) (a1 : Nat) (h : Same s t) : Same s (enterTask a0 a1 t) := by
  unfold enterTask
  repeat' with_reducible (first | intro _ | assumption | apply onList_same | fail_if_no_progress apply same_rec | apply same_ite | dsimp only | split)

theorem holdTask_same {s t : State} (a0 : Nat) (a1 : Option Nat) (a2 : TaskSlot) (h : Same s t) : Same s (holdTask a0 a1 a2 t) := by
  unfold holdTask
  repeat' with_reducible (first | intro _ | assumption | apply onList_same | fail_if_no_progress apply same_rec | apply same_ite | dsimp only | split)

theorem postTask_same {s t : State} (a0 : Nat) (a1 : TaskSlot) (h : Same s t) : Same s (postTask a0 a1 t) := by
  unfold postTask
  repeat' with_reducible (first | intro _ | assumption | apply enterTask_same | apply holdTask_same | fail_if_no_progress apply same_rec | apply same_ite | dsimp only | split)

theorem releaseTask_same {s t : State} (a0 : TaskSlot) (h : Same s t) : Same s (releaseTask a0 t) := by
  unfold releaseTask
  repeat' with_reducible (first | intro _ | assumption | apply enterTask_same | apply same_ite | dsimp only | split)

theorem postFrom_same {s t : State} (a0 : TaskKind) (a1 : TaskSlot) (h : Same s t) : Same s (postFrom a0 a1 t) := by
  unfold postFrom
  repeat' with_reducible (first | intro _ | assumption | apply postTask_same | apply freeSlotOf_same | apply enterTask_same | apply holdTask_same | fail_if_no_progress apply same_rec | apply same_ite | dsimp only | split)

theorem endTask_same {s t : State} (a0 : TaskKind) (a1 : Option TaskSlot) (h : Same s t) : Same s (endTask a0 a1 t) := by
  unfold endTask
  repeat' with_reducible (first | intro _ | assumption | apply postFrom_same | apply freeTask_same | fail_if_no_progress apply same_rec | apply same_ite | dsimp only | split)

theorem pulseHeldTask_same {s t : State} (a0 : TaskSlot) (h : Same s t) : Same s (pulseHeldTask a0 t) := by
  unfold pulseHeldTask
  repeat' with_reducible (first | intro _ | assumption | apply onList_same | fail_if_no_progress apply same_rec | apply same_ite | dsimp only | split)

theorem streamPulse_same {s t : State} (a0 : TaskSlot) (h : Same s t) : Same s (streamPulse a0 t) := by
  unfold streamPulse
  repeat' with_reducible (first | intro _ | assumption | apply holdTask_same | apply enterTask_same | apply pulseHeldTask_same | fail_if_no_progress apply same_rec | apply same_ite | dsimp only | split)

theorem fray_same {s t : State} (a0 : TaskSlot) (h : Same s t) : Same s (fray a0 t) := by
  unfold fray
  repeat' with_reducible (first | intro _ | assumption | apply onList_same | fail_if_no_progress apply same_rec | apply same_ite | dsimp only | split)

theorem cancelTask_same {s t : State} (a0 : TaskSlot) (h : Same s t) : Same s (cancelTask a0 t) := by
  unfold cancelTask
  repeat' with_reducible (first | intro _ | assumption | apply fray_same | apply onList_same | fail_if_no_progress apply same_rec | apply same_ite | refine same_fst (by assumption) ?_ | refine same_snd (by assumption) ?_ | refine same_trd (by assumption) ?_ | dsimp only | split)

theorem abortsDone_same {s t : State} (a0 : Bool) (h : Same s t) : Same s (abortsDone a0 t) := by
  unfold abortsDone
  repeat' with_reducible (first | intro _ | assumption | fail_if_no_progress apply same_rec | apply same_ite | dsimp only | split)

theorem cancelHeld_same {s t : State} (a0 : U32) (h : Same s t) : Same s (cancelHeld a0 t) := by
  unfold cancelHeld
  repeat' with_reducible (first | intro _ | assumption | apply fray_same | fail_if_no_progress apply same_rec | apply same_ite | apply same_foldl | apply same_foldl_fst | apply same_foldl_snd | dsimp only | split)

theorem cancelStrict_same {s t : State} (a0 : U32) (h : Same s t) : Same s (cancelStrict a0 t) := by
  unfold cancelStrict
  repeat' with_reducible (first | intro _ | assumption | apply cancelHeld_same | apply cancelTask_same | fail_if_no_progress apply same_rec | apply same_ite | apply same_foldl | apply same_foldl_fst | apply same_foldl_snd | dsimp only | split)

theorem closeLoads_same {s t : State} (h : Same s t) : Same s (closeLoads t) := by
  unfold closeLoads
  repeat' with_reducible (first | intro _ | assumption | fail_if_no_progress apply same_rec | apply same_ite | refine same_fst (by assumption) ?_ | refine same_snd (by assumption) ?_ | refine same_trd (by assumption) ?_ | dsimp only | split)

theorem startOn_same {s t : State} (a0 : Nat) (a1 : TaskSlot) (h : Same s t) : Same s (startOn a0 a1 t) := by
  unfold startOn
  repeat' with_reducible (first | intro _ | assumption | apply onList_same | fail_if_no_progress apply same_rec | apply same_ite | dsimp only | split)

theorem execTaskDispatch_same {s t : State} (a0 : Nat) (h : Same s t) : GoesSame s (execTaskDispatch a0 t) := by
  unfold execTaskDispatch
  repeat' with_reducible (first | intro _ | assumption | apply goesSame_next | apply startOn_same | fail_if_no_progress apply same_rec | apply same_ite | refine same_fst (by assumption) ?_ | refine same_snd (by assumption) ?_ | refine same_trd (by assumption) ?_ | dsimp only | split)

theorem enterHeld_same {s t : State} (a0 : HeldTask) (a1 : Nat) (h : Same s t) : Same s (enterHeld a0 a1 t) := by
  unfold enterHeld
  repeat' with_reducible (first | intro _ | assumption | apply pulseHeldTask_same | apply enterTask_same | apply freeSlotOf_same | fail_if_no_progress apply same_rec | apply same_ite | dsimp only | split)

theorem execHeldSourceRelease_same {s t : State} (a0 : Nat) (h : Same s t) : GoesSame s (execHeldSourceRelease a0 t) := by
  unfold execHeldSourceRelease
  repeat' with_reducible (first | intro _ | assumption | apply goesSame_next | apply windowMessages_same | apply enterHeld_same | fail_if_no_progress apply same_rec | apply same_ite | dsimp only | split)

theorem execSoftDeadlinePass_same {s t : State} (a0 : Nat) (h : Same s t) : GoesSame s (execSoftDeadlinePass a0 t) := by
  unfold execSoftDeadlinePass
  repeat' with_reducible (first | intro _ | assumption | apply goesSame_next | apply fray_same | fail_if_no_progress apply same_rec | apply same_ite | dsimp only | split)

theorem frayRecordOf_same {s t : State} (a0 : FrayRun) (h : Same s t) : Same s (frayRecordOf a0 t) := by
  unfold frayRecordOf
  repeat' with_reducible (first | intro _ | assumption | apply post_same | apply same_ite | dsimp only | split)

theorem execFrayRecord_same {s t : State} (h : Same s t) : GoesSame s (execFrayRecord t) := by
  unfold execFrayRecord
  repeat' with_reducible (first | intro _ | assumption | apply goesSame_next | apply frayRecordOf_same | fail_if_no_progress apply same_rec | apply same_ite | apply same_foldl | apply same_foldl_fst | apply same_foldl_snd | dsimp only | split)

theorem execTmbClearStats_same {s t : State} (h : Same s t) : GoesSame s (execTmbClearStats t) := by
  unfold execTmbClearStats
  repeat' with_reducible (first | intro _ | assumption | apply goesSame_next | fail_if_no_progress apply same_rec | apply same_ite | refine same_fst (by assumption) ?_ | refine same_snd (by assumption) ?_ | refine same_trd (by assumption) ?_ | dsimp only | split)

theorem postMailboxTasks_same {s t : State} (h : Same s t) : Same s (postMailboxTasks t) := by
  unfold postMailboxTasks
  repeat' with_reducible (first | intro _ | assumption | apply postTask_same | apply same_ite | apply same_foldl | apply same_foldl_fst | apply same_foldl_snd | dsimp only | split)

theorem execMailboxCommandExecution_same {s t : State} (a0 : Nat) (h : Same s t) : GoesSame s (execMailboxCommandExecution a0 t) := by
  unfold execMailboxCommandExecution
  repeat' with_reducible (first | intro _ | assumption | apply goesSame_next | apply onBox_same | apply modifyCmd_same | fail_if_no_progress apply same_rec | apply same_ite | dsimp only | split)

theorem slotAnswer_same {s t : State} (a0 : Nat) (a1 : U32) (a2 : U32) (h : Same s t) : Same s (slotAnswer a0 a1 a2 t) := by
  unfold slotAnswer
  repeat' with_reducible (first | intro _ | assumption | apply send_same | fail_if_no_progress apply same_rec | apply same_ite | dsimp only | split)

theorem execSlotRead_same {s t : State} (a0 : Nat) (a1 : Message) (h : Same s t) : GoesSame s (execSlotRead a0 a1 t) := by
  unfold execSlotRead
  repeat' with_reducible (first | intro _ | assumption | apply goesSame_next | apply onBox_same | apply post_same | apply dropSession_same | apply refuseRequest_same | apply slotAnswer_same | fail_if_no_progress apply same_rec | apply same_ite | dsimp only | split)

theorem execUnknownOpcodeRequest_same {s t : State} (a0 : Nat) (a1 : Message) (h : Same s t) : GoesSame s (execUnknownOpcodeRequest a0 a1 t) := by
  unfold execUnknownOpcodeRequest
  repeat' with_reducible (first | intro _ | assumption | apply goesSame_next | apply onBox_same | apply post_same | apply dropSession_same | apply refuseRequest_same | fail_if_no_progress apply same_rec | apply same_ite | dsimp only | split)

end Sys2Proof.Machine
end

