-- ==== Sys2Proof/Laws/SameMove.lean ====
section
/-! SUPPORT. Skeins and Bobbins: what each operation and command leaves of the queue and the memory. -/

set_option linter.all false

namespace Sys2Proof.Machine

theorem samplerPacket_same {s t : State} (a0 : Bytes) (h : Same s t) : Same s (samplerPacket a0 t) := by
  unfold samplerPacket
  repeat' with_reducible (first | intro _ | assumption | apply post_same | apply same_ite | dsimp only | split)

theorem holdNotice_same {s t : State} (a0 : Nat) (h : Same s t) : Same s (holdNotice a0 t) := by
  unfold holdNotice
  repeat' with_reducible (first | intro _ | assumption | apply onList_same | apply onSkein_same | fail_if_no_progress apply same_rec | apply same_ite | dsimp only | split)

theorem sendNotice_same {s t : State} (a0 : Nat) (h : Same s t) : Same s (sendNotice a0 t) := by
  unfold sendNotice
  repeat' with_reducible (first | intro _ | assumption | apply enterTask_same | apply holdNotice_same | fail_if_no_progress apply same_rec | apply same_ite | dsimp only | split)

theorem packetVisible_same {s t : State} (a0 : Nat) (a1 : Bytes) (h : Same s t) : Same s (packetVisible a0 a1 t) := by
  unfold packetVisible
  repeat' with_reducible (first | intro _ | assumption | apply samplerPacket_same | apply sendNotice_same | apply onSkein_same | apply same_ite | dsimp only | split)

theorem afterPush_same {s t : State} (a0 : Nat) (a1 : Skein) (a2 : PushResult) (h : Same s t) : Same s (afterPush a0 a1 a2 t) := by
  unfold afterPush
  repeat' with_reducible (first | intro _ | assumption | apply onSkein_same | apply packetVisible_same | apply post_same | fail_if_no_progress apply same_rec | apply same_ite | dsimp only | split)

theorem pushWord_same {s t : State} (a0 : Nat) (a1 : Nat) (a2 : Nat) (a3 : U32) (h : Same s t) : Same s (pushWord a0 a1 a2 a3 t) := by
  unfold pushWord
  repeat' with_reducible (first | intro _ | assumption | apply onSkein_same | apply afterPush_same | fail_if_no_progress apply same_rec | apply same_ite | refine same_fst (by assumption) ?_ | refine same_snd (by assumption) ?_ | refine same_trd (by assumption) ?_ | dsimp only | split)

theorem waitAccess_same {s t : State} (a0 : PortAccess) (h : Same s t) : Same s (waitAccess a0 t) := by
  unfold waitAccess
  repeat' with_reducible (first | intro _ | assumption | fail_if_no_progress apply same_rec | apply same_ite | dsimp only | split)

theorem pushAccess_same {s t : State} (a0 : Nat) (a1 : Nat) (a2 : Nat) (a3 : U32) (h : Same s t) : Same s (pushAccess a0 a1 a2 a3 t) := by
  unfold pushAccess
  repeat' with_reducible (first | intro _ | assumption | apply waitAccess_same | apply pushWord_same | apply same_ite | refine same_fst (by assumption) ?_ | refine same_snd (by assumption) ?_ | refine same_trd (by assumption) ?_ | dsimp only | split)

theorem execSkeinPushCont_same {s t : State} (a0 : Nat) (a1 : Nat) (a2 : U32) (h : Same s t) : GoesSame s (execSkeinPushCont a0 a1 a2 t) := by
  unfold execSkeinPushCont
  repeat' with_reducible (first | intro _ | assumption | apply goesSame_next | apply pushAccess_same | apply same_ite | dsimp only | split)

theorem execSkeinPushEnd_same {s t : State} (a0 : Nat) (a1 : Nat) (a2 : Nat) (a3 : U32) (h : Same s t) : GoesSame s (execSkeinPushEnd a0 a1 a2 a3 t) := by
  unfold execSkeinPushEnd
  repeat' with_reducible (first | intro _ | assumption | apply goesSame_next | apply pushAccess_same | apply same_ite | dsimp only | split)

theorem execSkeinHeldNotice_same {s t : State} (a0 : Nat) (h : Same s t) : GoesSame s (execSkeinHeldNotice a0 t) := by
  unfold execSkeinHeldNotice
  repeat' with_reducible (first | intro _ | assumption | apply goesSame_next | apply onSkein_same | apply enterTask_same | fail_if_no_progress apply same_rec | apply same_ite | dsimp only | split)

theorem popSkein_same {s t : State} (a0 : Nat) (a1 : Nat) (a2 : Ecc) (h : Same s t) : Same s (popSkein a0 a1 a2 t).2.2 := by
  unfold popSkein
  repeat' with_reducible (first | intro _ | assumption | apply onSkein_same | apply post_same | fail_if_no_progress apply same_rec | apply same_ite | refine same_fst (by assumption) ?_ | refine same_snd (by assumption) ?_ | refine same_trd (by assumption) ?_ | dsimp only | split)

theorem popAccess_same {s t : State} (a0 : Nat) (a1 : Nat) (a2 : Ecc) (h : Same s t) : Same s (popAccess a0 a1 a2 t) := by
  unfold popAccess
  repeat' with_reducible (first | intro _ | assumption | apply popSkein_same | fail_if_no_progress apply same_rec | apply same_ite | refine same_fst (by assumption) ?_ | refine same_snd (by assumption) ?_ | refine same_trd (by assumption) ?_ | dsimp only | split)

theorem execSkeinPop_same {s t : State} (a0 : Nat) (a1 : Nat) (a2 : Ecc) (h : Same s t) : GoesSame s (execSkeinPop a0 a1 a2 t) := by
  unfold execSkeinPop
  repeat' with_reducible (first | intro _ | assumption | apply goesSame_next | apply waitAccess_same | apply popAccess_same | apply same_ite | dsimp only | split)

theorem resumePort_same {s t : State} (a0 : Nat) (h : Same s t) : Same s (resumePort a0 t) := by
  unfold resumePort
  repeat' with_reducible (first | intro _ | assumption | apply waitAccess_same | apply pushWord_same | apply popAccess_same | fail_if_no_progress apply same_rec | apply same_ite | apply same_foldl | apply same_foldl_fst | apply same_foldl_snd | refine same_fst (by assumption) ?_ | refine same_snd (by assumption) ?_ | refine same_trd (by assumption) ?_ | dsimp only | split)

theorem execSkeinHeldWrite_same {s t : State} (a0 : Nat) (h : Same s t) : GoesSame s (execSkeinHeldWrite a0 t) := by
  unfold execSkeinHeldWrite
  repeat' with_reducible (first | intro _ | assumption | apply goesSame_next | apply resumePort_same | apply afterPush_same | fail_if_no_progress apply same_rec | apply same_ite | refine same_fst (by assumption) ?_ | refine same_snd (by assumption) ?_ | refine same_trd (by assumption) ?_ | dsimp only | split)

theorem execSkeinWriteAbandon_same {s t : State} (a0 : Nat) (h : Same s t) : GoesSame s (execSkeinWriteAbandon a0 t) := by
  unfold execSkeinWriteAbandon
  repeat' with_reducible (first | intro _ | assumption | apply goesSame_next | apply onSkein_same | fail_if_no_progress apply same_rec | apply same_ite | refine same_fst (by assumption) ?_ | refine same_snd (by assumption) ?_ | refine same_trd (by assumption) ?_ | dsimp only | split)

theorem execSkeinReadAbandon_same {s t : State} (a0 : Nat) (h : Same s t) : GoesSame s (execSkeinReadAbandon a0 t) := by
  unfold execSkeinReadAbandon
  repeat' with_reducible (first | intro _ | assumption | apply goesSame_next | apply onSkein_same | fail_if_no_progress apply same_rec | apply same_ite | refine same_fst (by assumption) ?_ | refine same_snd (by assumption) ?_ | refine same_trd (by assumption) ?_ | dsimp only | split)

theorem execJnlRebuild_same {s t : State} (a0 : Nat) (h : Same s t) : GoesSame s (execJnlRebuild a0 t) := by
  unfold execJnlRebuild
  repeat' with_reducible (first | intro _ | assumption | apply goesSame_next | apply onSkein_same | fail_if_no_progress apply same_rec | apply same_ite | apply same_foldl | apply same_foldl_fst | apply same_foldl_snd | refine same_fst (by assumption) ?_ | refine same_snd (by assumption) ?_ | refine same_trd (by assumption) ?_ | dsimp only | split)

theorem execSknClearStats_same {s t : State} (h : Same s t) : GoesSame s (execSknClearStats t) := by
  unfold execSknClearStats
  repeat' with_reducible (first | intro _ | assumption | apply goesSame_next | fail_if_no_progress apply same_rec | apply same_ite | dsimp only | split)

theorem onBobbin_same {s t : State} (a0 : Nat) (a1 : Bobbin → Bobbin) (h : Same s t) : Same s (onBobbin a0 a1 t) := by
  unfold onBobbin
  repeat' with_reducible (first | intro _ | assumption | fail_if_no_progress apply same_rec | fail_if_no_progress apply same_bob | apply same_ite | dsimp only | split)

theorem haltBobbin_same {s t : State} (a0 : Nat) (a1 : Nat) (a2 : Nat) (a3 : Nat) (h : Same s t) : Same s (haltBobbin a0 a1 a2 a3 t) := by
  unfold haltBobbin
  repeat' with_reducible (first | intro _ | assumption | apply post_same | apply onBobbin_same | fail_if_no_progress apply same_rec | apply same_ite | refine same_fst (by assumption) ?_ | refine same_snd (by assumption) ?_ | refine same_trd (by assumption) ?_ | dsimp only | split)

theorem pathTo_same {s t : State} (a0 : Nat) (h : Same s t) : Same s (pathTo a0 t) := by
  unfold pathTo
  repeat' with_reducible (first | intro _ | assumption | fail_if_no_progress apply same_rec | fail_if_no_progress apply same_bob | apply same_ite | dsimp only | split)

theorem settlePath_same {s t : State} (h : Same s t) : Same s (settlePath t) := by
  unfold settlePath
  repeat' with_reducible (first | intro _ | assumption | apply pathTo_same | apply onBobbin_same | fail_if_no_progress apply same_rec | fail_if_no_progress apply same_bob | apply same_ite | apply same_elim | dsimp only | split)

theorem passPath_same {s t : State} (h : Same s t) : Same s (passPath t) := by
  unfold passPath
  repeat' with_reducible (first | intro _ | assumption | apply settlePath_same | apply pathTo_same | apply same_ite | apply same_elim | dsimp only | split)

theorem ignoredWrite_same {s t : State} (h : Same s t) : Same s (ignoredWrite t) := by
  unfold ignoredWrite
  repeat' with_reducible (first | intro _ | assumption | fail_if_no_progress apply same_rec | fail_if_no_progress apply same_bob | apply same_ite | dsimp only | split)

theorem execBobStart_same {s t : State} (a0 : Nat) (h : Same s t) : GoesSame s (execBobStart a0 t) := by
  unfold execBobStart
  repeat' with_reducible (first | intro _ | assumption | apply goesSame_next | apply ignoredWrite_same | apply haltBobbin_same | apply onBobbin_same | apply settlePath_same | fail_if_no_progress apply same_rec | fail_if_no_progress apply same_bob | apply same_ite | dsimp only | split)

theorem execBobRequest_same {s t : State} (a0 : Nat) (a1 : Bool) (h : Same s t) : GoesSame s (execBobRequest a0 a1 t) := by
  unfold execBobRequest
  repeat' with_reducible (first | intro _ | assumption | apply goesSame_next | apply settlePath_same | apply onBobbin_same | fail_if_no_progress apply same_rec | fail_if_no_progress apply same_bob | apply same_ite | dsimp only | split)

theorem readPacketWords_same {s t : State} (a0 : Nat) (a1 : BusAccess) (a2 a3 : Nat) (a4 : Bytes) (h : Same s t) : Same s (readPacketWords a0 a1 a2 a3 a4 t).2.2 := by
  induction a2 generalizing t a3 a4 with
  | zero => exact h
  | succ n ih =>
    unfold readPacketWords
    repeat' with_reducible (first | apply ih | intro _ | assumption | apply popSkein_same | apply same_ite | refine same_trd (by assumption) ?_ | dsimp only | split)

theorem readSkein_same {s t : State} (a0 : Nat) (a1 : BusAccess) (h : Same s t) : Same s (readSkein a0 a1 t) := by
  unfold readSkein
  repeat' with_reducible (first | intro _ | assumption | apply readPacketWords_same | apply haltBobbin_same | apply onBobbin_same | fail_if_no_progress apply same_rec | fail_if_no_progress apply same_bob | apply same_ite | refine same_fst (by assumption) ?_ | refine same_snd (by assumption) ?_ | refine same_trd (by assumption) ?_ | dsimp only | split)

theorem readBurst_same {s t : State} (a0 : Nat) (a1 : BusAccess) (h : Same s t) : Same s (readBurst a0 a1 t) := by
  unfold readBurst
  repeat' with_reducible (first | intro _ | assumption | apply readSkein_same | apply onBobbin_same | fail_if_no_progress apply same_rec | fail_if_no_progress apply same_bob | apply same_ite | refine same_fst (by assumption) ?_ | refine same_snd (by assumption) ?_ | refine same_trd (by assumption) ?_ | dsimp only | split)

theorem pushPacket_same {s t : State} (a0 : Nat) (a1 : Nat) (a2 : Bytes) (h : Same s t) : Same s (pushPacket a0 a1 a2 t) := by
  fun_induction pushPacket a0 a1 a2 t with
  | case1 _ _ _ _ _ _ _ ih => exact ih (pushAccess_same _ _ _ _ h)
  | case2 => exact pushAccess_same _ _ _ _ h

theorem writeBurst_keeps {s t : State} (a0 : Nat) (h : Keeps s t) : Keeps s (writeBurst a0 t) := by
  unfold writeBurst
  dsimp only
  refine keeps_ite (keeps_of_same (haltBobbin_same _ _ _ _ (Same.refl _)) ?_) ?_ <;>
    refine keeps_of_same (onBobbin_same _ _ (Same.refl _)) ?_ <;> split
  · split
    · exact keeps_of_same (onBobbin_same _ _ (pushPacket_same _ _ _ (Same.refl _))) h
    · exact keeps_of_same (onBobbin_same _ _ (Same.refl _)) h
  · exact keeps_mem h _
  · split
    · exact keeps_of_same (onBobbin_same _ _ (pushPacket_same _ _ _ (Same.refl _))) h
    · exact keeps_of_same (onBobbin_same _ _ (Same.refl _)) h
  · exact keeps_mem h _

theorem busError_same {s t : State} (a0 : Nat) (a1 : Nat) (h : Same s t) : Same s (busError a0 a1 t) := by
  unfold busError
  repeat' with_reducible (first | intro _ | assumption | apply haltBobbin_same | apply onBobbin_same | fail_if_no_progress apply same_rec | fail_if_no_progress apply same_bob | apply same_ite | refine same_fst (by assumption) ?_ | refine same_snd (by assumption) ?_ | refine same_trd (by assumption) ?_ | dsimp only | split)

theorem execBobBurstDone_keeps {s t : State} (a0 : Nat) (a1 : BusAccess) (h : Keeps s t) : GoesKeeping s (execBobBurstDone a0 a1 t) := by
  unfold execBobBurstDone
  dsimp only
  split
  · split
    · exact goesKeeping_next (keeps_of_same (settlePath_same (busError_same _ _ (Same.refl _))) h)
    · refine goesKeeping_next (keeps_of_same (passPath_same (Same.refl _)) ?_)
      split
      · exact keeps_of_same (readBurst_same _ _ (onBobbin_same _ _ (Same.refl _))) h
      · exact writeBurst_keeps _ (keeps_of_same (onBobbin_same _ _ (Same.refl _)) h)
  · exact goesKeeping_next h

theorem pulseSlot_same {s t : State} (a0 : Nat) (h : Same s t) : Same s (pulseSlot a0 t).2 := by
  unfold pulseSlot
  repeat' with_reducible (first | intro _ | assumption | apply onList_same | fail_if_no_progress apply same_rec | apply same_ite | refine same_fst (by assumption) ?_ | refine same_snd (by assumption) ?_ | refine same_trd (by assumption) ?_ | dsimp only | split)

theorem sendCompletion_same {s t : State} (a0 : Nat) (a1 : BusAccess) (h : Same s t) : Same s (sendCompletion a0 a1 t).2 := by
  unfold sendCompletion
  repeat' with_reducible (first | intro _ | assumption | apply pulseSlot_same | apply onBobbin_same | apply pushWord_same | fail_if_no_progress apply same_rec | fail_if_no_progress apply same_bob | apply same_ite | refine same_fst (by assumption) ?_ | refine same_snd (by assumption) ?_ | refine same_trd (by assumption) ?_ | dsimp only | split)

theorem loadDescriptor_same {s t : State} (a0 : Nat) (a1 : BusAccess) (h : Same s t) : Same s (loadDescriptor a0 a1 t) := by
  unfold loadDescriptor
  repeat' with_reducible (first | intro _ | assumption | apply haltBobbin_same | apply busError_same | apply onBobbin_same | fail_if_no_progress apply same_rec | fail_if_no_progress apply same_bob | apply same_ite | refine same_fst (by assumption) ?_ | refine same_snd (by assumption) ?_ | refine same_trd (by assumption) ?_ | dsimp only | split)

theorem goOn_same {s t : State} (a0 : Nat) (a1 : BusAccess) (h : Same s t) : Same s (goOn a0 a1 t) := by
  unfold goOn
  repeat' with_reducible (first | intro _ | assumption | apply loadDescriptor_same | apply onBobbin_same | fail_if_no_progress apply same_rec | fail_if_no_progress apply same_bob | apply same_ite | refine same_fst (by assumption) ?_ | refine same_snd (by assumption) ?_ | refine same_trd (by assumption) ?_ | dsimp only | split)

theorem endTransfer_same {s t : State} (a0 : Nat) (a1 : BusAccess) (a2 : BusAccess) (h : Same s t) : Same s (endTransfer a0 a1 a2 t) := by
  unfold endTransfer
  repeat' with_reducible (first | intro _ | assumption | apply sendCompletion_same | apply goOn_same | apply onBobbin_same | apply busError_same | fail_if_no_progress apply same_rec | fail_if_no_progress apply same_bob | apply same_ite | refine same_fst (by assumption) ?_ | refine same_snd (by assumption) ?_ | refine same_trd (by assumption) ?_ | dsimp only | split)

theorem execBobTransferEnd_same {s t : State} (a0 : Nat) (a1 : TransferBus) (h : Same s t) : GoesSame s (execBobTransferEnd a0 a1 t) := by
  unfold execBobTransferEnd
  repeat' with_reducible (first | intro _ | assumption | apply goesSame_next | apply settlePath_same | apply loadDescriptor_same | apply endTransfer_same | apply same_ite | dsimp only | split)

theorem execBobPulseRelease_same {s t : State} (a0 : PulseEntry) (h : Same s t) : GoesSame s (execBobPulseRelease a0 t) := by
  unfold execBobPulseRelease
  repeat' with_reducible (first | intro _ | assumption | apply goesSame_next | apply sendCompletion_same | apply settlePath_same | apply goOn_same | apply busError_same | fail_if_no_progress apply same_rec | fail_if_no_progress apply same_bob | apply same_ite | refine same_fst (by assumption) ?_ | refine same_snd (by assumption) ?_ | refine same_trd (by assumption) ?_ | dsimp only | split)

theorem execBobStop_same {s t : State} (a0 : Nat) (a1 : Bool) (h : Same s t) : GoesSame s (execBobStop a0 a1 t) := by
  unfold execBobStop
  repeat' with_reducible (first | intro _ | assumption | apply goesSame_next | apply settlePath_same | apply endTransfer_same | apply onBobbin_same | apply ignoredWrite_same | apply haltBobbin_same | fail_if_no_progress apply same_rec | fail_if_no_progress apply same_bob | apply same_ite | dsimp only | split)

theorem execBobClearStats_same {s t : State} (h : Same s t) : GoesSame s (execBobClearStats t) := by
  unfold execBobClearStats
  repeat' with_reducible (first | intro _ | assumption | apply goesSame_next | fail_if_no_progress apply same_rec | fail_if_no_progress apply same_bob | apply same_ite | dsimp only | split)

end Sys2Proof.Machine
end

