-- ==== Sys2Proof/Laws/SameTables.lean ====
section
/-! SUPPORT. The tables: what each operation and command leaves of the queue and the memory. -/

set_option linter.all false

namespace Sys2Proof.Machine

theorem writeAccepted_same {s t : State} (a0 : WriteForm) (a1 : Nat) (a2 : U32) (a3 : Bytes) (h : Same s t) : Same s (writeAccepted a0 a1 a2 a3 t) := by
  unfold writeAccepted
  repeat' with_reducible (first | intro _ | assumption | fail_if_no_progress apply same_rec | apply same_ite | refine same_fst (by assumption) ?_ | refine same_snd (by assumption) ?_ | refine same_trd (by assumption) ?_ | dsimp only | split)

theorem writeRun_same {s t : State} (a0 : Nat) (a1 : Cmd) (h : Same s t) : Same s (writeRun a0 a1 t).1 := by
  unfold writeRun
  repeat' with_reducible (first | intro _ | assumption | fail_if_no_progress apply same_rec | apply same_ite | refine same_fst (by assumption) ?_ | refine same_snd (by assumption) ?_ | refine same_trd (by assumption) ?_ | dsimp only | split)

theorem tabWrite_same (a0 : Nat) (a1 : WriteForm) : SpecSame (tabWrite a0 a1) := by
  constructor <;> (unfold tabWrite; repeat' with_reducible (first | intro _ | assumption | apply SpecSame.mk | apply writeAccepted_same | apply writeRun_same | apply same_ite | dsimp only | split))

theorem execTabPinWrite_same {s t : State} (a0 : CmdStep) (h : Same s t) : GoesSame s (execTabPinWrite a0 t) := by
  unfold execTabPinWrite
  repeat' with_reducible (first | intro _ | assumption | apply tabWrite_same | apply goesSame_next | apply mailboxCommand_same | dsimp only)

theorem execTabPinClear_same {s t : State} (a0 : CmdStep) (h : Same s t) : GoesSame s (execTabPinClear a0 t) := by
  unfold execTabPinClear
  repeat' with_reducible (first | intro _ | assumption | apply tabWrite_same | apply goesSame_next | apply mailboxCommand_same | dsimp only)

theorem execTabPinSet_same {s t : State} (a0 : CmdStep) (h : Same s t) : GoesSame s (execTabPinSet a0 t) := by
  unfold execTabPinSet
  repeat' with_reducible (first | intro _ | assumption | apply tabWrite_same | apply goesSame_next | apply mailboxCommand_same | dsimp only)

theorem execTabPinClearFault_same {s t : State} (a0 : CmdStep) (h : Same s t) : GoesSame s (execTabPinClearFault a0 t) := by
  unfold execTabPinClearFault
  repeat' with_reducible (first | intro _ | assumption | apply tabWrite_same | apply goesSame_next | apply mailboxCommand_same | dsimp only)

theorem execTabEdgeWrite_same {s t : State} (a0 : CmdStep) (h : Same s t) : GoesSame s (execTabEdgeWrite a0 t) := by
  unfold execTabEdgeWrite
  repeat' with_reducible (first | intro _ | assumption | apply tabWrite_same | apply goesSame_next | apply mailboxCommand_same | dsimp only)

theorem execTabSegWrite_same {s t : State} (a0 : CmdStep) (h : Same s t) : GoesSame s (execTabSegWrite a0 t) := by
  unfold execTabSegWrite
  repeat' with_reducible (first | intro _ | assumption | apply tabWrite_same | apply goesSame_next | apply mailboxCommand_same | dsimp only)

theorem execTabSegClear_same {s t : State} (a0 : CmdStep) (h : Same s t) : GoesSame s (execTabSegClear a0 t) := by
  unfold execTabSegClear
  repeat' with_reducible (first | intro _ | assumption | apply tabWrite_same | apply goesSame_next | apply mailboxCommand_same | dsimp only)

theorem tabBatchOpen_same  : SpecSame (tabBatchOpen ) := by
  constructor <;> (unfold tabBatchOpen; repeat' with_reducible (first | intro _ | assumption | apply SpecSame.mk | fail_if_no_progress apply same_rec | apply same_ite | refine same_fst (by assumption) ?_ | refine same_snd (by assumption) ?_ | refine same_trd (by assumption) ?_ | dsimp only | split))

theorem execTabBatchOpen_same {s t : State} (a0 : CmdStep) (h : Same s t) : GoesSame s (execTabBatchOpen a0 t) := goesSame_next (mailboxCommand_same _ _ tabBatchOpen_same h)

theorem reproject_same {s t : State} (h : Same s t) : Same s (reproject t) := by
  unfold reproject
  repeat' with_reducible (first | intro _ | assumption | fail_if_no_progress apply same_rec | apply same_ite | dsimp only | split)

theorem dropBatch_same {s t : State} (h : Same s t) : Same s (dropBatch t) := by
  unfold dropBatch
  repeat' with_reducible (first | intro _ | assumption | apply reproject_same | fail_if_no_progress apply same_rec | apply same_ite | dsimp only | split)

theorem batchCloseAccepted_same {s t : State} (a0 : Nat) (a1 : U32) (a2 : Bytes) (h : Same s t) : Same s (batchCloseAccepted a0 a1 a2 t) := by
  unfold batchCloseAccepted
  repeat' with_reducible (first | intro _ | assumption | apply dropBatch_same | fail_if_no_progress apply same_rec | apply same_ite | refine same_fst (by assumption) ?_ | refine same_snd (by assumption) ?_ | refine same_trd (by assumption) ?_ | dsimp only | split)

theorem batchCloseRun_same {s t : State} (a0 : Nat) (a1 : Cmd) (h : Same s t) : Same s (batchCloseRun a0 a1 t).1 := by
  unfold batchCloseRun
  repeat' with_reducible (first | intro _ | assumption | apply writeRun_same | fail_if_no_progress apply same_rec | apply same_ite | refine same_fst (by assumption) ?_ | refine same_snd (by assumption) ?_ | refine same_trd (by assumption) ?_ | dsimp only | split)

theorem tabBatchClose_same  : SpecSame (tabBatchClose ) := by
  constructor <;> (unfold tabBatchClose; repeat' with_reducible (first | intro _ | assumption | apply SpecSame.mk | apply batchCloseAccepted_same | apply batchCloseRun_same | apply same_ite | dsimp only | split))

theorem execTabBatchClose_same {s t : State} (a0 : CmdStep) (h : Same s t) : GoesSame s (execTabBatchClose a0 t) := goesSame_next (mailboxCommand_same _ _ tabBatchClose_same h)

theorem tabBatchAbort_same  : SpecSame (tabBatchAbort ) := by
  constructor <;> (unfold tabBatchAbort; repeat' with_reducible (first | intro _ | assumption | apply SpecSame.mk | apply dropBatch_same | apply post_same | fail_if_no_progress apply same_rec | apply same_ite | refine same_fst (by assumption) ?_ | refine same_snd (by assumption) ?_ | refine same_trd (by assumption) ?_ | dsimp only | split))

theorem execTabBatchAbort_same {s t : State} (a0 : CmdStep) (h : Same s t) : GoesSame s (execTabBatchAbort a0 t) := goesSame_next (mailboxCommand_same _ _ tabBatchAbort_same h)

theorem execTabBatchTimeout_same {s t : State} (h : Same s t) : GoesSame s (execTabBatchTimeout t) := by
  unfold execTabBatchTimeout
  repeat' with_reducible (first | intro _ | assumption | apply goesSame_next | apply post_same | apply dropBatch_same | fail_if_no_progress apply same_rec | apply same_ite | dsimp only | split)

theorem tabPinRead_same  : SpecSame (tabPinRead ) := by
  constructor <;> (unfold tabPinRead; repeat' with_reducible (first | intro _ | assumption | apply SpecSame.mk | apply same_ite | refine same_fst (by assumption) ?_ | refine same_snd (by assumption) ?_ | refine same_trd (by assumption) ?_ | dsimp only | split))

theorem execTabPinRead_same {s t : State} (a0 : CmdStep) (h : Same s t) : GoesSame s (execTabPinRead a0 t) := goesSame_next (mailboxCommand_same _ _ tabPinRead_same h)

theorem tabEdgeRead_same  : SpecSame (tabEdgeRead ) := by
  constructor <;> (unfold tabEdgeRead; repeat' with_reducible (first | intro _ | assumption | apply SpecSame.mk | apply same_ite | refine same_fst (by assumption) ?_ | refine same_snd (by assumption) ?_ | refine same_trd (by assumption) ?_ | dsimp only | split))

theorem execTabEdgeRead_same {s t : State} (a0 : CmdStep) (h : Same s t) : GoesSame s (execTabEdgeRead a0 t) := goesSame_next (mailboxCommand_same _ _ tabEdgeRead_same h)

theorem tabSegRead_same  : SpecSame (tabSegRead ) := by
  constructor <;> (unfold tabSegRead; repeat' with_reducible (first | intro _ | assumption | apply SpecSame.mk | apply same_ite | refine same_fst (by assumption) ?_ | refine same_snd (by assumption) ?_ | refine same_trd (by assumption) ?_ | dsimp only | split))

theorem execTabSegRead_same {s t : State} (a0 : CmdStep) (h : Same s t) : GoesSame s (execTabSegRead a0 t) := goesSame_next (mailboxCommand_same _ _ tabSegRead_same h)

theorem segEvent_same {s t : State} (a0 : Nat) (h : Same s t) : Same s (segEvent t a0) := by
  unfold segEvent
  repeat' with_reducible (first | intro _ | assumption | apply post_same | fail_if_no_progress apply same_rec | apply same_ite | dsimp only | split)

theorem segEvents_same {s t : State} (h : Same s t) : Same s (segEvents t) := by
  unfold segEvents
  repeat' with_reducible (first | intro _ | assumption | apply segEvent_same | fail_if_no_progress apply same_rec | apply same_ite | apply same_foldl | apply same_foldl_fst | apply same_foldl_snd | dsimp only | split)

theorem tabDigest_same  : SpecSame (tabDigest ) := by
  constructor <;> (unfold tabDigest; repeat' with_reducible (first | intro _ | assumption | apply SpecSame.mk | apply same_ite | refine same_fst (by assumption) ?_ | refine same_snd (by assumption) ?_ | refine same_trd (by assumption) ?_ | dsimp only | split))

theorem execTabDigest_same {s t : State} (a0 : CmdStep) (h : Same s t) : GoesSame s (execTabDigest a0 t) := goesSame_next (mailboxCommand_same _ _ tabDigest_same h)

theorem noteEffect_same {s t : State} (a0 : TabChange) (a1 : U32) (h : Same s t) : Same s (noteEffect a0 a1 t) := by
  unfold noteEffect
  repeat' with_reducible (first | intro _ | assumption | fail_if_no_progress apply same_rec | apply same_ite | refine same_fst (by assumption) ?_ | refine same_snd (by assumption) ?_ | refine same_trd (by assumption) ?_ | dsimp only | split)

theorem applyChange_same {s t : State} (a0 : TabChange) (a1 : U32) (h : Same s t) : Same s (applyChange a0 a1 t) := by
  unfold applyChange
  repeat' with_reducible (first | intro _ | assumption | apply freeTask_same | apply completeWith_same | apply noteEffect_same | fail_if_no_progress apply same_rec | apply same_ite | apply same_foldl | apply same_foldl_fst | apply same_foldl_snd | refine same_fst (by assumption) ?_ | refine same_snd (by assumption) ?_ | refine same_trd (by assumption) ?_ | dsimp only | split)

theorem holdChange_same {s t : State} (a0 : TabChange) (h : Same s t) : Same s (holdChange a0 t) := by
  unfold holdChange
  repeat' with_reducible (first | intro _ | assumption | apply freeTask_same | apply completeWith_same | fail_if_no_progress apply same_rec | apply same_ite | dsimp only | split)

theorem applyChanges_same {s t : State} (a0 : U32) (a1 : List TabChange) (a2 : List (Nat × Bool)) (h : Same s t) : Same s (applyChanges a0 a1 a2 t).1 := by
  induction a1 generalizing t a2 with
  | nil => exact h
  | cons e l ih =>
    unfold applyChanges
    repeat' with_reducible (first | with_reducible apply ih | intro _ | assumption | apply applyChange_same | apply holdChange_same | fail_if_no_progress apply same_rec | apply same_ite | apply same_foldl | apply same_foldl_fst | apply same_foldl_snd | apply same_elim | dsimp only | split)

theorem tablesAtBoundary_same {s t : State} (h : Same s t) : Same s (tablesAtBoundary t) := by
  unfold tablesAtBoundary
  repeat' with_reducible (first | intro _ | assumption | apply applyChanges_same | fail_if_no_progress apply same_rec | apply same_ite | refine same_fst (by assumption) ?_ | refine same_snd (by assumption) ?_ | refine same_trd (by assumption) ?_ | dsimp only | split)

theorem execTablePersistVerified_same {s t : State} (a0 : U32) (h : Same s t) : GoesSame s (execTablePersistVerified a0 t) := by
  unfold execTablePersistVerified
  repeat' with_reducible (first | intro _ | assumption | apply goesSame_next | apply retire_same | fail_if_no_progress apply same_rec | apply same_ite | refine same_fst (by assumption) ?_ | refine same_snd (by assumption) ?_ | refine same_trd (by assumption) ?_ | dsimp only | split)

theorem closeLoad_same {s t : State} (a0 : Nat) (h : Same s t) : Same s (closeLoad a0 t) := by
  unfold closeLoad
  repeat' with_reducible (first | intro _ | assumption | fail_if_no_progress apply same_rec | apply same_ite | dsimp only | split)

theorem effectNow_same {s t : State} (a0 : Nat) (a1 : Cmd) (h : Same s t) : Same s (effectNow a0 a1 t).1 := by
  unfold effectNow
  repeat' with_reducible (first | intro _ | assumption | apply same_ite | refine same_fst (by assumption) ?_ | refine same_snd (by assumption) ?_ | refine same_trd (by assumption) ?_ | dsimp only | split)

theorem tabGroundBegin_same  : SpecSame (tabGroundBegin ) := by
  constructor <;> (unfold tabGroundBegin; repeat' with_reducible (first | intro _ | assumption | apply SpecSame.mk | apply effectNow_same | fail_if_no_progress apply same_rec | apply same_ite | refine same_fst (by assumption) ?_ | refine same_snd (by assumption) ?_ | refine same_trd (by assumption) ?_ | dsimp only | split))

theorem execTabGroundBegin_same {s t : State} (a0 : CmdStep) (h : Same s t) : GoesSame s (execTabGroundBegin a0 t) := goesSame_next (mailboxCommand_same _ _ tabGroundBegin_same h)

theorem tabGroundData_same  : SpecSame (tabGroundData ) := by
  constructor <;> (unfold tabGroundData; repeat' with_reducible (first | intro _ | assumption | apply SpecSame.mk | apply effectNow_same | fail_if_no_progress apply same_rec | apply same_ite | refine same_fst (by assumption) ?_ | refine same_snd (by assumption) ?_ | refine same_trd (by assumption) ?_ | dsimp only | split))

theorem execTabGroundData_same {s t : State} (a0 : CmdStep) (h : Same s t) : GoesSame s (execTabGroundData a0 t) := goesSame_next (mailboxCommand_same _ _ tabGroundData_same h)

theorem tabGroundCommit_same  : SpecSame (tabGroundCommit ) := by
  constructor <;> (unfold tabGroundCommit; repeat' with_reducible (first | intro _ | assumption | apply SpecSame.mk | apply closeLoad_same | fail_if_no_progress apply same_rec | apply same_ite | refine same_fst (by assumption) ?_ | refine same_snd (by assumption) ?_ | refine same_trd (by assumption) ?_ | dsimp only | split))

theorem execTabGroundCommit_same {s t : State} (a0 : CmdStep) (h : Same s t) : GoesSame s (execTabGroundCommit a0 t) := goesSame_next (mailboxCommand_same _ _ tabGroundCommit_same h)

theorem execGroundCommitVerified_same {s t : State} (a0 : Nat) (a1 : Bool) (h : Same s t) : GoesSame s (execGroundCommitVerified a0 a1 t) := by
  unfold execGroundCommitVerified
  repeat' with_reducible (first | intro _ | assumption | apply goesSame_next | apply freeTask_same | apply completeWith_same | fail_if_no_progress apply same_rec | apply same_ite | dsimp only | split)

theorem tabGroundAbort_same  : SpecSame (tabGroundAbort ) := by
  constructor <;> (unfold tabGroundAbort; repeat' with_reducible (first | intro _ | assumption | apply SpecSame.mk | apply closeLoad_same | apply effectNow_same | apply same_ite | refine same_fst (by assumption) ?_ | refine same_snd (by assumption) ?_ | refine same_trd (by assumption) ?_ | dsimp only | split))

theorem execTabGroundAbort_same {s t : State} (a0 : CmdStep) (h : Same s t) : GoesSame s (execTabGroundAbort a0 t) := goesSame_next (mailboxCommand_same _ _ tabGroundAbort_same h)

theorem tabGroundRead_same  : SpecSame (tabGroundRead ) := by
  constructor <;> (unfold tabGroundRead; repeat' with_reducible (first | intro _ | assumption | apply SpecSame.mk | fail_if_no_progress apply same_rec | apply same_ite | refine same_fst (by assumption) ?_ | refine same_snd (by assumption) ?_ | refine same_trd (by assumption) ?_ | dsimp only | split))

theorem execTabGroundRead_same {s t : State} (a0 : CmdStep) (h : Same s t) : GoesSame s (execTabGroundRead a0 t) := goesSame_next (mailboxCommand_same _ _ tabGroundRead_same h)

theorem tabGroundStatus_same  : SpecSame (tabGroundStatus ) := by
  constructor <;> (unfold tabGroundStatus; repeat' with_reducible (first | intro _ | assumption | apply SpecSame.mk | apply same_ite | refine same_fst (by assumption) ?_ | refine same_snd (by assumption) ?_ | refine same_trd (by assumption) ?_ | dsimp only | split))

theorem execTabGroundStatus_same {s t : State} (a0 : CmdStep) (h : Same s t) : GoesSame s (execTabGroundStatus a0 t) := goesSame_next (mailboxCommand_same _ _ tabGroundStatus_same h)

theorem tabGroundDelete_same  : SpecSame (tabGroundDelete ) := by
  constructor <;> (unfold tabGroundDelete; repeat' with_reducible (first | intro _ | assumption | apply SpecSame.mk | fail_if_no_progress apply same_rec | apply same_ite | refine same_fst (by assumption) ?_ | refine same_snd (by assumption) ?_ | refine same_trd (by assumption) ?_ | dsimp only | split))

theorem execTabGroundDelete_same {s t : State} (a0 : CmdStep) (h : Same s t) : GoesSame s (execTabGroundDelete a0 t) := goesSame_next (mailboxCommand_same _ _ tabGroundDelete_same h)

theorem execTabGroundDiscard_same {s t : State} (a0 : Nat) (h : Same s t) : GoesSame s (execTabGroundDiscard a0 t) := by
  unfold execTabGroundDiscard
  repeat' with_reducible (first | intro _ | assumption | apply goesSame_next | apply post_same | apply closeLoad_same | apply same_ite | dsimp only | split)

theorem groundAtBoundary_same {s t : State} (h : Same s t) : Same s (groundAtBoundary t) := by
  unfold groundAtBoundary
  repeat' with_reducible (first | intro _ | assumption | fail_if_no_progress apply same_rec | apply same_ite | apply same_foldl | apply same_foldl_fst | apply same_foldl_snd | refine same_fst (by assumption) ?_ | refine same_snd (by assumption) ?_ | refine same_trd (by assumption) ?_ | dsimp only | split)

theorem dropMatching_same {s t : State} (a0 : Nat) (h : Same s t) : Same s (dropMatching a0 t) := by
  unfold dropMatching
  repeat' with_reducible (first | intro _ | assumption | fail_if_no_progress apply same_rec | apply same_ite | dsimp only | split)

theorem execGroundReloadDone_same {s t : State} (a0 : Nat) (a1 : Bool) (h : Same s t) : GoesSame s (execGroundReloadDone a0 a1 t) := by
  unfold execGroundReloadDone
  repeat' with_reducible (first | intro _ | assumption | apply goesSame_next | apply dropMatching_same | fail_if_no_progress apply same_rec | apply same_ite | dsimp only | split)

theorem applyOffset_same {s t : State} (h : Same s t) : Same s (applyOffset t) := by
  unfold applyOffset
  repeat' with_reducible (first | intro _ | assumption | fail_if_no_progress apply same_rec | apply same_ite | dsimp only | split)

end Sys2Proof.Machine
end

