-- ==== Sys2Proof/Laws/SameLight.lean ====
section
/-! SUPPORT. Schedules, presence, the solver, fades and the chain: what each operation and command leaves of the queue and the memory. -/

set_option linter.all false

namespace Sys2Proof.Machine

theorem buildPlans_same {s t : State} (h : Same s t) : Same s (buildPlans t) := by
  unfold buildPlans
  repeat' with_reducible (first | intro _ | assumption | fail_if_no_progress apply same_rec | apply same_ite | dsimp only | split)

theorem execDayPlanBuild_same {s t : State} (h : Same s t) : GoesSame s (execDayPlanBuild t) := by
  unfold execDayPlanBuild
  repeat' with_reducible (first | intro _ | assumption | apply goesSame_next | apply buildPlans_same | apply same_ite | dsimp only | split)

theorem scheduleOne_same {s t : State} (a0 : DayPlan) (a1 : Nat × Bytes) (h : Same s t) : Same s (scheduleOne a0 t a1) := by
  unfold scheduleOne
  repeat' with_reducible (first | intro _ | assumption | apply postIf_same | fail_if_no_progress apply same_rec | apply same_ite | refine same_fst (by assumption) ?_ | refine same_snd (by assumption) ?_ | refine same_trd (by assumption) ?_ | dsimp only | split)

theorem endBeforeFade_same {s t : State} (a0 : TaskKind) (h : Same s t) : Same s (endBeforeFade a0 t) := by
  unfold endBeforeFade
  repeat' with_reducible (first | intro _ | assumption | apply endTask_same | apply same_ite | dsimp only | split)

theorem execScheduleEvaluation_same {s t : State} (a0 : Nat) (h : Same s t) : GoesSame s (execScheduleEvaluation a0 t) := by
  unfold execScheduleEvaluation
  repeat' with_reducible (first | intro _ | assumption | apply goesSame_next | apply endBeforeFade_same | apply scheduleOne_same | fail_if_no_progress apply same_rec | apply same_ite | apply same_foldl | apply same_foldl_fst | apply same_foldl_snd | dsimp only | split)

theorem scheduleSample_same {s t : State} (h : Same s t) : Same s (scheduleSample t) := by
  unfold scheduleSample
  repeat' with_reducible (first | intro _ | assumption | apply postIf_same | fail_if_no_progress apply same_rec | apply same_ite | dsimp only | split)

theorem execLocalOffsetTransition_same {s t : State} (h : Same s t) : GoesSame s (execLocalOffsetTransition t) := by
  unfold execLocalOffsetTransition
  repeat' with_reducible (first | intro _ | assumption | apply goesSame_next | apply applyOffset_same | apply same_ite | dsimp only | split)

theorem execTzExpired_same {s t : State} (h : Same s t) : GoesSame s (execTzExpired t) := by
  unfold execTzExpired
  repeat' with_reducible (first | intro _ | assumption | apply goesSame_next | apply post_same | fail_if_no_progress apply same_rec | apply same_ite | dsimp only | split)

theorem execPhotocellSettled_same {s t : State} (a0 : Bool) (h : Same s t) : GoesSame s (execPhotocellSettled a0 t) := by
  unfold execPhotocellSettled
  repeat' with_reducible (first | intro _ | assumption | apply goesSame_next | fail_if_no_progress apply same_rec | apply same_ite | dsimp only | split)

theorem litWrite_same (a0 : Nat) (a1 : Nat) (a2 : Bytes → Chk) (a3 : Bytes → Nat) (a4 : Bytes → Bytes) : SpecSame (litWrite a0 a1 a2 a3 a4) := by
  constructor <;> (unfold litWrite; repeat' with_reducible (first | intro _ | assumption | apply SpecSame.mk | apply settingAccepted_same | apply writeSetting_same | apply same_ite | dsimp only | split))

theorem litProfileWrite_same  : SpecSame (litProfileWrite ) := by
  unfold litProfileWrite
  repeat' with_reducible (first | intro _ | assumption | apply litWrite_same | dsimp only)

theorem execLitProfileWrite_same {s t : State} (a0 : CmdStep) (h : Same s t) : GoesSame s (execLitProfileWrite a0 t) := goesSame_next (mailboxCommand_same _ _ litProfileWrite_same h)

theorem litProfileRead_same  : SpecSame (litProfileRead ) := by
  constructor <;> (unfold litProfileRead; repeat' with_reducible (first | intro _ | assumption | apply SpecSame.mk | apply same_ite | refine same_fst (by assumption) ?_ | refine same_snd (by assumption) ?_ | refine same_trd (by assumption) ?_ | dsimp only | split))

theorem execLitProfileRead_same {s t : State} (a0 : CmdStep) (h : Same s t) : GoesSame s (execLitProfileRead a0 t) := goesSame_next (mailboxCommand_same _ _ litProfileRead_same h)

theorem litExcWrite_same  : SpecSame (litExcWrite ) := by
  unfold litExcWrite
  repeat' with_reducible (first | intro _ | assumption | apply litWrite_same | dsimp only)

theorem execLitExcWrite_same {s t : State} (a0 : CmdStep) (h : Same s t) : GoesSame s (execLitExcWrite a0 t) := goesSame_next (mailboxCommand_same _ _ litExcWrite_same h)

theorem litExcRead_same  : SpecSame (litExcRead ) := by
  constructor <;> (unfold litExcRead; repeat' with_reducible (first | intro _ | assumption | apply SpecSame.mk | apply same_ite | refine same_fst (by assumption) ?_ | refine same_snd (by assumption) ?_ | refine same_trd (by assumption) ?_ | dsimp only | split))

theorem execLitExcRead_same {s t : State} (a0 : CmdStep) (h : Same s t) : GoesSame s (execLitExcRead a0 t) := goesSame_next (mailboxCommand_same _ _ litExcRead_same h)

theorem litZoneWrite_same  : SpecSame (litZoneWrite ) := by
  unfold litZoneWrite
  repeat' with_reducible (first | intro _ | assumption | apply litWrite_same | dsimp only)

theorem execLitZoneWrite_same {s t : State} (a0 : CmdStep) (h : Same s t) : GoesSame s (execLitZoneWrite a0 t) := goesSame_next (mailboxCommand_same _ _ litZoneWrite_same h)

theorem litZoneRead_same  : SpecSame (litZoneRead ) := by
  constructor <;> (unfold litZoneRead; repeat' with_reducible (first | intro _ | assumption | apply SpecSame.mk | apply same_ite | refine same_fst (by assumption) ?_ | refine same_snd (by assumption) ?_ | refine same_trd (by assumption) ?_ | dsimp only | split))

theorem execLitZoneRead_same {s t : State} (a0 : CmdStep) (h : Same s t) : GoesSame s (execLitZoneRead a0 t) := goesSame_next (mailboxCommand_same _ _ litZoneRead_same h)

theorem litSiteSet_same  : SpecSame (litSiteSet ) := by
  unfold litSiteSet
  repeat' with_reducible (first | intro _ | assumption | apply litWrite_same | dsimp only)

theorem execLitSiteSet_same {s t : State} (a0 : CmdStep) (h : Same s t) : GoesSame s (execLitSiteSet a0 t) := goesSame_next (mailboxCommand_same _ _ litSiteSet_same h)

theorem litTzSet_same  : SpecSame (litTzSet ) := by
  unfold litTzSet
  repeat' with_reducible (first | intro _ | assumption | apply litWrite_same | apply same_ite | dsimp only | split)

theorem execLitTzSet_same {s t : State} (a0 : CmdStep) (h : Same s t) : GoesSame s (execLitTzSet a0 t) := goesSame_next (mailboxCommand_same _ _ litTzSet_same h)

theorem litTimeRead_same  : SpecSame (litTimeRead ) := by
  constructor <;> (unfold litTimeRead; repeat' with_reducible (first | intro _ | assumption | apply SpecSame.mk | apply same_ite | refine same_fst (by assumption) ?_ | refine same_snd (by assumption) ?_ | refine same_trd (by assumption) ?_ | dsimp only | split))

theorem execLitTimeRead_same {s t : State} (a0 : CmdStep) (h : Same s t) : GoesSame s (execLitTimeRead a0 t) := goesSame_next (mailboxCommand_same _ _ litTimeRead_same h)

theorem litSunRead_same  : SpecSame (litSunRead ) := by
  constructor <;> (unfold litSunRead; repeat' with_reducible (first | intro _ | assumption | apply SpecSame.mk | apply same_ite | refine same_fst (by assumption) ?_ | refine same_snd (by assumption) ?_ | refine same_trd (by assumption) ?_ | dsimp only | split))

theorem execLitSunRead_same {s t : State} (a0 : CmdStep) (h : Same s t) : GoesSame s (execLitSunRead a0 t) := goesSame_next (mailboxCommand_same _ _ litSunRead_same h)

theorem litSchedEval_same  : SpecSame (litSchedEval ) := by
  constructor <;> (unfold litSchedEval; repeat' with_reducible (first | intro _ | assumption | apply SpecSame.mk | apply same_ite | refine same_fst (by assumption) ?_ | refine same_snd (by assumption) ?_ | refine same_trd (by assumption) ?_ | dsimp only | split))

theorem execLitSchedEval_same {s t : State} (a0 : CmdStep) (h : Same s t) : GoesSame s (execLitSchedEval a0 t) := goesSame_next (mailboxCommand_same _ _ litSchedEval_same h)

theorem scheduleRules_same {s t : State} (a0 : Nat) (a1 : Nat) (h : Same s t) : Same s (scheduleRules a0 a1 t) := by
  unfold scheduleRules
  repeat' with_reducible (first | intro _ | assumption | apply post_same | apply buildPlans_same | apply applyOffset_same | fail_if_no_progress apply same_rec | apply same_ite | dsimp only | split)

theorem onLace_same {s t : State} (a0 : Lace → Lace) (h : Same s t) : Same s (onLace a0 t) := by
  unfold onLace
  repeat' with_reducible (first | intro _ | assumption | fail_if_no_progress apply same_rec | apply same_ite | dsimp only | split)

theorem joinReport_same {s t : State} (a0 : Nat) (a1 : Nat) (a2 : Nat) (a3 : Nat) (h : Same s t) : Same s (joinReport a0 a1 a2 a3 t) := by
  unfold joinReport
  repeat' with_reducible (first | intro _ | assumption | apply onLace_same | fail_if_no_progress apply same_rec | apply same_ite | refine same_fst (by assumption) ?_ | refine same_snd (by assumption) ?_ | refine same_trd (by assumption) ?_ | dsimp only | split)

theorem radioReport_same {s t : State} (a0 : Nat) (a1 : Nat) (a2 : Nat) (a3 : Nat) (h : Same s t) : Same s (radioReport a0 a1 a2 a3 t) := by
  unfold radioReport
  repeat' with_reducible (first | intro _ | assumption | apply joinReport_same | apply onLace_same | fail_if_no_progress apply same_rec | apply same_ite | dsimp only | split)

theorem closePresence_same {s t : State} (h : Same s t) : Same s (closePresence t) := by
  unfold closePresence
  repeat' with_reducible (first | intro _ | assumption | fail_if_no_progress apply same_rec | apply same_ite | refine same_fst (by assumption) ?_ | refine same_snd (by assumption) ?_ | refine same_trd (by assumption) ?_ | dsimp only | split)

theorem doWalk_same {s t : State} (a0 : Nat) (a1 : Nat) (a2 : Nat) (a3 : Nat) (h : Same s t) : Same s (doWalk a0 a1 a2 a3 t) := by
  unfold doWalk
  repeat' with_reducible (first | intro _ | assumption | apply onLace_same | fail_if_no_progress apply same_rec | apply same_ite | apply same_foldl | apply same_foldl_fst | apply same_foldl_snd | refine same_fst (by assumption) ?_ | refine same_snd (by assumption) ?_ | refine same_trd (by assumption) ?_ | dsimp only | split)

theorem walkSource_same {s t : State} (a0 : Nat × Presence) (h : Same s t) : Same s (walkSource t a0) := by
  unfold walkSource
  repeat' with_reducible (first | intro _ | assumption | apply onLace_same | apply doWalk_same | fail_if_no_progress apply same_rec | apply same_ite | refine same_fst (by assumption) ?_ | refine same_snd (by assumption) ?_ | refine same_trd (by assumption) ?_ | dsimp only | split)

theorem clearMarks_same {s t : State} (h : Same s t) : Same s (clearMarks t) := by
  unfold clearMarks
  repeat' with_reducible (first | intro _ | assumption | apply onLace_same | fail_if_no_progress apply same_rec | apply same_ite | dsimp only | split)

theorem litSpeedWrite_same  : SpecSame (litSpeedWrite ) := by
  unfold litSpeedWrite
  repeat' with_reducible (first | intro _ | assumption | apply litWrite_same | apply same_ite | dsimp only | split)

theorem execLitSpeedWrite_same {s t : State} (a0 : CmdStep) (h : Same s t) : GoesSame s (execLitSpeedWrite a0 t) := goesSame_next (mailboxCommand_same _ _ litSpeedWrite_same h)

theorem sectionRead_same (a0 : Nat) (a1 : Needs) (a2 : Nat) : SpecSame (sectionRead a0 a1 a2) := by
  constructor <;> (unfold sectionRead; repeat' with_reducible (first | intro _ | assumption | apply SpecSame.mk | apply same_ite | refine same_fst (by assumption) ?_ | refine same_snd (by assumption) ?_ | refine same_trd (by assumption) ?_ | dsimp only | split))

theorem execLitSpeedRead_same {s t : State} (a0 : CmdStep) (h : Same s t) : GoesSame s (execLitSpeedRead a0 t) := by
  unfold execLitSpeedRead
  repeat' with_reducible (first | intro _ | assumption | apply sectionRead_same | apply goesSame_next | apply mailboxCommand_same | dsimp only)

theorem litPresenceReport_same  : SpecSame (litPresenceReport ) := by
  constructor <;> (unfold litPresenceReport; repeat' with_reducible (first | intro _ | assumption | apply SpecSame.mk | apply same_ite | refine same_fst (by assumption) ?_ | refine same_snd (by assumption) ?_ | refine same_trd (by assumption) ?_ | dsimp only | split))

theorem execLitPresenceReport_same {s t : State} (a0 : CmdStep) (h : Same s t) : GoesSame s (execLitPresenceReport a0 t) := goesSame_next (mailboxCommand_same _ _ litPresenceReport_same h)

theorem presenceCommitted_same {s t : State} (a0 : Bytes) (h : Same s t) : Same s (presenceCommitted a0 t) := by
  unfold presenceCommitted
  repeat' with_reducible (first | intro _ | assumption | apply joinReport_same | apply same_ite | apply same_foldl | apply same_foldl_fst | apply same_foldl_snd | refine same_fst (by assumption) ?_ | refine same_snd (by assumption) ?_ | refine same_trd (by assumption) ?_ | dsimp only | split)

theorem litMarkRead_same  : SpecSame (litMarkRead ) := by
  constructor <;> (unfold litMarkRead; repeat' with_reducible (first | intro _ | assumption | apply SpecSame.mk | apply same_ite | refine same_fst (by assumption) ?_ | refine same_snd (by assumption) ?_ | refine same_trd (by assumption) ?_ | dsimp only | split))

theorem execLitMarkRead_same {s t : State} (a0 : CmdStep) (h : Same s t) : GoesSame s (execLitMarkRead a0 t) := goesSame_next (mailboxCommand_same _ _ litMarkRead_same h)

theorem shortfallEvent_same {s t : State} (a0 : Nat) (a1 : Bool) (a2 : Bool) (a3 : Nat) (a4 : Nat) (h : Same s t) : Same s (shortfallEvent a0 a1 a2 a3 a4 t) := by
  unfold shortfallEvent
  repeat' with_reducible (first | intro _ | assumption | apply postIf_same | apply same_ite | dsimp only | split)

theorem setDarnBits_same {s t : State} (a0 : List (Nat × Bool)) (h : Same s t) : Same s (setDarnBits a0 t) := by
  unfold setDarnBits
  repeat' with_reducible (first | intro _ | assumption | fail_if_no_progress apply same_rec | apply same_ite | apply same_foldl | apply same_foldl_fst | apply same_foldl_snd | dsimp only | split)

theorem darkSegment_same {s t : State} (a0 : Nat) (h : Same s t) : Same s (darkSegment a0 t) := by
  unfold darkSegment
  repeat' with_reducible (first | intro _ | assumption | apply setDarnBits_same | apply shortfallEvent_same | apply onLace_same | fail_if_no_progress apply same_rec | apply same_ite | refine same_fst (by assumption) ?_ | refine same_snd (by assumption) ?_ | refine same_trd (by assumption) ?_ | dsimp only | split)

theorem solveSegment_same {s t : State} (a0 : Nat) (a1 : Ground) (h : Same s t) : Same s (solveSegment a0 a1 t) := by
  unfold solveSegment
  repeat' with_reducible (first | intro _ | assumption | apply shortfallEvent_same | apply onLace_same | fail_if_no_progress apply same_rec | apply same_ite | refine same_fst (by assumption) ?_ | refine same_snd (by assumption) ?_ | refine same_trd (by assumption) ?_ | dsimp only | split)

theorem streamSeg_same {s t : State} (a0 : Nat) (h : Same s t) : Same s (streamSeg t a0) := by
  unfold streamSeg
  repeat' with_reducible (first | intro _ | assumption | apply streamPulse_same | apply onLace_same | fail_if_no_progress apply same_rec | apply same_ite | refine same_fst (by assumption) ?_ | refine same_snd (by assumption) ?_ | refine same_trd (by assumption) ?_ | dsimp only | split)

theorem stream_same {s t : State} (h : Same s t) : Same s (stream t) := by
  unfold stream
  repeat' with_reducible (first | intro _ | assumption | apply streamSeg_same | apply same_ite | apply same_foldl | apply same_foldl_fst | apply same_foldl_snd | dsimp only | split)

theorem freeHalf_same {s t : State} (a0 : Nat) (h : Same s t) : Same s (freeHalf a0 t) := by
  unfold freeHalf
  repeat' with_reducible (first | intro _ | assumption | apply onLace_same | fail_if_no_progress apply same_rec | apply same_ite | refine same_fst (by assumption) ?_ | refine same_snd (by assumption) ?_ | refine same_trd (by assumption) ?_ | dsimp only | split)

theorem startStreams_same {s t : State} (h : Same s t) : Same s (startStreams t) := by
  unfold startStreams
  repeat' with_reducible (first | intro _ | assumption | apply onLace_same | apply stream_same | apply darkSegment_same | fail_if_no_progress apply same_rec | apply same_ite | apply same_foldl | apply same_foldl_fst | apply same_foldl_snd | refine same_fst (by assumption) ?_ | refine same_snd (by assumption) ?_ | refine same_trd (by assumption) ?_ | dsimp only | split)

theorem execPresenceWalk_same {s t : State} (h : Same s t) : GoesSame s (execPresenceWalk t) := by
  unfold execPresenceWalk
  repeat' with_reducible (first | intro _ | assumption | apply goesSame_next | apply walkSource_same | apply freeTask_same | apply endBeforeFade_same | apply startStreams_same | apply same_ite | apply same_foldl | apply same_foldl_fst | apply same_foldl_snd | dsimp only | split)

theorem execWalkLate_same {s t : State} (h : Same s t) : GoesSame s (execWalkLate t) := by
  unfold execWalkLate
  repeat' with_reducible (first | intro _ | assumption | apply goesSame_next | apply startStreams_same | apply onLace_same | apply postTask_same | fail_if_no_progress apply same_rec | apply same_ite | dsimp only | split)

theorem execSolveAndRepair_same {s t : State} (a0 : Nat) (h : Same s t) : GoesSame s (execSolveAndRepair a0 t) := by
  unfold execSolveAndRepair
  repeat' with_reducible (first | intro _ | assumption | apply goesSame_next | apply darkSegment_same | apply solveSegment_same | apply stream_same | apply freeHalf_same | apply postFrom_same | fail_if_no_progress apply same_rec | apply same_ite | dsimp only | split)

theorem writeLevels_same {s t : State} (a0 : Nat) (h : Same s t) : Same s (writeLevels a0 t) := by
  unfold writeLevels
  repeat' with_reducible (first | intro _ | assumption | apply onLace_same | apply throughSkein_same | fail_if_no_progress apply same_rec | apply same_ite | dsimp only | split)

theorem execDarning_same {s t : State} (a0 : Nat) (h : Same s t) : GoesSame s (execDarning a0 t) := by
  unfold execDarning
  repeat' with_reducible (first | intro _ | assumption | apply goesSame_next | apply writeLevels_same | apply endBeforeFade_same | apply onLace_same | apply setDarnBits_same | fail_if_no_progress apply same_rec | apply same_ite | apply same_foldl | apply same_foldl_fst | apply same_foldl_snd | refine same_fst (by assumption) ?_ | refine same_snd (by assumption) ?_ | refine same_trd (by assumption) ?_ | dsimp only | split)

theorem coldStart_same {s t : State} (a0 : Nat) (a1 : Nat) (h : Same s t) : Same s (coldStart a0 a1 t) := by
  unfold coldStart
  repeat' with_reducible (first | intro _ | assumption | apply post_same | apply onLace_same | fail_if_no_progress apply same_rec | apply same_ite | refine same_fst (by assumption) ?_ | refine same_snd (by assumption) ?_ | refine same_trd (by assumption) ?_ | dsimp only | split)

theorem setSeg_same {s t : State} (a0 : Nat) (a1 : SegState → SegState) (h : Same s t) : Same s (setSeg a0 a1 t) := by
  unfold setSeg
  repeat' with_reducible (first | intro _ | assumption | apply onLace_same | fail_if_no_progress apply same_rec | apply same_ite | dsimp only | split)

theorem assignSeg_same {s t : State} (a0 : Option Nat) (a1 : Nat) (a2 : Nat) (h : Same s t) : Same s (assignSeg a0 a1 a2 t) := by
  unfold assignSeg
  repeat' with_reducible (first | intro _ | assumption | apply coldStart_same | apply setSeg_same | fail_if_no_progress apply same_rec | apply same_ite | dsimp only | split)

theorem segBoundary_same {s : State} {t : State × Nat} (a1 : Nat) (h : Same s t.1) : Same s (segBoundary t a1).1 := by
  unfold segBoundary
  repeat' with_reducible (first | intro _ | assumption | apply shortfallEvent_same | apply setSeg_same | apply assignSeg_same | apply coldStart_same | fail_if_no_progress apply same_rec | apply same_ite | refine same_fst (by assumption) ?_ | refine same_snd (by assumption) ?_ | refine same_trd (by assumption) ?_ | dsimp only | split)

theorem moveSegs_same {s t : State} (h : Same s t) : Same s (moveSegs t) := by
  unfold moveSegs
  repeat' with_reducible (first | intro _ | assumption | apply onLace_same | apply assignSeg_same | apply setSeg_same | fail_if_no_progress apply same_rec | apply same_ite | apply same_foldl | apply same_foldl_fst | apply same_foldl_snd | dsimp only | split)

theorem laceStitchEnd_same {s t : State} (a0 : List Nat) (h : Same s t) : Same s (laceStitchEnd a0 t) := by
  unfold laceStitchEnd
  repeat' with_reducible (first | intro _ | assumption | apply fray_same | apply onLace_same | fail_if_no_progress apply same_rec | apply same_ite | apply same_foldl | apply same_foldl_fst | apply same_foldl_snd | refine same_fst (by assumption) ?_ | refine same_snd (by assumption) ?_ | refine same_trd (by assumption) ?_ | dsimp only | split)

theorem laceBoundary_same {s t : State} (h : Same s t) : Same s (laceBoundary t) := by
  unfold laceBoundary
  repeat' with_reducible (first | intro _ | assumption | apply segEvents_same | apply moveSegs_same | apply shortfallEvent_same | apply onLace_same | apply segBoundary_same | fail_if_no_progress apply same_rec | apply same_ite | apply same_foldl | apply same_foldl_fst | apply same_foldl_snd | refine same_fst (by assumption) ?_ | refine same_snd (by assumption) ?_ | refine same_trd (by assumption) ?_ | dsimp only | split)

theorem execLaceFault_same {s t : State} (a0 : Nat) (a1 : Nat) (h : Same s t) : GoesSame s (execLaceFault a0 a1 t) := by
  unfold execLaceFault
  repeat' with_reducible (first | intro _ | assumption | apply goesSame_next | apply post_same | apply onLace_same | fail_if_no_progress apply same_rec | apply same_ite | refine same_fst (by assumption) ?_ | refine same_snd (by assumption) ?_ | refine same_trd (by assumption) ?_ | dsimp only | split)

theorem execLaceClearStats_same {s t : State} (h : Same s t) : GoesSame s (execLaceClearStats t) := by
  unfold execLaceClearStats
  repeat' with_reducible (first | intro _ | assumption | apply goesSame_next | apply onLace_same | fail_if_no_progress apply same_rec | apply same_ite | dsimp only | split)

theorem litClassWrite_same  : SpecSame (litClassWrite ) := by
  unfold litClassWrite
  repeat' with_reducible (first | intro _ | assumption | apply litWrite_same | dsimp only)

theorem execLitClassWrite_same {s t : State} (a0 : CmdStep) (h : Same s t) : GoesSame s (execLitClassWrite a0 t) := goesSame_next (mailboxCommand_same _ _ litClassWrite_same h)

theorem execLitClassRead_same {s t : State} (a0 : CmdStep) (h : Same s t) : GoesSame s (execLitClassRead a0 t) := by
  unfold execLitClassRead
  repeat' with_reducible (first | intro _ | assumption | apply sectionRead_same | apply goesSame_next | apply mailboxCommand_same | dsimp only)

theorem litSolverSet_same  : SpecSame (litSolverSet ) := by
  unfold litSolverSet
  repeat' with_reducible (first | intro _ | assumption | apply litWrite_same | dsimp only)

theorem execLitSolverSet_same {s t : State} (a0 : CmdStep) (h : Same s t) : GoesSame s (execLitSolverSet a0 t) := goesSame_next (mailboxCommand_same _ _ litSolverSet_same h)

theorem execLitSolverRead_same {s t : State} (a0 : CmdStep) (h : Same s t) : GoesSame s (execLitSolverRead a0 t) := by
  unfold execLitSolverRead
  repeat' with_reducible (first | intro _ | assumption | apply sectionRead_same | apply goesSame_next | apply mailboxCommand_same | dsimp only)

theorem litSolveRead_same  : SpecSame (litSolveRead ) := by
  constructor <;> (unfold litSolveRead; repeat' with_reducible (first | intro _ | assumption | apply SpecSame.mk | apply same_ite | refine same_fst (by assumption) ?_ | refine same_snd (by assumption) ?_ | refine same_trd (by assumption) ?_ | dsimp only | split))

theorem execLitSolveRead_same {s t : State} (a0 : CmdStep) (h : Same s t) : GoesSame s (execLitSolveRead a0 t) := goesSame_next (mailboxCommand_same _ _ litSolveRead_same h)

theorem onFade_same {s t : State} (a0 : FadeUnit → FadeUnit) (h : Same s t) : Same s (onFade a0 t) := by
  unfold onFade
  repeat' with_reducible (first | intro _ | assumption | fail_if_no_progress apply same_rec | apply same_ite | dsimp only | split)

theorem setQueue_same {s t : State} (a0 : Nat) (a1 : List PinCmd) (h : Same s t) : Same s (setQueue a0 a1 t) := by
  unfold setQueue
  repeat' with_reducible (first | intro _ | assumption | apply onFade_same | fail_if_no_progress apply same_rec | apply same_ite | dsimp only | split)

theorem modifyQueue_same {s t : State} (a0 : Nat) (a1 : PinCmd → PinCmd) (h : Same s t) : Same s (modifyQueue a0 a1 t) := by
  unfold modifyQueue
  repeat' with_reducible (first | intro _ | assumption | apply setQueue_same | apply same_ite | dsimp only | split)

theorem onPin_same {s t : State} (a0 : Nat) (a1 : PinState → PinState) (h : Same s t) : Same s (onPin a0 a1 t) := by
  unfold onPin
  repeat' with_reducible (first | intro _ | assumption | fail_if_no_progress apply same_rec | apply same_ite | dsimp only | split)

theorem onAir_same {s t : State} (a0 : Air → Air) (h : Same s t) : Same s (onAir a0 t) := by
  unfold onAir
  repeat' with_reducible (first | intro _ | assumption | fail_if_no_progress apply same_rec | apply same_ite | dsimp only | split)

theorem onRadio_same {s t : State} (a0 : Nat) (a1 : RadioPin → RadioPin) (h : Same s t) : Same s (onRadio a0 a1 t) := by
  unfold onRadio
  repeat' with_reducible (first | intro _ | assumption | apply onAir_same | fail_if_no_progress apply same_rec | apply same_ite | dsimp only | split)

theorem takeDownSeq_same {s t : State} (a0 : Nat) (a1 : Nat) (h : Same s t) : Same s (takeDownSeq a0 a1 t) := by
  unfold takeDownSeq
  repeat' with_reducible (first | intro _ | assumption | apply onRadio_same | fail_if_no_progress apply same_rec | apply same_ite | dsimp only | split)

theorem queuePacket_same {s t : State} (a0 : Nat) (a1 : Bytes) (h : Same s t) : Same s (queuePacket a0 a1 t) := by
  unfold queuePacket
  repeat' with_reducible (first | intro _ | assumption | apply onSkein_same | apply same_ite | dsimp only | split)

theorem unqueuePacket_same {s t : State} (a0 : Nat) (a1 : U32) (h : Same s t) : Same s (unqueuePacket a0 a1 t) := by
  unfold unqueuePacket
  repeat' with_reducible (first | intro _ | assumption | apply onSkein_same | fail_if_no_progress apply same_rec | apply same_ite | dsimp only | split)

theorem moveQueue_same {s t : State} (a0 : Nat) (a1 : Nat) (a2 : Nat) (h : Same s t) : Same s (moveQueue a0 a1 a2 t) := by
  unfold moveQueue
  repeat' with_reducible (first | intro _ | assumption | apply queuePacket_same | apply unqueuePacket_same | fail_if_no_progress apply same_rec | apply same_ite | apply same_foldl | apply same_foldl_fst | apply same_foldl_snd | dsimp only | split)

theorem outcomePacket_same {s t : State} (a0 : Nat) (a1 : Nat) (a2 : Nat) (a3 : U32) (h : Same s t) : Same s (outcomePacket a0 a1 a2 a3 t) := by
  unfold outcomePacket
  repeat' with_reducible (first | intro _ | assumption | apply throughSkein_same | apply same_ite | dsimp only | split)

theorem joinRadio_same {s t : State} (a0 : Nat) (a1 : Nat) (a2 : Bytes) (h : Same s t) : Same s (joinRadio a0 a1 a2 t).2 := by
  unfold joinRadio
  repeat' with_reducible (first | intro _ | assumption | apply joinWork_same | apply takeDownSeq_same | apply setQueue_same | apply same_ite | refine same_fst (by assumption) ?_ | refine same_snd (by assumption) ?_ | refine same_trd (by assumption) ?_ | dsimp only | split)

theorem pinAccepted_same {s t : State} (a0 : Nat) (a1 : U32) (a2 : JEntry) (h : Same s t) : Same s (pinAccepted a0 a1 a2 t) := by
  unfold pinAccepted
  repeat' with_reducible (first | intro _ | assumption | apply modifyQueue_same | apply queuePacket_same | apply onPin_same | fail_if_no_progress apply same_rec | apply same_ite | refine same_fst (by assumption) ?_ | refine same_snd (by assumption) ?_ | refine same_trd (by assumption) ?_ | dsimp only | split)

theorem orderDone_same {s t : State} (a0 : U32) (h : Same s t) : Same s (orderDone a0 t) := by
  unfold orderDone
  repeat' with_reducible (first | intro _ | assumption | apply onFade_same | fail_if_no_progress apply same_rec | apply same_ite | dsimp only | split)

theorem finalOutcome_same {s t : State} (a0 : Nat) (a1 : Nat) (a2 : PinCmd) (h : Same s t) : Same s (finalOutcome a0 a1 a2 t) := by
  unfold finalOutcome
  repeat' with_reducible (first | intro _ | assumption | apply joinRef_same | apply orderDone_same | apply setQueue_same | apply outcomePacket_same | apply unqueuePacket_same | apply onPin_same | fail_if_no_progress apply same_rec | apply same_ite | refine same_fst (by assumption) ?_ | refine same_snd (by assumption) ?_ | refine same_trd (by assumption) ?_ | dsimp only | split)

theorem resetTarget_same {s t : State} (a0 : Nat) (h : Same s t) : Same s (resetTarget a0 t) := by
  unfold resetTarget
  repeat' with_reducible (first | intro _ | assumption | apply onFade_same | fail_if_no_progress apply same_rec | apply same_ite | refine same_fst (by assumption) ?_ | refine same_snd (by assumption) ?_ | refine same_trd (by assumption) ?_ | dsimp only | split)

theorem resetTargets_same {s t : State} (h : Same s t) : Same s (resetTargets t) := by
  unfold resetTargets
  repeat' with_reducible (first | intro _ | assumption | apply resetTarget_same | apply onFade_same | fail_if_no_progress apply same_rec | apply same_ite | apply same_foldl | apply same_foldl_fst | apply same_foldl_snd | dsimp only | split)

theorem waitTarget_same {s t : State} (a0 : Shape) (h : Same s t) : Same s (waitTarget a0 t) := by
  unfold waitTarget
  repeat' with_reducible (first | intro _ | assumption | apply onFade_same | fail_if_no_progress apply same_rec | apply same_ite | refine same_fst (by assumption) ?_ | refine same_snd (by assumption) ?_ | refine same_trd (by assumption) ?_ | dsimp only | split)

theorem startFade_same {s t : State} (a0 : Shape) (a1 : Nat) (h : Same s t) : Same s (startFade a0 a1 t) := by
  unfold startFade
  repeat' with_reducible (first | intro _ | assumption | apply onFade_same | apply onPin_same | fail_if_no_progress apply same_rec | apply same_ite | refine same_fst (by assumption) ?_ | refine same_snd (by assumption) ?_ | refine same_trd (by assumption) ?_ | dsimp only | split)

theorem generate_same {s t : State} (a0 : Shape) (a1 : Nat) (h : Same s t) : Same s (generate a0 a1 t).2 := by
  unfold generate
  repeat' with_reducible (first | intro _ | assumption | apply joinWork_same | apply finalOutcome_same | apply startFade_same | apply onFade_same | apply setQueue_same | apply joinRadio_same | apply throughSkein_same | fail_if_no_progress apply same_rec | apply same_ite | apply same_foldl | apply same_foldl_fst | apply same_foldl_snd | refine same_fst (by assumption) ?_ | refine same_snd (by assumption) ?_ | refine same_trd (by assumption) ?_ | dsimp only | split)

theorem shapeRise_same {s : State} {t : State × Rises} (a1 : Shape) (h : Same s t.1) : Same s (shapeRise t a1).1 := by
  unfold shapeRise
  repeat' with_reducible (first | intro _ | assumption | apply generate_same | fail_if_no_progress apply same_rec | apply same_ite | refine same_fst (by assumption) ?_ | refine same_snd (by assumption) ?_ | refine same_trd (by assumption) ?_ | dsimp only | split)

theorem shapeFall_same {s t : State} (a0 : Rises) (a1 : Shape) (h : Same s t) : Same s (shapeFall a0 t a1) := by
  unfold shapeFall
  repeat' with_reducible (first | intro _ | assumption | apply generate_same | apply onFade_same | fail_if_no_progress apply same_rec | apply same_ite | refine same_fst (by assumption) ?_ | refine same_snd (by assumption) ?_ | refine same_trd (by assumption) ?_ | dsimp only | split)

theorem shapeAll_same {s t : State} (a0 : List Shape) (h : Same s t) : Same s (shapeAll a0 t) := by
  unfold shapeAll
  repeat' with_reducible (first | intro _ | assumption | apply onFade_same | apply waitTarget_same | apply shapeRise_same | apply shapeFall_same | fail_if_no_progress apply same_rec | apply same_ite | apply same_foldl | apply same_foldl_fst | apply same_foldl_snd | refine same_fst (by assumption) ?_ | refine same_snd (by assumption) ?_ | refine same_trd (by assumption) ?_ | dsimp only | split)

theorem writeChain_same {s t : State} (h : Same s t) : Same s (writeChain t) := by
  unfold writeChain
  repeat' with_reducible (first | intro _ | assumption | apply throughSkein_same | fail_if_no_progress apply same_rec | apply same_ite | apply same_foldl | apply same_foldl_fst | apply same_foldl_snd | refine same_fst (by assumption) ?_ | refine same_snd (by assumption) ?_ | refine same_trd (by assumption) ?_ | dsimp only | split)

theorem execFadeShaping_same {s t : State} (h : Same s t) : GoesSame s (execFadeShaping t) := by
  unfold execFadeShaping
  repeat' with_reducible (first | intro _ | assumption | apply goesSame_next | apply writeChain_same | apply freeTask_same | apply shapeAll_same | apply same_ite | dsimp only | split)

theorem fadeBoundary_same {s t : State} (h : Same s t) : Same s (fadeBoundary t) := by
  unfold fadeBoundary
  repeat' with_reducible (first | intro _ | assumption | apply onFade_same | fail_if_no_progress apply same_rec | apply same_ite | refine same_fst (by assumption) ?_ | refine same_snd (by assumption) ?_ | refine same_trd (by assumption) ?_ | dsimp only | split)

theorem fadePrune_same {s t : State} (h : Same s t) : Same s (fadePrune t) := by
  unfold fadePrune
  repeat' with_reducible (first | intro _ | assumption | apply onFade_same | fail_if_no_progress apply same_rec | apply same_ite | dsimp only | split)

theorem powerReport_same {s t : State} (a0 : Nat) (a1 : Nat) (h : Same s t) : Same s (powerReport a0 a1 t) := by
  unfold powerReport
  repeat' with_reducible (first | intro _ | assumption | apply onFade_same | apply onPin_same | fail_if_no_progress apply same_rec | apply same_ite | dsimp only | split)

theorem execFadeClearStats_same {s t : State} (h : Same s t) : GoesSame s (execFadeClearStats t) := by
  unfold execFadeClearStats
  repeat' with_reducible (first | intro _ | assumption | apply goesSame_next | fail_if_no_progress apply same_rec | apply same_ite | dsimp only | split)

theorem litFadeSet_same  : SpecSame (litFadeSet ) := by
  unfold litFadeSet
  repeat' with_reducible (first | intro _ | assumption | apply litWrite_same | dsimp only)

theorem execLitFadeSet_same {s t : State} (a0 : CmdStep) (h : Same s t) : GoesSame s (execLitFadeSet a0 t) := goesSame_next (mailboxCommand_same _ _ litFadeSet_same h)

theorem execLitFadeRead_same {s t : State} (a0 : CmdStep) (h : Same s t) : GoesSame s (execLitFadeRead a0 t) := by
  unfold execLitFadeRead
  repeat' with_reducible (first | intro _ | assumption | apply sectionRead_same | apply goesSame_next | apply mailboxCommand_same | dsimp only)

theorem onChain_same {s t : State} (a0 : Chain → Chain) (h : Same s t) : Same s (onChain a0 t) := by
  unfold onChain
  repeat' with_reducible (first | intro _ | assumption | fail_if_no_progress apply same_rec | apply same_ite | dsimp only | split)

theorem chainPackets_same {s t : State} (h : Same s t) : Same s (chainPackets t) := by
  unfold chainPackets
  repeat' with_reducible (first | intro _ | assumption | apply writeChain_same | apply same_ite | dsimp only | split)

theorem execChainShift_same {s t : State} (h : Same s t) : GoesSame s (execChainShift t) := by
  unfold execChainShift
  repeat' with_reducible (first | intro _ | assumption | apply goesSame_next | apply chainPackets_same | apply post_same | apply onChain_same | fail_if_no_progress apply same_rec | apply same_ite | apply same_foldl | apply same_foldl_fst | apply same_foldl_snd | refine same_fst (by assumption) ?_ | refine same_snd (by assumption) ?_ | refine same_trd (by assumption) ?_ | dsimp only | split)

theorem topoEvent_same {s t : State} (a0 : Nat) (a1 : Nat) (a2 : ChainState) (h : Same s t) : Same s (topoEvent a0 a1 a2 t) := by
  unfold topoEvent
  repeat' with_reducible (first | intro _ | assumption | apply post_same | apply onChain_same | fail_if_no_progress apply same_rec | apply same_ite | dsimp only | split)

theorem topoChange_same {s t : State} (a0 : Nat) (a1 : ChainState) (h : Same s t) : Same s (topoChange a0 a1 t) := by
  unfold topoChange
  repeat' with_reducible (first | intro _ | assumption | apply topoEvent_same | apply onChain_same | fail_if_no_progress apply same_rec | apply same_ite | refine same_fst (by assumption) ?_ | refine same_snd (by assumption) ?_ | refine same_trd (by assumption) ?_ | dsimp only | split)

theorem dropFrame_same {s t : State} (h : Same s t) : Same s (dropFrame t) := by
  unfold dropFrame
  repeat' with_reducible (first | intro _ | assumption | apply onChain_same | fail_if_no_progress apply same_rec | apply same_ite | refine same_fst (by assumption) ?_ | refine same_snd (by assumption) ?_ | refine same_trd (by assumption) ?_ | dsimp only | split)

theorem startScan_same {s t : State} (h : Same s t) : Same s (startScan t) := by
  unfold startScan
  repeat' with_reducible (first | intro _ | assumption | apply onChain_same | apply dropFrame_same | apply topoChange_same | fail_if_no_progress apply same_rec | apply same_ite | refine same_fst (by assumption) ?_ | refine same_snd (by assumption) ?_ | refine same_trd (by assumption) ?_ | dsimp only | split)

theorem topologyCheck_same {s t : State} (a0 : List U64) (h : Same s t) : Same s (topologyCheck a0 t) := by
  unfold topologyCheck
  repeat' with_reducible (first | intro _ | assumption | apply post_same | apply onChain_same | apply topoChange_same | fail_if_no_progress apply same_rec | apply same_ite | apply same_foldl | apply same_foldl_fst | apply same_foldl_snd | refine same_fst (by assumption) ?_ | refine same_snd (by assumption) ?_ | refine same_trd (by assumption) ?_ | dsimp only | split)

theorem chainDeliver_same {s t : State} (a0 : List U64) (a1 : Nat × Bytes) (h : Same s t) : Same s (chainDeliver a0 t a1) := by
  unfold chainDeliver
  repeat' with_reducible (first | intro _ | assumption | apply onPin_same | apply finalOutcome_same | apply post_same | apply modifyQueue_same | fail_if_no_progress apply same_rec | apply same_ite | refine same_fst (by assumption) ?_ | refine same_snd (by assumption) ?_ | refine same_trd (by assumption) ?_ | dsimp only | split)

theorem noteClass_same {s t : State} (a0 : Nat) (a1 : Nat) (h : Same s t) : Same s (noteClass a0 a1 t) := by
  unfold noteClass
  repeat' with_reducible (first | intro _ | assumption | apply onChain_same | fail_if_no_progress apply same_rec | apply same_ite | dsimp only | split)

theorem chainPinAfter_same {s t : State} (a0 : List U64) (a1 : Nat × Bytes) (h : Same s t) : Same s (chainPinAfter a0 t a1) := by
  unfold chainPinAfter
  repeat' with_reducible (first | intro _ | assumption | apply onChain_same | apply noteClass_same | apply onPin_same | fail_if_no_progress apply same_rec | apply same_ite | refine same_fst (by assumption) ?_ | refine same_snd (by assumption) ?_ | refine same_trd (by assumption) ?_ | dsimp only | split)

theorem scanCheck_same {s t : State} (a0 : List U64) (h : Same s t) : Same s (scanCheck a0 t) := by
  unfold scanCheck
  repeat' with_reducible (first | intro _ | assumption | apply startScan_same | apply onChain_same | fail_if_no_progress apply same_rec | apply same_ite | dsimp only | split)

theorem execChainShiftDone_same {s t : State} (a0 : List U64) (h : Same s t) : GoesSame s (execChainShiftDone a0 t) := by
  unfold execChainShiftDone
  repeat' with_reducible (first | intro _ | assumption | apply goesSame_next | apply onChain_same | apply chainDeliver_same | apply chainPinAfter_same | apply post_same | apply topologyCheck_same | apply scanCheck_same | fail_if_no_progress apply same_rec | apply same_ite | apply same_foldl | apply same_foldl_fst | apply same_foldl_snd | refine same_fst (by assumption) ?_ | refine same_snd (by assumption) ?_ | refine same_trd (by assumption) ?_ | dsimp only | split)

theorem execChainLatch_same {s t : State} (h : Same s t) : GoesSame s (execChainLatch t) := by
  unfold execChainLatch
  repeat' with_reducible (first | intro _ | assumption | apply goesSame_next | apply onChain_same | apply modifyQueue_same | fail_if_no_progress apply same_rec | apply same_ite | apply same_foldl | apply same_foldl_fst | apply same_foldl_snd | dsimp only | split)

theorem completeAccepts_same {s t : State} (a0 : Nat) (h : Same s t) : Same s (completeAccepts a0 t) := by
  unfold completeAccepts
  repeat' with_reducible (first | intro _ | assumption | apply onChain_same | apply freeTask_same | apply completeWith_same | fail_if_no_progress apply same_rec | apply same_ite | apply same_foldl | apply same_foldl_fst | apply same_foldl_snd | dsimp only | split)

theorem execChainScan_same {s t : State} (a0 : List (List U64)) (a1 : List Nat) (h : Same s t) : GoesSame s (execChainScan a0 a1 t) := by
  unfold execChainScan
  repeat' with_reducible (first | intro _ | assumption | apply goesSame_next | apply topoChange_same | apply post_same | apply onChain_same | apply dropFrame_same | apply completeAccepts_same | fail_if_no_progress apply same_rec | apply same_ite | dsimp only | split)

theorem execChainBoardSilent_same {s t : State} (a0 : Nat) (h : Same s t) : GoesSame s (execChainBoardSilent a0 t) := by
  unfold execChainBoardSilent
  repeat' with_reducible (first | intro _ | assumption | apply goesSame_next | apply noteClass_same | apply same_ite | apply same_foldl | apply same_foldl_fst | apply same_foldl_snd | dsimp only | split)

theorem execNtcFault_same {s t : State} (a0 : Nat) (h : Same s t) : GoesSame s (execNtcFault a0 t) := by
  unfold execNtcFault
  repeat' with_reducible (first | intro _ | assumption | apply goesSame_next | apply onChain_same | apply onPin_same | fail_if_no_progress apply same_rec | apply same_ite | apply same_foldl | apply same_foldl_fst | apply same_foldl_snd | dsimp only | split)

theorem chainStitchEnd_same {s t : State} (h : Same s t) : Same s (chainStitchEnd t) := by
  unfold chainStitchEnd
  repeat' with_reducible (first | intro _ | assumption | apply dropFrame_same | apply onChain_same | fail_if_no_progress apply same_rec | apply same_ite | refine same_fst (by assumption) ?_ | refine same_snd (by assumption) ?_ | refine same_trd (by assumption) ?_ | dsimp only | split)

theorem chainClassOf_same {s t : State} (a0 : Nat × Nat) (h : Same s t) : Same s (chainClassOf t a0) := by
  unfold chainClassOf
  repeat' with_reducible (first | intro _ | assumption | apply onPin_same | fail_if_no_progress apply same_rec | apply same_ite | dsimp only | split)

theorem chainClasses_same {s t : State} (h : Same s t) : Same s (chainClasses t) := by
  unfold chainClasses
  repeat' with_reducible (first | intro _ | assumption | apply onChain_same | apply chainClassOf_same | fail_if_no_progress apply same_rec | apply same_ite | apply same_foldl | apply same_foldl_fst | apply same_foldl_snd | dsimp only | split)

theorem chainCommit_same {s t : State} (h : Same s t) : Same s (chainCommit t) := by
  unfold chainCommit
  repeat' with_reducible (first | intro _ | assumption | apply onChain_same | fail_if_no_progress apply same_rec | apply same_ite | dsimp only | split)

theorem chainRateChanged_same {s t : State} (a0 : Nat) (h : Same s t) : Same s (chainRateChanged a0 t) := by
  unfold chainRateChanged
  repeat' with_reducible (first | intro _ | assumption | apply completeAccepts_same | apply onChain_same | apply dropFrame_same | apply topoChange_same | apply startScan_same | fail_if_no_progress apply same_rec | apply same_ite | refine same_fst (by assumption) ?_ | refine same_snd (by assumption) ?_ | refine same_trd (by assumption) ?_ | dsimp only | split)

theorem litModelWrite_same  : SpecSame (litModelWrite ) := by
  have hb := litWrite_same 0x0322 secModels (fun _ => none) (fun p => 48 * u8At p 0) (fun p => p.drop 4)
  exact ⟨hb.onAccept, hb.onRefuse, hb.run⟩

theorem execLitModelWrite_same {s t : State} (a0 : CmdStep) (h : Same s t) : GoesSame s (execLitModelWrite a0 t) := goesSame_next (mailboxCommand_same _ _ litModelWrite_same h)

theorem litModelRead_same  : SpecSame (litModelRead ) := by
  constructor <;> (unfold litModelRead; repeat' with_reducible (first | intro _ | assumption | apply SpecSame.mk | apply same_ite | refine same_fst (by assumption) ?_ | refine same_snd (by assumption) ?_ | refine same_trd (by assumption) ?_ | dsimp only | split))

theorem execLitModelRead_same {s t : State} (a0 : CmdStep) (h : Same s t) : GoesSame s (execLitModelRead a0 t) := goesSame_next (mailboxCommand_same _ _ litModelRead_same h)

theorem litChainSet_same  : SpecSame (litChainSet ) := by
  unfold litChainSet
  repeat' with_reducible (first | intro _ | assumption | apply litWrite_same | dsimp only)

theorem execLitChainSet_same {s t : State} (a0 : CmdStep) (h : Same s t) : GoesSame s (execLitChainSet a0 t) := goesSame_next (mailboxCommand_same _ _ litChainSet_same h)

theorem litChainStatus_same  : SpecSame (litChainStatus ) := by
  constructor <;> (unfold litChainStatus; repeat' with_reducible (first | intro _ | assumption | apply SpecSame.mk | apply same_ite | refine same_fst (by assumption) ?_ | refine same_snd (by assumption) ?_ | refine same_trd (by assumption) ?_ | dsimp only | split))

theorem execLitChainStatus_same {s t : State} (a0 : CmdStep) (h : Same s t) : GoesSame s (execLitChainStatus a0 t) := goesSame_next (mailboxCommand_same _ _ litChainStatus_same h)

theorem litChainAccept_same  : SpecSame (litChainAccept ) := by
  constructor <;> (unfold litChainAccept; repeat' with_reducible (first | intro _ | assumption | apply SpecSame.mk | apply onChain_same | apply startScan_same | fail_if_no_progress apply same_rec | apply same_ite | refine same_fst (by assumption) ?_ | refine same_snd (by assumption) ?_ | refine same_trd (by assumption) ?_ | dsimp only | split))

theorem execLitChainAccept_same {s t : State} (a0 : CmdStep) (h : Same s t) : GoesSame s (execLitChainAccept a0 t) := goesSame_next (mailboxCommand_same _ _ litChainAccept_same h)

theorem litOutRead_same  : SpecSame (litOutRead ) := by
  constructor <;> (unfold litOutRead; repeat' with_reducible (first | intro _ | assumption | apply SpecSame.mk | apply same_ite | refine same_fst (by assumption) ?_ | refine same_snd (by assumption) ?_ | refine same_trd (by assumption) ?_ | dsimp only | split))

theorem execLitOutRead_same {s t : State} (a0 : CmdStep) (h : Same s t) : GoesSame s (execLitOutRead a0 t) := goesSame_next (mailboxCommand_same _ _ litOutRead_same h)

end Sys2Proof.Machine
end

