-- ==== Sys2Proof/Laws/SameAir.lean ====
section
/-! SUPPORT. The radio: what each operation and command leaves of the queue and the memory. -/

set_option linter.all false

namespace Sys2Proof.Machine

theorem onShuttle_same {s t : State} (a0 : Nat) (a1 : Shuttle → Shuttle) (h : Same s t) : Same s (onShuttle a0 a1 t) := by
  unfold onShuttle
  repeat' with_reducible (first | intro _ | assumption | apply onAir_same | fail_if_no_progress apply same_rec | apply same_ite | dsimp only | split)

theorem dutyUpdate_same {s t : State} (a0 : Nat) (h : Same s t) : Same s (dutyUpdate a0 t) := by
  unfold dutyUpdate
  repeat' with_reducible (first | intro _ | assumption | apply onShuttle_same | fail_if_no_progress apply same_rec | apply same_ite | dsimp only | split)

theorem addAirtime_same {s t : State} (a0 : Nat) (a1 : Nat) (h : Same s t) : Same s (addAirtime a0 a1 t) := by
  unfold addAirtime
  repeat' with_reducible (first | intro _ | assumption | apply dutyUpdate_same | apply onShuttle_same | fail_if_no_progress apply same_rec | apply same_ite | dsimp only | split)

theorem execDutyBinRoll_same {s t : State} (a0 : Nat) (h : Same s t) : GoesSame s (execDutyBinRoll a0 t) := by
  unfold execDutyBinRoll
  repeat' with_reducible (first | intro _ | assumption | apply goesSame_next | apply dutyUpdate_same | apply onAir_same | apply onShuttle_same | fail_if_no_progress apply same_rec | apply same_ite | dsimp only | split)

theorem onKey_same {s t : State} (a0 : Nat) (a1 : KeySlot → KeySlot) (h : Same s t) : Same s (onKey a0 a1 t) := by
  unfold onKey
  repeat' with_reducible (first | intro _ | assumption | fail_if_no_progress apply same_rec | apply same_ite | dsimp only | split)

theorem useKey_same {s t : State} (a0 : Nat) (h : Same s t) : Same s (useKey a0 t).2 := by
  unfold useKey
  repeat' with_reducible (first | intro _ | assumption | apply post_same | apply onKey_same | apply postIf_same | fail_if_no_progress apply same_rec | apply same_ite | refine same_fst (by assumption) ?_ | refine same_snd (by assumption) ?_ | refine same_trd (by assumption) ?_ | dsimp only | split)

theorem transmit_same {s t : State} (a0 : Nat) (a1 : Nat) (a2 : Nat) (h : Same s t) : Same s (transmit a0 a1 a2 t) := by
  unfold transmit
  repeat' with_reducible (first | intro _ | assumption | apply onShuttle_same | fail_if_no_progress apply same_rec | apply same_ite | refine same_fst (by assumption) ?_ | refine same_snd (by assumption) ?_ | refine same_trd (by assumption) ?_ | dsimp only | split)

theorem sendFrame_same {s t : State} (a0 : Nat) (a1 : Nat) (a2 : Nat) (a3 : AirFrame) (h : Same s t) : Same s (sendFrame a0 a1 a2 a3 t).2 := by
  unfold sendFrame
  repeat' with_reducible (first | intro _ | assumption | apply useKey_same | apply onAir_same | apply addAirtime_same | apply transmit_same | fail_if_no_progress apply same_rec | apply same_ite | refine same_fst (by assumption) ?_ | refine same_snd (by assumption) ?_ | refine same_trd (by assumption) ?_ | dsimp only | split)

theorem sendData_same {s t : State} (a0 : Nat) (a1 : Nat) (a2 : Nat) (a3 : Nat) (a4 : Nat) (a5 : Bytes) (h : Same s t) : Same s (sendData a0 a1 a2 a3 a4 a5 t).2 := by
  unfold sendData
  repeat' with_reducible (first | intro _ | assumption | apply sendFrame_same | apply onShuttle_same | fail_if_no_progress apply same_rec | apply same_ite | refine same_fst (by assumption) ?_ | refine same_snd (by assumption) ?_ | refine same_trd (by assumption) ?_ | dsimp only | split)

theorem countDrop_same {s t : State} (a0 : Nat) (a1 : RxDrop) (h : Same s t) : Same s (countDrop a0 a1 t) := by
  unfold countDrop
  repeat' with_reducible (first | intro _ | assumption | apply onShuttle_same | fail_if_no_progress apply same_rec | apply same_ite | dsimp only | split)

theorem rxAccept_same {s t : State} (a0 : RxFrame) (a1 : Nat) (h : Same s t) : Same s (rxAccept a0 a1 t) := by
  unfold rxAccept
  repeat' with_reducible (first | intro _ | assumption | apply onShuttle_same | apply onPin_same | apply onRadio_same | apply onAir_same | fail_if_no_progress apply same_rec | apply same_ite | refine same_fst (by assumption) ?_ | refine same_snd (by assumption) ?_ | refine same_trd (by assumption) ?_ | dsimp only | split)

theorem writeDelivery_same {s t : State} (a0 : Nat) (a1 : PinCmd) (h : Same s t) : Same s (writeDelivery a0 a1 t) := by
  unfold writeDelivery
  repeat' with_reducible (first | intro _ | assumption | apply onPin_same | apply onRadio_same | fail_if_no_progress apply same_rec | apply same_ite | refine same_fst (by assumption) ?_ | refine same_snd (by assumption) ?_ | refine same_trd (by assumption) ?_ | dsimp only | split)

theorem failCommand_same {s t : State} (a0 : Nat) (a1 : Nat) (a2 : PinCmd) (h : Same s t) : Same s (failCommand a0 a1 a2 t) := by
  unfold failCommand
  repeat' with_reducible (first | intro _ | assumption | apply onShuttle_same | apply post_same | apply finalOutcome_same | apply writeDelivery_same | apply onFade_same | apply onAir_same | fail_if_no_progress apply same_rec | apply same_ite | refine same_fst (by assumption) ?_ | refine same_snd (by assumption) ?_ | refine same_trd (by assumption) ?_ | dsimp only | split)

theorem deliverCommand_same {s t : State} (a0 : Nat) (a1 : Nat) (a2 : PinCmd) (h : Same s t) : Same s (deliverCommand a0 a1 a2 t) := by
  unfold deliverCommand
  repeat' with_reducible (first | intro _ | assumption | apply onShuttle_same | apply writeDelivery_same | apply onPin_same | apply finalOutcome_same | fail_if_no_progress apply same_rec | apply same_ite | refine same_fst (by assumption) ?_ | refine same_snd (by assumption) ?_ | refine same_trd (by assumption) ?_ | dsimp only | split)

theorem syncDone_same {s t : State} (a0 : Nat) (a1 : Awaiting) (h : Same s t) : Same s (syncDone a0 a1 t) := by
  unfold syncDone
  repeat' with_reducible (first | intro _ | assumption | apply onRadio_same | apply onPin_same | apply onAir_same | fail_if_no_progress apply same_rec | apply same_ite | refine same_fst (by assumption) ?_ | refine same_snd (by assumption) ?_ | refine same_trd (by assumption) ?_ | dsimp only | split)

theorem ackTaken_same {s t : State} (a0 : RxFrame) (a1 : Nat) (a2 : Awaiting) (h : Same s t) : Same s (ackTaken a0 a1 a2 t) := by
  unfold ackTaken
  repeat' with_reducible (first | intro _ | assumption | apply onShuttle_same | apply rxAccept_same | apply deliverCommand_same | apply syncDone_same | fail_if_no_progress apply same_rec | apply same_ite | dsimp only | split)

theorem execNodeEnhAck_same {s t : State} (a0 : RxFrame) (h : Same s t) : GoesSame s (execNodeEnhAck a0 t) := by
  unfold execNodeEnhAck
  repeat' with_reducible (first | intro _ | assumption | apply goesSame_next | apply countDrop_same | apply ackTaken_same | fail_if_no_progress apply same_rec | apply same_ite | dsimp only | split)

theorem tryMissed_same {s t : State} (a0 : Nat) (a1 : Awaiting) (h : Same s t) : Same s (tryMissed a0 a1 t) := by
  unfold tryMissed
  repeat' with_reducible (first | intro _ | assumption | apply onShuttle_same | apply onRadio_same | apply failCommand_same | apply outcomePacket_same | apply modifyQueue_same | fail_if_no_progress apply same_rec | apply same_ite | refine same_fst (by assumption) ?_ | refine same_snd (by assumption) ?_ | refine same_trd (by assumption) ?_ | dsimp only | split)

theorem execEnhAckTimeout_same {s t : State} (a0 : Nat) (h : Same s t) : GoesSame s (execEnhAckTimeout a0 t) := by
  unfold execEnhAckTimeout
  repeat' with_reducible (first | intro _ | assumption | apply goesSame_next | apply tryMissed_same | fail_if_no_progress apply same_rec | apply same_ite | dsimp only | split)

theorem execEnhAckSend_same {s t : State} (a0 : Nat) (h : Same s t) : GoesSame s (execEnhAckSend a0 t) := by
  unfold execEnhAckSend
  repeat' with_reducible (first | intro _ | assumption | apply goesSame_next | apply onShuttle_same | apply sendFrame_same | fail_if_no_progress apply same_rec | apply same_ite | refine same_fst (by assumption) ?_ | refine same_snd (by assumption) ?_ | refine same_trd (by assumption) ?_ | dsimp only | split)

theorem expectedFrame_same {s t : State} (a0 : Nat) (a1 : RxWindow) (a2 : Nat) (h : Same s t) : Same s (expectedFrame a0 a1 a2 t) := by
  unfold expectedFrame
  repeat' with_reducible (first | intro _ | assumption | apply onPin_same | apply onRadio_same | apply onAir_same | fail_if_no_progress apply same_rec | apply same_ite | refine same_fst (by assumption) ?_ | refine same_snd (by assumption) ?_ | refine same_trd (by assumption) ?_ | dsimp only | split)

theorem oweAck_same {s t : State} (a0 : RxFrame) (a1 : Nat) (a2 : Int) (h : Same s t) : Same s (oweAck a0 a1 a2 t) := by
  unfold oweAck
  repeat' with_reducible (first | intro _ | assumption | apply onShuttle_same | fail_if_no_progress apply same_rec | apply same_ite | dsimp only | split)

theorem uplink_same {s t : State} (a0 : RxFrame) (a1 : Nat → State → State) (ha1 : ∀ n u, Same s u → Same s (a1 n u)) (h : Same s t) : Same s (uplink a0 a1 t) := by
  unfold uplink
  repeat' with_reducible (first | intro _ | assumption | apply ha1 | apply countDrop_same | apply rxAccept_same | apply expectedFrame_same | apply oweAck_same | apply onShuttle_same | apply onPin_same | fail_if_no_progress apply same_rec | apply same_ite | dsimp only | split)

theorem ofKind_same {s t : State} (a0 : RxFrame) (a1 : Nat) (a2 : Nat → State → State) (a3 : Nat) (ha2 : ∀ n u, Same s u → Same s (a2 n u)) (h : Same s t) : Same s (ofKind a0 a1 a2 a3 t) := by
  unfold ofKind
  repeat' with_reducible (first | intro _ | assumption | apply ha2 | apply countDrop_same | apply same_ite | dsimp only | split)

theorem execUplinkPoll_same {s t : State} (a0 : RxFrame) (h : Same s t) : GoesSame s (execUplinkPoll a0 t) := by
  unfold execUplinkPoll
  repeat' with_reducible (first | intro _ | assumption | apply goesSame_next | apply uplink_same | apply ofKind_same | apply same_ite | dsimp only | split)

theorem reportOf_same {s t : State} (a0 : Bool) (a1 : Nat) (a2 : Nat) (a3 : Nat) (a4 : Nat) (h : Same s t) : Same s (reportOf a0 a1 a2 a3 a4 t) := by
  unfold reportOf
  repeat' with_reducible (first | intro _ | assumption | apply radioReport_same | apply onLace_same | apply onPin_same | fail_if_no_progress apply same_rec | apply same_ite | refine same_fst (by assumption) ?_ | refine same_snd (by assumption) ?_ | refine same_trd (by assumption) ?_ | dsimp only | split)

theorem presencePacket_same {s t : State} (a0 : Nat) (a1 : Nat) (a2 : Nat) (a3 : Nat) (a4 : Nat) (h : Same s t) : Same s (presencePacket a0 a1 a2 a3 a4 t) := by
  unfold presencePacket
  repeat' with_reducible (first | intro _ | assumption | apply throughSkein_same | apply same_ite | dsimp only | split)

theorem presenceRecord_same {s t : State} (a0 : Nat) (a1 : Bool) (a2 : Nat) (a3 : Bytes) (h : Same s t) : Same s (presenceRecord a0 a1 a2 a3 t) := by
  unfold presenceRecord
  repeat' with_reducible (first | intro _ | assumption | apply onLace_same | apply reportOf_same | apply presencePacket_same | fail_if_no_progress apply same_rec | apply same_ite | dsimp only | split)

theorem statusRecord_same {s t : State} (a0 : Nat) (a1 : Bytes) (h : Same s t) : Same s (statusRecord a0 a1 t) := by
  unfold statusRecord
  repeat' with_reducible (first | intro _ | assumption | apply onPin_same | apply powerReport_same | fail_if_no_progress apply same_rec | apply same_ite | dsimp only | split)

theorem telemetryRecord_same {s t : State} (a0 : Nat) (a1 : Nat) (a2 : Nat) (a3 : Bytes) (h : Same s t) : Same s (telemetryRecord a0 a1 a2 a3 t) := by
  unfold telemetryRecord
  repeat' with_reducible (first | intro _ | assumption | apply onAir_same | apply packetVisible_same | apply onSkein_same | fail_if_no_progress apply same_rec | apply same_ite | dsimp only | split)

theorem reportRecords_same {s t : State} (a0 : RxFrame) (a1 : Bool) (a2 : Nat) (a3 : Nat) (a4 : Bytes) (h : Same s t) : Same s (reportRecords a0 a1 a2 a3 a4 t) := by
  induction a3 generalizing t a4 with
  | zero => exact h
  | succ n ih =>
    unfold reportRecords
    repeat' with_reducible (first | with_reducible apply ih | intro _ | assumption | apply countDrop_same | apply onAir_same | apply presenceRecord_same | apply statusRecord_same | apply telemetryRecord_same | fail_if_no_progress apply same_rec | apply same_ite | apply same_foldl | apply same_foldl_fst | apply same_foldl_snd | apply same_elim | dsimp only | split)

theorem handleReport_same {s t : State} (a0 : RxFrame) (a1 : Nat) (h : Same s t) : Same s (handleReport a0 a1 t) := by
  unfold handleReport
  repeat' with_reducible (first | intro _ | assumption | apply countDrop_same | apply reportRecords_same | apply same_ite | dsimp only | split)

theorem execUplinkReport_same {s t : State} (a0 : RxFrame) (h : Same s t) : GoesSame s (execUplinkReport a0 t) := by
  unfold execUplinkReport
  repeat' with_reducible (first | intro _ | assumption | apply goesSame_next | apply uplink_same | apply ofKind_same | apply handleReport_same | apply same_ite | dsimp only | split)

theorem execUplinkImageState_same {s t : State} (a0 : RxFrame) (h : Same s t) : GoesSame s (execUplinkImageState a0 t) := by
  unfold execUplinkImageState
  repeat' with_reducible (first | intro _ | assumption | apply goesSame_next | apply uplink_same | apply ofKind_same | apply onRadio_same | fail_if_no_progress apply same_rec | apply same_ite | refine same_fst (by assumption) ?_ | refine same_snd (by assumption) ?_ | refine same_trd (by assumption) ?_ | dsimp only | split)

theorem readWhole_same {s t : State} (a0 a1 : Nat) (a2 : BusAccess) (a3 a4 : Nat) (a5 : Bytes) (h : Same s t) : Same s (readWhole a0 a1 a2 a3 a4 a5 t).2 := by
  induction a3 generalizing t a4 a5 with
  | zero => exact h
  | succ n ih =>
    unfold readWhole
    repeat' with_reducible (first | apply ih | intro _ | assumption | apply popSkein_same | apply same_ite | refine same_trd (by assumption) ?_ | dsimp only | split)

theorem execTelemetryDecode_same {s t : State} (a0 : TelemetryRead) (h : Same s t) : GoesSame s (execTelemetryDecode a0 t) := by
  unfold execTelemetryDecode
  repeat' with_reducible (first | intro _ | assumption | apply goesSame_next | apply readWhole_same | apply freeTask_same | apply onAir_same | fail_if_no_progress apply same_rec | apply same_ite | refine same_fst (by assumption) ?_ | refine same_snd (by assumption) ?_ | refine same_trd (by assumption) ?_ | dsimp only | split)

theorem execForeignBeacon_same {s t : State} (a0 : Nat) (a1 : U16) (h : Same s t) : GoesSame s (execForeignBeacon a0 a1 t) := by
  unfold execForeignBeacon
  repeat' with_reducible (first | intro _ | assumption | apply goesSame_next | apply onAir_same | apply post_same | fail_if_no_progress apply same_rec | apply same_ite | refine same_fst (by assumption) ?_ | refine same_snd (by assumption) ?_ | refine same_trd (by assumption) ?_ | dsimp only | split)

theorem requestPicot_same {s t : State} (a0 : Nat) (a1 : Nat) (h : Same s t) : Same s (requestPicot a0 a1 t) := by
  unfold requestPicot
  repeat' with_reducible (first | intro _ | assumption | apply onAir_same | fail_if_no_progress apply same_rec | apply same_ite | refine same_fst (by assumption) ?_ | refine same_snd (by assumption) ?_ | refine same_trd (by assumption) ?_ | dsimp only | split)

theorem planInstant_same {s t : State} (a0 : Nat) (a1 : Nat × Nat) (h : Same s t) : Same s (planInstant a0 t a1) := by
  unfold planInstant
  repeat' with_reducible (first | intro _ | assumption | apply requestPicot_same | apply onShuttle_same | apply onAir_same | fail_if_no_progress apply same_rec | apply same_ite | refine same_fst (by assumption) ?_ | refine same_snd (by assumption) ?_ | refine same_trd (by assumption) ?_ | dsimp only | split)

theorem wakeForCommand_same {s t : State} (a0 : Nat × Bytes) (h : Same s t) : Same s (wakeForCommand t a0) := by
  unfold wakeForCommand
  repeat' with_reducible (first | intro _ | assumption | apply onRadio_same | apply requestPicot_same | fail_if_no_progress apply same_rec | apply same_ite | refine same_fst (by assumption) ?_ | refine same_snd (by assumption) ?_ | refine same_trd (by assumption) ?_ | dsimp only | split)

theorem planSleepy_same {s t : State} (a0 : Nat) (h : Same s t) : Same s (planSleepy a0 t) := by
  unfold planSleepy
  repeat' with_reducible (first | intro _ | assumption | apply planInstant_same | apply onShuttle_same | apply wakeForCommand_same | fail_if_no_progress apply same_rec | apply same_ite | apply same_foldl | apply same_foldl_fst | apply same_foldl_snd | refine same_fst (by assumption) ?_ | refine same_snd (by assumption) ?_ | refine same_trd (by assumption) ?_ | dsimp only | split)

theorem execReceiveWindowEnd_same {s t : State} (a0 : Nat) (a1 : Bool) (h : Same s t) : GoesSame s (execReceiveWindowEnd a0 a1 t) := by
  unfold execReceiveWindowEnd
  repeat' with_reducible (first | intro _ | assumption | apply goesSame_next | apply onAir_same | apply onShuttle_same | apply onRadio_same | apply onPin_same | fail_if_no_progress apply same_rec | apply same_ite | refine same_fst (by assumption) ?_ | refine same_snd (by assumption) ?_ | refine same_trd (by assumption) ?_ | dsimp only | split)

theorem execCoursePlanning_same {s t : State} (a0 : Nat) (h : Same s t) : GoesSame s (execCoursePlanning a0 t) := by
  unfold execCoursePlanning
  repeat' with_reducible (first | intro _ | assumption | apply goesSame_next | apply freeTask_same | apply planSleepy_same | apply onShuttle_same | apply postFrom_same | fail_if_no_progress apply same_rec | apply same_ite | refine same_fst (by assumption) ?_ | refine same_snd (by assumption) ?_ | refine same_trd (by assumption) ?_ | dsimp only | split)

theorem deferItem_same {s t : State} (a0 : Nat) (a1 : Nat) (h : Same s t) : Same s (deferItem a0 a1 t) := by
  unfold deferItem
  repeat' with_reducible (first | intro _ | assumption | apply onShuttle_same | fail_if_no_progress apply same_rec | apply same_ite | dsimp only | split)

theorem sendTry_same {s t : State} (a0 : Nat) (a1 : Nat) (a2 : PinCmd) (h : Same s t) : Same s (sendTry a0 a1 a2 t) := by
  unfold sendTry
  repeat' with_reducible (first | intro _ | assumption | apply sendData_same | apply failCommand_same | apply modifyQueue_same | apply onPin_same | apply onShuttle_same | fail_if_no_progress apply same_rec | apply same_ite | refine same_fst (by assumption) ?_ | refine same_snd (by assumption) ?_ | refine same_trd (by assumption) ?_ | dsimp only | split)

theorem sendProbe_same {s t : State} (a0 : Nat) (a1 : Nat) (h : Same s t) : Same s (sendProbe a0 a1 t) := by
  unfold sendProbe
  repeat' with_reducible (first | intro _ | assumption | apply sendData_same | apply onShuttle_same | apply onAir_same | fail_if_no_progress apply same_rec | apply same_ite | refine same_fst (by assumption) ?_ | refine same_snd (by assumption) ?_ | refine same_trd (by assumption) ?_ | dsimp only | split)

theorem sendSync_same {s t : State} (a0 : Nat) (a1 : Nat) (h : Same s t) : Same s (sendSync a0 a1 t) := by
  unfold sendSync
  repeat' with_reducible (first | intro _ | assumption | apply sendData_same | apply onShuttle_same | apply takeDownSeq_same | fail_if_no_progress apply same_rec | apply same_ite | refine same_fst (by assumption) ?_ | refine same_snd (by assumption) ?_ | refine same_trd (by assumption) ?_ | dsimp only | split)

theorem sendNodata_same {s t : State} (a0 : Nat) (a1 : Nat) (h : Same s t) : Same s (sendNodata a0 a1 t) := by
  unfold sendNodata
  repeat' with_reducible (first | intro _ | assumption | apply sendData_same | apply same_ite | dsimp only | split)

theorem sendFollow_same {s t : State} (a0 : Nat) (a1 : FollowUp) (h : Same s t) : Same s (sendFollow a0 a1 t) := by
  unfold sendFollow
  repeat' with_reducible (first | intro _ | assumption | apply onShuttle_same | apply sendSync_same | apply sendTry_same | apply sendNodata_same | fail_if_no_progress apply same_rec | apply same_ite | dsimp only | split)

theorem sendPicot_same {s t : State} (a0 : Nat) (a1 : Nat) (a2 : Nat) (h : Same s t) : Same s (sendPicot a0 a1 a2 t) := by
  unfold sendPicot
  repeat' with_reducible (first | intro _ | assumption | apply onAir_same | apply onShuttle_same | apply transmit_same | apply onRadio_same | fail_if_no_progress apply same_rec | apply same_ite | apply same_foldl | apply same_foldl_fst | apply same_foldl_snd | refine same_fst (by assumption) ?_ | refine same_snd (by assumption) ?_ | refine same_trd (by assumption) ?_ | dsimp only | split)

theorem sendGroup_same {s t : State} (a0 : Nat) (a1 : Nat) (a2 : Bytes) (h : Same s t) : Same s (sendGroup a0 a1 a2 t).2 := by
  unfold sendGroup
  repeat' with_reducible (first | intro _ | assumption | apply sendData_same | apply onAir_same | fail_if_no_progress apply same_rec | apply same_ite | refine same_fst (by assumption) ?_ | refine same_snd (by assumption) ?_ | refine same_trd (by assumption) ?_ | dsimp only | split)

theorem sendImage_same {s t : State} (a0 : Nat) (h : Same s t) : Same s (sendImage a0 t) := by
  unfold sendImage
  repeat' with_reducible (first | intro _ | assumption | apply sendGroup_same | apply onShuttle_same | apply onAir_same | fail_if_no_progress apply same_rec | apply same_ite | refine same_fst (by assumption) ?_ | refine same_snd (by assumption) ?_ | refine same_trd (by assumption) ?_ | dsimp only | split)

theorem runItem_same {s t : State} (a0 : Nat) (a1 : PlanItem) (h : Same s t) : Same s (runItem a0 a1 t) := by
  unfold runItem
  repeat' with_reducible (first | intro _ | assumption | apply sendPicot_same | apply deferItem_same | apply sendTry_same | apply sendProbe_same | apply sendGroup_same | apply onShuttle_same | apply sendImage_same | fail_if_no_progress apply same_rec | apply same_ite | refine same_fst (by assumption) ?_ | refine same_snd (by assumption) ?_ | refine same_trd (by assumption) ?_ | dsimp only | split)

theorem endCourse_same {s t : State} (a0 : Nat) (h : Same s t) : Same s (endCourse a0 t) := by
  unfold endCourse
  repeat' with_reducible (first | intro _ | assumption | apply freeTask_same | apply deferItem_same | apply onShuttle_same | fail_if_no_progress apply same_rec | apply same_ite | refine same_fst (by assumption) ?_ | refine same_snd (by assumption) ?_ | refine same_trd (by assumption) ?_ | dsimp only | split)

theorem courseNext_same {s t : State} (a0 : Nat) (h : Same s t) : Same s (courseNext a0 t) := by
  unfold courseNext
  repeat' with_reducible (first | intro _ | assumption | apply deferItem_same | apply onShuttle_same | apply endCourse_same | apply runItem_same | fail_if_no_progress apply same_rec | apply same_ite | dsimp only | split)

theorem execCourseRun_same {s t : State} (a0 : Nat) (h : Same s t) : GoesSame s (execCourseRun a0 t) := by
  unfold execCourseRun
  repeat' with_reducible (first | intro _ | assumption | apply goesSame_next | apply endCourse_same | apply onShuttle_same | apply sendFollow_same | apply courseNext_same | fail_if_no_progress apply same_rec | apply same_ite | dsimp only | split)

theorem sendBeacon_same {s : State} {t : Bool × State} (a1 : Nat) (h : Same s t.2) : Same s (sendBeacon t a1).2 := by
  unfold sendBeacon
  repeat' with_reducible (first | intro _ | assumption | apply onShuttle_same | apply sendFrame_same | fail_if_no_progress apply same_rec | apply same_ite | refine same_fst (by assumption) ?_ | refine same_snd (by assumption) ?_ | refine same_trd (by assumption) ?_ | dsimp only | split)

theorem beaconGap_same {s t : State} (a0 : Bool) (h : Same s t) : Same s (beaconGap a0 t) := by
  unfold beaconGap
  repeat' with_reducible (first | intro _ | assumption | apply post_same | apply onAir_same | fail_if_no_progress apply same_rec | apply same_ite | dsimp only | split)

theorem descriptorStep_same {s t : State} (h : Same s t) : Same s (descriptorStep t) := by
  unfold descriptorStep
  repeat' with_reducible (first | intro _ | assumption | apply onAir_same | fail_if_no_progress apply same_rec | apply same_ite | dsimp only | split)

theorem execBeacon_same {s t : State} (h : Same s t) : GoesSame s (execBeacon t) := by
  unfold execBeacon
  repeat' with_reducible (first | intro _ | assumption | apply goesSame_next | apply sendBeacon_same | apply onAir_same | apply descriptorStep_same | apply beaconGap_same | fail_if_no_progress apply same_rec | apply same_ite | apply same_foldl | apply same_foldl_fst | apply same_foldl_snd | refine same_fst (by assumption) ?_ | refine same_snd (by assumption) ?_ | refine same_trd (by assumption) ?_ | dsimp only | split)

theorem execProbeDue_same {s t : State} (a0 : Nat) (h : Same s t) : GoesSame s (execProbeDue a0 t) := by
  unfold execProbeDue
  repeat' with_reducible (first | intro _ | assumption | apply goesSame_next | apply onAir_same | fail_if_no_progress apply same_rec | apply same_ite | refine same_fst (by assumption) ?_ | refine same_snd (by assumption) ?_ | refine same_trd (by assumption) ?_ | dsimp only | split)

theorem execPinSilent_same {s t : State} (a0 : Nat) (h : Same s t) : GoesSame s (execPinSilent a0 t) := by
  unfold execPinSilent
  repeat' with_reducible (first | intro _ | assumption | apply goesSame_next | apply onAir_same | apply onPin_same | fail_if_no_progress apply same_rec | apply same_ite | dsimp only | split)

theorem execShuttleFault_same {s t : State} (a0 : Nat) (a1 : Nat) (h : Same s t) : GoesSame s (execShuttleFault a0 a1 t) := by
  unfold execShuttleFault
  repeat' with_reducible (first | intro _ | assumption | apply goesSame_next | apply post_same | apply onShuttle_same | fail_if_no_progress apply same_rec | apply same_ite | dsimp only | split)

theorem rehomePin_same {s t : State} (a0 : List Nat) (a1 : Nat × Bytes) (h : Same s t) : Same s (rehomePin a0 t a1) := by
  unfold rehomePin
  repeat' with_reducible (first | intro _ | assumption | apply onPin_same | apply moveQueue_same | apply onRadio_same | apply onAir_same | fail_if_no_progress apply same_rec | apply same_ite | refine same_fst (by assumption) ?_ | refine same_snd (by assumption) ?_ | refine same_trd (by assumption) ?_ | dsimp only | split)

theorem retireShuttle_same {s t : State} (a0 : Nat) (h : Same s t) : Same s (retireShuttle t a0) := by
  unfold retireShuttle
  repeat' with_reducible (first | intro _ | assumption | apply tryMissed_same | apply onShuttle_same | fail_if_no_progress apply same_rec | apply same_ite | refine same_fst (by assumption) ?_ | refine same_snd (by assumption) ?_ | refine same_trd (by assumption) ?_ | dsimp only | split)

theorem rehomeBoundary_same {s t : State} (h : Same s t) : Same s (rehomeBoundary t) := by
  unfold rehomeBoundary
  repeat' with_reducible (first | intro _ | assumption | apply retireShuttle_same | apply postIf_same | apply onAir_same | apply rehomePin_same | fail_if_no_progress apply same_rec | apply same_ite | apply same_foldl | apply same_foldl_fst | apply same_foldl_snd | dsimp only | split)

theorem holdPins_same {s t : State} (h : Same s t) : Same s (holdPins t) := by
  unfold holdPins
  repeat' with_reducible (first | intro _ | assumption | apply onAir_same | apply postIf_same | apply onPin_same | fail_if_no_progress apply same_rec | apply same_ite | apply same_foldl | apply same_foldl_fst | apply same_foldl_snd | refine same_fst (by assumption) ?_ | refine same_snd (by assumption) ?_ | refine same_trd (by assumption) ?_ | dsimp only | split)

theorem hearPins_same {s t : State} (h : Same s t) : Same s (hearPins t) := by
  unfold hearPins
  repeat' with_reducible (first | intro _ | assumption | apply post_same | apply onPin_same | apply onRadio_same | apply onAir_same | fail_if_no_progress apply same_rec | apply same_ite | apply same_foldl | apply same_foldl_fst | apply same_foldl_snd | refine same_fst (by assumption) ?_ | refine same_snd (by assumption) ?_ | refine same_trd (by assumption) ?_ | dsimp only | split)

theorem releasePin_same {s t : State} (a0 : Nat) (h : Same s t) : Same s (releasePin t a0) := by
  unfold releasePin
  repeat' with_reducible (first | intro _ | assumption | apply post_same | apply resetTarget_same | apply onPin_same | fail_if_no_progress apply same_rec | apply same_ite | dsimp only | split)

theorem releaseBoundary_same {s t : State} (h : Same s t) : Same s (releaseBoundary t) := by
  unfold releaseBoundary
  repeat' with_reducible (first | intro _ | assumption | apply releasePin_same | apply onAir_same | fail_if_no_progress apply same_rec | apply same_ite | apply same_foldl | apply same_foldl_fst | apply same_foldl_snd | dsimp only | split)

theorem joinSetting_same {s t : State} (a0 : Nat) (a1 : Nat) (a2 : Bytes) (h : Same s t) : Same s (joinSetting a0 a1 a2 t) := by
  unfold joinSetting
  repeat' with_reducible (first | intro _ | assumption | apply joinRadio_same | apply pinAccepted_same | fail_if_no_progress apply same_rec | apply same_ite | refine same_fst (by assumption) ?_ | refine same_snd (by assumption) ?_ | refine same_trd (by assumption) ?_ | dsimp only | split)

theorem homeFrame_same {s t : State} (a0 : U32) (a1 : Nat) (a2 : Bytes) (h : Same s t) : Same s (homeFrame a0 a1 a2 t) := by
  unfold homeFrame
  repeat' with_reducible (first | intro _ | assumption | apply onAir_same | apply joinSetting_same | fail_if_no_progress apply same_rec | apply same_ite | refine same_fst (by assumption) ?_ | refine same_snd (by assumption) ?_ | refine same_trd (by assumption) ?_ | dsimp only | split)

theorem homeFrames_same {s t : State} (h : Same s t) : Same s (homeFrames t) := by
  unfold homeFrames
  repeat' with_reducible (first | intro _ | assumption | apply homeFrame_same | fail_if_no_progress apply same_rec | apply same_ite | apply same_foldl | apply same_foldl_fst | apply same_foldl_snd | refine same_fst (by assumption) ?_ | refine same_snd (by assumption) ?_ | refine same_trd (by assumption) ?_ | dsimp only | split)

theorem pinFrames_same {s t : State} (a0 : Content) (a1 : Nat × Bytes) (h : Same s t) : Same s (pinFrames a0 t a1) := by
  unfold pinFrames
  repeat' with_reducible (first | intro _ | assumption | apply joinSetting_same | apply same_ite | refine same_fst (by assumption) ?_ | refine same_snd (by assumption) ?_ | refine same_trd (by assumption) ?_ | dsimp only | split)

theorem settingsFrames_same {s t : State} (a0 : Content) (h : Same s t) : Same s (settingsFrames a0 t) := by
  unfold settingsFrames
  repeat' with_reducible (first | intro _ | assumption | apply pinFrames_same | apply onAir_same | fail_if_no_progress apply same_rec | apply same_ite | apply same_foldl | apply same_foldl_fst | apply same_foldl_snd | dsimp only | split)

theorem airSettingsChanged_same {s t : State} (a0 : Bytes) (h : Same s t) : Same s (airSettingsChanged a0 t) := by
  unfold airSettingsChanged
  repeat' with_reducible (first | intro _ | assumption | apply joinSetting_same | apply same_ite | apply same_foldl | apply same_foldl_fst | apply same_foldl_snd | dsimp only | split)

theorem failsafeFrames_same {s t : State} (h : Same s t) : Same s (failsafeFrames t) := by
  unfold failsafeFrames
  repeat' with_reducible (first | intro _ | assumption | apply joinSetting_same | apply same_ite | apply same_foldl | apply same_foldl_fst | apply same_foldl_snd | dsimp only | split)

theorem execAirClearStats_same {s t : State} (h : Same s t) : GoesSame s (execAirClearStats t) := by
  unfold execAirClearStats
  repeat' with_reducible (first | intro _ | assumption | apply goesSame_next | apply onAir_same | fail_if_no_progress apply same_rec | apply same_ite | dsimp only | split)

theorem execCrsClearStats_same {s t : State} (h : Same s t) : GoesSame s (execCrsClearStats t) := by
  unfold execCrsClearStats
  repeat' with_reducible (first | intro _ | assumption | apply goesSame_next | apply onAir_same | apply beaconGap_same | fail_if_no_progress apply same_rec | apply same_ite | dsimp only | split)

theorem airCmd_same (a0 : CmdSpec) (hs : SpecSame a0) : SpecSame (airCmd a0) := by
  constructor <;> (unfold airCmd; repeat' with_reducible (first | intro _ | assumption | apply SpecSame.mk | apply hs.run | apply hs.onAccept | apply hs.onRefuse | exact hs | fail_if_no_progress apply same_rec | apply same_ite | refine same_fst (by assumption) ?_ | refine same_snd (by assumption) ?_ | refine same_trd (by assumption) ?_ | dsimp only | split))

theorem airWrite_same (a0 : Nat) (a1 : Nat) (a2 : Bytes → State → Chk) : SpecSame (airWrite a0 a1 a2) := by
  unfold airWrite
  repeat' with_reducible (first | intro _ | assumption | apply airCmd_same | apply SpecSame.mk | apply settingAccepted_same | apply writeSetting_same | dsimp only)

theorem airProfileSet_same  : SpecSame (airProfileSet ) := by
  unfold airProfileSet
  repeat' with_reducible (first | intro _ | assumption | apply airWrite_same | dsimp only)

theorem execAirProfileSet_same {s t : State} (a0 : CmdStep) (h : Same s t) : GoesSame s (execAirProfileSet a0 t) := goesSame_next (mailboxCommand_same _ _ airProfileSet_same h)

theorem execAirProfileRead_same {s t : State} (a0 : CmdStep) (h : Same s t) : GoesSame s (execAirProfileRead a0 t) := by
  unfold execAirProfileRead
  repeat' with_reducible (first | intro _ | assumption | apply airCmd_same | apply sectionRead_same | apply goesSame_next | apply mailboxCommand_same | dsimp only)

theorem airSet_same  : SpecSame (airSet ) := by
  unfold airSet
  repeat' with_reducible (first | intro _ | assumption | apply airWrite_same | dsimp only)

theorem execAirSet_same {s t : State} (a0 : CmdStep) (h : Same s t) : GoesSame s (execAirSet a0 t) := goesSame_next (mailboxCommand_same _ _ airSet_same h)

theorem execAirRead_same {s t : State} (a0 : CmdStep) (h : Same s t) : GoesSame s (execAirRead a0 t) := by
  unfold execAirRead
  repeat' with_reducible (first | intro _ | assumption | apply airCmd_same | apply sectionRead_same | apply goesSame_next | apply mailboxCommand_same | dsimp only)

theorem airFailsafeSet_same  : SpecSame (airFailsafeSet ) := by
  unfold airFailsafeSet
  repeat' with_reducible (first | intro _ | assumption | apply airWrite_same | dsimp only)

theorem execAirFailsafeSet_same {s t : State} (a0 : CmdStep) (h : Same s t) : GoesSame s (execAirFailsafeSet a0 t) := goesSame_next (mailboxCommand_same _ _ airFailsafeSet_same h)

theorem execAirFailsafeRead_same {s t : State} (a0 : CmdStep) (h : Same s t) : GoesSame s (execAirFailsafeRead a0 t) := by
  unfold execAirFailsafeRead
  repeat' with_reducible (first | intro _ | assumption | apply airCmd_same | apply sectionRead_same | apply goesSame_next | apply mailboxCommand_same | dsimp only)

theorem airPinRelease_same  : SpecSame (airPinRelease ) := by
  unfold airPinRelease
  repeat' with_reducible (first | intro _ | assumption | apply airCmd_same | apply SpecSame.mk | apply onAir_same | apply same_ite | dsimp only | split)

theorem execAirPinRelease_same {s t : State} (a0 : CmdStep) (h : Same s t) : GoesSame s (execAirPinRelease a0 t) := goesSame_next (mailboxCommand_same _ _ airPinRelease_same h)

theorem airPinState_same  : SpecSame (airPinState ) := by
  unfold airPinState
  repeat' with_reducible (first | intro _ | assumption | apply airCmd_same | apply SpecSame.mk | dsimp only)

theorem execAirPinState_same {s t : State} (a0 : CmdStep) (h : Same s t) : GoesSame s (execAirPinState a0 t) := goesSame_next (mailboxCommand_same _ _ airPinState_same h)

theorem airWake_same  : SpecSame (airWake ) := by
  unfold airWake
  repeat' with_reducible (first | intro _ | assumption | apply airCmd_same | apply SpecSame.mk | apply requestPicot_same | dsimp only)

theorem execAirWake_same {s t : State} (a0 : CmdStep) (h : Same s t) : GoesSame s (execAirWake a0 t) := goesSame_next (mailboxCommand_same _ _ airWake_same h)

theorem airImageBegin_same  : SpecSame (airImageBegin ) := by
  unfold airImageBegin
  repeat' with_reducible (first | intro _ | assumption | apply airCmd_same | apply SpecSame.mk | apply onAir_same | apply effectNow_same | dsimp only)

theorem execAirImageBegin_same {s t : State} (a0 : CmdStep) (h : Same s t) : GoesSame s (execAirImageBegin a0 t) := goesSame_next (mailboxCommand_same _ _ airImageBegin_same h)

theorem airImageData_same  : SpecSame (airImageData ) := by
  unfold airImageData
  repeat' with_reducible (first | intro _ | assumption | apply airCmd_same | apply SpecSame.mk | apply onAir_same | apply effectNow_same | refine same_fst (by assumption) ?_ | dsimp only | split)

theorem execAirImageData_same {s t : State} (a0 : CmdStep) (h : Same s t) : GoesSame s (execAirImageData a0 t) := goesSame_next (mailboxCommand_same _ _ airImageData_same h)

theorem airImageStart_same  : SpecSame (airImageStart ) := by
  unfold airImageStart
  repeat' with_reducible (first | intro _ | assumption | apply airCmd_same | apply SpecSame.mk | apply onAir_same | apply postTask_same | apply requestPicot_same | apply same_ite | apply same_foldl | apply same_foldl_fst | apply same_foldl_snd | dsimp only | split)

theorem execAirImageStart_same {s t : State} (a0 : CmdStep) (h : Same s t) : GoesSame s (execAirImageStart a0 t) := goesSame_next (mailboxCommand_same _ _ airImageStart_same h)

theorem execRaptorqEncoding_same {s t : State} (a0 : Nat) (h : Same s t) : GoesSame s (execRaptorqEncoding a0 t) := by
  unfold execRaptorqEncoding
  repeat' with_reducible (first | intro _ | assumption | apply goesSame_next | apply onAir_same | apply freeTask_same | fail_if_no_progress apply same_rec | apply same_ite | dsimp only | split)

theorem airImageActivate_same  : SpecSame (airImageActivate ) := by
  unfold airImageActivate
  repeat' with_reducible (first | intro _ | assumption | apply airCmd_same | apply SpecSame.mk | apply onAir_same | dsimp only)

theorem execAirImageActivate_same {s t : State} (a0 : CmdStep) (h : Same s t) : GoesSame s (execAirImageActivate a0 t) := goesSame_next (mailboxCommand_same _ _ airImageActivate_same h)

theorem endSession_same {s t : State} (h : Same s t) : Same s (endSession t) := by
  unfold endSession
  repeat' with_reducible (first | intro _ | assumption | apply onAir_same | fail_if_no_progress apply same_rec | apply same_ite | refine same_fst (by assumption) ?_ | refine same_snd (by assumption) ?_ | refine same_trd (by assumption) ?_ | dsimp only | split)

theorem airImageStop_same  : SpecSame (airImageStop ) := by
  unfold airImageStop
  repeat' with_reducible (first | intro _ | assumption | apply airCmd_same | apply SpecSame.mk | apply endSession_same | dsimp only)

theorem execAirImageStop_same {s t : State} (a0 : CmdStep) (h : Same s t) : GoesSame s (execAirImageStop a0 t) := goesSame_next (mailboxCommand_same _ _ airImageStop_same h)

theorem airImageStatus_same  : SpecSame (airImageStatus ) := by
  unfold airImageStatus
  repeat' with_reducible (first | intro _ | assumption | apply airCmd_same | apply SpecSame.mk | dsimp only | split)

theorem execAirImageStatus_same {s t : State} (a0 : CmdStep) (h : Same s t) : GoesSame s (execAirImageStatus a0 t) := goesSame_next (mailboxCommand_same _ _ airImageStatus_same h)

theorem execImagePicotTimer_same {s t : State} (h : Same s t) : GoesSame s (execImagePicotTimer t) := by
  unfold execImagePicotTimer
  repeat' with_reducible (first | intro _ | assumption | apply goesSame_next | apply requestPicot_same | apply onAir_same | fail_if_no_progress apply same_rec | apply same_ite | dsimp only | split)

theorem activationBoundary_same {s t : State} (h : Same s t) : Same s (activationBoundary t) := by
  unfold activationBoundary
  repeat' with_reducible (first | intro _ | assumption | apply onAir_same | fail_if_no_progress apply same_rec | apply same_ite | refine same_fst (by assumption) ?_ | refine same_snd (by assumption) ?_ | refine same_trd (by assumption) ?_ | dsimp only | split)

end Sys2Proof.Machine
end

