-- ==== Sys2Proof/Laws/SameSecurity.lean ====
section
/-! SUPPORT. Sessions, rights and keys: what each operation and command leaves of the queue and the memory. -/

set_option linter.all false

namespace Sys2Proof.Machine

theorem onMbx_same {s t : State} (a0 : Mailboxes → Mailboxes) (h : Same s t) : Same s (onMbx a0 t) := by
  unfold onMbx
  repeat' with_reducible (first | intro _ | assumption | fail_if_no_progress apply same_rec | apply same_ite | dsimp only | split)

theorem onSec_same {s t : State} (a0 : Security → Security) (h : Same s t) : Same s (onSec a0 t) := by
  unfold onSec
  repeat' with_reducible (first | intro _ | assumption | fail_if_no_progress apply same_rec | apply same_ite | dsimp only | split)

theorem execTlsSessionOpen_same {s t : State} (a0 : Bytes) (h : Same s t) : GoesSame s (execTlsSessionOpen a0 t) := by
  unfold execTlsSessionOpen
  repeat' with_reducible (first | intro _ | assumption | apply goesSame_next | apply post_same | apply onMbx_same | apply dropSession_same | apply openSession_same | fail_if_no_progress apply same_rec | apply same_ite | dsimp only | split)

theorem execSessionClose_same {s t : State} (a0 : Nat) (h : Same s t) : GoesSame s (execSessionClose a0 t) := by
  unfold execSessionClose
  repeat' with_reducible (first | intro _ | assumption | apply goesSame_next | apply dropSession_same | apply same_ite | dsimp only | split)

theorem execUsbPartialTimeout_same {s t : State} (h : Same s t) : GoesSame s (execUsbPartialTimeout t) := by
  unfold execUsbPartialTimeout
  repeat' with_reducible (first | intro _ | assumption | apply goesSame_next | apply same_ite | dsimp only | split)

theorem execLoginBlockEnd_same {s t : State} (h : Same s t) : GoesSame s (execLoginBlockEnd t) := by
  unfold execLoginBlockEnd
  repeat' with_reducible (first | intro _ | assumption | apply goesSame_next | apply onMbx_same | fail_if_no_progress apply same_rec | apply same_ite | refine same_fst (by assumption) ?_ | refine same_snd (by assumption) ?_ | refine same_trd (by assumption) ?_ | dsimp only | split)

theorem answerNow_same {s t : State} (a0 : Nat) (a1 : Message) (a2 : Nat) (a3 : Bytes) (h : Same s t) : Same s (answerNow a0 a1 a2 a3 t) := by
  unfold answerNow
  repeat' with_reducible (first | intro _ | assumption | apply send_same | apply same_ite | dsimp only | split)

theorem immediate_same {s t : State} (a0 : Nat) (a1 : Nat) (a2 : Message → State → State) (a3 : Request) (ha2 : ∀ n u, Same s u → Same s (a2 n u)) (h : Same s t) : Same s (immediate a0 a1 a2 a3 t) := by
  unfold immediate
  repeat' with_reducible (first | intro _ | assumption | apply ha2 | apply onBox_same | apply post_same | apply dropSession_same | apply refuseRequest_same | fail_if_no_progress apply same_rec | apply same_ite | dsimp only | split)

theorem giveNonce_same {s t : State} (a0 : Message) (h : Same s t) : Same s (giveNonce a0 t) := by
  unfold giveNonce
  repeat' with_reducible (first | intro _ | assumption | apply drawFree_same | apply answerNow_same | apply onMbx_same | fail_if_no_progress apply same_rec | apply same_ite | refine same_fst (by assumption) ?_ | refine same_snd (by assumption) ?_ | refine same_trd (by assumption) ?_ | dsimp only | split)

theorem execSecNonce_same {s t : State} (a0 : CmdStep) (h : Same s t) : GoesSame s (execSecNonce a0 t) := by
  unfold execSecNonce
  repeat' with_reducible (first | intro _ | assumption | apply goesSame_next | apply immediate_same | apply giveNonce_same | fail_if_no_progress apply same_rec | apply same_ite | dsimp only | split)

theorem loginFailed_same {s t : State} (a0 : Message) (h : Same s t) : Same s (loginFailed a0 t) := by
  unfold loginFailed
  repeat' with_reducible (first | intro _ | assumption | apply onMbx_same | apply answerNow_same | apply post_same | fail_if_no_progress apply same_rec | apply same_ite | refine same_fst (by assumption) ?_ | refine same_snd (by assumption) ?_ | refine same_trd (by assumption) ?_ | dsimp only | split)

theorem login_same {s t : State} (a0 : Message) (h : Same s t) : Same s (login a0 t) := by
  unfold login
  repeat' with_reducible (first | intro _ | assumption | apply onMbx_same | apply answerNow_same | apply openSession_same | apply loginFailed_same | fail_if_no_progress apply same_rec | apply same_ite | dsimp only | split)

theorem execSecLogin_same {s t : State} (a0 : CmdStep) (h : Same s t) : GoesSame s (execSecLogin a0 t) := by
  unfold execSecLogin
  repeat' with_reducible (first | intro _ | assumption | apply goesSame_next | apply immediate_same | apply login_same | fail_if_no_progress apply same_rec | apply same_ite | dsimp only | split)

theorem secWhoami_same  : SpecSame (secWhoami ) := by
  constructor <;> (unfold secWhoami; repeat' with_reducible (first | intro _ | assumption | apply SpecSame.mk | apply same_ite | refine same_fst (by assumption) ?_ | refine same_snd (by assumption) ?_ | refine same_trd (by assumption) ?_ | dsimp only | split))

theorem execSecWhoami_same {s t : State} (a0 : CmdStep) (h : Same s t) : GoesSame s (execSecWhoami a0 t) := goesSame_next (mailboxCommand_same _ _ secWhoami_same h)

theorem secStatus_same  : SpecSame (secStatus ) := by
  constructor <;> (unfold secStatus; repeat' with_reducible (first | intro _ | assumption | apply SpecSame.mk | apply same_ite | refine same_fst (by assumption) ?_ | refine same_snd (by assumption) ?_ | refine same_trd (by assumption) ?_ | dsimp only | split))

theorem execSecStatus_same {s t : State} (a0 : CmdStep) (h : Same s t) : GoesSame s (execSecStatus a0 t) := goesSame_next (mailboxCommand_same _ _ secStatus_same h)

theorem secProtRead_same  : SpecSame (secProtRead ) := by
  constructor <;> (unfold secProtRead; repeat' with_reducible (first | intro _ | assumption | apply SpecSame.mk | apply same_ite | refine same_fst (by assumption) ?_ | refine same_snd (by assumption) ?_ | refine same_trd (by assumption) ?_ | dsimp only | split))

theorem execSecProtRead_same {s t : State} (a0 : CmdStep) (h : Same s t) : GoesSame s (execSecProtRead a0 t) := goesSame_next (mailboxCommand_same _ _ secProtRead_same h)

theorem secProtWrite_same  : SpecSame (secProtWrite ) := by
  constructor <;> (unfold secProtWrite; repeat' with_reducible (first | intro _ | assumption | apply SpecSame.mk | apply onSec_same | fail_if_no_progress apply same_rec | apply same_ite | refine same_fst (by assumption) ?_ | refine same_snd (by assumption) ?_ | refine same_trd (by assumption) ?_ | dsimp only | split))

theorem execSecProtWrite_same {s t : State} (a0 : CmdStep) (h : Same s t) : GoesSame s (execSecProtWrite a0 t) := goesSame_next (mailboxCommand_same _ _ secProtWrite_same h)

theorem protCommitted_same {s t : State} (a0 : Nat) (a1 : Bytes) (h : Same s t) : Same s (protCommitted a0 a1 t) := by
  unfold protCommitted
  repeat' with_reducible (first | intro _ | assumption | apply onSec_same | apply dropSession_same | apply post_same | fail_if_no_progress apply same_rec | apply same_ite | apply same_foldl | apply same_foldl_fst | apply same_foldl_snd | refine same_fst (by assumption) ?_ | refine same_snd (by assumption) ?_ | refine same_trd (by assumption) ?_ | dsimp only | split)

theorem secRevoke_same  : SpecSame (secRevoke ) := by
  constructor <;> (unfold secRevoke; repeat' with_reducible (first | intro _ | assumption | apply SpecSame.mk | apply same_ite | refine same_fst (by assumption) ?_ | refine same_snd (by assumption) ?_ | refine same_trd (by assumption) ?_ | dsimp only | split))

theorem execSecRevoke_same {s t : State} (a0 : CmdStep) (h : Same s t) : GoesSame s (execSecRevoke a0 t) := goesSame_next (mailboxCommand_same _ _ secRevoke_same h)

theorem refuseCancels_same {s t : State} (a0 : Bytes) (h : Same s t) : Same s (refuseCancels a0 t) := by
  unfold refuseCancels
  repeat' with_reducible (first | intro _ | assumption | apply onList_same | fail_if_no_progress apply same_rec | apply same_ite | apply same_foldl | apply same_foldl_fst | apply same_foldl_snd | dsimp only | split)

theorem undoAccept_same {s t : State} (a0 : Cmd) (h : Same s t) : Same s (undoAccept a0 t) := by
  unfold undoAccept
  repeat' with_reducible (first | intro _ | assumption | apply dropSetting_same | fail_if_no_progress apply same_rec | apply same_ite | apply same_elim | refine same_fst (by assumption) ?_ | refine same_snd (by assumption) ?_ | refine same_trd (by assumption) ?_ | dsimp only | split)

theorem revokeOne_same {s t : State} (a0 : Cmd) (h : Same s t) : Same s (revokeOne a0 t) := by
  unfold revokeOne
  repeat' with_reducible (first | intro _ | assumption | apply undoAccept_same | apply completeWith_same | fail_if_no_progress apply same_rec | apply same_ite | dsimp only | split)

theorem sealCommand_same {s t : State} (a0 : Cmd) (a1 : Nat) (h : Same s t) : Same s (sealCommand a0 a1 t) := by
  unfold sealCommand
  repeat' with_reducible (first | intro _ | assumption | apply completeWith_same | apply revokeOne_same | apply refuseCancels_same | apply same_ite | apply same_foldl | apply same_foldl_fst | apply same_foldl_snd | dsimp only | split)

theorem sealEntries_same {s t : State} (a0 : List JEntry) (a1 : Nat) (h : Same s t) : Same s (sealEntries a0 a1 t) := by
  induction a0 generalizing t a1 with
  | nil => exact h
  | cons e l ih =>
    unfold sealEntries
    repeat' with_reducible (first | with_reducible apply ih | intro _ | assumption | apply sealCommand_same | fail_if_no_progress apply same_rec | apply same_ite | apply same_foldl | apply same_foldl_fst | apply same_foldl_snd | apply same_elim | dsimp only | split)

theorem sealWork_same {s t : State} (h : Same s t) : Same s (sealWork t) := by
  unfold sealWork
  repeat' with_reducible (first | intro _ | assumption | apply sealEntries_same | fail_if_no_progress apply same_rec | apply same_ite | dsimp only | split)

theorem sealedEffect_same {s t : State} (a0 : Cmd) (h : Same s t) : Same s (sealedEffect a0 t) := by
  unfold sealedEffect
  repeat' with_reducible (first | intro _ | assumption | apply protCommitted_same | apply post_same | apply presenceCommitted_same | apply same_ite | dsimp only | split)

theorem secMaintSet_same  : SpecSame (secMaintSet ) := by
  constructor <;> (unfold secMaintSet; repeat' with_reducible (first | intro _ | assumption | apply SpecSame.mk | apply onMbx_same | apply postIf_same | apply post_same | fail_if_no_progress apply same_rec | apply same_ite | refine same_fst (by assumption) ?_ | refine same_snd (by assumption) ?_ | refine same_trd (by assumption) ?_ | dsimp only | split))

theorem execSecMaintSet_same {s t : State} (a0 : CmdStep) (h : Same s t) : GoesSame s (execSecMaintSet a0 t) := goesSame_next (mailboxCommand_same _ _ secMaintSet_same h)

theorem execMaintExpire_same {s t : State} (h : Same s t) : GoesSame s (execMaintExpire t) := by
  unfold execMaintExpire
  repeat' with_reducible (first | intro _ | assumption | apply goesSame_next | apply post_same | apply onMbx_same | fail_if_no_progress apply same_rec | apply same_ite | dsimp only | split)

theorem secKeyWrite_same  : SpecSame (secKeyWrite ) := by
  constructor <;> (unfold secKeyWrite; repeat' with_reducible (first | intro _ | assumption | apply SpecSame.mk | apply dueChange_same | apply same_ite | refine same_fst (by assumption) ?_ | refine same_snd (by assumption) ?_ | refine same_trd (by assumption) ?_ | dsimp only | split))

theorem execSecKeyWrite_same {s t : State} (a0 : CmdStep) (h : Same s t) : GoesSame s (execSecKeyWrite a0 t) := goesSame_next (mailboxCommand_same _ _ secKeyWrite_same h)

theorem secKeyClear_same  : SpecSame (secKeyClear ) := by
  constructor <;> (unfold secKeyClear; repeat' with_reducible (first | intro _ | assumption | apply SpecSame.mk | apply dueChange_same | apply same_ite | refine same_fst (by assumption) ?_ | refine same_snd (by assumption) ?_ | refine same_trd (by assumption) ?_ | dsimp only | split))

theorem execSecKeyClear_same {s t : State} (a0 : CmdStep) (h : Same s t) : GoesSame s (execSecKeyClear a0 t) := goesSame_next (mailboxCommand_same _ _ secKeyClear_same h)

theorem resetCounters_same {s t : State} (a0 : Nat) (h : Same s t) : Same s (resetCounters a0 t) := by
  unfold resetCounters
  repeat' with_reducible (first | intro _ | assumption | fail_if_no_progress apply same_rec | apply same_ite | refine same_fst (by assumption) ?_ | refine same_snd (by assumption) ?_ | refine same_trd (by assumption) ?_ | dsimp only | split)

theorem keyTo_same {s t : State} (a0 : Nat) (a1 : Option Bytes) (a2 : Bytes) (h : Same s t) : Same s (keyTo a0 a1 a2 t) := by
  unfold keyTo
  repeat' with_reducible (first | intro _ | assumption | apply onSec_same | apply resetCounters_same | apply post_same | fail_if_no_progress apply same_rec | apply same_ite | dsimp only | split)

theorem secKeyStatus_same  : SpecSame (secKeyStatus ) := by
  constructor <;> (unfold secKeyStatus; repeat' with_reducible (first | intro _ | assumption | apply SpecSame.mk | apply same_ite | refine same_fst (by assumption) ?_ | refine same_snd (by assumption) ?_ | refine same_trd (by assumption) ?_ | dsimp only | split))

theorem execSecKeyStatus_same {s t : State} (a0 : CmdStep) (h : Same s t) : GoesSame s (execSecKeyStatus a0 t) := goesSame_next (mailboxCommand_same _ _ secKeyStatus_same h)

theorem secCertSet_same  : SpecSame (secCertSet ) := by
  constructor <;> (unfold secCertSet; repeat' with_reducible (first | intro _ | assumption | apply SpecSame.mk | apply onSec_same | fail_if_no_progress apply same_rec | apply same_ite | refine same_fst (by assumption) ?_ | refine same_snd (by assumption) ?_ | refine same_trd (by assumption) ?_ | dsimp only | split))

theorem execSecCertSet_same {s t : State} (a0 : CmdStep) (h : Same s t) : GoesSame s (execSecCertSet a0 t) := goesSame_next (mailboxCommand_same _ _ secCertSet_same h)

theorem secCsrRead_same  : SpecSame (secCsrRead ) := by
  constructor <;> (unfold secCsrRead; repeat' with_reducible (first | intro _ | assumption | apply SpecSame.mk | apply same_ite | refine same_fst (by assumption) ?_ | refine same_snd (by assumption) ?_ | refine same_trd (by assumption) ?_ | dsimp only | split))

theorem execSecCsrRead_same {s t : State} (a0 : CmdStep) (h : Same s t) : GoesSame s (execSecCsrRead a0 t) := goesSame_next (mailboxCommand_same _ _ secCsrRead_same h)

end Sys2Proof.Machine
end

