-- ==== Sys2Proof/Laws/SameMeter.lean ====
section
/-! SUPPORT. Metering and protection: what each operation and command leaves of the queue and the memory. -/

set_option linter.all false

namespace Sys2Proof.Machine

theorem onMet_same {s t : State} (a0 : Met → Met) (h : Same s t) : Same s (onMet a0 t) := by
  unfold onMet
  repeat' with_reducible (first | intro _ | assumption | fail_if_no_progress apply same_rec | apply same_ite | dsimp only | split)

theorem onHarness_same {s t : State} (a0 : Nat) (a1 : Harness → Harness) (h : Same s t) : Same s (onHarness a0 a1 t) := by
  unfold onHarness
  repeat' with_reducible (first | intro _ | assumption | apply onMet_same | fail_if_no_progress apply same_rec | apply same_ite | dsimp only | split)

theorem onFeeder_same {s t : State} (a0 : Nat) (a1 : Feeder → Feeder) (h : Same s t) : Same s (onFeeder a0 a1 t) := by
  unfold onFeeder
  repeat' with_reducible (first | intro _ | assumption | apply onMet_same | fail_if_no_progress apply same_rec | apply same_ite | dsimp only | split)

theorem onSet_same {s t : State} (a0 : Nat) (a1 : VoltSet → VoltSet) (h : Same s t) : Same s (onSet a0 a1 t) := by
  unfold onSet
  repeat' with_reducible (first | intro _ | assumption | apply onMet_same | fail_if_no_progress apply same_rec | apply same_ite | dsimp only | split)

theorem onOutput_same {s t : State} (a0 : Nat) (a1 : Contactor → Contactor) (h : Same s t) : Same s (onOutput a0 a1 t) := by
  unfold onOutput
  repeat' with_reducible (first | intro _ | assumption | apply onMet_same | fail_if_no_progress apply same_rec | apply same_ite | dsimp only | split)

theorem onDfc_same {s t : State} (a0 : Nat) (a1 : Dfc → Dfc) (h : Same s t) : Same s (onDfc a0 a1 t) := by
  unfold onDfc
  repeat' with_reducible (first | intro _ | assumption | apply onMet_same | fail_if_no_progress apply same_rec | apply same_ite | dsimp only | split)

theorem noteFlags_same {s t : State} (h : Same s t) : Same s (noteFlags t) := by
  unfold noteFlags
  repeat' with_reducible (first | intro _ | assumption | apply onMet_same | fail_if_no_progress apply same_rec | apply same_ite | dsimp only | split)

theorem modeTo_same {s t : State} (a0 : MetMode) (h : Same s t) : Same s (modeTo a0 t) := by
  unfold modeTo
  repeat' with_reducible (first | intro _ | assumption | apply onMet_same | apply noteFlags_same | apply post_same | fail_if_no_progress apply same_rec | apply same_ite | dsimp only | split)

theorem checkStartUp_same {s t : State} (h : Same s t) : Same s (checkStartUp t) := by
  unfold checkStartUp
  repeat' with_reducible (first | intro _ | assumption | apply modeTo_same | apply same_ite | dsimp only | split)

theorem execTestModeExpire_same {s t : State} (h : Same s t) : GoesSame s (execTestModeExpire t) := by
  unfold execTestModeExpire
  repeat' with_reducible (first | intro _ | assumption | apply goesSame_next | apply modeTo_same | apply same_ite | dsimp only | split)

theorem execRecoveryExpire_same {s t : State} (h : Same s t) : GoesSame s (execRecoveryExpire t) := by
  unfold execRecoveryExpire
  repeat' with_reducible (first | intro _ | assumption | apply goesSame_next | apply modeTo_same | apply onMet_same | fail_if_no_progress apply same_rec | apply same_ite | dsimp only | split)

theorem openSpan_same {s t : State} (a0 : Nat) (a1 : Nat) (a2 : Nat) (a3 : Nat) (h : Same s t) : Same s (openSpan a0 a1 a2 a3 t) := by
  unfold openSpan
  repeat' with_reducible (first | intro _ | assumption | apply onMet_same | fail_if_no_progress apply same_rec | apply same_ite | refine same_fst (by assumption) ?_ | refine same_snd (by assumption) ?_ | refine same_trd (by assumption) ?_ | dsimp only | split)

theorem closeSpan_same {s t : State} (a0 : Span) (a1 : Nat) (a2 : Nat) (a3 : Bool) (h : Same s t) : Same s (closeSpan a0 a1 a2 a3 t) := by
  unfold closeSpan
  repeat' with_reducible (first | intro _ | assumption | apply onMet_same | apply onFeeder_same | fail_if_no_progress apply same_rec | apply same_ite | refine same_fst (by assumption) ?_ | refine same_snd (by assumption) ?_ | refine same_trd (by assumption) ?_ | dsimp only | split)

theorem registerFeeder_same {s t : State} (a0 : Nat) (a1 : List PhaseEnergy) (h : Same s t) : Same s (registerFeeder a0 a1 t) := by
  unfold registerFeeder
  repeat' with_reducible (first | intro _ | assumption | apply onFeeder_same | apply onMet_same | fail_if_no_progress apply same_rec | apply same_ite | refine same_fst (by assumption) ?_ | refine same_snd (by assumption) ?_ | refine same_trd (by assumption) ?_ | dsimp only | split)

theorem spanBlock_same {s t : State} (a0 : Nat) (a1 : Nat) (h : Same s t) : Same s (spanBlock a0 a1 t) := by
  unfold spanBlock
  repeat' with_reducible (first | intro _ | assumption | apply closeSpan_same | apply openSpan_same | apply same_ite | apply same_foldl | apply same_foldl_fst | apply same_foldl_snd | dsimp only | split)

theorem dfcBlock_same {s t : State} (a0 : Nat) (a1 : List Feeder) (a2 : List (List PhaseEnergy)) (a3 : Nat) (h : Same s t) : Same s (dfcBlock a0 a1 a2 t a3) := by
  unfold dfcBlock
  repeat' with_reducible (first | intro _ | assumption | apply onDfc_same | fail_if_no_progress apply same_rec | apply same_ite | refine same_fst (by assumption) ?_ | refine same_snd (by assumption) ?_ | refine same_trd (by assumption) ?_ | dsimp only | split)

theorem execDfcPulseEnd_same {s t : State} (a0 : Nat) (h : Same s t) : GoesSame s (execDfcPulseEnd a0 t) := by
  unfold execDfcPulseEnd
  repeat' with_reducible (first | intro _ | assumption | apply goesSame_next | apply onDfc_same | fail_if_no_progress apply same_rec | apply same_ite | refine same_fst (by assumption) ?_ | refine same_snd (by assumption) ?_ | refine same_trd (by assumption) ?_ | dsimp only | split)

theorem decimateBlock_same {s t : State} (a0 : Nat) (a1 : List (List Bool)) (h : Same s t) : Same s (decimateBlock a0 a1 t).2 := by
  unfold decimateBlock
  repeat' with_reducible (first | intro _ | assumption | apply onMet_same | fail_if_no_progress apply same_rec | apply same_ite | refine same_fst (by assumption) ?_ | refine same_snd (by assumption) ?_ | refine same_trd (by assumption) ?_ | dsimp only | split)

theorem blockArrives_same {s t : State} (a0 : Nat) (a1 : List (List Int)) (h : Same s t) : Same s (blockArrives a0 a1 t) := by
  unfold blockArrives
  repeat' with_reducible (first | intro _ | assumption | apply onSkein_same | apply onMet_same | apply postTask_same | fail_if_no_progress apply same_rec | apply same_ite | refine same_fst (by assumption) ?_ | refine same_snd (by assumption) ?_ | refine same_trd (by assumption) ?_ | dsimp only | split)

theorem meterDispatch_same {s t : State} (a0 : Nat) (h : Same s t) : Same s (meterDispatch a0 t) := by
  unfold meterDispatch
  repeat' with_reducible (first | intro _ | assumption | apply startOn_same | apply same_ite | apply same_elim | dsimp only | split)

theorem registerBlock_same {s t : State} (a0 : MeterBlock) (h : Same s t) : Same s (registerBlock a0 t) := by
  unfold registerBlock
  repeat' with_reducible (first | intro _ | assumption | apply drawFree_same | apply onMet_same | apply spanBlock_same | apply registerFeeder_same | apply dfcBlock_same | apply noteFlags_same | fail_if_no_progress apply same_rec | apply same_ite | apply same_foldl | apply same_foldl_fst | apply same_foldl_snd | refine same_fst (by assumption) ?_ | refine same_snd (by assumption) ?_ | refine same_trd (by assumption) ?_ | dsimp only | split)

theorem runBlock_same {s t : State} (a0 : Nat) (h : Same s t) : Same s (runBlock a0 t) := by
  unfold runBlock
  repeat' with_reducible (first | intro _ | assumption | apply meterDispatch_same | apply freeTask_same | apply registerBlock_same | apply dropPacket_same | apply onMet_same | fail_if_no_progress apply same_rec | apply same_ite | dsimp only | split)

theorem dropBlock_same {s t : State} (a0 : Nat) (h : Same s t) : Same s (dropBlock a0 t) := by
  unfold dropBlock
  repeat' with_reducible (first | intro _ | assumption | apply openSpan_same | apply onHarness_same | apply onMet_same | fail_if_no_progress apply same_rec | apply same_ite | apply same_foldl | apply same_foldl_fst | apply same_foldl_snd | dsimp only | split)

theorem endDrops_same {s t : State} (a0 : Nat) (h : Same s t) : Same s (endDrops a0 t) := by
  unfold endDrops
  repeat' with_reducible (first | intro _ | assumption | apply onHarness_same | apply post_same | fail_if_no_progress apply same_rec | apply same_ite | dsimp only | split)

theorem meterBlock_same {s t : State} (a0 : Nat) (a1 : List (List Bool)) (h : Same s t) : Same s (meterBlock a0 a1 t) := by
  unfold meterBlock
  repeat' with_reducible (first | intro _ | assumption | apply decimateBlock_same | apply dropBlock_same | apply blockArrives_same | apply endDrops_same | apply runBlock_same | apply same_ite | apply same_foldl | apply same_foldl_fst | apply same_foldl_snd | refine same_fst (by assumption) ?_ | refine same_snd (by assumption) ?_ | refine same_trd (by assumption) ?_ | dsimp only | split)

theorem blockBefore_same {s t : State} (a0 : Nat) (a1 : List (List Bool)) (h : Same s t) : Same s (blockBefore a0 a1 t) := by
  unfold blockBefore
  exact same_ite h (meterBlock_same a0 a1 h)

theorem execMeteringBlock_same {s t : State} (a0 : Nat) (a1 : List (List Bool)) (h : Same s t) : GoesSame s (execMeteringBlock a0 a1 t) :=
  goesSame_next (meterBlock_same a0 a1 h)

theorem execDecOverrun_same {s t : State} (a0 : Nat) (a1 : Bool) (h : Same s t) : GoesSame s (execDecOverrun a0 a1 t) := by
  unfold execDecOverrun
  repeat' with_reducible (first | intro _ | assumption | apply goesSame_next | apply dropBlock_same | apply endDrops_same | apply same_ite | dsimp only | split)

theorem closeWindow_same {s t : State} (a0 : Nat) (a1 : Nat) (a2 : Option Rat) (a3 : List Rat) (a4 : VoltSet) (h : Same s t) : Same s (closeWindow a0 a1 a2 a3 a4 t) := by
  unfold closeWindow
  repeat' with_reducible (first | intro _ | assumption | apply drawFree_same | apply onFeeder_same | apply onMet_same | fail_if_no_progress apply same_rec | apply same_ite | apply same_foldl | apply same_foldl_fst | apply same_foldl_snd | refine same_fst (by assumption) ?_ | refine same_snd (by assumption) ?_ | refine same_trd (by assumption) ?_ | dsimp only | split)

theorem execMeasurementWindowClose_same {s t : State} (a0 : Nat) (a1 : List (List Bool)) (h : Same s t) : GoesSame s (execMeasurementWindowClose a0 a1 t) := by
  have hb := blockBefore_same a0 a1 h
  unfold execMeasurementWindowClose
  generalize blockBefore a0 a1 t = u at hb ⊢
  repeat' with_reducible (first | intro _ | assumption | apply goesSame_next | apply closeWindow_same | apply onSet_same | fail_if_no_progress apply same_rec | apply same_ite | refine same_fst (by assumption) ?_ | refine same_snd (by assumption) ?_ | refine same_trd (by assumption) ?_ | dsimp only | split)

theorem execFreqOut_same {s t : State} (a0 : Nat) (a1 : Bool) (h : Same s t) : GoesSame s (execFreqOut a0 a1 t) := by
  unfold execFreqOut
  repeat' with_reducible (first | intro _ | assumption | apply goesSame_next | apply noteFlags_same | apply post_same | apply onSet_same | fail_if_no_progress apply same_rec | apply same_ite | dsimp only | split)

theorem execChanFault_same {s t : State} (a0 : Nat) (h : Same s t) : GoesSame s (execChanFault a0 t) := by
  unfold execChanFault
  repeat' with_reducible (first | intro _ | assumption | apply goesSame_next | apply post_same | apply onMet_same | fail_if_no_progress apply same_rec | apply same_ite | dsimp only | split)

theorem execChanOk_same {s t : State} (a0 : Nat) (h : Same s t) : GoesSame s (execChanOk a0 t) := by
  unfold execChanOk
  repeat' with_reducible (first | intro _ | assumption | apply goesSame_next | apply post_same | apply onMet_same | fail_if_no_progress apply same_rec | apply same_ite | dsimp only | split)

theorem harnessTo_same {s t : State} (a0 : Nat) (a1 : HarnessState) (h : Same s t) : Same s (harnessTo a0 a1 t) := by
  unfold harnessTo
  repeat' with_reducible (first | intro _ | assumption | apply onHarness_same | fail_if_no_progress apply same_rec | apply same_ite | refine same_fst (by assumption) ?_ | refine same_snd (by assumption) ?_ | refine same_trd (by assumption) ?_ | dsimp only | split)

theorem leaveRun_same {s t : State} (a0 : Nat) (a1 : Nat) (h : Same s t) : Same s (leaveRun a0 a1 t) := by
  unfold leaveRun
  repeat' with_reducible (first | intro _ | assumption | apply post_same | apply onHarness_same | apply openSpan_same | apply onFeeder_same | apply postIf_same | apply onMet_same | fail_if_no_progress apply same_rec | apply same_ite | apply same_foldl | apply same_foldl_fst | apply same_foldl_snd | refine same_fst (by assumption) ?_ | refine same_snd (by assumption) ?_ | refine same_trd (by assumption) ?_ | dsimp only | split)

theorem execHarnessInserted_same {s t : State} (a0 : Nat) (h : Same s t) : GoesSame s (execHarnessInserted a0 t) := by
  unfold execHarnessInserted
  repeat' with_reducible (first | intro _ | assumption | apply goesSame_next | apply onHarness_same | apply harnessTo_same | fail_if_no_progress apply same_rec | apply same_ite | dsimp only | split)

theorem execHarnessPowered_same {s t : State} (a0 : Nat) (h : Same s t) : GoesSame s (execHarnessPowered a0 t) := by
  unfold execHarnessPowered
  repeat' with_reducible (first | intro _ | assumption | apply goesSame_next | apply harnessTo_same | apply same_ite | dsimp only | split)

theorem execHarnessSettled_same {s t : State} (a0 : Nat) (h : Same s t) : GoesSame s (execHarnessSettled a0 t) := by
  unfold execHarnessSettled
  repeat' with_reducible (first | intro _ | assumption | apply goesSame_next | apply onHarness_same | apply harnessTo_same | apply checkStartUp_same | apply postIf_same | apply post_same | fail_if_no_progress apply same_rec | apply same_ite | dsimp only | split)

theorem execHarnessRemoved_same {s t : State} (a0 : Nat) (h : Same s t) : GoesSame s (execHarnessRemoved a0 t) := by
  unfold execHarnessRemoved
  repeat' with_reducible (first | intro _ | assumption | apply goesSame_next | apply leaveRun_same | apply checkStartUp_same | apply post_same | apply onHarness_same | apply harnessTo_same | fail_if_no_progress apply same_rec | apply same_ite | refine same_fst (by assumption) ?_ | refine same_snd (by assumption) ?_ | refine same_trd (by assumption) ?_ | dsimp only | split)

theorem execHarnessUnexpected_same {s t : State} (a0 : Nat) (h : Same s t) : GoesSame s (execHarnessUnexpected a0 t) := by
  unfold execHarnessUnexpected
  repeat' with_reducible (first | intro _ | assumption | apply goesSame_next | apply onHarness_same | apply postIf_same | fail_if_no_progress apply same_rec | apply same_ite | refine same_fst (by assumption) ?_ | refine same_snd (by assumption) ?_ | refine same_trd (by assumption) ?_ | dsimp only | split)

theorem execHarnessSupplyFault_same {s t : State} (a0 : Nat) (h : Same s t) : GoesSame s (execHarnessSupplyFault a0 t) := by
  unfold execHarnessSupplyFault
  repeat' with_reducible (first | intro _ | assumption | apply goesSame_next | apply harnessTo_same | apply leaveRun_same | apply post_same | apply onMet_same | fail_if_no_progress apply same_rec | apply same_ite | dsimp only | split)

theorem execHarnessFaultRetry_same {s t : State} (a0 : Nat) (h : Same s t) : GoesSame s (execHarnessFaultRetry a0 t) := by
  unfold execHarnessFaultRetry
  repeat' with_reducible (first | intro _ | assumption | apply goesSame_next | apply onHarness_same | apply harnessTo_same | fail_if_no_progress apply same_rec | apply same_ite | dsimp only | split)

theorem fittedAtBoundary_same {s t : State} (h : Same s t) : Same s (fittedAtBoundary t) := by
  unfold fittedAtBoundary
  repeat' with_reducible (first | intro _ | assumption | apply onHarness_same | apply harnessTo_same | apply leaveRun_same | fail_if_no_progress apply same_rec | apply same_ite | apply same_foldl | apply same_foldl_fst | apply same_foldl_snd | dsimp only | split)

theorem trigger_same {s t : State} (h : Same s t) : Same s (trigger t).2 := by
  unfold trigger
  repeat' with_reducible (first | intro _ | assumption | apply onMet_same | apply post_same | fail_if_no_progress apply same_rec | apply same_ite | refine same_fst (by assumption) ?_ | refine same_snd (by assumption) ?_ | refine same_trd (by assumption) ?_ | dsimp only | split)

theorem triggerIf_same {s t : State} (a0 : Bool) (h : Same s t) : Same s (triggerIf a0 t) := by
  unfold triggerIf
  repeat' with_reducible (first | intro _ | assumption | apply trigger_same | apply same_ite | dsimp only | split)

theorem execSnapshotComplete_same {s t : State} (a0 : Nat) (a1 : List (List Int)) (h : Same s t) : GoesSame s (execSnapshotComplete a0 a1 t) := by
  unfold execSnapshotComplete
  repeat' with_reducible (first | intro _ | assumption | apply goesSame_next | apply drawFree_same | apply onMet_same | fail_if_no_progress apply same_rec | apply same_ite | refine same_fst (by assumption) ?_ | refine same_snd (by assumption) ?_ | refine same_trd (by assumption) ?_ | dsimp only | split)

theorem execSnapshotArchived_same {s t : State} (a0 : U32) (h : Same s t) : GoesSame s (execSnapshotArchived a0 t) := by
  unfold execSnapshotArchived
  repeat' with_reducible (first | intro _ | assumption | apply goesSame_next | apply onMet_same | fail_if_no_progress apply same_rec | apply same_ite | refine same_fst (by assumption) ?_ | refine same_snd (by assumption) ?_ | refine same_trd (by assumption) ?_ | dsimp only | split)

theorem tripOutput_same {s t : State} (a0 : Nat) (h : Same s t) : Same s (tripOutput t a0) := by
  unfold tripOutput
  repeat' with_reducible (first | intro _ | assumption | apply onMet_same | apply onOutput_same | fail_if_no_progress apply same_rec | apply same_ite | dsimp only | split)

theorem detect_same {s t : State} (a0 : Nat) (a1 : Nat) (a2 : Nat) (a3 : Nat) (h : Same s t) : Same s (detect a0 a1 a2 a3 t) := by
  unfold detect
  repeat' with_reducible (first | intro _ | assumption | apply onFeeder_same | apply post_same | apply triggerIf_same | apply tripOutput_same | apply postIf_same | fail_if_no_progress apply same_rec | apply same_ite | apply same_foldl | apply same_foldl_fst | apply same_foldl_snd | dsimp only | split)

theorem execOcInstDetect_same {s t : State} (a0 : Nat) (a1 : Nat) (a2 : List Bool) (h : Same s t) : GoesSame s (execOcInstDetect a0 a1 a2 t) := by
  unfold execOcInstDetect
  repeat' with_reducible (first | intro _ | assumption | apply goesSame_next | apply detect_same | apply same_ite | dsimp only | split)

theorem execFeederRearm_same {s t : State} (a0 : Nat) (h : Same s t) : GoesSame s (execFeederRearm a0 t) := by
  unfold execFeederRearm
  repeat' with_reducible (first | intro _ | assumption | apply goesSame_next | apply onFeeder_same | fail_if_no_progress apply same_rec | apply same_ite | dsimp only | split)

theorem rmsFeeder_same {s t : State} (a0 : Nat) (a1 : List (List Rat)) (a2 : Nat) (h : Same s t) : Same s (rmsFeeder a0 a1 t a2) := by
  unfold rmsFeeder
  repeat' with_reducible (first | intro _ | assumption | apply onFeeder_same | apply detect_same | fail_if_no_progress apply same_rec | apply same_ite | dsimp only | split)

theorem voltEvent_same {s t : State} (a0 : Nat) (a1 : Nat) (a2 : Bool) (a3 : Nat) (a4 : Nat) (h : Same s t) : Same s (voltEvent a0 a1 a2 a3 a4 t) := by
  unfold voltEvent
  repeat' with_reducible (first | intro _ | assumption | apply triggerIf_same | apply post_same | apply same_ite | dsimp only | split)

theorem voltHalf_same {s t : State} (a0 : Nat) (a1 : List (List Rat)) (h : Same s t) : Same s (voltHalf a0 a1 t) := by
  unfold voltHalf
  repeat' with_reducible (first | intro _ | assumption | apply onSet_same | apply voltEvent_same | fail_if_no_progress apply same_rec | apply same_ite | dsimp only | split)

theorem execHalfCycleEnd_same {s t : State} (a0 : Nat) (a1 : List (List Bool)) (h : Same s t) : GoesSame s (execHalfCycleEnd a0 a1 t) := by
  have hb := blockBefore_same a0 a1 h
  unfold execHalfCycleEnd
  generalize blockBefore a0 a1 t = u at hb ⊢
  repeat' with_reducible (first | intro _ | assumption | apply goesSame_next | apply onSet_same | apply rmsFeeder_same | apply voltHalf_same | fail_if_no_progress apply same_rec | apply same_ite | apply same_foldl | apply same_foldl_fst | apply same_foldl_snd | refine same_fst (by assumption) ?_ | refine same_snd (by assumption) ?_ | refine same_trd (by assumption) ?_ | dsimp only | split)

theorem commandOutput_same {s t : State} (a0 : Nat) (h : Same s t) : Same s (commandOutput t a0) := by
  unfold commandOutput
  repeat' with_reducible (first | intro _ | assumption | apply onOutput_same | fail_if_no_progress apply same_rec | apply same_ite | refine same_fst (by assumption) ?_ | refine same_snd (by assumption) ?_ | refine same_trd (by assumption) ?_ | dsimp only | split)

theorem changeFor_same {s t : State} (a0 : Nat) (h : Same s t) : Same s (changeFor t a0) := by
  unfold changeFor
  repeat' with_reducible (first | intro _ | assumption | apply triggerIf_same | apply commandOutput_same | apply post_same | apply same_ite | apply same_foldl | apply same_foldl_fst | apply same_foldl_snd | dsimp only | split)

theorem drives_same {s t : State} (h : Same s t) : Same s (drives t) := by
  unfold drives
  repeat' with_reducible (first | intro _ | assumption | apply onOutput_same | fail_if_no_progress apply same_rec | apply same_ite | apply same_foldl | apply same_foldl_fst | apply same_foldl_snd | dsimp only | split)

theorem writeWorking_same {s t : State} (a0 : Nat) (a1 : Nat) (a2 : Bytes) (h : Same s t) : Same s (writeWorking a0 a1 a2 t) := by
  unfold writeWorking
  repeat' with_reducible (first | intro _ | assumption | fail_if_no_progress apply same_rec | apply same_ite | dsimp only | split)

theorem resolveOne_same {s t : State} (a0 : ContactorDue) (h : Same s t) : Same s (resolveOne t a0) := by
  unfold resolveOne
  repeat' with_reducible (first | intro _ | assumption | apply onOutput_same | apply completeWith_same | apply freeTask_same | apply writeWorking_same | fail_if_no_progress apply same_rec | apply same_ite | apply same_foldl | apply same_foldl_fst | apply same_foldl_snd | refine same_fst (by assumption) ?_ | refine same_snd (by assumption) ?_ | refine same_trd (by assumption) ?_ | dsimp only | split)

theorem markSwitchedOff_same {s t : State} (h : Same s t) : Same s (markSwitchedOff t) := by
  unfold markSwitchedOff
  repeat' with_reducible (first | intro _ | assumption | apply onPin_same | apply onAir_same | fail_if_no_progress apply same_rec | apply same_ite | apply same_foldl | apply same_foldl_fst | apply same_foldl_snd | dsimp only | split)

theorem contactorsAtBoundary_same {s t : State} (h : Same s t) : Same s (contactorsAtBoundary t) := by
  unfold contactorsAtBoundary
  repeat' with_reducible (first | intro _ | assumption | apply resolveOne_same | apply onMet_same | apply drives_same | apply changeFor_same | apply markSwitchedOff_same | fail_if_no_progress apply same_rec | apply same_ite | apply same_foldl | apply same_foldl_fst | apply same_foldl_snd | dsimp only | split)

theorem execContactorFbTimeout_same {s t : State} (a0 : Nat) (h : Same s t) : GoesSame s (execContactorFbTimeout a0 t) := by
  unfold execContactorFbTimeout
  repeat' with_reducible (first | intro _ | assumption | apply goesSame_next | apply onOutput_same | apply postIf_same | fail_if_no_progress apply same_rec | apply same_ite | refine same_fst (by assumption) ?_ | refine same_snd (by assumption) ?_ | refine same_trd (by assumption) ?_ | dsimp only | split)

theorem feedbackChanged_same {s t : State} (a0 : Nat) (h : Same s t) : Same s (feedbackChanged a0 t) := by
  unfold feedbackChanged
  repeat' with_reducible (first | intro _ | assumption | apply onOutput_same | fail_if_no_progress apply same_rec | apply same_ite | apply same_foldl | apply same_foldl_fst | apply same_foldl_snd | dsimp only | split)

theorem execContactorCloseSettle_same {s t : State} (a0 : Nat) (h : Same s t) : GoesSame s (execContactorCloseSettle a0 t) := by
  unfold execContactorCloseSettle
  repeat' with_reducible (first | intro _ | assumption | apply goesSame_next | apply onOutput_same | fail_if_no_progress apply same_rec | apply same_ite | dsimp only | split)

theorem execContactorOutFault_same {s t : State} (a0 : Nat) (h : Same s t) : GoesSame s (execContactorOutFault a0 t) := by
  unfold execContactorOutFault
  repeat' with_reducible (first | intro _ | assumption | apply goesSame_next | apply onOutput_same | apply post_same | fail_if_no_progress apply same_rec | apply same_ite | refine same_fst (by assumption) ?_ | refine same_snd (by assumption) ?_ | refine same_trd (by assumption) ?_ | dsimp only | split)

theorem onInterval_same {s t : State} (a0 : Interval → Interval) (h : Same s t) : Same s (onInterval a0 t) := by
  unfold onInterval
  repeat' with_reducible (first | intro _ | assumption | apply onMet_same | fail_if_no_progress apply same_rec | apply same_ite | dsimp only | split)

theorem closeAt_same {s t : State} (a0 : Nat) (h : Same s t) : Same s (closeAt a0 t) := by
  unfold closeAt
  repeat' with_reducible (first | intro _ | assumption | apply noteFlags_same | apply onMet_same | fail_if_no_progress apply same_rec | apply same_ite | refine same_fst (by assumption) ?_ | refine same_snd (by assumption) ?_ | refine same_trd (by assumption) ?_ | dsimp only | split)

theorem execIntervalBoundary_same {s t : State} (h : Same s t) : GoesSame s (execIntervalBoundary t) := by
  unfold execIntervalBoundary
  repeat' with_reducible (first | intro _ | assumption | apply goesSame_next | apply postTask_same | apply closeAt_same | apply same_ite | dsimp only | split)

theorem intervalStep_same {s t : State} (a0 : Int) (h : Same s t) : Same s (intervalStep a0 t) := by
  unfold intervalStep
  repeat' with_reducible (first | intro _ | assumption | apply onInterval_same | fail_if_no_progress apply same_rec | apply same_ite | dsimp only | split)

theorem execIntervalClose_same {s t : State} (h : Same s t) : GoesSame s (execIntervalClose t) := by
  unfold execIntervalClose
  repeat' with_reducible (first | intro _ | assumption | apply goesSame_next | apply freeTask_same | apply joinWork_same | apply onMet_same | fail_if_no_progress apply same_rec | apply same_ite | refine same_fst (by assumption) ?_ | refine same_snd (by assumption) ?_ | refine same_trd (by assumption) ?_ | dsimp only | split)

theorem lateSpansStep_same {s t : State} (a0 : Int) (h : Same s t) : Same s (lateSpansStep a0 t) := by
  unfold lateSpansStep
  repeat' with_reducible (first | intro _ | assumption | apply onMet_same | fail_if_no_progress apply same_rec | apply same_ite | dsimp only | split)

theorem execSpanRecordDue_same {s t : State} (a0 : Nat) (h : Same s t) : GoesSame s (execSpanRecordDue a0 t) := by
  unfold execSpanRecordDue
  repeat' with_reducible (first | intro _ | assumption | apply goesSame_next | apply joinWork_same | apply onFeeder_same | apply onMet_same | fail_if_no_progress apply same_rec | apply same_ite | refine same_fst (by assumption) ?_ | refine same_snd (by assumption) ?_ | refine same_trd (by assumption) ?_ | dsimp only | split)

theorem meterAccepted_same {s t : State} (a0 : JEntry) (h : Same s t) : Same s (meterAccepted t a0) := by
  unfold meterAccepted
  repeat' with_reducible (first | intro _ | assumption | apply onMet_same | apply onFeeder_same | fail_if_no_progress apply same_rec | apply same_ite | refine same_fst (by assumption) ?_ | refine same_snd (by assumption) ?_ | refine same_trd (by assumption) ?_ | dsimp only | split)

theorem execArchiveVerified_same {s t : State} (a0 : U32) (h : Same s t) : GoesSame s (execArchiveVerified a0 t) := by
  unfold execArchiveVerified
  repeat' with_reducible (first | intro _ | assumption | apply goesSame_next | apply retire_same | apply onMet_same | fail_if_no_progress apply same_rec | apply same_ite | refine same_fst (by assumption) ?_ | refine same_snd (by assumption) ?_ | refine same_trd (by assumption) ?_ | dsimp only | split)

theorem execPeriodicSave_same {s t : State} (h : Same s t) : GoesSame s (execPeriodicSave t) := by
  unfold execPeriodicSave
  repeat' with_reducible (first | intro _ | assumption | apply goesSame_next | apply checkStartUp_same | apply onMet_same | fail_if_no_progress apply same_rec | apply same_ite | dsimp only | split)

theorem saveLastGasp_same {s t : State} (a0 : Nat) (h : Same s t) : Same s (saveLastGasp a0 t) := by
  unfold saveLastGasp
  repeat' with_reducible (first | intro _ | assumption | apply onMet_same | fail_if_no_progress apply same_rec | apply same_ite | refine same_fst (by assumption) ?_ | refine same_snd (by assumption) ?_ | refine same_trd (by assumption) ?_ | dsimp only | split)

theorem execMetClearStats_same {s t : State} (h : Same s t) : GoesSame s (execMetClearStats t) := by
  unfold execMetClearStats
  repeat' with_reducible (first | intro _ | assumption | apply goesSame_next | apply onMet_same | fail_if_no_progress apply same_rec | apply same_ite | refine same_fst (by assumption) ?_ | refine same_snd (by assumption) ?_ | refine same_trd (by assumption) ?_ | dsimp only | split)

theorem metRead_same (a0 : Nat) (a1 : Nat) (a2 : State → Nat → Bytes) : SpecSame (metRead a0 a1 a2) := by
  constructor <;> (unfold metRead; repeat' with_reducible (first | intro _ | assumption | apply SpecSame.mk | apply same_ite | refine same_fst (by assumption) ?_ | refine same_snd (by assumption) ?_ | refine same_trd (by assumption) ?_ | dsimp only | split))

theorem metGet_same (a0 : Nat) (a1 : State → Bytes) : SpecSame (metGet a0 a1) := by
  constructor <;> (unfold metGet; repeat' with_reducible (first | intro _ | assumption | apply SpecSame.mk | apply same_ite | refine same_fst (by assumption) ?_ | refine same_snd (by assumption) ?_ | refine same_trd (by assumption) ?_ | dsimp only | split))

theorem metSet_same (a0 : Nat) (a1 : Nat) (a2 : Bytes → Chk) (a3 : Bytes → Nat) (a4 : Bytes → Bytes) : SpecSame (metSet a0 a1 a2 a3 a4) := by
  constructor <;> (unfold metSet; repeat' with_reducible (first | intro _ | assumption | apply SpecSame.mk | apply settingAccepted_same | apply writeSetting_same | apply same_ite | dsimp only | split))

theorem metModeSet_same  : SpecSame (metModeSet ) := by
  constructor <;> (unfold metModeSet; repeat' with_reducible (first | intro _ | assumption | apply SpecSame.mk | apply modeTo_same | apply onMet_same | fail_if_no_progress apply same_rec | apply same_ite | refine same_fst (by assumption) ?_ | refine same_snd (by assumption) ?_ | refine same_trd (by assumption) ?_ | dsimp only | split))

theorem execMetModeSet_same {s t : State} (a0 : CmdStep) (h : Same s t) : GoesSame s (execMetModeSet a0 t) := goesSame_next (mailboxCommand_same _ _ metModeSet_same h)

theorem metStatus_same  : SpecSame (metStatus ) := by
  unfold metStatus
  repeat' with_reducible (first | intro _ | assumption | apply metGet_same | dsimp only)

theorem execMetStatus_same {s t : State} (a0 : CmdStep) (h : Same s t) : GoesSame s (execMetStatus a0 t) := goesSame_next (mailboxCommand_same _ _ metStatus_same h)

theorem metQtyRead_same  : SpecSame (metQtyRead ) := by
  unfold metQtyRead
  repeat' with_reducible (first | intro _ | assumption | apply metRead_same | dsimp only)

theorem execMetQtyRead_same {s t : State} (a0 : CmdStep) (h : Same s t) : GoesSame s (execMetQtyRead a0 t) := goesSame_next (mailboxCommand_same _ _ metQtyRead_same h)

theorem writeNow_same {s t : State} (a0 : Cmd) (a1 : Nat) (a2 : Nat) (a3 : Bytes) (h : Same s t) : Same s (writeNow a0 a1 a2 a3 t) := by
  unfold writeNow
  repeat' with_reducible (first | intro _ | assumption | apply writeWorking_same | fail_if_no_progress apply same_rec | apply same_ite | refine same_fst (by assumption) ?_ | refine same_snd (by assumption) ?_ | refine same_trd (by assumption) ?_ | dsimp only | split)

theorem metCalWrite_same  : SpecSame (metCalWrite ) := by
  constructor <;> (unfold metCalWrite; repeat' with_reducible (first | intro _ | assumption | apply SpecSame.mk | apply settingAccepted_same | apply writeNow_same | apply onMet_same | apply post_same | apply checkStartUp_same | fail_if_no_progress apply same_rec | apply same_ite | refine same_fst (by assumption) ?_ | refine same_snd (by assumption) ?_ | refine same_trd (by assumption) ?_ | dsimp only | split))

theorem execMetCalWrite_same {s t : State} (a0 : CmdStep) (h : Same s t) : GoesSame s (execMetCalWrite a0 t) := goesSame_next (mailboxCommand_same _ _ metCalWrite_same h)

theorem metCalRead_same  : SpecSame (metCalRead ) := by
  unfold metCalRead
  repeat' with_reducible (first | intro _ | assumption | apply metRead_same | dsimp only)

theorem execMetCalRead_same {s t : State} (a0 : CmdStep) (h : Same s t) : GoesSame s (execMetCalRead a0 t) := goesSame_next (mailboxCommand_same _ _ metCalRead_same h)

theorem metHarnessSet_same  : SpecSame (metHarnessSet ) := by
  unfold metHarnessSet
  repeat' with_reducible (first | intro _ | assumption | apply metSet_same | dsimp only)

theorem execMetHarnessSet_same {s t : State} (a0 : CmdStep) (h : Same s t) : GoesSame s (execMetHarnessSet a0 t) := goesSame_next (mailboxCommand_same _ _ metHarnessSet_same h)

theorem metHarnessRead_same  : SpecSame (metHarnessRead ) := by
  unfold metHarnessRead
  repeat' with_reducible (first | intro _ | assumption | apply metGet_same | dsimp only)

theorem execMetHarnessRead_same {s t : State} (a0 : CmdStep) (h : Same s t) : GoesSame s (execMetHarnessRead a0 t) := goesSame_next (mailboxCommand_same _ _ metHarnessRead_same h)

theorem metProtWrite_same  : SpecSame (metProtWrite ) := by
  unfold metProtWrite
  repeat' with_reducible (first | intro _ | assumption | apply metSet_same | dsimp only)

theorem execMetProtWrite_same {s t : State} (a0 : CmdStep) (h : Same s t) : GoesSame s (execMetProtWrite a0 t) := goesSame_next (mailboxCommand_same _ _ metProtWrite_same h)

theorem metProtRead_same  : SpecSame (metProtRead ) := by
  unfold metProtRead
  repeat' with_reducible (first | intro _ | assumption | apply metRead_same | dsimp only)

theorem execMetProtRead_same {s t : State} (a0 : CmdStep) (h : Same s t) : GoesSame s (execMetProtRead a0 t) := goesSame_next (mailboxCommand_same _ _ metProtRead_same h)

theorem metContactorCfg_same  : SpecSame (metContactorCfg ) := by
  unfold metContactorCfg
  repeat' with_reducible (first | intro _ | assumption | apply metSet_same | dsimp only)

theorem execMetContactorCfg_same {s t : State} (a0 : CmdStep) (h : Same s t) : GoesSame s (execMetContactorCfg a0 t) := goesSame_next (mailboxCommand_same _ _ metContactorCfg_same h)

theorem metContactorRead_same  : SpecSame (metContactorRead ) := by
  unfold metContactorRead
  repeat' with_reducible (first | intro _ | assumption | apply metRead_same | dsimp only)

theorem execMetContactorRead_same {s t : State} (a0 : CmdStep) (h : Same s t) : GoesSame s (execMetContactorRead a0 t) := goesSame_next (mailboxCommand_same _ _ metContactorRead_same h)

theorem metContactorSet_same  : SpecSame (metContactorSet ) := by
  constructor <;> (unfold metContactorSet; repeat' with_reducible (first | intro _ | assumption | apply SpecSame.mk | apply settingAccepted_same | apply onMet_same | fail_if_no_progress apply same_rec | apply same_ite | refine same_fst (by assumption) ?_ | refine same_snd (by assumption) ?_ | refine same_trd (by assumption) ?_ | dsimp only | split))

theorem execMetContactorSet_same {s t : State} (a0 : CmdStep) (h : Same s t) : GoesSame s (execMetContactorSet a0 t) := goesSame_next (mailboxCommand_same _ _ metContactorSet_same h)

theorem metTripReset_same  : SpecSame (metTripReset ) := by
  constructor <;> (unfold metTripReset; repeat' with_reducible (first | intro _ | assumption | apply SpecSame.mk | apply onMet_same | fail_if_no_progress apply same_rec | apply same_ite | refine same_fst (by assumption) ?_ | refine same_snd (by assumption) ?_ | refine same_trd (by assumption) ?_ | dsimp only | split))

theorem execMetTripReset_same {s t : State} (a0 : CmdStep) (h : Same s t) : GoesSame s (execMetTripReset a0 t) := goesSame_next (mailboxCommand_same _ _ metTripReset_same h)

theorem metDfcSet_same  : SpecSame (metDfcSet ) := by
  constructor <;> (unfold metDfcSet; repeat' with_reducible (first | intro _ | assumption | apply SpecSame.mk | apply settingAccepted_same | apply onDfc_same | apply writeNow_same | fail_if_no_progress apply same_rec | apply same_ite | refine same_fst (by assumption) ?_ | refine same_snd (by assumption) ?_ | refine same_trd (by assumption) ?_ | dsimp only | split))

theorem execMetDfcSet_same {s t : State} (a0 : CmdStep) (h : Same s t) : GoesSame s (execMetDfcSet a0 t) := goesSame_next (mailboxCommand_same _ _ metDfcSet_same h)

theorem metDfcRead_same  : SpecSame (metDfcRead ) := by
  unfold metDfcRead
  repeat' with_reducible (first | intro _ | assumption | apply metGet_same | apply same_ite | dsimp only | split)

theorem execMetDfcRead_same {s t : State} (a0 : CmdStep) (h : Same s t) : GoesSame s (execMetDfcRead a0 t) := goesSame_next (mailboxCommand_same _ _ metDfcRead_same h)

theorem metPeakRead_same  : SpecSame (metPeakRead ) := by
  unfold metPeakRead
  repeat' with_reducible (first | intro _ | assumption | apply metRead_same | dsimp only)

theorem execMetPeakRead_same {s t : State} (a0 : CmdStep) (h : Same s t) : GoesSame s (execMetPeakRead a0 t) := goesSame_next (mailboxCommand_same _ _ metPeakRead_same h)

theorem metPeakClear_same  : SpecSame (metPeakClear ) := by
  constructor <;> (unfold metPeakClear; repeat' with_reducible (first | intro _ | assumption | apply SpecSame.mk | apply onMet_same | fail_if_no_progress apply same_rec | apply same_ite | refine same_fst (by assumption) ?_ | refine same_snd (by assumption) ?_ | refine same_trd (by assumption) ?_ | dsimp only | split))

theorem execMetPeakClear_same {s t : State} (a0 : CmdStep) (h : Same s t) : GoesSame s (execMetPeakClear a0 t) := goesSame_next (mailboxCommand_same _ _ metPeakClear_same h)

theorem metRegRead_same  : SpecSame (metRegRead ) := by
  unfold metRegRead
  repeat' with_reducible (first | intro _ | assumption | apply metRead_same | dsimp only)

theorem execMetRegRead_same {s t : State} (a0 : CmdStep) (h : Same s t) : GoesSame s (execMetRegRead a0 t) := goesSame_next (mailboxCommand_same _ _ metRegRead_same h)

theorem metLegacyRead_same  : SpecSame (metLegacyRead ) := by
  unfold metLegacyRead
  repeat' with_reducible (first | intro _ | assumption | apply metRead_same | dsimp only)

theorem execMetLegacyRead_same {s t : State} (a0 : CmdStep) (h : Same s t) : GoesSame s (execMetLegacyRead a0 t) := goesSame_next (mailboxCommand_same _ _ metLegacyRead_same h)

theorem metIntervalSet_same  : SpecSame (metIntervalSet ) := by
  constructor <;> (unfold metIntervalSet; repeat' with_reducible (first | intro _ | assumption | apply SpecSame.mk | apply settingAccepted_same | apply onInterval_same | apply writeNow_same | fail_if_no_progress apply same_rec | apply same_ite | refine same_fst (by assumption) ?_ | refine same_snd (by assumption) ?_ | refine same_trd (by assumption) ?_ | dsimp only | split))

theorem execMetIntervalSet_same {s t : State} (a0 : CmdStep) (h : Same s t) : GoesSame s (execMetIntervalSet a0 t) := goesSame_next (mailboxCommand_same _ _ metIntervalSet_same h)

theorem metArchiveRead_same (a0 : Nat) (a1 : Nat) (a2 : State → List MetRecord) : SpecSame (metArchiveRead a0 a1 a2) := by
  constructor <;> (unfold metArchiveRead; repeat' with_reducible (first | intro _ | assumption | apply SpecSame.mk | apply same_ite | refine same_fst (by assumption) ?_ | refine same_snd (by assumption) ?_ | refine same_trd (by assumption) ?_ | dsimp only | split))

theorem metIntervalRead_same  : SpecSame (metIntervalRead ) := by
  unfold metIntervalRead
  repeat' with_reducible (first | intro _ | assumption | apply metArchiveRead_same | dsimp only)

theorem execMetIntervalRead_same {s t : State} (a0 : CmdStep) (h : Same s t) : GoesSame s (execMetIntervalRead a0 t) := goesSame_next (mailboxCommand_same _ _ metIntervalRead_same h)

theorem metSpanRead_same  : SpecSame (metSpanRead ) := by
  unfold metSpanRead
  repeat' with_reducible (first | intro _ | assumption | apply metArchiveRead_same | dsimp only)

theorem execMetSpanRead_same {s t : State} (a0 : CmdStep) (h : Same s t) : GoesSame s (execMetSpanRead a0 t) := goesSame_next (mailboxCommand_same _ _ metSpanRead_same h)

theorem metSnapTrigger_same  : SpecSame (metSnapTrigger ) := by
  constructor <;> (unfold metSnapTrigger; repeat' with_reducible (first | intro _ | assumption | apply SpecSame.mk | apply trigger_same | apply same_ite | refine same_fst (by assumption) ?_ | refine same_snd (by assumption) ?_ | refine same_trd (by assumption) ?_ | dsimp only | split))

theorem execMetSnapTrigger_same {s t : State} (a0 : CmdStep) (h : Same s t) : GoesSame s (execMetSnapTrigger a0 t) := goesSame_next (mailboxCommand_same _ _ metSnapTrigger_same h)

theorem metSnapList_same  : SpecSame (metSnapList ) := by
  constructor <;> (unfold metSnapList; repeat' with_reducible (first | intro _ | assumption | apply SpecSame.mk | apply same_ite | refine same_fst (by assumption) ?_ | refine same_snd (by assumption) ?_ | refine same_trd (by assumption) ?_ | dsimp only | split))

theorem execMetSnapList_same {s t : State} (a0 : CmdStep) (h : Same s t) : GoesSame s (execMetSnapList a0 t) := goesSame_next (mailboxCommand_same _ _ metSnapList_same h)

theorem metSnapRead_same  : SpecSame (metSnapRead ) := by
  constructor <;> (unfold metSnapRead; repeat' with_reducible (first | intro _ | assumption | apply SpecSame.mk | fail_if_no_progress apply same_rec | apply same_ite | refine same_fst (by assumption) ?_ | refine same_snd (by assumption) ?_ | refine same_trd (by assumption) ?_ | dsimp only | split))

theorem execMetSnapRead_same {s t : State} (a0 : CmdStep) (h : Same s t) : GoesSame s (execMetSnapRead a0 t) := goesSame_next (mailboxCommand_same _ _ metSnapRead_same h)

theorem metSnapSet_same  : SpecSame (metSnapSet ) := by
  constructor <;> (unfold metSnapSet; repeat' with_reducible (first | intro _ | assumption | apply SpecSame.mk | apply settingAccepted_same | apply writeNow_same | apply same_ite | refine same_fst (by assumption) ?_ | refine same_snd (by assumption) ?_ | refine same_trd (by assumption) ?_ | dsimp only | split))

theorem execMetSnapSet_same {s t : State} (a0 : CmdStep) (h : Same s t) : GoesSame s (execMetSnapSet a0 t) := goesSame_next (mailboxCommand_same _ _ metSnapSet_same h)

theorem metSaveStatus_same  : SpecSame (metSaveStatus ) := by
  unfold metSaveStatus
  repeat' with_reducible (first | intro _ | assumption | apply metGet_same | apply same_elim | dsimp only)

theorem execMetSaveStatus_same {s t : State} (a0 : CmdStep) (h : Same s t) : GoesSame s (execMetSaveStatus a0 t) := goesSame_next (mailboxCommand_same _ _ metSaveStatus_same h)

end Sys2Proof.Machine
end

