-- ==== Sys2Proof/Laws/SameTime.lean ====
section
/-! SUPPORT. The ring, the panel, the switch and the clocks: what each operation and command leaves of the queue and the memory. -/

set_option linter.all false

namespace Sys2Proof.Machine

theorem onNet_same {s t : State} (a0 : Net → Net) (h : Same s t) : Same s (onNet a0 t) := by
  unfold onNet
  repeat' with_reducible (first | intro _ | assumption | fail_if_no_progress apply same_rec | apply same_ite | dsimp only | split)

theorem onPort_same {s t : State} (a0 : Nat) (a1 : SwPort → SwPort) (h : Same s t) : Same s (onPort a0 a1 t) := by
  unfold onPort
  repeat' with_reducible (first | intro _ | assumption | fail_if_no_progress apply same_rec | apply same_ite | dsimp only | split)

theorem onRing_same {s t : State} (a0 : Ring → Ring) (h : Same s t) : Same s (onRing a0 t) := by
  unfold onRing
  repeat' with_reducible (first | intro _ | assumption | fail_if_no_progress apply same_rec | apply same_ite | dsimp only | split)

theorem onPanel_same {s t : State} (a0 : Panel → Panel) (h : Same s t) : Same s (onPanel a0 t) := by
  unfold onPanel
  repeat' with_reducible (first | intro _ | assumption | fail_if_no_progress apply same_rec | apply same_ite | dsimp only | split)

theorem ringTo_same {s t : State} (a0 : RingState) (a1 : Nat) (h : Same s t) : Same s (ringTo a0 a1 t) := by
  unfold ringTo
  repeat' with_reducible (first | intro _ | assumption | apply onRing_same | apply post_same | apply onNet_same | fail_if_no_progress apply same_rec | apply same_ite | dsimp only | split)

theorem ringRelease_same {s t : State} (a0 : Nat) (h : Same s t) : Same s (ringRelease a0 t) := by
  unfold ringRelease
  repeat' with_reducible (first | intro _ | assumption | apply ringTo_same | apply onRing_same | fail_if_no_progress apply same_rec | apply same_ite | refine same_fst (by assumption) ?_ | refine same_snd (by assumption) ?_ | refine same_trd (by assumption) ?_ | dsimp only | split)

theorem ringRestore_same {s t : State} (h : Same s t) : Same s (ringRestore t) := by
  unfold ringRestore
  repeat' with_reducible (first | intro _ | assumption | apply ringTo_same | apply onRing_same | fail_if_no_progress apply same_rec | apply same_ite | refine same_fst (by assumption) ?_ | refine same_snd (by assumption) ?_ | refine same_trd (by assumption) ?_ | dsimp only | split)

theorem ringTake_same {s t : State} (a0 : RingState) (a1 : Nat) (a2 : Nat) (h : Same s t) : Same s (ringTake a0 a1 a2 t) := by
  unfold ringTake
  repeat' with_reducible (first | intro _ | assumption | apply ringTo_same | apply onRing_same | fail_if_no_progress apply same_rec | apply same_ite | refine same_fst (by assumption) ?_ | refine same_snd (by assumption) ?_ | refine same_trd (by assumption) ?_ | dsimp only | split)

theorem ringYield_same {s t : State} (a0 : RingState) (a1 : Nat) (h : Same s t) : Same s (ringYield a0 a1 t) := by
  unfold ringYield
  repeat' with_reducible (first | intro _ | assumption | apply ringTo_same | apply onRing_same | fail_if_no_progress apply same_rec | apply same_ite | dsimp only | split)

theorem ringReverted_same {s t : State} (h : Same s t) : Same s (ringReverted t) := by
  unfold ringReverted
  repeat' with_reducible (first | intro _ | assumption | apply onRing_same | apply ringTo_same | fail_if_no_progress apply same_rec | apply same_ite | refine same_fst (by assumption) ?_ | refine same_snd (by assumption) ?_ | refine same_trd (by assumption) ?_ | dsimp only | split)

theorem ringAct_same {s t : State} (a0 : RingEvent) (h : Same s t) : Same s (ringAct a0 t) := by
  unfold ringAct
  repeat' with_reducible (first | intro _ | assumption | apply ringRestore_same | apply ringRelease_same | apply ringTake_same | apply ringYield_same | apply ringReverted_same | apply onRing_same | apply ringTo_same | fail_if_no_progress apply same_rec | apply same_ite | dsimp only | split)

theorem ringSettle_same {s t : State} (h : Same s t) : Same s (ringSettle t) := by
  unfold ringSettle
  repeat' with_reducible (first | intro _ | assumption | apply ringTake_same | fail_if_no_progress apply same_rec | apply same_ite | dsimp only | split)

theorem ringEvent_same {s t : State} (a0 : RingEvent) (h : Same s t) : Same s (ringEvent a0 t) := by
  unfold ringEvent
  repeat' with_reducible (first | intro _ | assumption | apply ringSettle_same | apply ringAct_same | apply same_ite | dsimp only | split)

theorem sfBegins_same {s t : State} (a0 : Nat) (h : Same s t) : Same s (sfBegins a0 t) := by
  unfold sfBegins
  repeat' with_reducible (first | intro _ | assumption | apply onRing_same | apply ringEvent_same | fail_if_no_progress apply same_rec | apply same_ite | refine same_fst (by assumption) ?_ | refine same_snd (by assumption) ?_ | refine same_trd (by assumption) ?_ | dsimp only | split)

theorem sfEnds_same {s t : State} (a0 : Nat) (h : Same s t) : Same s (sfEnds a0 t) := by
  unfold sfEnds
  repeat' with_reducible (first | intro _ | assumption | apply onRing_same | apply ringEvent_same | fail_if_no_progress apply same_rec | apply same_ite | refine same_fst (by assumption) ?_ | refine same_snd (by assumption) ?_ | refine same_trd (by assumption) ?_ | dsimp only | split)

theorem ringStart_same {s t : State} (h : Same s t) : Same s (ringStart t) := by
  unfold ringStart
  repeat' with_reducible (first | intro _ | assumption | apply onRing_same | apply ringSettle_same | apply ringTo_same | fail_if_no_progress apply same_rec | apply same_ite | refine same_fst (by assumption) ?_ | refine same_snd (by assumption) ?_ | refine same_trd (by assumption) ?_ | dsimp only | split)

theorem ringStop_same {s t : State} (h : Same s t) : Same s (ringStop t) := by
  unfold ringStop
  repeat' with_reducible (first | intro _ | assumption | apply onRing_same | apply ringTo_same | fail_if_no_progress apply same_rec | apply same_ite | refine same_fst (by assumption) ?_ | refine same_snd (by assumption) ?_ | refine same_trd (by assumption) ?_ | dsimp only | split)

theorem ringSettings_same {s t : State} (h : Same s t) : Same s (ringSettings t) := by
  unfold ringSettings
  repeat' with_reducible (first | intro _ | assumption | apply ringStart_same | apply ringStop_same | apply same_ite | dsimp only | split)

theorem linkLost_same {s t : State} (a0 : Nat) (h : Same s t) : Same s (linkLost a0 t) := by
  unfold linkLost
  repeat' with_reducible (first | intro _ | assumption | apply onPort_same | apply post_same | apply sfBegins_same | apply onRing_same | fail_if_no_progress apply same_rec | apply same_ite | dsimp only | split)

theorem execLinkUp_same {s t : State} (a0 : Nat) (a1 : Nat) (h : Same s t) : GoesSame s (execLinkUp a0 a1 t) := by
  unfold execLinkUp
  repeat' with_reducible (first | intro _ | assumption | apply goesSame_next | apply post_same | apply onPort_same | apply sfEnds_same | fail_if_no_progress apply same_rec | apply same_ite | refine same_fst (by assumption) ?_ | refine same_snd (by assumption) ?_ | refine same_trd (by assumption) ?_ | dsimp only | split)

theorem execLinkDown_same {s t : State} (a0 : Nat) (h : Same s t) : GoesSame s (execLinkDown a0 t) := by
  unfold execLinkDown
  repeat' with_reducible (first | intro _ | assumption | apply goesSame_next | apply linkLost_same | apply same_ite | dsimp only | split)

theorem execRingHoldOffExpire_same {s t : State} (h : Same s t) : GoesSame s (execRingHoldOffExpire t) := by
  unfold execRingHoldOffExpire
  repeat' with_reducible (first | intro _ | assumption | apply goesSame_next | apply sfBegins_same | apply same_ite | apply same_foldl | apply same_foldl_fst | apply same_foldl_snd | dsimp only | split)

theorem execSfpInsert_same {s t : State} (a0 : Nat) (h : Same s t) : GoesSame s (execSfpInsert a0 t) := by
  unfold execSfpInsert
  repeat' with_reducible (first | intro _ | assumption | apply goesSame_next | apply onPort_same | fail_if_no_progress apply same_rec | apply same_ite | dsimp only | split)

theorem execSfpPowered_same {s t : State} (a0 : Nat) (h : Same s t) : GoesSame s (execSfpPowered a0 t) := by
  unfold execSfpPowered
  repeat' with_reducible (first | intro _ | assumption | apply goesSame_next | apply onPort_same | fail_if_no_progress apply same_rec | apply same_ite | dsimp only | split)

theorem judgeModule_same {s t : State} (a0 : Nat) (a1 : SfpId) (h : Same s t) : Same s (judgeModule a0 a1 t) := by
  unfold judgeModule
  repeat' with_reducible (first | intro _ | assumption | apply post_same | apply onPort_same | apply sfBegins_same | fail_if_no_progress apply same_rec | apply same_ite | refine same_fst (by assumption) ?_ | refine same_snd (by assumption) ?_ | refine same_trd (by assumption) ?_ | dsimp only | split)

theorem execSfpIdentified_same {s t : State} (a0 : Nat) (a1 : SfpId) (h : Same s t) : GoesSame s (execSfpIdentified a0 a1 t) := by
  unfold execSfpIdentified
  repeat' with_reducible (first | intro _ | assumption | apply goesSame_next | apply judgeModule_same | apply same_ite | dsimp only | split)

theorem execSfpOut_same {s t : State} (a0 : Nat) (h : Same s t) : GoesSame s (execSfpOut a0 t) := by
  unfold execSfpOut
  repeat' with_reducible (first | intro _ | assumption | apply goesSame_next | apply post_same | apply linkLost_same | apply onPort_same | apply sfBegins_same | fail_if_no_progress apply same_rec | apply same_ite | refine same_fst (by assumption) ?_ | refine same_snd (by assumption) ?_ | refine same_trd (by assumption) ?_ | dsimp only | split)

theorem rapsOut_same {s t : State} (a0 : Raps) (a1 : Option Bytes) (a2 : Nat) (h : Same s t) : Same s (rapsOut a0 a1 a2 t) := by
  unfold rapsOut
  repeat' with_reducible (first | intro _ | assumption | apply onPort_same | apply onNet_same | fail_if_no_progress apply same_rec | apply same_ite | refine same_fst (by assumption) ?_ | refine same_snd (by assumption) ?_ | refine same_trd (by assumption) ?_ | dsimp only | split)

theorem execRapsTransmit_same {s t : State} (h : Same s t) : GoesSame s (execRapsTransmit t) := by
  unfold execRapsTransmit
  repeat' with_reducible (first | intro _ | assumption | apply goesSame_next | apply rapsOut_same | apply onRing_same | fail_if_no_progress apply same_rec | apply same_ite | dsimp only | split)

theorem execRapsFrame_same {s t : State} (a0 : Nat) (a1 : Raps) (h : Same s t) : GoesSame s (execRapsFrame a0 a1 t) := by
  unfold execRapsFrame
  repeat' with_reducible (first | intro _ | assumption | apply goesSame_next | apply onPort_same | apply rapsOut_same | apply ringEvent_same | fail_if_no_progress apply same_rec | apply same_ite | apply same_elim | refine same_fst (by assumption) ?_ | refine same_snd (by assumption) ?_ | refine same_trd (by assumption) ?_ | dsimp only | split)

theorem execRingWtrExpire_same {s t : State} (h : Same s t) : GoesSame s (execRingWtrExpire t) := by
  unfold execRingWtrExpire
  repeat' with_reducible (first | intro _ | assumption | apply goesSame_next | apply ringEvent_same | apply same_ite | dsimp only | split)

theorem execRingGuardExpire_same {s t : State} (h : Same s t) : GoesSame s (execRingGuardExpire t) := by
  unfold execRingGuardExpire
  repeat' with_reducible (first | intro _ | assumption | apply goesSame_next | apply onRing_same | fail_if_no_progress apply same_rec | apply same_ite | dsimp only | split)

theorem execRingCmdForced_same {s t : State} (a0 : Nat) (h : Same s t) : GoesSame s (execRingCmdForced a0 t) := by
  unfold execRingCmdForced
  repeat' with_reducible (first | intro _ | assumption | apply goesSame_next | apply ringEvent_same | apply same_ite | dsimp only | split)

theorem execRingCmdManual_same {s t : State} (a0 : Nat) (h : Same s t) : GoesSame s (execRingCmdManual a0 t) := by
  unfold execRingCmdManual
  repeat' with_reducible (first | intro _ | assumption | apply goesSame_next | apply ringEvent_same | apply same_ite | dsimp only | split)

theorem execRingCmdClear_same {s t : State} (a0 : Nat) (h : Same s t) : GoesSame s (execRingCmdClear a0 t) := by
  unfold execRingCmdClear
  repeat' with_reducible (first | intro _ | assumption | apply goesSame_next | apply ringEvent_same | apply same_ite | dsimp only | split)

theorem onTime_same {s t : State} (a0 : TimeUnit → TimeUnit) (h : Same s t) : Same s (onTime a0 t) := by
  unfold onTime
  repeat' with_reducible (first | intro _ | assumption | fail_if_no_progress apply same_rec | apply same_ite | dsimp only | split)

theorem onServo_same {s t : State} (a0 : Servo → Servo) (h : Same s t) : Same s (onServo a0 t) := by
  unfold onServo
  repeat' with_reducible (first | intro _ | assumption | fail_if_no_progress apply same_rec | apply same_ite | dsimp only | split)

theorem onPtp_same {s t : State} (a0 : Ptp → Ptp) (h : Same s t) : Same s (onPtp a0 t) := by
  unfold onPtp
  repeat' with_reducible (first | intro _ | assumption | fail_if_no_progress apply same_rec | apply same_ite | dsimp only | split)

theorem onPps_same {s t : State} (a0 : Pps → Pps) (h : Same s t) : Same s (onPps a0 t) := by
  unfold onPps
  repeat' with_reducible (first | intro _ | assumption | fail_if_no_progress apply same_rec | apply same_ite | dsimp only | split)

theorem onRtc_same {s t : State} (a0 : Rtc → Rtc) (h : Same s t) : Same s (onRtc a0 t) := by
  unfold onRtc
  repeat' with_reducible (first | intro _ | assumption | fail_if_no_progress apply same_rec | apply same_ite | dsimp only | split)

theorem refreshTrace_same {s t : State} (h : Same s t) : Same s (refreshTrace t) := by
  unfold refreshTrace
  repeat' with_reducible (first | intro _ | assumption | apply post_same | apply onServo_same | fail_if_no_progress apply same_rec | apply same_ite | refine same_fst (by assumption) ?_ | refine same_snd (by assumption) ?_ | refine same_trd (by assumption) ?_ | dsimp only | split)

theorem stepTime_same {s t : State} (a0 : Int) (a1 : Nat) (h : Same s t) : Same s (stepTime a0 a1 t) := by
  unfold stepTime
  repeat' with_reducible (first | intro _ | assumption | apply onTime_same | apply onServo_same | apply onPps_same | apply lateSpansStep_same | apply intervalStep_same | apply post_same | fail_if_no_progress apply same_rec | apply same_ite | refine same_fst (by assumption) ?_ | refine same_snd (by assumption) ?_ | refine same_trd (by assumption) ?_ | dsimp only | split)

theorem sourceTo_same {s t : State} (a0 : TimeSource) (h : Same s t) : Same s (sourceTo a0 t) := by
  unfold sourceTo
  repeat' with_reducible (first | intro _ | assumption | apply post_same | apply onServo_same | fail_if_no_progress apply same_rec | apply same_ite | dsimp only | split)

theorem enterHoldover_same {s t : State} (h : Same s t) : Same s (enterHoldover t) := by
  unfold enterHoldover
  repeat' with_reducible (first | intro _ | assumption | apply onServo_same | fail_if_no_progress apply same_rec | apply same_ite | refine same_fst (by assumption) ?_ | refine same_snd (by assumption) ?_ | refine same_trd (by assumption) ?_ | dsimp only | split)

theorem sourceLost_same {s t : State} (h : Same s t) : Same s (sourceLost t) := by
  unfold sourceLost
  repeat' with_reducible (first | intro _ | assumption | apply enterHoldover_same | apply refreshTrace_same | apply sourceTo_same | apply same_ite | dsimp only | split)

theorem ptpLost_same {s t : State} (h : Same s t) : Same s (ptpLost t) := by
  unfold ptpLost
  repeat' with_reducible (first | intro _ | assumption | apply refreshTrace_same | apply onServo_same | apply sourceTo_same | apply sourceLost_same | fail_if_no_progress apply same_rec | apply same_ite | dsimp only | split)

theorem meetSource_same {s t : State} (a0 : TimeSource) (a1 : Int) (h : Same s t) : Same s (meetSource a0 a1 t) := by
  unfold meetSource
  repeat' with_reducible (first | intro _ | assumption | apply onServo_same | apply sourceTo_same | fail_if_no_progress apply same_rec | apply same_ite | refine same_fst (by assumption) ?_ | refine same_snd (by assumption) ?_ | refine same_trd (by assumption) ?_ | dsimp only | split)

theorem applyOffsetTo_same {s t : State} (a0 : TimeSource) (a1 : Int) (a2 : Nat) (h : Same s t) : Same s (applyOffsetTo a0 a1 a2 t) := by
  unfold applyOffsetTo
  repeat' with_reducible (first | intro _ | assumption | apply onServo_same | apply stepTime_same | fail_if_no_progress apply same_rec | apply same_ite | refine same_fst (by assumption) ?_ | refine same_snd (by assumption) ?_ | refine same_trd (by assumption) ?_ | dsimp only | split)

theorem servoTransitions_same {s t : State} (a0 : TimeSource) (a1 : Int) (a2 : Bool) (h : Same s t) : Same s (servoTransitions a0 a1 a2 t) := by
  unfold servoTransitions
  repeat' with_reducible (first | intro _ | assumption | apply onServo_same | fail_if_no_progress apply same_rec | apply same_ite | refine same_fst (by assumption) ?_ | refine same_snd (by assumption) ?_ | refine same_trd (by assumption) ?_ | dsimp only | split)

theorem measure_same {s t : State} (a0 : TimeSource) (a1 : Int) (a2 : Nat) (h : Same s t) : Same s (measure a0 a1 a2 t) := by
  unfold measure
  repeat' with_reducible (first | intro _ | assumption | apply meetSource_same | apply onServo_same | apply applyOffsetTo_same | apply refreshTrace_same | apply servoTransitions_same | fail_if_no_progress apply same_rec | apply same_ite | refine same_fst (by assumption) ?_ | refine same_snd (by assumption) ?_ | refine same_trd (by assumption) ?_ | dsimp only | split)

theorem execHoldoverExpire_same {s t : State} (h : Same s t) : GoesSame s (execHoldoverExpire t) := by
  unfold execHoldoverExpire
  repeat' with_reducible (first | intro _ | assumption | apply goesSame_next | apply refreshTrace_same | apply onServo_same | fail_if_no_progress apply same_rec | apply same_ite | refine same_fst (by assumption) ?_ | refine same_snd (by assumption) ?_ | refine same_trd (by assumption) ?_ | dsimp only | split)

theorem execPpsOutPulse_same {s t : State} (h : Same s t) : GoesSame s (execPpsOutPulse t) := by
  unfold execPpsOutPulse
  repeat' with_reducible (first | intro _ | assumption | apply goesSame_next | apply onPps_same | fail_if_no_progress apply same_rec | apply same_ite | dsimp only | split)

theorem execPpsOutFall_same {s t : State} (h : Same s t) : GoesSame s (execPpsOutFall t) := by
  unfold execPpsOutFall
  repeat' with_reducible (first | intro _ | assumption | apply goesSame_next | apply onPps_same | fail_if_no_progress apply same_rec | apply same_ite | dsimp only | split)

theorem execPpsInEdge_same {s t : State} (a0 : Stamp) (h : Same s t) : GoesSame s (execPpsInEdge a0 t) := by
  unfold execPpsInEdge
  repeat' with_reducible (first | intro _ | assumption | apply goesSame_next | apply onPtp_same | apply onPps_same | apply postIf_same | apply measure_same | apply onServo_same | fail_if_no_progress apply same_rec | apply same_ite | apply same_elim | refine same_fst (by assumption) ?_ | refine same_snd (by assumption) ?_ | refine same_trd (by assumption) ?_ | dsimp only | split)

theorem execPpsInLost_same {s t : State} (h : Same s t) : GoesSame s (execPpsInLost t) := by
  unfold execPpsInLost
  repeat' with_reducible (first | intro _ | assumption | apply goesSame_next | apply post_same | apply onPps_same | apply sourceLost_same | fail_if_no_progress apply same_rec | apply same_ite | dsimp only | split)

theorem execClockMonitorSecond_same {s t : State} (a0 : Nat) (h : Same s t) : GoesSame s (execClockMonitorSecond a0 t) := by
  unfold execClockMonitorSecond
  repeat' with_reducible (first | intro _ | assumption | apply goesSame_next | apply onTime_same | apply post_same | apply refreshTrace_same | apply enterHoldover_same | fail_if_no_progress apply same_rec | apply same_ite | refine same_fst (by assumption) ?_ | refine same_snd (by assumption) ?_ | refine same_trd (by assumption) ?_ | dsimp only | split)

theorem execTbSecLoRead_same {s t : State} (h : Same s t) : GoesSame s (execTbSecLoRead t) := by
  unfold execTbSecLoRead
  repeat' with_reducible (first | intro _ | assumption | apply goesSame_next | apply onTime_same | fail_if_no_progress apply same_rec | apply same_ite | dsimp only | split)

theorem execTbFracRead_same {s t : State} (h : Same s t) : GoesSame s (execTbFracRead t) := by
  unfold execTbFracRead
  repeat' with_reducible (first | intro _ | assumption | apply goesSame_next | apply onTime_same | fail_if_no_progress apply same_rec | apply same_ite | dsimp only | split)

theorem execTimeClearStats_same {s t : State} (h : Same s t) : GoesSame s (execTimeClearStats t) := by
  unfold execTimeClearStats
  repeat' with_reducible (first | intro _ | assumption | apply goesSame_next | apply onPps_same | apply onServo_same | apply onPtp_same | fail_if_no_progress apply same_rec | apply same_ite | refine same_fst (by assumption) ?_ | refine same_snd (by assumption) ?_ | refine same_trd (by assumption) ?_ | dsimp only | split)

theorem onAlarm_same {s t : State} (a0 : Nat) (a1 : Alarm → Alarm) (h : Same s t) : Same s (onAlarm a0 a1 t) := by
  unfold onAlarm
  repeat' with_reducible (first | intro _ | assumption | apply onRtc_same | fail_if_no_progress apply same_rec | apply same_ite | dsimp only | split)

theorem fireAlarm_same {s t : State} (a0 : Nat) (a1 : Nat) (a2 : Bool) (h : Same s t) : Same s (fireAlarm a0 a1 a2 t) := by
  unfold fireAlarm
  repeat' with_reducible (first | intro _ | assumption | apply onAlarm_same | apply postIf_same | fail_if_no_progress apply same_rec | apply same_ite | refine same_fst (by assumption) ?_ | refine same_snd (by assumption) ?_ | refine same_trd (by assumption) ?_ | dsimp only | split)

theorem execRtcAlarm_same {s t : State} (a0 : Nat) (h : Same s t) : GoesSame s (execRtcAlarm a0 t) := by
  unfold execRtcAlarm
  repeat' with_reducible (first | intro _ | assumption | apply goesSame_next | apply fireAlarm_same | apply same_ite | dsimp only | split)

theorem endRuns_same {s t : State} (h : Same s t) : Same s (endRuns t) := by
  unfold endRuns
  repeat' with_reducible (first | intro _ | assumption | apply onRtc_same | fail_if_no_progress apply same_rec | apply same_ite | dsimp only | split)

theorem passOver_same {s t : State} (a0 : Nat) (h : Same s t) : Same s (passOver a0 t) := by
  unfold passOver
  repeat' with_reducible (first | intro _ | assumption | apply fireAlarm_same | apply same_ite | apply same_foldl | apply same_foldl_fst | apply same_foldl_snd | dsimp only | split)

theorem rtcEdge_same {s t : State} (h : Same s t) : Same s (rtcEdge t) := by
  unfold rtcEdge
  repeat' with_reducible (first | intro _ | assumption | apply passOver_same | apply endRuns_same | apply onRtc_same | apply same_ite | dsimp only | split)

theorem execSodWrap_same {s t : State} (h : Same s t) : GoesSame s (execSodWrap t) := by
  unfold execSodWrap
  repeat' with_reducible (first | intro _ | assumption | apply goesSame_next | apply onRtc_same | apply same_ite | dsimp only | split)

theorem jumpAlarm_same {s t : State} (a0 : Nat) (a1 : Nat) (a2 : Nat) (h : Same s t) : Same s (jumpAlarm a0 a1 t a2) := by
  unfold jumpAlarm
  repeat' with_reducible (first | intro _ | assumption | apply fireAlarm_same | apply post_same | apply onAlarm_same | fail_if_no_progress apply same_rec | apply same_ite | dsimp only | split)

theorem loadTick_same {s t : State} (a0 : Nat) (h : Same s t) : Same s (loadTick a0 t) := by
  unfold loadTick
  repeat' with_reducible (first | intro _ | assumption | apply onRtc_same | apply jumpAlarm_same | apply endRuns_same | fail_if_no_progress apply same_rec | apply same_ite | apply same_foldl | apply same_foldl_fst | apply same_foldl_snd | refine same_fst (by assumption) ?_ | refine same_snd (by assumption) ?_ | refine same_trd (by assumption) ?_ | dsimp only | split)

theorem execRtcSetLoad_same {s t : State} (h : Same s t) : GoesSame s (execRtcSetLoad t) := by
  unfold execRtcSetLoad
  repeat' with_reducible (first | intro _ | assumption | apply goesSame_next | apply onRtc_same | apply loadTick_same | apply rtcEdge_same | apply post_same | fail_if_no_progress apply same_rec | apply same_ite | refine same_fst (by assumption) ?_ | refine same_snd (by assumption) ?_ | refine same_trd (by assumption) ?_ | dsimp only | split)

theorem execRtcShiftDone_same {s t : State} (h : Same s t) : GoesSame s (execRtcShiftDone t) := by
  unfold execRtcShiftDone
  repeat' with_reducible (first | intro _ | assumption | apply goesSame_next | apply post_same | apply onRtc_same | fail_if_no_progress apply same_rec | apply same_ite | refine same_fst (by assumption) ?_ | refine same_snd (by assumption) ?_ | refine same_trd (by assumption) ?_ | dsimp only | split)

theorem startShift_same {s t : State} (a0 : Int) (h : Same s t) : Same s (startShift a0 t) := by
  unfold startShift
  repeat' with_reducible (first | intro _ | assumption | apply onRtc_same | fail_if_no_progress apply same_rec | apply same_ite | refine same_fst (by assumption) ?_ | refine same_snd (by assumption) ?_ | refine same_trd (by assumption) ?_ | dsimp only | split)

theorem execRtcAlign_same {s t : State} (h : Same s t) : GoesSame s (execRtcAlign t) := by
  unfold execRtcAlign
  repeat' with_reducible (first | intro _ | assumption | apply goesSame_next | apply onRtc_same | apply startShift_same | fail_if_no_progress apply same_rec | apply same_ite | refine same_fst (by assumption) ?_ | refine same_snd (by assumption) ?_ | refine same_trd (by assumption) ?_ | dsimp only | split)

theorem execRtcSupplyChangeover_same {s t : State} (a0 : Bool) (h : Same s t) : GoesSame s (execRtcSupplyChangeover a0 t) := by
  unfold execRtcSupplyChangeover
  repeat' with_reducible (first | intro _ | assumption | apply goesSame_next | apply onRtc_same | fail_if_no_progress apply same_rec | apply same_ite | dsimp only | split)

theorem execRtcBatlow_same {s t : State} (a0 : Nat) (h : Same s t) : GoesSame s (execRtcBatlow a0 t) := by
  unfold execRtcBatlow
  repeat' with_reducible (first | intro _ | assumption | apply goesSame_next | apply onRtc_same | fail_if_no_progress apply same_rec | apply same_ite | refine same_fst (by assumption) ?_ | refine same_snd (by assumption) ?_ | refine same_trd (by assumption) ?_ | dsimp only | split)

theorem execRtcLost_same {s t : State} (h : Same s t) : GoesSame s (execRtcLost t) := by
  unfold execRtcLost
  repeat' with_reducible (first | intro _ | assumption | apply goesSame_next | fail_if_no_progress apply same_rec | apply same_ite | dsimp only | split)

theorem execBackupMeasure_same {s t : State} (a0 : Nat) (h : Same s t) : GoesSame s (execBackupMeasure a0 t) := by
  unfold execBackupMeasure
  repeat' with_reducible (first | intro _ | assumption | apply goesSame_next | apply onRtc_same | fail_if_no_progress apply same_rec | apply same_ite | dsimp only | split)

theorem execChargerTempHold_same {s t : State} (a0 : Bool) (h : Same s t) : GoesSame s (execChargerTempHold a0 t) := by
  unfold execChargerTempHold
  repeat' with_reducible (first | intro _ | assumption | apply goesSame_next | apply onRtc_same | fail_if_no_progress apply same_rec | apply same_ite | dsimp only | split)

theorem execRtcTickLoRead_same {s t : State} (h : Same s t) : GoesSame s (execRtcTickLoRead t) := by
  unfold execRtcTickLoRead
  repeat' with_reducible (first | intro _ | assumption | apply goesSame_next | apply onRtc_same | fail_if_no_progress apply same_rec | apply same_ite | refine same_fst (by assumption) ?_ | refine same_snd (by assumption) ?_ | refine same_trd (by assumption) ?_ | dsimp only | split)

theorem execRtcFlagsRead_same {s t : State} (h : Same s t) : GoesSame s (execRtcFlagsRead t) := by
  unfold execRtcFlagsRead
  repeat' with_reducible (first | intro _ | assumption | apply goesSame_next | apply onRtc_same | fail_if_no_progress apply same_rec | apply same_ite | dsimp only | split)

theorem execAlarmStatusClear_same {s t : State} (a0 : Nat) (a1 : U32) (h : Same s t) : GoesSame s (execAlarmStatusClear a0 a1 t) := by
  unfold execAlarmStatusClear
  repeat' with_reducible (first | intro _ | assumption | apply goesSame_next | apply onAlarm_same | apply same_ite | dsimp only | split)

theorem lfTick_same {s t : State} (h : Same s t) : Same s (lfTick t) := by
  unfold lfTick
  repeat' with_reducible (first | intro _ | assumption | apply onTime_same | apply rtcEdge_same | fail_if_no_progress apply same_rec | apply same_ite | dsimp only | split)

theorem tick_same {s t : State} (h : Same s t) : Same s (tick t) := by
  unfold tick
  repeat' with_reducible (first | intro _ | assumption | apply onTime_same | apply lfTick_same | fail_if_no_progress apply same_rec | apply same_ite | refine same_fst (by assumption) ?_ | refine same_snd (by assumption) ?_ | refine same_trd (by assumption) ?_ | dsimp only | split)

theorem sendPtp_same {s t : State} (a0 : Nat) (a1 : Nat) (a2 : Nat) (a3 : Int) (h : Same s t) : Same s (sendPtp a0 a1 a2 a3 t) := by
  unfold sendPtp
  repeat' with_reducible (first | intro _ | assumption | apply onPort_same | apply onPtp_same | fail_if_no_progress apply same_rec | apply same_ite | refine same_fst (by assumption) ?_ | refine same_snd (by assumption) ?_ | refine same_trd (by assumption) ?_ | dsimp only | split)

theorem ptpRx_same {s t : State} (a0 : Nat) (a1 : Nat) (a2 : State → State) (ha2 : ∀ u, Same s u → Same s (a2 u)) (h : Same s t) : Same s (ptpRx a0 a1 a2 t) := by
  unfold ptpRx
  repeat' with_reducible (first | intro _ | assumption | apply ha2 | apply onPort_same | fail_if_no_progress apply same_rec | apply same_ite | refine same_fst (by assumption) ?_ | refine same_snd (by assumption) ?_ | refine same_trd (by assumption) ?_ | dsimp only | split)

theorem masterUtc_same {s t : State} (h : Same s t) : Same s (masterUtc t) := by
  unfold masterUtc
  repeat' with_reducible (first | intro _ | assumption | apply onPtp_same | fail_if_no_progress apply same_rec | apply same_ite | refine same_fst (by assumption) ?_ | refine same_snd (by assumption) ?_ | refine same_trd (by assumption) ?_ | dsimp only | split)

theorem selectMaster_same {s t : State} (h : Same s t) : Same s (selectMaster t) := by
  unfold selectMaster
  repeat' with_reducible (first | intro _ | assumption | apply ptpLost_same | apply onPtp_same | apply refreshTrace_same | apply masterUtc_same | fail_if_no_progress apply same_rec | apply same_ite | refine same_fst (by assumption) ?_ | refine same_snd (by assumption) ?_ | refine same_trd (by assumption) ?_ | dsimp only | split)

theorem ptpAnnounceAt_same {s t : State} (a0 : Nat) (a1 : Announce) (h : Same s t) : Same s (ptpAnnounceAt a0 a1 t) := by
  unfold ptpAnnounceAt
  repeat' with_reducible (first | intro _ | assumption | apply onPtp_same | apply selectMaster_same | fail_if_no_progress apply same_rec | apply same_ite | refine same_fst (by assumption) ?_ | refine same_snd (by assumption) ?_ | refine same_trd (by assumption) ?_ | dsimp only | split)

theorem execPtpAnnounce_same {s t : State} (a0 : Nat) (a1 : Announce) (h : Same s t) : GoesSame s (execPtpAnnounce a0 a1 t) := by
  unfold execPtpAnnounce
  repeat' with_reducible (first | intro _ | assumption | apply goesSame_next | apply ptpRx_same | apply ptpAnnounceAt_same | apply same_ite | dsimp only | split)

theorem execAnnounceReceiptTimeout_same {s t : State} (h : Same s t) : GoesSame s (execAnnounceReceiptTimeout t) := by
  unfold execAnnounceReceiptTimeout
  repeat' with_reducible (first | intro _ | assumption | apply goesSame_next | apply selectMaster_same | apply onPtp_same | fail_if_no_progress apply same_rec | apply same_ite | refine same_fst (by assumption) ?_ | refine same_snd (by assumption) ?_ | refine same_trd (by assumption) ?_ | dsimp only | split)

theorem ptpSettingsChanged_same {s t : State} (h : Same s t) : Same s (ptpSettingsChanged t) := by
  unfold ptpSettingsChanged
  repeat' with_reducible (first | intro _ | assumption | apply selectMaster_same | apply onPtp_same | fail_if_no_progress apply same_rec | apply same_ite | dsimp only | split)

theorem enqueueStamp_same {s t : State} (a0 : Nat) (a1 : Nat) (h : Same s t) : Same s (enqueueStamp a0 a1 t).2 := by
  unfold enqueueStamp
  repeat' with_reducible (first | intro _ | assumption | apply onPtp_same | apply postIf_same | fail_if_no_progress apply same_rec | apply same_ite | apply same_elim | refine same_fst (by assumption) ?_ | refine same_snd (by assumption) ?_ | refine same_trd (by assumption) ?_ | dsimp only | split)

theorem sendFollowUps_same {s t : State} (a0 : Nat) (h : Same s t) : Same s (sendFollowUps a0 t) := by
  unfold sendFollowUps
  repeat' with_reducible (first | intro _ | assumption | apply sendPtp_same | apply onPtp_same | fail_if_no_progress apply same_rec | apply same_ite | apply same_foldl | apply same_foldl_fst | apply same_foldl_snd | dsimp only | split)

theorem ownStamp_same {s t : State} (a0 : TxStamp) (a1 : Option Nat) (h : Same s t) : Same s (ownStamp a0 a1 t) := by
  unfold ownStamp
  repeat' with_reducible (first | intro _ | assumption | apply onPtp_same | fail_if_no_progress apply same_rec | apply same_ite | apply same_elim | refine same_fst (by assumption) ?_ | refine same_snd (by assumption) ?_ | refine same_trd (by assumption) ?_ | dsimp only | split)

theorem execTxqDrain_same {s t : State} (h : Same s t) : GoesSame s (execTxqDrain t) := by
  unfold execTxqDrain
  repeat' with_reducible (first | intro _ | assumption | apply goesSame_next | apply onPtp_same | apply ownStamp_same | apply sendFollowUps_same | fail_if_no_progress apply same_rec | apply same_ite | dsimp only | split)

theorem execTxqStale_same {s t : State} (h : Same s t) : GoesSame s (execTxqStale t) := by
  unfold execTxqStale
  repeat' with_reducible (first | intro _ | assumption | apply goesSame_next | apply onPtp_same | apply ownStamp_same | fail_if_no_progress apply same_rec | apply same_ite | refine same_fst (by assumption) ?_ | refine same_snd (by assumption) ?_ | refine same_trd (by assumption) ?_ | dsimp only | split)

theorem ptpFormatError_same {s t : State} (h : Same s t) : Same s (ptpFormatError t) := by
  unfold ptpFormatError
  repeat' with_reducible (first | intro _ | assumption | apply onPtp_same | fail_if_no_progress apply same_rec | apply same_ite | dsimp only | split)

theorem syncComplete_same {s t : State} (a0 : Nat) (a1 : Nat) (a2 : Int) (h : Same s t) : Same s (syncComplete a0 a1 a2 t) := by
  unfold syncComplete
  repeat' with_reducible (first | intro _ | assumption | apply onPtp_same | apply measure_same | apply onServo_same | fail_if_no_progress apply same_rec | apply same_ite | dsimp only | split)

theorem forwardSync_same {s t : State} (a0 : Nat) (a1 : PtpMsg) (a2 : Nat) (h : Same s t) : Same s (forwardSync a0 a1 a2 t) := by
  unfold forwardSync
  repeat' with_reducible (first | intro _ | assumption | apply drawFree_same | apply sendPtp_same | apply enqueueStamp_same | apply onPtp_same | fail_if_no_progress apply same_rec | apply same_ite | apply same_foldl | apply same_foldl_fst | apply same_foldl_snd | refine same_fst (by assumption) ?_ | refine same_snd (by assumption) ?_ | refine same_trd (by assumption) ?_ | dsimp only | split)

theorem ptpSyncAt_same {s t : State} (a0 : Nat) (a1 : PtpMsg) (h : Same s t) : Same s (ptpSyncAt a0 a1 t) := by
  unfold ptpSyncAt
  repeat' with_reducible (first | intro _ | assumption | apply ptpFormatError_same | apply onPtp_same | apply sendPtp_same | apply forwardSync_same | apply syncComplete_same | fail_if_no_progress apply same_rec | apply same_ite | apply same_foldl | apply same_foldl_fst | apply same_foldl_snd | refine same_fst (by assumption) ?_ | refine same_snd (by assumption) ?_ | refine same_trd (by assumption) ?_ | dsimp only | split)

theorem execPtpSync_same {s t : State} (a0 : Nat) (a1 : PtpMsg) (h : Same s t) : GoesSame s (execPtpSync a0 a1 t) := by
  unfold execPtpSync
  repeat' with_reducible (first | intro _ | assumption | apply goesSame_next | apply ptpRx_same | apply ptpSyncAt_same | apply same_ite | dsimp only | split)

theorem ptpFollowUpAt_same {s t : State} (a0 : Nat) (a1 : PtpMsg) (h : Same s t) : Same s (ptpFollowUpAt a0 a1 t) := by
  unfold ptpFollowUpAt
  repeat' with_reducible (first | intro _ | assumption | apply ptpFormatError_same | apply sendFollowUps_same | apply onPtp_same | apply syncComplete_same | fail_if_no_progress apply same_rec | apply same_ite | refine same_fst (by assumption) ?_ | refine same_snd (by assumption) ?_ | refine same_trd (by assumption) ?_ | dsimp only | split)

theorem execPtpFollowUp_same {s t : State} (a0 : Nat) (a1 : PtpMsg) (h : Same s t) : GoesSame s (execPtpFollowUp a0 a1 t) := by
  unfold execPtpFollowUp
  repeat' with_reducible (first | intro _ | assumption | apply goesSame_next | apply ptpRx_same | apply ptpFollowUpAt_same | apply same_ite | dsimp only | split)

theorem stampLost_same {s t : State} (h : Same s t) : Same s (stampLost t) := by
  unfold stampLost
  repeat' with_reducible (first | intro _ | assumption | apply onPtp_same | fail_if_no_progress apply same_rec | apply same_ite | refine same_fst (by assumption) ?_ | refine same_snd (by assumption) ?_ | refine same_trd (by assumption) ?_ | dsimp only | split)

theorem execPtpDelayReq_same {s t : State} (a0 : Stamp) (h : Same s t) : GoesSame s (execPtpDelayReq a0 t) := by
  unfold execPtpDelayReq
  repeat' with_reducible (first | intro _ | assumption | apply goesSame_next | apply sendPtp_same | apply onPtp_same | apply enqueueStamp_same | apply stampLost_same | fail_if_no_progress apply same_rec | apply same_ite | refine same_fst (by assumption) ?_ | refine same_snd (by assumption) ?_ | refine same_trd (by assumption) ?_ | dsimp only | split)

theorem ptpDelayRespAt_same {s t : State} (a0 : Nat) (a1 : PtpMsg) (h : Same s t) : Same s (ptpDelayRespAt a0 a1 t) := by
  unfold ptpDelayRespAt
  repeat' with_reducible (first | intro _ | assumption | apply ptpFormatError_same | apply onPtp_same | apply sendPtp_same | apply onServo_same | apply measure_same | fail_if_no_progress apply same_rec | apply same_ite | apply same_foldl | apply same_foldl_fst | apply same_foldl_snd | refine same_fst (by assumption) ?_ | refine same_snd (by assumption) ?_ | refine same_trd (by assumption) ?_ | dsimp only | split)

theorem execPtpDelayResp_same {s t : State} (a0 : Nat) (a1 : PtpMsg) (h : Same s t) : GoesSame s (execPtpDelayResp a0 a1 t) := by
  unfold execPtpDelayResp
  repeat' with_reducible (first | intro _ | assumption | apply goesSame_next | apply ptpRx_same | apply ptpDelayRespAt_same | apply same_ite | dsimp only | split)

theorem execPtpPdelayReq_same {s t : State} (a0 : Nat) (a1 : Stamp) (h : Same s t) : GoesSame s (execPtpPdelayReq a0 a1 t) := by
  unfold execPtpPdelayReq
  repeat' with_reducible (first | intro _ | assumption | apply goesSame_next | apply sendPtp_same | apply onPtp_same | apply enqueueStamp_same | apply stampLost_same | fail_if_no_progress apply same_rec | apply same_ite | apply same_elim | refine same_fst (by assumption) ?_ | refine same_snd (by assumption) ?_ | refine same_trd (by assumption) ?_ | dsimp only | split)

theorem ptpPdelayReqRxAt_same {s t : State} (a0 : Nat) (a1 : PtpMsg) (h : Same s t) : Same s (ptpPdelayReqRxAt a0 a1 t) := by
  unfold ptpPdelayReqRxAt
  repeat' with_reducible (first | intro _ | assumption | apply ptpFormatError_same | apply onPtp_same | apply drawFree_same | apply sendPtp_same | fail_if_no_progress apply same_rec | apply same_ite | refine same_fst (by assumption) ?_ | refine same_snd (by assumption) ?_ | refine same_trd (by assumption) ?_ | dsimp only | split)

theorem execPtpPdelayReqRx_same {s t : State} (a0 : Nat) (a1 : PtpMsg) (h : Same s t) : GoesSame s (execPtpPdelayReqRx a0 a1 t) := by
  unfold execPtpPdelayReqRx
  repeat' with_reducible (first | intro _ | assumption | apply goesSame_next | apply ptpRx_same | apply ptpPdelayReqRxAt_same | apply same_ite | dsimp only | split)

theorem ptpPdelayRespAt_same {s t : State} (a0 : Nat) (a1 : PtpMsg) (h : Same s t) : Same s (ptpPdelayRespAt a0 a1 t) := by
  unfold ptpPdelayRespAt
  repeat' with_reducible (first | intro _ | assumption | apply ptpFormatError_same | apply onPtp_same | fail_if_no_progress apply same_rec | apply same_ite | refine same_fst (by assumption) ?_ | refine same_snd (by assumption) ?_ | refine same_trd (by assumption) ?_ | dsimp only | split)

theorem execPtpPdelayResp_same {s t : State} (a0 : Nat) (a1 : PtpMsg) (h : Same s t) : GoesSame s (execPtpPdelayResp a0 a1 t) := by
  unfold execPtpPdelayResp
  repeat' with_reducible (first | intro _ | assumption | apply goesSame_next | apply ptpRx_same | apply ptpPdelayRespAt_same | apply same_ite | dsimp only | split)

theorem execLeapSecond_same {s t : State} (h : Same s t) : GoesSame s (execLeapSecond t) := by
  unfold execLeapSecond
  repeat' with_reducible (first | intro _ | assumption | apply goesSame_next | apply onPtp_same | apply post_same | apply onRtc_same | fail_if_no_progress apply same_rec | apply same_ite | refine same_fst (by assumption) ?_ | refine same_snd (by assumption) ?_ | refine same_trd (by assumption) ?_ | dsimp only | split)

theorem timGet_same (a0 : Nat) (a1 : State → Bytes) : SpecSame (timGet a0 a1) := by
  constructor <;> (unfold timGet; repeat' with_reducible (first | intro _ | assumption | apply SpecSame.mk | apply same_ite | refine same_fst (by assumption) ?_ | refine same_snd (by assumption) ?_ | refine same_trd (by assumption) ?_ | dsimp only | split))

theorem timSet_same (a0 : Nat) (a1 : Nat) (a2 : Bytes → Chk) : SpecSame (timSet a0 a1 a2) := by
  constructor <;> (unfold timSet; repeat' with_reducible (first | intro _ | assumption | apply SpecSame.mk | apply settingAccepted_same | apply writeSetting_same | apply same_ite | dsimp only | split))

theorem timStatus_same  : SpecSame (timStatus ) := by
  unfold timStatus
  repeat' with_reducible (first | intro _ | assumption | apply timGet_same | apply same_elim | dsimp only)

theorem execTimStatus_same {s t : State} (a0 : CmdStep) (h : Same s t) : GoesSame s (execTimStatus a0 t) := goesSame_next (mailboxCommand_same _ _ timStatus_same h)

theorem timPtpSet_same  : SpecSame (timPtpSet ) := by
  unfold timPtpSet
  repeat' with_reducible (first | intro _ | assumption | apply timSet_same | dsimp only)

theorem execTimPtpSet_same {s t : State} (a0 : CmdStep) (h : Same s t) : GoesSame s (execTimPtpSet a0 t) := goesSame_next (mailboxCommand_same _ _ timPtpSet_same h)

theorem timPtpRead_same  : SpecSame (timPtpRead ) := by
  unfold timPtpRead
  repeat' with_reducible (first | intro _ | assumption | apply timGet_same | dsimp only)

theorem execTimPtpRead_same {s t : State} (a0 : CmdStep) (h : Same s t) : GoesSame s (execTimPtpRead a0 t) := goesSame_next (mailboxCommand_same _ _ timPtpRead_same h)

theorem timTimeSet_same  : SpecSame (timTimeSet ) := by
  constructor <;> (unfold timTimeSet; repeat' with_reducible (first | intro _ | assumption | apply SpecSame.mk | apply onServo_same | apply stepTime_same | apply refreshTrace_same | fail_if_no_progress apply same_rec | apply same_ite | refine same_fst (by assumption) ?_ | refine same_snd (by assumption) ?_ | refine same_trd (by assumption) ?_ | dsimp only | split))

theorem execTimTimeSet_same {s t : State} (a0 : CmdStep) (h : Same s t) : GoesSame s (execTimTimeSet a0 t) := goesSame_next (mailboxCommand_same _ _ timTimeSet_same h)

theorem timRtcRead_same  : SpecSame (timRtcRead ) := by
  unfold timRtcRead
  repeat' with_reducible (first | intro _ | assumption | apply timGet_same | dsimp only)

theorem execTimRtcRead_same {s t : State} (a0 : CmdStep) (h : Same s t) : GoesSame s (execTimRtcRead a0 t) := goesSame_next (mailboxCommand_same _ _ timRtcRead_same h)

theorem timRtcSet_same  : SpecSame (timRtcSet ) := by
  constructor <;> (unfold timRtcSet; repeat' with_reducible (first | intro _ | assumption | apply SpecSame.mk | apply tick_same | apply onRtc_same | fail_if_no_progress apply same_rec | apply same_ite | refine same_fst (by assumption) ?_ | refine same_snd (by assumption) ?_ | refine same_trd (by assumption) ?_ | dsimp only | split))

theorem execTimRtcSet_same {s t : State} (a0 : CmdStep) (h : Same s t) : GoesSame s (execTimRtcSet a0 t) := goesSame_next (mailboxCommand_same _ _ timRtcSet_same h)

theorem timRtcShift_same  : SpecSame (timRtcShift ) := by
  constructor <;> (unfold timRtcShift; repeat' with_reducible (first | intro _ | assumption | apply SpecSame.mk | apply startShift_same | apply same_ite | refine same_fst (by assumption) ?_ | refine same_snd (by assumption) ?_ | refine same_trd (by assumption) ?_ | dsimp only | split))

theorem execTimRtcShift_same {s t : State} (a0 : CmdStep) (h : Same s t) : GoesSame s (execTimRtcShift a0 t) := goesSame_next (mailboxCommand_same _ _ timRtcShift_same h)

theorem timAlarmSet_same  : SpecSame (timAlarmSet ) := by
  constructor <;> (unfold timAlarmSet; repeat' with_reducible (first | intro _ | assumption | apply SpecSame.mk | apply onAlarm_same | fail_if_no_progress apply same_rec | apply same_ite | refine same_fst (by assumption) ?_ | refine same_snd (by assumption) ?_ | refine same_trd (by assumption) ?_ | dsimp only | split))

theorem execTimAlarmSet_same {s t : State} (a0 : CmdStep) (h : Same s t) : GoesSame s (execTimAlarmSet a0 t) := goesSame_next (mailboxCommand_same _ _ timAlarmSet_same h)

theorem timAlarmRead_same  : SpecSame (timAlarmRead ) := by
  constructor <;> (unfold timAlarmRead; repeat' with_reducible (first | intro _ | assumption | apply SpecSame.mk | apply same_ite | refine same_fst (by assumption) ?_ | refine same_snd (by assumption) ?_ | refine same_trd (by assumption) ?_ | dsimp only | split))

theorem execTimAlarmRead_same {s t : State} (a0 : CmdStep) (h : Same s t) : GoesSame s (execTimAlarmRead a0 t) := goesSame_next (mailboxCommand_same _ _ timAlarmRead_same h)

theorem timAlarmAck_same  : SpecSame (timAlarmAck ) := by
  constructor <;> (unfold timAlarmAck; repeat' with_reducible (first | intro _ | assumption | apply SpecSame.mk | apply onAlarm_same | apply same_ite | refine same_fst (by assumption) ?_ | refine same_snd (by assumption) ?_ | refine same_trd (by assumption) ?_ | dsimp only | split))

theorem execTimAlarmAck_same {s t : State} (a0 : CmdStep) (h : Same s t) : GoesSame s (execTimAlarmAck a0 t) := goesSame_next (mailboxCommand_same _ _ timAlarmAck_same h)

theorem timPpsSet_same  : SpecSame (timPpsSet ) := by
  unfold timPpsSet
  repeat' with_reducible (first | intro _ | assumption | apply timSet_same | dsimp only)

theorem execTimPpsSet_same {s t : State} (a0 : CmdStep) (h : Same s t) : GoesSame s (execTimPpsSet a0 t) := goesSame_next (mailboxCommand_same _ _ timPpsSet_same h)

theorem timPpsRead_same  : SpecSame (timPpsRead ) := by
  unfold timPpsRead
  repeat' with_reducible (first | intro _ | assumption | apply timGet_same | dsimp only)

theorem execTimPpsRead_same {s t : State} (a0 : CmdStep) (h : Same s t) : GoesSame s (execTimPpsRead a0 t) := goesSame_next (mailboxCommand_same _ _ timPpsRead_same h)

theorem timBackupSet_same  : SpecSame (timBackupSet ) := by
  unfold timBackupSet
  repeat' with_reducible (first | intro _ | assumption | apply timSet_same | dsimp only)

theorem execTimBackupSet_same {s t : State} (a0 : CmdStep) (h : Same s t) : GoesSame s (execTimBackupSet a0 t) := goesSame_next (mailboxCommand_same _ _ timBackupSet_same h)

theorem portTick_same {s t : State} (a0 : Nat) (h : Same s t) : Same s (portTick a0 t) := by
  unfold portTick
  repeat' with_reducible (first | intro _ | assumption | apply onPort_same | apply onNet_same | fail_if_no_progress apply same_rec | apply same_ite | refine same_fst (by assumption) ?_ | refine same_snd (by assumption) ?_ | refine same_trd (by assumption) ?_ | dsimp only | split)

theorem netTick_same {s t : State} (h : Same s t) : Same s (netTick t) := by
  unfold netTick
  repeat' with_reducible (first | intro _ | assumption | apply portTick_same | apply same_ite | apply same_foldl | apply same_foldl_fst | apply same_foldl_snd | dsimp only | split)

theorem enqueue_same {s t : State} (a0 : Nat) (a1 : Nat) (a2 : SentFrame) (h : Same s t) : Same s (enqueue a0 a1 a2 t) := by
  unfold enqueue
  repeat' with_reducible (first | intro _ | assumption | apply onPort_same | fail_if_no_progress apply same_rec | apply same_ite | dsimp only | split)

theorem notLearned_same {s t : State} (h : Same s t) : Same s (notLearned t) := by
  unfold notLearned
  repeat' with_reducible (first | intro _ | assumption | apply onNet_same | apply postIf_same | fail_if_no_progress apply same_rec | apply same_ite | apply same_elim | dsimp only | split)

theorem learn_same {s t : State} (a0 : Nat) (a1 : Nat) (a2 : Bytes) (h : Same s t) : Same s (learn a0 a1 a2 t) := by
  unfold learn
  repeat' with_reducible (first | intro _ | assumption | apply onNet_same | apply notLearned_same | fail_if_no_progress apply same_rec | apply same_ite | dsimp only | split)

theorem execFdbAge_same {s t : State} (a0 : Nat) (a1 : Bytes) (h : Same s t) : GoesSame s (execFdbAge a0 a1 t) := by
  unfold execFdbAge
  repeat' with_reducible (first | intro _ | assumption | apply goesSame_next | apply onNet_same | fail_if_no_progress apply same_rec | apply same_ite | dsimp only | split)

theorem stormDrop_same {s t : State} (a0 : Nat) (h : Same s t) : Same s (stormDrop a0 t) := by
  unfold stormDrop
  repeat' with_reducible (first | intro _ | assumption | apply onPort_same | apply postIf_same | fail_if_no_progress apply same_rec | apply same_ite | apply same_elim | dsimp only | split)

theorem reply_same {s t : State} (a0 : HostReply) (h : Same s t) : Same s (reply a0 t) := by
  unfold reply
  repeat' with_reducible (first | intro _ | assumption | apply onNet_same | fail_if_no_progress apply same_rec | apply same_ite | dsimp only | split)

theorem unreachableTo_same {s t : State} (a0 : Bytes) (a1 : Bytes) (h : Same s t) : Same s (unreachableTo a0 a1 t) := by
  unfold unreachableTo
  repeat' with_reducible (first | intro _ | assumption | apply reply_same | apply onNet_same | fail_if_no_progress apply same_rec | apply same_ite | dsimp only | split)

theorem tcpFor_same {s t : State} (a0 : Bytes) (a1 : Bytes) (a2 : Bytes) (h : Same s t) : Same s (tcpFor a0 a1 a2 t) := by
  unfold tcpFor
  repeat' with_reducible (first | intro _ | assumption | apply reply_same | apply same_ite | dsimp only | split)

theorem udp4For_same {s t : State} (a0 : Bytes) (a1 : Bytes) (a2 : Bytes) (a3 : Bool) (h : Same s t) : Same s (udp4For a0 a1 a2 a3 t) := by
  unfold udp4For
  repeat' with_reducible (first | intro _ | assumption | apply onNet_same | apply unreachableTo_same | fail_if_no_progress apply same_rec | apply same_ite | dsimp only | split)

theorem host4_same {s t : State} (a0 : EthFrame) (h : Same s t) : Same s (host4 a0 t) := by
  unfold host4
  repeat' with_reducible (first | intro _ | assumption | apply udp4For_same | apply reply_same | apply tcpFor_same | apply same_ite | dsimp only | split)

theorem hostArp_same {s t : State} (a0 : EthFrame) (h : Same s t) : Same s (hostArp a0 t) := by
  unfold hostArp
  repeat' with_reducible (first | intro _ | assumption | apply reply_same | apply same_ite | dsimp only | split)

theorem host6_same {s t : State} (a0 : EthFrame) (h : Same s t) : Same s (host6 a0 t) := by
  unfold host6
  repeat' with_reducible (first | intro _ | assumption | apply reply_same | apply onNet_same | apply tcpFor_same | apply unreachableTo_same | fail_if_no_progress apply same_rec | apply same_ite | dsimp only | split)

theorem hostTakes_same {s t : State} (a0 : Nat) (a1 : EthFrame) (h : Same s t) : Same s (hostTakes a0 a1 t) := by
  unfold hostTakes
  repeat' with_reducible (first | intro _ | assumption | apply onNet_same | apply hostArp_same | apply host4_same | apply host6_same | fail_if_no_progress apply same_rec | apply same_ite | refine same_fst (by assumption) ?_ | refine same_snd (by assumption) ?_ | refine same_trd (by assumption) ?_ | dsimp only | split)

theorem noteDelayReq_same {s t : State} (a0 : EthFrame) (h : Same s t) : Same s (noteDelayReq a0 t) := by
  unfold noteDelayReq
  repeat' with_reducible (first | intro _ | assumption | apply drawFree_same | apply onPtp_same | fail_if_no_progress apply same_rec | apply same_ite | refine same_fst (by assumption) ?_ | refine same_snd (by assumption) ?_ | refine same_trd (by assumption) ?_ | dsimp only | split)

theorem forward_same {s t : State} (a0 : Nat) (a1 : Nat) (a2 : EthFrame) (h : Same s t) : Same s (forward a0 a1 a2 t) := by
  unfold forward
  repeat' with_reducible (first | intro _ | assumption | apply enqueue_same | apply hostTakes_same | apply noteDelayReq_same | apply same_ite | apply same_foldl | apply same_foldl_fst | apply same_foldl_snd | dsimp only | split)

theorem countRx_same {s t : State} (a0 : Nat) (a1 : EthFrame) (h : Same s t) : Same s (countRx a0 a1 t) := by
  unfold countRx
  repeat' with_reducible (first | intro _ | assumption | apply onPort_same | fail_if_no_progress apply same_rec | apply same_ite | refine same_fst (by assumption) ?_ | refine same_snd (by assumption) ?_ | refine same_trd (by assumption) ?_ | dsimp only | split)

theorem execEthernetFrame_same {s t : State} (a0 : Nat) (a1 : EthFrame) (h : Same s t) : GoesSame s (execEthernetFrame a0 a1 t) := by
  unfold execEthernetFrame
  repeat' with_reducible (first | intro _ | assumption | apply goesSame_next | apply countRx_same | apply onPort_same | apply stormDrop_same | apply forward_same | apply learn_same | fail_if_no_progress apply same_rec | apply same_ite | dsimp only | split)

theorem execNetClearStats_same {s t : State} (h : Same s t) : GoesSame s (execNetClearStats t) := by
  unfold execNetClearStats
  repeat' with_reducible (first | intro _ | assumption | apply goesSame_next | apply onNet_same | fail_if_no_progress apply same_rec | apply same_ite | refine same_fst (by assumption) ?_ | refine same_snd (by assumption) ?_ | refine same_trd (by assumption) ?_ | dsimp only | split)

theorem execBannerExpire_same {s t : State} (h : Same s t) : GoesSame s (execBannerExpire t) := by
  unfold execBannerExpire
  repeat' with_reducible (first | intro _ | assumption | apply goesSame_next | apply onPanel_same | fail_if_no_progress apply same_rec | apply same_ite | dsimp only | split)

theorem wake_same {s t : State} (h : Same s t) : Same s (wake t) := by
  unfold wake
  repeat' with_reducible (first | intro _ | assumption | apply onPanel_same | fail_if_no_progress apply same_rec | apply same_ite | refine same_fst (by assumption) ?_ | refine same_snd (by assumption) ?_ | refine same_trd (by assumption) ?_ | dsimp only | split)

theorem submitPin_same {s t : State} (a0 : List Nat) (h : Same s t) : Same s (submitPin a0 t) := by
  unfold submitPin
  repeat' with_reducible (first | intro _ | assumption | apply onPanel_same | apply post_same | apply postIf_same | fail_if_no_progress apply same_rec | apply same_ite | refine same_fst (by assumption) ?_ | refine same_snd (by assumption) ?_ | refine same_trd (by assumption) ?_ | dsimp only | split)

theorem entryKey_same {s t : State} (a0 : Nat) (a1 : PinEntry) (h : Same s t) : Same s (entryKey a0 a1 t) := by
  unfold entryKey
  repeat' with_reducible (first | intro _ | assumption | apply onPanel_same | apply submitPin_same | fail_if_no_progress apply same_rec | apply same_ite | dsimp only | split)

theorem pageKey_same {s t : State} (a0 : Nat) (h : Same s t) : Same s (pageKey a0 t) := by
  unfold pageKey
  repeat' with_reducible (first | intro _ | assumption | apply onPanel_same | fail_if_no_progress apply same_rec | apply same_ite | dsimp only | split)

theorem testKey_same {s t : State} (a0 : Nat) (a1 : PanelTest) (h : Same s t) : Same s (testKey a0 a1 t) := by
  unfold testKey
  repeat' with_reducible (first | intro _ | assumption | apply onPanel_same | fail_if_no_progress apply same_rec | apply same_ite | dsimp only | split)

theorem actOnKey_same {s t : State} (a0 : Nat) (h : Same s t) : Same s (actOnKey a0 t) := by
  unfold actOnKey
  repeat' with_reducible (first | intro _ | assumption | apply testKey_same | apply entryKey_same | apply pageKey_same | fail_if_no_progress apply same_rec | apply same_ite | dsimp only | split)

theorem execKeyPress_same {s t : State} (a0 : Nat) (h : Same s t) : GoesSame s (execKeyPress a0 t) := by
  unfold execKeyPress
  repeat' with_reducible (first | intro _ | assumption | apply goesSame_next | apply onPanel_same | apply wake_same | apply actOnKey_same | fail_if_no_progress apply same_rec | apply same_ite | refine same_fst (by assumption) ?_ | refine same_snd (by assumption) ?_ | refine same_trd (by assumption) ?_ | dsimp only | split)

theorem execKeyRelease_same {s t : State} (a0 : Nat) (h : Same s t) : GoesSame s (execKeyRelease a0 t) := by
  unfold execKeyRelease
  repeat' with_reducible (first | intro _ | assumption | apply goesSame_next | apply onPanel_same | fail_if_no_progress apply same_rec | apply same_ite | dsimp only | split)

theorem execKeyRepeat_same {s t : State} (a0 : Nat) (h : Same s t) : GoesSame s (execKeyRepeat a0 t) := by
  unfold execKeyRepeat
  repeat' with_reducible (first | intro _ | assumption | apply goesSame_next | apply actOnKey_same | apply same_ite | dsimp only | split)

theorem execProxWake_same {s t : State} (h : Same s t) : GoesSame s (execProxWake t) := by
  unfold execProxWake
  repeat' with_reducible (first | intro _ | assumption | apply goesSame_next | apply wake_same | apply onPanel_same | fail_if_no_progress apply same_rec | apply same_ite | dsimp only | split)

theorem execDisplayDim_same {s t : State} (h : Same s t) : GoesSame s (execDisplayDim t) := by
  unfold execDisplayDim
  repeat' with_reducible (first | intro _ | assumption | apply goesSame_next | apply onPanel_same | fail_if_no_progress apply same_rec | apply same_ite | dsimp only | split)

theorem execControlLapse_same {s t : State} (h : Same s t) : GoesSame s (execControlLapse t) := by
  unfold execControlLapse
  repeat' with_reducible (first | intro _ | assumption | apply goesSame_next | apply onPanel_same | fail_if_no_progress apply same_rec | apply same_ite | dsimp only | split)

theorem execBackHold_same {s t : State} (h : Same s t) : GoesSame s (execBackHold t) := by
  unfold execBackHold
  repeat' with_reducible (first | intro _ | assumption | apply goesSame_next | apply onPanel_same | fail_if_no_progress apply same_rec | apply same_ite | dsimp only | split)

theorem execLockoutEnd_same {s t : State} (h : Same s t) : GoesSame s (execLockoutEnd t) := by
  unfold execLockoutEnd
  repeat' with_reducible (first | intro _ | assumption | apply goesSame_next | apply post_same | apply onPanel_same | fail_if_no_progress apply same_rec | apply same_ite | dsimp only | split)

theorem usbRefresh_same {s t : State} (h : Same s t) : Same s (usbRefresh t) := by
  unfold usbRefresh
  repeat' with_reducible (first | intro _ | assumption | apply onPanel_same | apply openSession_same | apply dropSession_same | fail_if_no_progress apply same_rec | apply same_ite | dsimp only | split)

theorem execUsbAttach_same {s t : State} (h : Same s t) : GoesSame s (execUsbAttach t) := by
  unfold execUsbAttach
  repeat' with_reducible (first | intro _ | assumption | apply goesSame_next | apply usbRefresh_same | apply onPanel_same | apply post_same | fail_if_no_progress apply same_rec | apply same_ite | refine same_fst (by assumption) ?_ | refine same_snd (by assumption) ?_ | refine same_trd (by assumption) ?_ | dsimp only | split)

theorem execUsbDetach_same {s t : State} (h : Same s t) : GoesSame s (execUsbDetach t) := by
  unfold execUsbDetach
  repeat' with_reducible (first | intro _ | assumption | apply goesSame_next | apply usbRefresh_same | apply onPanel_same | apply post_same | fail_if_no_progress apply same_rec | apply same_ite | refine same_fst (by assumption) ?_ | refine same_snd (by assumption) ?_ | refine same_trd (by assumption) ?_ | dsimp only | split)

theorem execUsbServiceKey_same {s t : State} (h : Same s t) : GoesSame s (execUsbServiceKey t) := by
  unfold execUsbServiceKey
  repeat' with_reducible (first | intro _ | assumption | apply goesSame_next | apply post_same | apply usbRefresh_same | apply onPanel_same | fail_if_no_progress apply same_rec | apply same_ite | dsimp only | split)

theorem execUsbKeyWindowEnd_same {s t : State} (h : Same s t) : GoesSame s (execUsbKeyWindowEnd t) := by
  unfold execUsbKeyWindowEnd
  repeat' with_reducible (first | intro _ | assumption | apply goesSame_next | apply usbRefresh_same | apply onPanel_same | fail_if_no_progress apply same_rec | apply same_ite | dsimp only | split)

theorem pnlCmd_same (a0 : Nat) (a1 : Bytes → State → Chk) (a2 : Nat → Cmd → State → State × CmdOutcome) (hf2 : ∀ {s u : State} (x0 : Nat) (x1 : Cmd), Same s u → Same s (a2 x0 x1 u).1) : SpecSame (pnlCmd a0 a1 a2) := by
  constructor <;> (unfold pnlCmd; repeat' with_reducible (first | intro _ | assumption | apply SpecSame.mk | apply hf2 | apply same_ite | dsimp only | split))

theorem pnlStatus_same  : SpecSame (pnlStatus ) := by
  unfold pnlStatus
  repeat' with_reducible (first | intro _ | assumption | apply pnlCmd_same | dsimp only)

theorem execPnlStatus_same {s t : State} (a0 : CmdStep) (h : Same s t) : GoesSame s (execPnlStatus a0 t) := goesSame_next (mailboxCommand_same _ _ pnlStatus_same h)

theorem pnlLock_same  : SpecSame (pnlLock ) := by
  constructor <;> (unfold pnlLock; repeat' with_reducible (first | intro _ | assumption | apply SpecSame.mk | apply settingAccepted_same | apply writeSetting_same | apply same_ite | dsimp only | split))

theorem execPnlLock_same {s t : State} (a0 : CmdStep) (h : Same s t) : GoesSame s (execPnlLock a0 t) := goesSame_next (mailboxCommand_same _ _ pnlLock_same h)

theorem pnlPinSet_same  : SpecSame (pnlPinSet ) := by
  constructor <;> (unfold pnlPinSet; repeat' with_reducible (first | intro _ | assumption | apply SpecSame.mk | apply settingAccepted_same | apply dueChange_same | apply same_ite | refine same_fst (by assumption) ?_ | refine same_snd (by assumption) ?_ | refine same_trd (by assumption) ?_ | dsimp only | split))

theorem execPnlPinSet_same {s t : State} (a0 : CmdStep) (h : Same s t) : GoesSame s (execPnlPinSet a0 t) := goesSame_next (mailboxCommand_same _ _ pnlPinSet_same h)

theorem panelSettings_same {s t : State} (h : Same s t) : Same s (panelSettings t) := by
  unfold panelSettings
  repeat' with_reducible (first | intro _ | assumption | apply usbRefresh_same | apply onPanel_same | fail_if_no_progress apply same_rec | apply same_ite | refine same_fst (by assumption) ?_ | refine same_snd (by assumption) ?_ | refine same_trd (by assumption) ?_ | dsimp only | split)

theorem pnlMessage_same  : SpecSame (pnlMessage ) := by
  unfold pnlMessage
  repeat' with_reducible (first | intro _ | assumption | apply pnlCmd_same | apply onPanel_same | apply same_ite | dsimp only | split)

theorem execPnlMessage_same {s t : State} (a0 : CmdStep) (h : Same s t) : GoesSame s (execPnlMessage a0 t) := goesSame_next (mailboxCommand_same _ _ pnlMessage_same h)

theorem pnlTest_same  : SpecSame (pnlTest ) := by
  unfold pnlTest
  repeat' with_reducible (first | intro _ | assumption | apply pnlCmd_same | apply onPanel_same | apply same_ite | dsimp only | split)

theorem execPnlTest_same {s t : State} (a0 : CmdStep) (h : Same s t) : GoesSame s (execPnlTest a0 t) := goesSame_next (mailboxCommand_same _ _ pnlTest_same h)

theorem execPnlTestEnd_same {s t : State} (a0 : TestEnd) (h : Same s t) : GoesSame s (execPnlTestEnd a0 t) := by
  unfold execPnlTestEnd
  repeat' with_reducible (first | intro _ | assumption | apply goesSame_next | apply post_same | apply onPanel_same | apply freeTask_same | apply completeWith_same | fail_if_no_progress apply same_rec | apply same_ite | dsimp only | split)

theorem execPnlClearStats_same {s t : State} (h : Same s t) : GoesSame s (execPnlClearStats t) := by
  unfold execPnlClearStats
  repeat' with_reducible (first | intro _ | assumption | apply goesSame_next | apply onPanel_same | fail_if_no_progress apply same_rec | apply same_ite | refine same_fst (by assumption) ?_ | refine same_snd (by assumption) ?_ | refine same_trd (by assumption) ?_ | dsimp only | split)

theorem stageWords_same {s t : State} (a0 : List (Nat × Nat × Bytes)) (h : Same s t) : Same s (stageWords a0 t) := by
  unfold stageWords
  repeat' with_reducible (first | intro _ | assumption | fail_if_no_progress apply same_rec | apply same_ite | dsimp only | split)

theorem execNetSettingsWindowWrite_same {s t : State} (a0 : Nat) (a1 : U32) (h : Same s t) : GoesSame s (execNetSettingsWindowWrite a0 a1 t) := by
  unfold execNetSettingsWindowWrite
  repeat' with_reducible (first | intro _ | assumption | apply goesSame_next | apply stageWords_same | fail_if_no_progress apply same_rec | apply same_ite | refine same_fst (by assumption) ?_ | refine same_snd (by assumption) ?_ | refine same_trd (by assumption) ?_ | dsimp only | split)

theorem portSettings_same {s t : State} (h : Same s t) : Same s (portSettings t) := by
  unfold portSettings
  repeat' with_reducible (first | intro _ | assumption | apply linkLost_same | apply judgeModule_same | apply same_ite | apply same_foldl | apply same_foldl_fst | apply same_foldl_snd | apply same_elim | dsimp only | split)

theorem hostSettings_same {s t : State} (a0 : Bytes) (h : Same s t) : Same s (hostSettings a0 t) := by
  unfold hostSettings
  repeat' with_reducible (first | intro _ | assumption | apply dropSession_same | apply same_ite | apply same_foldl | apply same_foldl_fst | apply same_foldl_snd | dsimp only | split)

theorem networkEffect_same {s t : State} (a0 : Nat) (a1 : Bytes) (h : Same s t) : Same s (networkEffect a0 a1 t) := by
  unfold networkEffect
  repeat' with_reducible (first | intro _ | assumption | apply portSettings_same | apply ringSettings_same | apply hostSettings_same | apply same_ite | dsimp only | split)

theorem configBad_same {s t : State} (a0 : Nat) (a1 : Nat) (h : Same s t) : Same s (configBad a0 a1 t) := by
  unfold configBad
  repeat' with_reducible (first | intro _ | assumption | apply post_same | apply onNet_same | fail_if_no_progress apply same_rec | apply same_ite | refine same_fst (by assumption) ?_ | refine same_snd (by assumption) ?_ | refine same_trd (by assumption) ?_ | dsimp only | split)

theorem networkBoundary_same {s t : State} (h : Same s t) : Same s (networkBoundary t) := by
  unfold networkBoundary
  repeat' with_reducible (first | intro _ | assumption | apply onNet_same | apply configBad_same | apply networkEffect_same | fail_if_no_progress apply same_rec | apply same_ite | apply same_foldl | apply same_foldl_fst | apply same_foldl_snd | apply same_elim | refine same_fst (by assumption) ?_ | refine same_snd (by assumption) ?_ | refine same_trd (by assumption) ?_ | dsimp only | split)

end Sys2Proof.Machine
end

