-- ==== Sys2Proof/Laws/SameSystem.lean ====
section
/-! SUPPORT. Settings, commits, resets and starts: what each operation and command leaves of the queue and the memory. -/

set_option linter.all false

namespace Sys2Proof.Machine

theorem onSettings_same {s t : State} (a0 : Settings → Settings) (h : Same s t) : Same s (onSettings a0 t) := by
  unfold onSettings
  repeat' with_reducible (first | intro _ | assumption | fail_if_no_progress apply same_rec | apply same_ite | dsimp only | split)

theorem sectionEffect_same {s t : State} (a0 : Nat) (a1 : Nat) (a2 : Bytes) (h : Same s t) : Same s (sectionEffect a0 a1 a2 t) := by
  unfold sectionEffect
  repeat' with_reducible (first | intro _ | assumption | apply scheduleRules_same | apply chainRateChanged_same | apply airSettingsChanged_same | apply failsafeFrames_same | apply refreshTrace_same | apply ptpSettingsChanged_same | apply sourceLost_same | apply fullCheck_same | apply post_same | apply networkEffect_same | apply panelSettings_same | apply same_ite | dsimp only | split)

theorem replaceWorking_same {s t : State} (a0 : Nat) (a1 : U32) (a2 : Tab Bytes) (h : Same s t) : Same s (replaceWorking a0 a1 a2 t) := by
  unfold replaceWorking
  repeat' with_reducible (first | intro _ | assumption | apply onSettings_same | apply sectionEffect_same | fail_if_no_progress apply same_rec | apply same_ite | apply same_foldl | apply same_foldl_fst | apply same_foldl_snd | refine same_fst (by assumption) ?_ | refine same_snd (by assumption) ?_ | refine same_trd (by assumption) ?_ | dsimp only | split)

theorem revertedRecord_same {s t : State} (a0 : Nat) (a1 : Nat) (h : Same s t) : Same s (revertedRecord a0 a1 t) := by
  unfold revertedRecord
  repeat' with_reducible (first | intro _ | assumption | apply post_same | apply same_ite | dsimp only | split)

theorem noteChange_same {s t : State} (a0 : U32) (a1 : Change) (h : Same s t) : Same s (noteChange a0 a1 t) := by
  unfold noteChange
  repeat' with_reducible (first | intro _ | assumption | apply onSettings_same | fail_if_no_progress apply same_rec | apply same_ite | refine same_fst (by assumption) ?_ | refine same_snd (by assumption) ?_ | refine same_trd (by assumption) ?_ | dsimp only | split)

theorem applyDue_same {s t : State} (a0 : Due) (h : Same s t) : Same s (applyDue a0 t) := by
  unfold applyDue
  repeat' with_reducible (first | intro _ | assumption | apply sectionEffect_same | apply writeWorking_same | apply onSettings_same | apply replaceWorking_same | apply revertedRecord_same | apply retire_same | apply keyTo_same | apply drawFree_same | apply noteChange_same | apply post_same | apply panelSettings_same | apply stageWords_same | fail_if_no_progress apply same_rec | apply same_ite | apply same_foldl | apply same_foldl_fst | apply same_foldl_snd | refine same_fst (by assumption) ?_ | refine same_snd (by assumption) ?_ | refine same_trd (by assumption) ?_ | dsimp only | split)

theorem dueSettings_same {s t : State} (h : Same s t) : Same s (dueSettings t) := by
  unfold dueSettings
  repeat' with_reducible (first | intro _ | assumption | apply onSettings_same | apply networkBoundary_same | apply applyDue_same | fail_if_no_progress apply same_rec | apply same_ite | apply same_foldl | apply same_foldl_fst | apply same_foldl_snd | dsimp only | split)

theorem storeFailed_same {s t : State} (a0 : Store) (h : Same s t) : Same s (storeFailed a0 t) := by
  unfold storeFailed
  repeat' with_reducible (first | intro _ | assumption | apply onSettings_same | apply post_same | apply freeTask_same | apply completeWith_same | fail_if_no_progress apply same_rec | apply same_ite | dsimp only | split)

theorem captureOne_same {s t : State} (a0 : Store) (h : Same s t) : Same s (captureOne t a0) := by
  unfold captureOne
  repeat' with_reducible (first | intro _ | assumption | apply storeFailed_same | apply onSettings_same | fail_if_no_progress apply same_rec | apply same_ite | refine same_fst (by assumption) ?_ | refine same_snd (by assumption) ?_ | refine same_trd (by assumption) ?_ | dsimp only | split)

theorem captureStores_same {s t : State} (h : Same s t) : Same s (captureStores t) := by
  unfold captureStores
  repeat' with_reducible (first | intro _ | assumption | apply captureOne_same | apply same_ite | apply same_foldl | apply same_foldl_fst | apply same_foldl_snd | dsimp only | split)

theorem storedPeriod_same {s t : State} (a0 : Tab Bytes) (a1 : Tab Bytes) (h : Same s t) : Same s (storedPeriod a0 a1 t) := by
  unfold storedPeriod
  repeat' with_reducible (first | intro _ | assumption | fail_if_no_progress apply same_rec | apply same_ite | refine same_fst (by assumption) ?_ | refine same_snd (by assumption) ?_ | refine same_trd (by assumption) ?_ | dsimp only | split)

theorem execSettingsStoreVerified_same {s t : State} (a0 : Bool) (h : Same s t) : GoesSame s (execSettingsStoreVerified a0 t) := by
  unfold execSettingsStoreVerified
  repeat' with_reducible (first | intro _ | assumption | apply goesSame_next | apply storeFailed_same | apply onSettings_same | apply retire_same | apply storedPeriod_same | apply post_same | apply freeTask_same | apply completeWith_same | fail_if_no_progress apply same_rec | apply same_ite | apply same_foldl | apply same_foldl_fst | apply same_foldl_snd | dsimp only | split)

theorem execProfileTakeEffect_same {s t : State} (h : Same s t) : GoesSame s (execProfileTakeEffect t) := by
  unfold execProfileTakeEffect
  repeat' with_reducible (first | intro _ | assumption | apply goesSame_next | apply onSettings_same | apply captureStores_same | apply dutyUpdate_same | apply applyDue_same | fail_if_no_progress apply same_rec | apply same_ite | apply same_foldl | apply same_foldl_fst | apply same_foldl_snd | dsimp only | split)

theorem sysSettingsDigest_same  : SpecSame (sysSettingsDigest ) := by
  constructor <;> (unfold sysSettingsDigest; repeat' with_reducible (first | intro _ | assumption | apply SpecSame.mk | apply same_ite | refine same_fst (by assumption) ?_ | refine same_snd (by assumption) ?_ | refine same_trd (by assumption) ?_ | dsimp only | split))

theorem execSysSettingsDigest_same {s t : State} (a0 : CmdStep) (h : Same s t) : GoesSame s (execSysSettingsDigest a0 t) := goesSame_next (mailboxCommand_same _ _ sysSettingsDigest_same h)

theorem sysInputSet_same  : SpecSame (sysInputSet ) := by
  constructor <;> (unfold sysInputSet; repeat' with_reducible (first | intro _ | assumption | apply SpecSame.mk | apply settingAccepted_same | apply writeSetting_same | apply same_ite | dsimp only | split))

theorem execSysInputSet_same {s t : State} (a0 : CmdStep) (h : Same s t) : GoesSame s (execSysInputSet a0 t) := goesSame_next (mailboxCommand_same _ _ sysInputSet_same h)

theorem sysStitchSet_same  : SpecSame (sysStitchSet ) := by
  constructor <;> (unfold sysStitchSet; repeat' with_reducible (first | intro _ | assumption | apply SpecSame.mk | apply settingAccepted_same | apply dueChange_same | apply same_ite | refine same_fst (by assumption) ?_ | refine same_snd (by assumption) ?_ | refine same_trd (by assumption) ?_ | dsimp only | split))

theorem execSysStitchSet_same {s t : State} (a0 : CmdStep) (h : Same s t) : GoesSame s (execSysStitchSet a0 t) := goesSame_next (mailboxCommand_same _ _ sysStitchSet_same h)

theorem sysStore_same  : SpecSame (sysStore ) := by
  constructor <;> (unfold sysStore; repeat' with_reducible (first | intro _ | assumption | apply SpecSame.mk | apply onSettings_same | fail_if_no_progress apply same_rec | apply same_ite | refine same_fst (by assumption) ?_ | refine same_snd (by assumption) ?_ | refine same_trd (by assumption) ?_ | dsimp only | split))

theorem execSysStore_same {s t : State} (a0 : CmdStep) (h : Same s t) : GoesSame s (execSysStore a0 t) := goesSame_next (mailboxCommand_same _ _ sysStore_same h)

theorem revertAccepted_same {s t : State} (a0 : Nat) (a1 : U32) (a2 : Bytes) (h : Same s t) : Same s (revertAccepted a0 a1 a2 t) := by
  unfold revertAccepted
  repeat' with_reducible (first | intro _ | assumption | apply onSettings_same | fail_if_no_progress apply same_rec | apply same_ite | refine same_fst (by assumption) ?_ | refine same_snd (by assumption) ?_ | refine same_trd (by assumption) ?_ | dsimp only | split)

theorem revertRun_same {s t : State} (a0 : U32 → Change) (a1 : Cmd) (h : Same s t) : Same s (revertRun a0 a1 t).1 := by
  unfold revertRun
  repeat' with_reducible (first | intro _ | assumption | apply dueChange_same | apply same_ite | refine same_fst (by assumption) ?_ | refine same_snd (by assumption) ?_ | refine same_trd (by assumption) ?_ | dsimp only | split)

theorem sysRevert_same  : SpecSame (sysRevert ) := by
  constructor <;> (unfold sysRevert; repeat' with_reducible (first | intro _ | assumption | apply SpecSame.mk | apply revertAccepted_same | apply revertRun_same | apply same_ite | dsimp only | split))

theorem execSysRevert_same {s t : State} (a0 : CmdStep) (h : Same s t) : GoesSame s (execSysRevert a0 t) := goesSame_next (mailboxCommand_same _ _ sysRevert_same h)

theorem sysFactory_same  : SpecSame (sysFactory ) := by
  constructor <;> (unfold sysFactory; repeat' with_reducible (first | intro _ | assumption | apply SpecSame.mk | apply revertAccepted_same | apply revertRun_same | apply same_ite | dsimp only | split))

theorem execSysFactory_same {s t : State} (a0 : CmdStep) (h : Same s t) : GoesSame s (execSysFactory a0 t) := goesSame_next (mailboxCommand_same _ _ sysFactory_same h)

theorem onJnl_same {s t : State} (a0 : Journal → Journal) (h : Same s t) : Same s (onJnl a0 t) := by
  unfold onJnl
  repeat' with_reducible (first | intro _ | assumption | fail_if_no_progress apply same_rec | apply same_ite | dsimp only | split)

theorem commandCommitted_same {s t : State} (a0 : Nat) (a1 : U32) (a2 : U32) (h : Same s t) : Same s (commandCommitted a0 a1 a2 t) := by
  unfold commandCommitted
  repeat' with_reducible (first | intro _ | assumption | apply onBox_same | fail_if_no_progress apply same_rec | apply same_ite | refine same_fst (by assumption) ?_ | refine same_snd (by assumption) ?_ | refine same_trd (by assumption) ?_ | dsimp only | split)

theorem commandCompleted_same {s t : State} (a0 : U32) (h : Same s t) : Same s (commandCompleted a0 t) := by
  unfold commandCompleted
  repeat' with_reducible (first | intro _ | assumption | apply retire_same | fail_if_no_progress apply same_rec | apply same_ite | dsimp only | split)

theorem pinCommitted_same {s t : State} (a0 : Nat) (a1 : U32) (a2 : JEntry) (h : Same s t) : Same s (pinCommitted a0 a1 a2 t) := by
  unfold pinCommitted
  repeat' with_reducible (first | intro _ | assumption | apply pinAccepted_same | apply onJnl_same | fail_if_no_progress apply same_rec | apply same_ite | dsimp only | split)

theorem entryCommitted_same {s t : State} (a0 : U32) (a1 : JEntry) (h : Same s t) : Same s (entryCommitted a0 t a1) := by
  unfold entryCommitted
  repeat' with_reducible (first | intro _ | assumption | apply throughSkein_same | apply commandCommitted_same | apply pinCommitted_same | apply commandCompleted_same | apply retire_same | apply meterAccepted_same | apply same_ite | dsimp only | split)

theorem commitEntries_same {s t : State} (a0 : Batch) (a1 : U32) (h : Same s t) : Same s (commitEntries a0 a1 t) := by
  unfold commitEntries
  repeat' with_reducible (first | intro _ | assumption | apply entryCommitted_same | apply onJnl_same | apply same_ite | apply same_foldl | apply same_foldl_fst | apply same_foldl_snd | dsimp only | split)

theorem cutLong_same {s t : State} (a0 : Nat) (h : Same s t) : Same s (cutLong a0 t) := by
  induction a0 generalizing t  with
  | zero => exact h
  | succ n ih =>
    unfold cutLong
    repeat' with_reducible (first | with_reducible apply ih | intro _ | assumption | fail_if_no_progress apply same_rec | apply same_ite | apply same_foldl | apply same_foldl_fst | apply same_foldl_snd | apply same_elim | dsimp only | split)

theorem produceResult_same {s t : State} (a0 : Nat) (a1 : Cmd) (h : Same s t) : Same s (produceResult a0 a1 t) := by
  unfold produceResult
  repeat' with_reducible (first | intro _ | assumption | apply onBox_same | apply onJnl_same | apply cutLong_same | apply send_same | fail_if_no_progress apply same_rec | apply same_ite | refine same_fst (by assumption) ?_ | refine same_snd (by assumption) ?_ | refine same_trd (by assumption) ?_ | dsimp only | split)

theorem produceResults_same {s t : State} (a0 : Nat) (a1 : Nat) (h : Same s t) : Same s (produceResults a0 a1 t) := by
  induction a1 generalizing t  with
  | zero => exact h
  | succ n ih =>
    unfold produceResults
    repeat' with_reducible (first | with_reducible apply ih | intro _ | assumption | apply produceResult_same | fail_if_no_progress apply same_rec | apply same_ite | apply same_foldl | apply same_foldl_fst | apply same_foldl_snd | apply same_elim | dsimp only | split)

theorem flushAll_same {s t : State} (h : Same s t) : Same s (flushAll t) := by
  unfold flushAll
  repeat' with_reducible (first | intro _ | assumption | apply flushAnswers_same | apply same_ite | apply same_foldl | apply same_foldl_fst | apply same_foldl_snd | dsimp only | split)

theorem resultsAll_same {s t : State} (h : Same s t) : Same s (resultsAll t) := by
  unfold resultsAll
  repeat' with_reducible (first | intro _ | assumption | apply produceResults_same | apply same_ite | apply same_foldl | apply same_foldl_fst | apply same_foldl_snd | dsimp only | split)

theorem commitWork_same {s t : State} (a0 : Batch) (h : Same s t) : Same s (commitWork a0 t) := by
  unfold commitWork
  repeat' with_reducible (first | intro _ | assumption | apply commitEntries_same | apply flushAll_same | apply storeRecords_same | apply sealedEffect_same | apply windowMessages_same | apply resultsAll_same | apply same_ite | apply same_foldl | apply same_foldl_fst | apply same_foldl_snd | dsimp only | split)

theorem onSys_same {s t : State} (a0 : Sys → Sys) (h : Same s t) : Same s (onSys a0 t) := by
  unfold onSys
  repeat' with_reducible (first | intro _ | assumption | fail_if_no_progress apply same_rec | apply same_ite | dsimp only | split)

theorem sysIdentify_same  : SpecSame (sysIdentify ) := by
  constructor <;> (unfold sysIdentify; repeat' with_reducible (first | intro _ | assumption | apply SpecSame.mk | apply same_ite | refine same_fst (by assumption) ?_ | refine same_snd (by assumption) ?_ | refine same_trd (by assumption) ?_ | dsimp only | split))

theorem execSysIdentify_same {s t : State} (a0 : CmdStep) (h : Same s t) : GoesSame s (execSysIdentify a0 t) := goesSame_next (mailboxCommand_same _ _ sysIdentify_same h)

theorem sysStatus_same  : SpecSame (sysStatus ) := by
  constructor <;> (unfold sysStatus; repeat' with_reducible (first | intro _ | assumption | apply SpecSame.mk | fail_if_no_progress apply same_rec | apply same_ite | refine same_fst (by assumption) ?_ | refine same_snd (by assumption) ?_ | refine same_trd (by assumption) ?_ | dsimp only | split))

theorem execSysStatus_same {s t : State} (a0 : CmdStep) (h : Same s t) : GoesSame s (execSysStatus a0 t) := goesSame_next (mailboxCommand_same _ _ sysStatus_same h)

theorem sysCounters_same  : SpecSame (sysCounters ) := by
  constructor <;> (unfold sysCounters; repeat' with_reducible (first | intro _ | assumption | apply SpecSame.mk | apply same_ite | refine same_fst (by assumption) ?_ | refine same_snd (by assumption) ?_ | refine same_trd (by assumption) ?_ | dsimp only | split))

theorem execSysCounters_same {s t : State} (a0 : CmdStep) (h : Same s t) : GoesSame s (execSysCounters a0 t) := goesSame_next (mailboxCommand_same _ _ sysCounters_same h)

theorem sysNop_same  : SpecSame (sysNop ) := by
  constructor <;> (unfold sysNop; repeat' with_reducible (first | intro _ | assumption | apply SpecSame.mk | apply same_ite | refine same_fst (by assumption) ?_ | refine same_snd (by assumption) ?_ | refine same_trd (by assumption) ?_ | dsimp only | split))

theorem execSysNop_same {s t : State} (a0 : CmdStep) (h : Same s t) : GoesSame s (execSysNop a0 t) := goesSame_next (mailboxCommand_same _ _ sysNop_same h)

theorem sysIoRead_same  : SpecSame (sysIoRead ) := by
  constructor <;> (unfold sysIoRead; repeat' with_reducible (first | intro _ | assumption | apply SpecSame.mk | apply drawFree_same | apply same_ite | refine same_fst (by assumption) ?_ | refine same_snd (by assumption) ?_ | refine same_trd (by assumption) ?_ | dsimp only | split))

theorem execSysIoRead_same {s t : State} (a0 : CmdStep) (h : Same s t) : GoesSame s (execSysIoRead a0 t) := goesSame_next (mailboxCommand_same _ _ sysIoRead_same h)

theorem recordInput_same {s t : State} (a0 : Nat) (h : Same s t) : Same s (recordInput a0 t) := by
  unfold recordInput
  repeat' with_reducible (first | intro _ | assumption | apply post_same | apply onSys_same | fail_if_no_progress apply same_rec | apply same_ite | refine same_fst (by assumption) ?_ | refine same_snd (by assumption) ?_ | refine same_trd (by assumption) ?_ | dsimp only | split)

theorem execDigitalInputChange_same {s t : State} (a0 : Nat) (a1 : Bool) (h : Same s t) : GoesSame s (execDigitalInputChange a0 a1 t) := by
  unfold execDigitalInputChange
  repeat' with_reducible (first | intro _ | assumption | apply goesSame_next | apply onSys_same | apply feedbackChanged_same | apply recordInput_same | fail_if_no_progress apply same_rec | apply same_ite | refine same_fst (by assumption) ?_ | refine same_snd (by assumption) ?_ | refine same_trd (by assumption) ?_ | dsimp only | split)

theorem requestReset_same {s t : State} (a0 : Nat) (a1 : Nat) (a2 : Option Nat) (a3 : Bool) (a4 : Nat) (h : Same s t) : Same s (requestReset a0 a1 a2 a3 a4 t).1 := by
  unfold requestReset
  repeat' with_reducible (first | intro _ | assumption | apply onSys_same | apply post_same | fail_if_no_progress apply same_rec | apply same_ite | refine same_fst (by assumption) ?_ | refine same_snd (by assumption) ?_ | refine same_trd (by assumption) ?_ | dsimp only | split)

theorem cancelReset_same {s t : State} (a0 : Nat) (h : Same s t) : Same s (cancelReset a0 t).1 := by
  unfold cancelReset
  repeat' with_reducible (first | intro _ | assumption | apply post_same | apply onSys_same | fail_if_no_progress apply same_rec | apply same_ite | refine same_fst (by assumption) ?_ | refine same_snd (by assumption) ?_ | refine same_trd (by assumption) ?_ | dsimp only | split)

theorem sysReset_same  : SpecSame (sysReset ) := by
  constructor <;> (unfold sysReset; repeat' with_reducible (first | intro _ | assumption | apply SpecSame.mk | apply requestReset_same | apply cancelReset_same | apply same_ite | dsimp only | split))

theorem execSysReset_same {s t : State} (a0 : CmdStep) (h : Same s t) : GoesSame s (execSysReset a0 t) := goesSame_next (mailboxCommand_same _ _ sysReset_same h)

theorem onSmp_same {s t : State} (a0 : Sampler → Sampler) (h : Same s t) : Same s (onSmp a0 t) := by
  unfold onSmp
  repeat' with_reducible (first | intro _ | assumption | fail_if_no_progress apply same_rec | apply same_ite | dsimp only | split)

theorem execFreezeExpire_same {s t : State} (h : Same s t) : GoesSame s (execFreezeExpire t) := by
  unfold execFreezeExpire
  repeat' with_reducible (first | intro _ | assumption | apply goesSame_next | apply endFreeze_same | apply same_ite | dsimp only | split)

theorem execSmpClearStats_same {s t : State} (h : Same s t) : GoesSame s (execSmpClearStats t) := by
  unfold execSmpClearStats
  repeat' with_reducible (first | intro _ | assumption | apply goesSame_next | apply onSmp_same | fail_if_no_progress apply same_rec | apply same_ite | refine same_fst (by assumption) ?_ | refine same_snd (by assumption) ?_ | refine same_trd (by assumption) ?_ | dsimp only | split)

theorem logStatus_same  : SpecSame (logStatus ) := by
  constructor <;> (unfold logStatus; repeat' with_reducible (first | intro _ | assumption | apply SpecSame.mk | apply same_ite | apply same_elim | refine same_fst (by assumption) ?_ | refine same_snd (by assumption) ?_ | refine same_trd (by assumption) ?_ | dsimp only | split))

theorem execLogStatus_same {s t : State} (a0 : CmdStep) (h : Same s t) : GoesSame s (execLogStatus a0 t) := goesSame_next (mailboxCommand_same _ _ logStatus_same h)

theorem logRecordRead_same  : SpecSame (logRecordRead ) := by
  constructor <;> (unfold logRecordRead; repeat' with_reducible (first | intro _ | assumption | apply SpecSame.mk | apply drawFree_same | apply same_ite | refine same_fst (by assumption) ?_ | refine same_snd (by assumption) ?_ | refine same_trd (by assumption) ?_ | dsimp only | split))

theorem execLogRecordRead_same {s t : State} (a0 : CmdStep) (h : Same s t) : GoesSame s (execLogRecordRead a0 t) := goesSame_next (mailboxCommand_same _ _ logRecordRead_same h)

theorem logFreeze_same  : SpecSame (logFreeze ) := by
  constructor <;> (unfold logFreeze; repeat' with_reducible (first | intro _ | assumption | apply SpecSame.mk | apply onSmp_same | apply post_same | fail_if_no_progress apply same_rec | apply same_ite | refine same_fst (by assumption) ?_ | refine same_snd (by assumption) ?_ | refine same_trd (by assumption) ?_ | dsimp only | split))

theorem execLogFreeze_same {s t : State} (a0 : CmdStep) (h : Same s t) : GoesSame s (execLogFreeze a0 t) := goesSame_next (mailboxCommand_same _ _ logFreeze_same h)

theorem logThaw_same  : SpecSame (logThaw ) := by
  constructor <;> (unfold logThaw; repeat' with_reducible (first | intro _ | assumption | apply SpecSame.mk | apply endFreeze_same | apply same_ite | refine same_fst (by assumption) ?_ | refine same_snd (by assumption) ?_ | refine same_trd (by assumption) ?_ | dsimp only | split))

theorem execLogThaw_same {s t : State} (a0 : CmdStep) (h : Same s t) : GoesSame s (execLogThaw a0 t) := goesSame_next (mailboxCommand_same _ _ logThaw_same h)

theorem logMarkSet_same  : SpecSame (logMarkSet ) := by
  constructor <;> (unfold logMarkSet; repeat' with_reducible (first | intro _ | assumption | apply SpecSame.mk | apply onSmp_same | apply fullCheck_same | fail_if_no_progress apply same_rec | apply same_ite | refine same_fst (by assumption) ?_ | refine same_snd (by assumption) ?_ | refine same_trd (by assumption) ?_ | dsimp only | split))

theorem execLogMarkSet_same {s t : State} (a0 : CmdStep) (h : Same s t) : GoesSame s (execLogMarkSet a0 t) := goesSame_next (mailboxCommand_same _ _ logMarkSet_same h)

theorem logMarkClear_same  : SpecSame (logMarkClear ) := by
  constructor <;> (unfold logMarkClear; repeat' with_reducible (first | intro _ | assumption | apply SpecSame.mk | apply onSmp_same | fail_if_no_progress apply same_rec | apply same_ite | refine same_fst (by assumption) ?_ | refine same_snd (by assumption) ?_ | refine same_trd (by assumption) ?_ | dsimp only | split))

theorem execLogMarkClear_same {s t : State} (a0 : CmdStep) (h : Same s t) : GoesSame s (execLogMarkClear a0 t) := goesSame_next (mailboxCommand_same _ _ logMarkClear_same h)

theorem logModeSet_same  : SpecSame (logModeSet ) := by
  constructor <;> (unfold logModeSet; repeat' with_reducible (first | intro _ | assumption | apply SpecSame.mk | apply settingAccepted_same | apply writeSetting_same | apply same_ite | dsimp only | split))

theorem execLogModeSet_same {s t : State} (a0 : CmdStep) (h : Same s t) : GoesSame s (execLogModeSet a0 t) := goesSame_next (mailboxCommand_same _ _ logModeSet_same h)

theorem logNote_same  : SpecSame (logNote ) := by
  constructor <;> (unfold logNote; repeat' with_reducible (first | intro _ | assumption | apply SpecSame.mk | apply post_same | apply same_ite | refine same_fst (by assumption) ?_ | refine same_snd (by assumption) ?_ | refine same_trd (by assumption) ?_ | dsimp only | split))

theorem execLogNote_same {s t : State} (a0 : CmdStep) (h : Same s t) : GoesSame s (execLogNote a0 t) := goesSame_next (mailboxCommand_same _ _ logNote_same h)

theorem pnlScreenRead_same  : SpecSame (pnlScreenRead ) := by
  unfold pnlScreenRead
  repeat' with_reducible (first | intro _ | assumption | apply pnlCmd_same | apply drawFree_same | refine same_snd (by assumption) ?_ | dsimp only | split)

theorem execPnlScreenRead_same {s t : State} (a0 : CmdStep) (h : Same s t) : GoesSame s (execPnlScreenRead a0 t) := goesSame_next (mailboxCommand_same _ _ pnlScreenRead_same h)

theorem setSlot_same {s t : State} (a0 : Nat) (a1 : ImageSlot) (h : Same s t) : Same s (setSlot a0 a1 t) := by
  unfold setSlot
  repeat' with_reducible (first | intro _ | assumption | apply onSys_same | fail_if_no_progress apply same_rec | apply same_ite | dsimp only | split)

theorem bootRecord_same {s t : State} (a0 : Nat) (a1 : Nat) (a2 : Bytes) (h : Same s t) : Same s (bootRecord a0 a1 a2 t) := by
  unfold bootRecord
  repeat' with_reducible (first | intro _ | assumption | apply post_same | apply onSys_same | fail_if_no_progress apply same_rec | apply same_ite | refine same_fst (by assumption) ?_ | refine same_snd (by assumption) ?_ | refine same_trd (by assumption) ?_ | dsimp only | split)

theorem updStatus_same  : SpecSame (updStatus ) := by
  constructor <;> (unfold updStatus; repeat' with_reducible (first | intro _ | assumption | apply SpecSame.mk | apply same_ite | refine same_fst (by assumption) ?_ | refine same_snd (by assumption) ?_ | refine same_trd (by assumption) ?_ | dsimp only | split))

theorem execUpdStatus_same {s t : State} (a0 : CmdStep) (h : Same s t) : GoesSame s (execUpdStatus a0 t) := goesSame_next (mailboxCommand_same _ _ updStatus_same h)

theorem beginLoad_same {s t : State} (a0 : Nat) (a1 : Nat) (h : Same s t) : Same s (beginLoad a0 a1 t) := by
  unfold beginLoad
  repeat' with_reducible (first | intro _ | assumption | apply onSys_same | apply setSlot_same | fail_if_no_progress apply same_rec | apply same_ite | refine same_fst (by assumption) ?_ | refine same_snd (by assumption) ?_ | refine same_trd (by assumption) ?_ | dsimp only | split)

theorem updBegin_same  : SpecSame (updBegin ) := by
  constructor <;> (unfold updBegin; repeat' with_reducible (first | intro _ | assumption | apply SpecSame.mk | apply onSys_same | apply beginLoad_same | fail_if_no_progress apply same_rec | apply same_ite | refine same_fst (by assumption) ?_ | refine same_snd (by assumption) ?_ | refine same_trd (by assumption) ?_ | dsimp only | split))

theorem execUpdBegin_same {s t : State} (a0 : CmdStep) (h : Same s t) : GoesSame s (execUpdBegin a0 t) := goesSame_next (mailboxCommand_same _ _ updBegin_same h)

theorem updData_same  : SpecSame (updData ) := by
  constructor <;> (unfold updData; repeat' with_reducible (first | intro _ | assumption | apply SpecSame.mk | apply onSys_same | fail_if_no_progress apply same_rec | apply same_ite | refine same_fst (by assumption) ?_ | refine same_snd (by assumption) ?_ | refine same_trd (by assumption) ?_ | dsimp only | split))

theorem execUpdData_same {s t : State} (a0 : CmdStep) (h : Same s t) : GoesSame s (execUpdData a0 t) := goesSame_next (mailboxCommand_same _ _ updData_same h)

theorem verifyLoad_same {s t : State} (a0 : UpdLoad) (h : Same s t) : Same s (verifyLoad a0 t).1 := by
  unfold verifyLoad
  repeat' with_reducible (first | intro _ | assumption | apply bootRecord_same | apply onSys_same | apply setSlot_same | fail_if_no_progress apply same_rec | apply same_ite | refine same_fst (by assumption) ?_ | refine same_snd (by assumption) ?_ | refine same_trd (by assumption) ?_ | dsimp only | split)

theorem updVerify_same  : SpecSame (updVerify ) := by
  constructor <;> (unfold updVerify; repeat' with_reducible (first | intro _ | assumption | apply SpecSame.mk | apply verifyLoad_same | fail_if_no_progress apply same_rec | apply same_ite | refine same_fst (by assumption) ?_ | refine same_snd (by assumption) ?_ | refine same_trd (by assumption) ?_ | dsimp only | split))

theorem execUpdVerify_same {s t : State} (a0 : CmdStep) (h : Same s t) : GoesSame s (execUpdVerify a0 t) := goesSame_next (mailboxCommand_same _ _ updVerify_same h)

theorem dropLoad_same {s t : State} (h : Same s t) : Same s (dropLoad t) := by
  unfold dropLoad
  repeat' with_reducible (first | intro _ | assumption | apply onSys_same | fail_if_no_progress apply same_rec | apply same_ite | refine same_fst (by assumption) ?_ | refine same_snd (by assumption) ?_ | refine same_trd (by assumption) ?_ | dsimp only | split)

theorem updAbort_same  : SpecSame (updAbort ) := by
  constructor <;> (unfold updAbort; repeat' with_reducible (first | intro _ | assumption | apply SpecSame.mk | apply onSys_same | fail_if_no_progress apply same_rec | apply same_ite | refine same_fst (by assumption) ?_ | refine same_snd (by assumption) ?_ | refine same_trd (by assumption) ?_ | dsimp only | split))

theorem execUpdAbort_same {s t : State} (a0 : CmdStep) (h : Same s t) : GoesSame s (execUpdAbort a0 t) := goesSame_next (mailboxCommand_same _ _ updAbort_same h)

theorem loaderStart_same {s t : State} (a0 : Nat) (h : Same s t) : Same s (loaderStart a0 t) := by
  unfold loaderStart
  repeat' with_reducible (first | intro _ | assumption | apply onSys_same | apply setSlot_same | apply bootRecord_same | apply closeSession_same | fail_if_no_progress apply same_rec | apply same_ite | apply same_elim | refine same_fst (by assumption) ?_ | refine same_snd (by assumption) ?_ | refine same_trd (by assumption) ?_ | dsimp only | split)

theorem updActivate_same  : SpecSame (updActivate ) := by
  constructor <;> (unfold updActivate; repeat' with_reducible (first | intro _ | assumption | apply SpecSame.mk | apply loaderStart_same | apply send_same | apply requestReset_same | apply same_ite | refine same_fst (by assumption) ?_ | refine same_snd (by assumption) ?_ | refine same_trd (by assumption) ?_ | dsimp only | split))

theorem execUpdActivate_same {s t : State} (a0 : CmdStep) (h : Same s t) : GoesSame s (execUpdActivate a0 t) := goesSame_next (mailboxCommand_same _ _ updActivate_same h)

theorem updConfirm_same  : SpecSame (updConfirm ) := by
  constructor <;> (unfold updConfirm; repeat' with_reducible (first | intro _ | assumption | apply SpecSame.mk | apply onSys_same | apply setSlot_same | apply post_same | fail_if_no_progress apply same_rec | apply same_ite | refine same_fst (by assumption) ?_ | refine same_snd (by assumption) ?_ | refine same_trd (by assumption) ?_ | dsimp only | split))

theorem execUpdConfirm_same {s t : State} (a0 : CmdStep) (h : Same s t) : GoesSame s (execUpdConfirm a0 t) := goesSame_next (mailboxCommand_same _ _ updConfirm_same h)

theorem updRollback_same  : SpecSame (updRollback ) := by
  constructor <;> (unfold updRollback; repeat' with_reducible (first | intro _ | assumption | apply SpecSame.mk | apply requestReset_same | apply same_ite | refine same_fst (by assumption) ?_ | refine same_snd (by assumption) ?_ | refine same_trd (by assumption) ?_ | dsimp only | split))

theorem execUpdRollback_same {s t : State} (a0 : CmdStep) (h : Same s t) : GoesSame s (execUpdRollback a0 t) := goesSame_next (mailboxCommand_same _ _ updRollback_same h)

theorem execUpdLoadTimeout_same {s t : State} (h : Same s t) : GoesSame s (execUpdLoadTimeout t) := by
  unfold execUpdLoadTimeout
  repeat' with_reducible (first | intro _ | assumption | apply goesSame_next | apply dropLoad_same | apply same_ite | dsimp only | split)

theorem resetSoc_keeps {s t : State} (a0 : Bool) (h : Keeps s t) : Keeps s (resetSoc a0 t) := by
  exact ⟨h.1, fun _ => rfl⟩

theorem onRunPhase_same {s t : State} (a0 : Phase) (h : Same s t) : Same s (onRunPhase a0 t) := by
  unfold onRunPhase
  repeat' with_reducible (first | intro _ | assumption | apply onSys_same | fail_if_no_progress apply same_rec | apply same_ite | dsimp only | split)

theorem latchNow_same {s t : State} (a0 : Nat) (a1 : Nat) (a2 : Bytes) (h : Same s t) : Same s (latchNow a0 a1 a2 t) := by
  unfold latchNow
  repeat' with_reducible (first | intro _ | assumption | apply onSys_same | fail_if_no_progress apply same_rec | apply same_ite | dsimp only | split)

theorem faultReset_keeps {s t : State} (a0 : Nat) (a1 : Nat) (a2 : CommitCut) (h : Keeps s t) : Keeps s (faultReset a0 a1 a2 t) := by
  unfold faultReset
  repeat' with_reducible (first | intro _ | assumption | apply resetSoc_keeps | refine keeps_of_same (onSys_same _ (Same.refl _)) ?_ | fail_if_no_progress apply keeps_rec | fail_if_no_progress apply keeps_bob | apply keeps_ite | apply keeps_foldl | apply keeps_elim | refine keeps_fst (by assumption) ?_ | refine keeps_snd (by assumption) ?_ | refine keeps_trd (by assumption) ?_ | dsimp only | split)

theorem execWatchdogReset_keeps {s t : State} (a0 : Watchdog) (a1 : CommitCut) (h : Keeps s t) : GoesKeeping s (execWatchdogReset a0 a1 t) := by
  unfold execWatchdogReset
  repeat' with_reducible (first | intro _ | assumption | apply goesKeeping_next | apply faultReset_keeps | fail_if_no_progress apply keeps_rec | fail_if_no_progress apply keeps_bob | apply keeps_ite | apply keeps_foldl | apply keeps_elim | refine keeps_fst (by assumption) ?_ | refine keeps_snd (by assumption) ?_ | refine keeps_trd (by assumption) ?_ | dsimp only | split)

theorem execMemoryErrorReset_keeps {s t : State} (a0 : CommitCut) (h : Keeps s t) : GoesKeeping s (execMemoryErrorReset a0 t) := by
  unfold execMemoryErrorReset
  repeat' with_reducible (first | intro _ | assumption | apply goesKeeping_next | apply faultReset_keeps | fail_if_no_progress apply keeps_rec | fail_if_no_progress apply keeps_bob | apply keeps_ite | apply keeps_foldl | apply keeps_elim | refine keeps_fst (by assumption) ?_ | refine keeps_snd (by assumption) ?_ | refine keeps_trd (by assumption) ?_ | dsimp only | split)

theorem setPll_same {s t : State} (a0 : Pll) (a1 : Bool) (h : Same s t) : Same s (setPll a0 a1 t) := by
  unfold setPll
  repeat' with_reducible (first | intro _ | assumption | fail_if_no_progress apply same_rec | apply same_ite | dsimp only | split)

theorem switchRestart_same {s t : State} (h : Same s t) : Same s (switchRestart t) := by
  unfold switchRestart
  repeat' with_reducible (first | intro _ | assumption | apply onNet_same | fail_if_no_progress apply same_rec | apply same_ite | refine same_fst (by assumption) ?_ | refine same_snd (by assumption) ?_ | refine same_trd (by assumption) ?_ | dsimp only | split)

theorem execPllLockLoss_keeps {s t : State} (a0 : Pll) (h : Keeps s t) : GoesKeeping s (execPllLockLoss a0 t) := by
  have soc : ∀ (p : Pll) (a : Nat), GoesKeeping s (next (if socRuns t then faultReset 6 a .torn (latchNow 0x0204 0 (le8 (pllLetter p)) t) else t)) := fun p a =>
    goesKeeping_next (keeps_ite (faultReset_keeps _ _ _ (keeps_of_same (latchNow_same _ _ _ (Same.refl _)) h)) h)
  have set : ∀ (p : Pll) (k : Nat), Same t (setPll p false (post 0x0204 k (le8 (pllLetter p)) t)) := fun p k =>
    setPll_same _ _ (post_same _ _ _ (Same.refl _))
  have net : ∀ p : Pll, GoesKeeping s (if running t then next ((affectedPorts p).foldl (fun t k => linkLost k t)
      (setPll p false (post 0x0204 1 (le8 (pllLetter p)) t))) else next t) := fun p => by
    split
    · exact goesKeeping_next (keeps_of_same (same_foldl (set p 1) fun u k hu => linkLost_same _ hu) h)
    · exact goesKeeping_next h
  cases a0 with
  | f => exact soc .f _
  | a => exact soc .a _
  | d => exact soc .d _
  | t => exact soc .t _
  | n => exact net .n
  | e p => exact net (.e p)
  | r =>
    unfold execPllLockLoss
    dsimp only
    split
    · exact goesKeeping_next (keeps_of_same (same_rec (set .r 2) ..) h)
    · exact goesKeeping_next h

theorem execPllRelock_same {s t : State} (a0 : Pll) (h : Same s t) : GoesSame s (execPllRelock a0 t) := by
  unfold execPllRelock
  repeat' with_reducible (first | intro _ | assumption | apply goesSame_next | apply setPll_same | apply switchRestart_same | fail_if_no_progress apply same_rec | apply same_ite | dsimp only | split)

theorem execTcxoStop_keeps {s t : State} (h : Keeps s t) : GoesKeeping s (execTcxoStop t) := by
  unfold execTcxoStop
  repeat' with_reducible (first | intro _ | assumption | apply goesKeeping_next | apply resetSoc_keeps | refine keeps_of_same (latchNow_same _ _ _ (Same.refl _)) ?_ | refine keeps_of_same (onRunPhase_same _ (Same.refl _)) ?_ | fail_if_no_progress apply keeps_rec | fail_if_no_progress apply keeps_bob | apply keeps_ite | apply keeps_foldl | apply keeps_elim | refine keeps_fst (by assumption) ?_ | refine keeps_snd (by assumption) ?_ | refine keeps_trd (by assumption) ?_ | dsimp only | split)

theorem commitAll_same {s t : State} (h : Same s t) : Same s (commitAll t) := by
  unfold commitAll
  repeat' with_reducible (first | intro _ | assumption | apply commitWork_same | apply onJnl_same | apply sealBatch_same | apply sealWork_same | fail_if_no_progress apply same_rec | apply same_ite | dsimp only | split)

theorem saveCounters_same {s t : State} (h : Same s t) : Same s (saveCounters t) := by
  unfold saveCounters
  repeat' with_reducible (first | intro _ | assumption | apply onSys_same | fail_if_no_progress apply same_rec | apply same_ite | refine same_fst (by assumption) ?_ | refine same_snd (by assumption) ?_ | refine same_trd (by assumption) ?_ | dsimp only | split)

theorem execOperatingCountersSave_same {s t : State} (h : Same s t) : GoesSame s (execOperatingCountersSave t) := by
  unfold execOperatingCountersSave
  repeat' with_reducible (first | intro _ | assumption | apply goesSame_next | apply saveCounters_same | apply same_ite | dsimp only | split)

theorem gaspSave_same {s t : State} (a0 : Nat) (h : Same s t) : Same s (gaspSave a0 t) := by
  unfold gaspSave
  repeat' with_reducible (first | intro _ | assumption | apply saveLastGasp_same | apply same_ite | dsimp only | split)

theorem execPowerFailWarning_keeps {s t : State} (h : Keeps s t) : GoesKeeping s (execPowerFailWarning t) := by
  have warned : Same t (onSys (fun x => { x with pfWarn := true, pfWarnCnt := x.pfWarnCnt + 1 }) t) := onSys_same _ (Same.refl _)
  have down := goesKeeping_next (keeps_of_same (onRunPhase_same .off (Same.refl _)) (resetSoc_keeps true (keeps_of_same warned h)))
  unfold execPowerFailWarning
  dsimp only
  split
  case h_1 =>
    refine goesKeeping_next (keeps_of_same (gaspSave_same _ (onSys_same _ (same_foldl (same_foldl (same_foldl warned ?_) ?_) ?_))) h)
    · intro u k hu
      split
      · exact tryMissed_same _ _ hu
      · exact hu
    · exact fun u k hu => linkLost_same _ hu
    · intro u m hu
      split
      · exact hu
      · exact dropSession_same _ hu
  all_goals first | exact down | exact goesKeeping_next h

theorem execLastGaspComplete_keeps {s t : State} (a0 : Nat) (h : Keeps s t) : GoesKeeping s (execLastGaspComplete a0 t) := by
  unfold execLastGaspComplete
  split
  · refine goesKeeping_next (resetSoc_keeps _ (keeps_of_same (onSys_same _ (latchNow_same _ _ _ ?_)) h))
    exact saveCounters_same (commitAll_same (samplerStitchEnd_same (Same.refl _)))
  · exact goesKeeping_next h

theorem execDipReturn_same {s t : State} (h : Same s t) : GoesSame s (execDipReturn t) := by
  unfold execDipReturn
  repeat' with_reducible (first | intro _ | assumption | apply goesSame_next | apply onSys_same | fail_if_no_progress apply same_rec | apply same_ite | refine same_fst (by assumption) ?_ | refine same_snd (by assumption) ?_ | refine same_trd (by assumption) ?_ | dsimp only | split)

theorem dcStart_same {s t : State} (a0 : Nat) (h : Same s t) : Same s (dcStart a0 t) := by
  unfold dcStart
  repeat' with_reducible (first | intro _ | assumption | apply onMet_same | apply onSys_same | fail_if_no_progress apply same_rec | apply same_ite | refine same_fst (by assumption) ?_ | refine same_snd (by assumption) ?_ | refine same_trd (by assumption) ?_ | dsimp only | split)

theorem execDcInputOn_keeps {s t : State} (h : Keeps s t) : GoesKeeping s (execDcInputOn t) := by
  unfold execDcInputOn
  repeat' with_reducible (first | intro _ | assumption | apply goesKeeping_next | refine keeps_of_same (dcStart_same _ (Same.refl _)) ?_ | refine keeps_of_same (latchNow_same _ _ _ (Same.refl _)) ?_ | apply resetSoc_keeps | refine keeps_of_same (onSys_same _ (Same.refl _)) ?_ | fail_if_no_progress apply keeps_rec | fail_if_no_progress apply keeps_bob | apply keeps_ite | apply keeps_foldl | apply keeps_elim | refine keeps_fst (by assumption) ?_ | refine keeps_snd (by assumption) ?_ | refine keeps_trd (by assumption) ?_ | dsimp only | split)

theorem startSlot_same {s t : State} (a0 : PendingReset) (h : Same s t) : Same s (startSlot a0 t) := by
  unfold startSlot
  repeat' with_reducible (first | intro _ | assumption | apply setSlot_same | apply onSys_same | fail_if_no_progress apply same_rec | apply same_ite | refine same_fst (by assumption) ?_ | refine same_snd (by assumption) ?_ | refine same_trd (by assumption) ?_ | dsimp only | split)

theorem execPlannedReset_keeps {s t : State} (h : Keeps s t) : GoesKeeping s (execPlannedReset t) := by
  unfold execPlannedReset
  split
  · exact goesKeeping_next h
  · split
    · exact goesKeeping_next (keeps_of_same (onSys_same _ (Same.refl _)) (resetSoc_keeps _ (keeps_of_same
        (startSlot_same _ (saveCounters_same (commitAll_same (samplerStitchEnd_same (gaspSave_same _ (Same.refl _)))))) h)))
    · exact goesKeeping_next h

theorem startCounts_same {s t : State} (h : Same s t) : Same s (startCounts t) := by
  unfold startCounts
  repeat' with_reducible (first | intro _ | assumption | apply onSys_same | fail_if_no_progress apply same_rec | apply same_ite | refine same_fst (by assumption) ?_ | refine same_snd (by assumption) ?_ | refine same_trd (by assumption) ?_ | dsimp only | split)

theorem startEvents_same {s t : State} (h : Same s t) : Same s (startEvents t) := by
  unfold startEvents
  repeat' with_reducible (first | intro _ | assumption | apply post_same | fail_if_no_progress apply same_rec | apply same_ite | apply same_foldl | apply same_foldl_fst | apply same_foldl_snd | dsimp only | split)

theorem seedTime_same {s t : State} (h : Same s t) : Same s (seedTime t) := by
  unfold seedTime
  repeat' with_reducible (first | intro _ | assumption | apply applyOffset_same | fail_if_no_progress apply same_rec | apply same_ite | dsimp only | split)

theorem adoptCommit_same {s t : State} (a0 : Batch) (h : Same s t) : Same s (adoptCommit a0 t) := by
  unfold adoptCommit
  repeat' with_reducible (first | intro _ | assumption | apply onJnl_same | apply commitEntries_same | apply sealedEffect_same | fail_if_no_progress apply same_rec | apply same_ite | apply same_foldl | apply same_foldl_fst | apply same_foldl_snd | refine same_fst (by assumption) ?_ | refine same_snd (by assumption) ?_ | refine same_trd (by assumption) ?_ | dsimp only | split)

theorem loseJournal_same {s t : State} (h : Same s t) : Same s (loseJournal t) := by
  unfold loseJournal
  repeat' with_reducible (first | intro _ | assumption | apply post_same | fail_if_no_progress apply same_rec | apply same_ite | refine same_fst (by assumption) ?_ | refine same_snd (by assumption) ?_ | refine same_trd (by assumption) ?_ | dsimp only | split)

theorem chooseJournal_same {s t : State} (a0 : RestoreFound) (h : Same s t) : Same s (chooseJournal a0 t) := by
  unfold chooseJournal
  repeat' with_reducible (first | intro _ | assumption | apply loseJournal_same | apply adoptCommit_same | apply onJnl_same | fail_if_no_progress apply same_rec | apply same_ite | dsimp only | split)

theorem replayMailboxes_same {s t : State} (a0 : RestoreFound) (h : Same s t) : Same s (replayMailboxes a0 t) := by
  unfold replayMailboxes
  repeat' with_reducible (first | intro _ | assumption | apply onJnl_same | fail_if_no_progress apply same_rec | apply same_ite | dsimp only | split)

theorem replayLoads_same {s t : State} (h : Same s t) : Same s (replayLoads t) := by
  unfold replayLoads
  repeat' with_reducible (first | intro _ | assumption | apply onSys_same | fail_if_no_progress apply same_rec | apply same_ite | dsimp only | split)

theorem restoreSettings_same {s t : State} (a0 : RestoreFound) (h : Same s t) : Same s (restoreSettings a0 t) := by
  unfold restoreSettings
  repeat' with_reducible (first | intro _ | assumption | apply onSettings_same | apply onMet_same | fail_if_no_progress apply same_rec | apply same_ite | refine same_fst (by assumption) ?_ | refine same_snd (by assumption) ?_ | refine same_trd (by assumption) ?_ | dsimp only | split)

theorem settingsEvents_same {s t : State} (h : Same s t) : Same s (settingsEvents t) := by
  unfold settingsEvents
  repeat' with_reducible (first | intro _ | assumption | apply postIf_same | apply post_same | apply same_ite | apply same_foldl | apply same_foldl_fst | apply same_foldl_snd | dsimp only | split)

theorem reapply_same {s t : State} (a0 : U32) (a1 : Change) (h : Same s t) : Same s (reapply t a0 a1) := by
  unfold reapply
  repeat' with_reducible (first | intro _ | assumption | apply onSettings_same | apply retire_same | apply drawFree_same | apply noteChange_same | apply writeWorking_same | fail_if_no_progress apply same_rec | apply same_ite | apply same_foldl | apply same_foldl_fst | apply same_foldl_snd | apply same_elim | refine same_fst (by assumption) ?_ | refine same_snd (by assumption) ?_ | refine same_trd (by assumption) ?_ | dsimp only | split)

theorem reapplyKey_same {s t : State} (a0 : Due) (h : Same s t) : Same s (reapplyKey t a0) := by
  unfold reapplyKey
  repeat' with_reducible (first | intro _ | assumption | apply retire_same | apply keyTo_same | fail_if_no_progress apply same_rec | apply same_ite | dsimp only | split)

theorem rebuildSettings_same {s t : State} (h : Same s t) : Same s (rebuildSettings t) := by
  unfold rebuildSettings
  repeat' with_reducible (first | intro _ | assumption | apply onSettings_same | apply reapplyKey_same | apply reapply_same | fail_if_no_progress apply same_rec | apply same_ite | apply same_foldl | apply same_foldl_fst | apply same_foldl_snd | apply same_elim | refine same_fst (by assumption) ?_ | refine same_snd (by assumption) ?_ | refine same_trd (by assumption) ?_ | dsimp only | split)

theorem restoreGround_same {s t : State} (h : Same s t) : Same s (restoreGround t) := by
  unfold restoreGround
  repeat' with_reducible (first | intro _ | assumption | apply post_same | fail_if_no_progress apply same_rec | apply same_ite | apply same_foldl | apply same_foldl_fst | apply same_foldl_snd | dsimp only | split)

theorem restoreTables_same {s t : State} (a0 : RestoreFound) (h : Same s t) : Same s (restoreTables a0 t) := by
  unfold restoreTables
  repeat' with_reducible (first | intro _ | assumption | apply post_same | apply postIf_same | apply restoreGround_same | apply reproject_same | fail_if_no_progress apply same_rec | apply same_ite | apply same_foldl | apply same_foldl_fst | apply same_foldl_snd | apply same_elim | refine same_fst (by assumption) ?_ | refine same_snd (by assumption) ?_ | refine same_trd (by assumption) ?_ | dsimp only | split)

theorem replayPin_same {s t : State} (a0 : JEntry) (h : Same s t) : Same s (replayPin t a0) := by
  unfold replayPin
  repeat' with_reducible (first | intro _ | assumption | apply onPin_same | apply setQueue_same | fail_if_no_progress apply same_rec | apply same_ite | dsimp only | split)

theorem replayReleases_same {s t : State} (h : Same s t) : Same s (replayReleases t) := by
  unfold replayReleases
  repeat' with_reducible (first | intro _ | assumption | apply onAir_same | fail_if_no_progress apply same_rec | apply same_ite | dsimp only | split)

theorem restoreRecord_same {s t : State} (a0 : JEntry) (h : Same s t) : Same s (restoreRecord t a0) := by
  unfold restoreRecord
  repeat' with_reducible (first | intro _ | assumption | apply retire_same | apply storeRecord_same | apply same_ite | dsimp only | split)

theorem restoreSampler_same {s t : State} (a0 : RestoreFound) (h : Same s t) : Same s (restoreSampler a0 t) := by
  unfold restoreSampler
  repeat' with_reducible (first | intro _ | assumption | apply restoreRecord_same | apply postIf_same | fail_if_no_progress apply same_rec | apply same_ite | apply same_foldl | apply same_foldl_fst | apply same_foldl_snd | dsimp only | split)

theorem passInterval_same {s t : State} (a0 : MetRecord) (h : Same s t) : Same s (passInterval t a0) := by
  unfold passInterval
  repeat' with_reducible (first | intro _ | assumption | apply onInterval_same | apply onMet_same | fail_if_no_progress apply same_rec | apply same_ite | refine same_fst (by assumption) ?_ | refine same_snd (by assumption) ?_ | refine same_trd (by assumption) ?_ | dsimp only | split)

theorem passSpan_same {s t : State} (a0 : MetRecord) (h : Same s t) : Same s (passSpan t a0) := by
  unfold passSpan
  repeat' with_reducible (first | intro _ | assumption | apply onMet_same | apply onFeeder_same | fail_if_no_progress apply same_rec | apply same_ite | refine same_fst (by assumption) ?_ | refine same_snd (by assumption) ?_ | refine same_trd (by assumption) ?_ | dsimp only | split)

theorem rejoin_same {s t : State} (a0 : Nat) (a1 : Bool) (a2 : MetRecord) (h : Same s t) : Same s (rejoin a0 a1 t a2) := by
  unfold rejoin
  repeat' with_reducible (first | intro _ | assumption | apply joinWork_same | apply onMet_same | fail_if_no_progress apply same_rec | apply same_ite | refine same_fst (by assumption) ?_ | refine same_snd (by assumption) ?_ | refine same_trd (by assumption) ?_ | dsimp only | split)

theorem stopSpan_same {s t : State} (a0 : Nat) (a1 : MetSave) (a2 : Nat) (h : Same s t) : Same s (stopSpan a0 a1 t a2) := by
  unfold stopSpan
  repeat' with_reducible (first | intro _ | assumption | apply openSpan_same | apply onMet_same | fail_if_no_progress apply same_rec | apply same_ite | dsimp only | split)

theorem resumeInterval_same {s t : State} (h : Same s t) : Same s (resumeInterval t) := by
  unfold resumeInterval
  repeat' with_reducible (first | intro _ | assumption | apply closeAt_same | apply onInterval_same | fail_if_no_progress apply same_rec | apply same_ite | refine same_fst (by assumption) ?_ | refine same_snd (by assumption) ?_ | refine same_trd (by assumption) ?_ | dsimp only | split)

theorem freshMetering_same {s t : State} (h : Same s t) : Same s (freshMetering t) := by
  unfold freshMetering
  repeat' with_reducible (first | intro _ | assumption | apply post_same | apply onInterval_same | fail_if_no_progress apply same_rec | apply same_ite | refine same_fst (by assumption) ?_ | refine same_snd (by assumption) ?_ | refine same_trd (by assumption) ?_ | dsimp only | split)

theorem restoreMetering_same {s t : State} (a0 : RestoreFound) (h : Same s t) : Same s (restoreMetering a0 t) := by
  unfold restoreMetering
  repeat' with_reducible (first | intro _ | assumption | apply onMet_same | apply freshMetering_same | apply passInterval_same | apply passSpan_same | apply rejoin_same | apply resumeInterval_same | apply stopSpan_same | fail_if_no_progress apply same_rec | apply same_ite | apply same_foldl | apply same_foldl_fst | apply same_foldl_snd | refine same_fst (by assumption) ?_ | refine same_snd (by assumption) ?_ | refine same_trd (by assumption) ?_ | dsimp only | split)

theorem restoreOutputs_same {s t : State} (h : Same s t) : Same s (restoreOutputs t) := by
  unfold restoreOutputs
  repeat' with_reducible (first | intro _ | assumption | apply onOutput_same | fail_if_no_progress apply same_rec | apply same_ite | apply same_foldl | apply same_foldl_fst | apply same_foldl_snd | dsimp only | split)

theorem restoreSnaps_same {s t : State} (h : Same s t) : Same s (restoreSnaps t) := by
  unfold restoreSnaps
  repeat' with_reducible (first | intro _ | assumption | apply post_same | apply onMet_same | fail_if_no_progress apply same_rec | apply same_ite | apply same_foldl | apply same_foldl_fst | apply same_foldl_snd | refine same_fst (by assumption) ?_ | refine same_snd (by assumption) ?_ | refine same_trd (by assumption) ?_ | dsimp only | split)

theorem restoreKeys_same {s t : State} (h : Same s t) : Same s (restoreKeys t) := by
  unfold restoreKeys
  repeat' with_reducible (first | intro _ | assumption | fail_if_no_progress apply same_rec | apply same_ite | dsimp only | split)

theorem expectStitch_same {s t : State} (h : Same s t) : Same s (expectStitch t) := by
  unfold expectStitch
  repeat' with_reducible (first | intro _ | assumption | fail_if_no_progress apply same_rec | apply same_ite | dsimp only | split)

theorem execRestore_same {s t : State} (a0 : RestoreFound) (h : Same s t) : GoesSame s (execRestore a0 t) := by
  unfold execRestore
  repeat' with_reducible (first | intro _ | assumption | apply goesSame_next | apply startCounts_same | apply restoreSettings_same | apply expectStitch_same | apply seedTime_same | apply chooseJournal_same | apply settingsEvents_same | apply startEvents_same | apply replayMailboxes_same | apply replayLoads_same | apply rebuildSettings_same | apply restoreKeys_same | apply restoreMetering_same | apply fittedAtBoundary_same | apply restoreSampler_same | apply restoreTables_same | apply replayPin_same | apply buildPlans_same | apply restoreOutputs_same | apply restoreSnaps_same | apply replayReleases_same | apply onJnl_same | apply postMailboxTasks_same | apply onRunPhase_same | fail_if_no_progress apply same_rec | apply same_ite | apply same_foldl | apply same_foldl_fst | apply same_foldl_snd | dsimp only | split)

theorem execSupplyPhaseDone_same {s t : State} (h : Same s t) : GoesSame s (execSupplyPhaseDone t) := by
  unfold execSupplyPhaseDone
  repeat' with_reducible (first | intro _ | assumption | apply goesSame_next | apply onSys_same | fail_if_no_progress apply same_rec | apply same_ite | refine same_fst (by assumption) ?_ | refine same_snd (by assumption) ?_ | refine same_trd (by assumption) ?_ | dsimp only | split)

theorem execHoldupMeasure_same {s t : State} (a0 : Nat) (a1 : Bool) (h : Same s t) : GoesSame s (execHoldupMeasure a0 a1 t) := by
  unfold execHoldupMeasure
  repeat' with_reducible (first | intro _ | assumption | apply goesSame_next | apply onSys_same | apply bootRecord_same | fail_if_no_progress apply same_rec | apply same_ite | refine same_fst (by assumption) ?_ | refine same_snd (by assumption) ?_ | refine same_trd (by assumption) ?_ | dsimp only | split)

theorem latchOld_same {s t : State} (a0 : Nat) (a1 : Nat) (a2 : Bytes) (h : Same s t) : Same s (latchOld a0 a1 a2 t) := by
  unfold latchOld
  repeat' with_reducible (first | intro _ | assumption | apply onSys_same | fail_if_no_progress apply same_rec | apply same_ite | refine same_fst (by assumption) ?_ | refine same_snd (by assumption) ?_ | refine same_trd (by assumption) ?_ | dsimp only | split)

theorem readRtcFlags_same {s t : State} (h : Same s t) : Same s (readRtcFlags t) := by
  unfold readRtcFlags
  repeat' with_reducible (first | intro _ | assumption | apply latchOld_same | apply onAlarm_same | apply onRtc_same | fail_if_no_progress apply same_rec | apply same_ite | apply same_foldl | apply same_foldl_fst | apply same_foldl_snd | dsimp only | split)

theorem enterLoader_same {s t : State} (h : Same s t) : Same s (enterLoader t) := by
  unfold enterLoader
  repeat' with_reducible (first | intro _ | assumption | apply usbRefresh_same | apply onRunPhase_same | apply bootRecord_same | apply same_ite | dsimp only | split)

theorem startImage_same {s t : State} (a0 : Nat) (a1 : ImageCheck) (h : Same s t) : Same s (startImage a0 a1 t) := by
  unfold startImage
  repeat' with_reducible (first | intro _ | assumption | apply setSlot_same | apply onSys_same | fail_if_no_progress apply same_rec | apply same_ite | refine same_fst (by assumption) ?_ | refine same_snd (by assumption) ?_ | refine same_trd (by assumption) ?_ | dsimp only | split)

theorem rejectImage_same {s t : State} (a0 : Nat) (a1 : Nat) (a2 : ImageCheck) (h : Same s t) : Same s (rejectImage a0 a1 a2 t) := by
  unfold rejectImage
  repeat' with_reducible (first | intro _ | assumption | apply bootRecord_same | apply same_ite | dsimp only | split)

theorem otherSlot_same {s t : State} (a0 : Nat) (a1 : Nat → ImageCheck) (h : Same s t) : Same s (otherSlot a0 a1 t) := by
  unfold otherSlot
  repeat' with_reducible (first | intro _ | assumption | apply enterLoader_same | apply rejectImage_same | apply bootRecord_same | apply startImage_same | apply onSys_same | fail_if_no_progress apply same_rec | apply same_ite | dsimp only | split)

theorem selectImage_same {s t : State} (a0 : Nat → ImageCheck) (h : Same s t) : Same s (selectImage a0 t) := by
  unfold selectImage
  repeat' with_reducible (first | intro _ | assumption | apply onRunPhase_same | apply otherSlot_same | apply setSlot_same | apply rejectImage_same | apply startImage_same | fail_if_no_progress apply same_rec | apply same_ite | dsimp only | split)

theorem execBoot_same {s t : State} (a0 : ImageCheck) (a1 : ImageCheck) (h : Same s t) : GoesSame s (execBoot a0 a1 t) := by
  unfold execBoot
  repeat' with_reducible (first | intro _ | assumption | apply goesSame_next | apply selectImage_same | apply readRtcFlags_same | apply same_ite | dsimp only | split)

theorem shrinkRound_same {s t : State} (a0 : Nat) (a1 : Nat) (h : Same s t) : Same s (shrinkRound a0 a1 t).2 := by
  unfold shrinkRound
  repeat' with_reducible (first | intro _ | assumption | fail_if_no_progress apply same_rec | apply same_ite | apply same_elim | refine same_fst (by assumption) ?_ | refine same_snd (by assumption) ?_ | refine same_trd (by assumption) ?_ | dsimp only | split)

theorem loseBank_same {s t : State} (a0 : Nat) (h : Same s t) : Same s (loseBank a0 t) := by
  unfold loseBank
  repeat' with_reducible (first | intro _ | assumption | apply shrinkRound_same | apply onSettings_same | apply onJnl_same | apply bootRecord_same | apply onSys_same | fail_if_no_progress apply same_rec | apply same_ite | apply same_elim | refine same_fst (by assumption) ?_ | refine same_snd (by assumption) ?_ | refine same_trd (by assumption) ?_ | dsimp only | split)

theorem execMramBankFault_same {s t : State} (a0 : Nat) (h : Same s t) : GoesSame s (execMramBankFault a0 t) := by
  unfold execMramBankFault
  repeat' with_reducible (first | intro _ | assumption | apply goesSame_next | apply loseBank_same | apply same_ite | dsimp only | split)

theorem wholeRound_same {s t : State} (h : Same s t) : Same s (wholeRound t) := by
  unfold wholeRound
  repeat' with_reducible (first | intro _ | assumption | fail_if_no_progress apply same_rec | apply same_ite | dsimp only | split)

theorem execMemoryReady_same {s t : State} (a0 : Bool) (a1 : Bool) (a2 : Bool) (a3 : Bool) (a4 : Bool) (h : Same s t) : GoesSame s (execMemoryReady a0 a1 a2 a3 a4 t) := by
  unfold execMemoryReady
  repeat' with_reducible (first | intro _ | assumption | apply goesSame_next | apply onSys_same | apply bootRecord_same | apply wholeRound_same | apply loseBank_same | apply onRunPhase_same | apply enterLoader_same | fail_if_no_progress apply same_rec | apply same_ite | apply same_foldl | apply same_foldl_fst | apply same_foldl_snd | refine same_fst (by assumption) ?_ | refine same_snd (by assumption) ?_ | refine same_trd (by assumption) ?_ | dsimp only | split)

theorem postClosing_same {s t : State} (h : Same s t) : Same s (postClosing t) := by
  unfold postClosing
  repeat' with_reducible (first | intro _ | assumption | apply postTask_same | apply same_ite | apply same_foldl | apply same_foldl_fst | apply same_foldl_snd | dsimp only | split)

theorem requeuePins_same {s t : State} (h : Same s t) : Same s (requeuePins t) := by
  unfold requeuePins
  repeat' with_reducible (first | intro _ | assumption | apply queuePacket_same | apply same_ite | apply same_foldl | apply same_foldl_fst | apply same_foldl_snd | dsimp only | split)

theorem execFirstBoundaryRelease_same {s t : State} (h : Same s t) : GoesSame s (execFirstBoundaryRelease t) := by
  unfold execFirstBoundaryRelease
  repeat' with_reducible (first | intro _ | assumption | apply goesSame_next | apply requeuePins_same | apply onSys_same | apply chainRateChanged_same | apply ringSettings_same | apply usbRefresh_same | apply openSession_same | apply postClosing_same | apply samplerStitchEnd_same | apply post_same | apply sealBatch_same | apply sealWork_same | fail_if_no_progress apply same_rec | apply same_ite | refine same_fst (by assumption) ?_ | refine same_snd (by assumption) ?_ | refine same_trd (by assumption) ?_ | dsimp only | split)

theorem execA0Stop_same {s t : State} (h : Same s t) : GoesSame s (execA0Stop t) := by
  unfold execA0Stop
  repeat' with_reducible (first | intro _ | assumption | apply goesSame_next | apply post_same | fail_if_no_progress apply same_rec | apply same_ite | dsimp only | split)

theorem execA0Return_same {s t : State} (h : Same s t) : GoesSame s (execA0Return t) := by
  unfold execA0Return
  repeat' with_reducible (first | intro _ | assumption | apply goesSame_next | apply dropSession_same | apply openSession_same | apply windowMessages_same | fail_if_no_progress apply same_rec | apply same_ite | apply same_foldl | apply same_foldl_fst | apply same_foldl_snd | dsimp only | split)

theorem loseLong_same {s t : State} (h : Same s t) : Same s (loseLong t) := by
  unfold loseLong
  repeat' with_reducible (first | intro _ | assumption | fail_if_no_progress apply same_rec | apply same_ite | dsimp only | split)

theorem execDramDieLost_same {s t : State} (a0 : Nat) (h : Same s t) : GoesSame s (execDramDieLost a0 t) := by
  unfold execDramDieLost
  repeat' with_reducible (first | intro _ | assumption | apply goesSame_next | apply loseLong_same | apply post_same | apply onSys_same | apply onMet_same | fail_if_no_progress apply same_rec | apply same_ite | dsimp only | split)

theorem execEmmcFault_same {s t : State} (h : Same s t) : GoesSame s (execEmmcFault t) := by
  unfold execEmmcFault
  repeat' with_reducible (first | intro _ | assumption | apply goesSame_next | apply onJnl_same | apply onSys_same | fail_if_no_progress apply same_rec | apply same_ite | dsimp only | split)

theorem execResultStoreCopy_same {s t : State} (a0 : U32) (h : Same s t) : GoesSame s (execResultStoreCopy a0 t) := by
  unfold execResultStoreCopy
  repeat' with_reducible (first | intro _ | assumption | apply goesSame_next | apply onJnl_same | fail_if_no_progress apply same_rec | apply same_ite | dsimp only | split)

end Sys2Proof.Machine
end

