-- ==== Sys2Proof/Laws/SameStep.lean ====
section
/-! SUPPORT. The boundary, the recorder, Probe and the idle cycle: what each operation and command leaves of the queue and the memory. -/

set_option linter.all false

namespace Sys2Proof.Machine

theorem after_same {s t : State} (a0 : Out) (ho : GoesSame s a0) (h : Same s t) : Same s (after a0 t) := by
  obtain ⟨u, rfl, hu⟩ := ho
  exact hu

theorem execJnlClearStats_same {s t : State} (h : Same s t) : GoesSame s (execJnlClearStats t) := by
  unfold execJnlClearStats
  repeat' with_reducible (first | intro _ | assumption | apply goesSame_next | fail_if_no_progress apply same_rec | apply same_ite | dsimp only | split)

theorem execMrcClearStats_same {s t : State} (h : Same s t) : GoesSame s (execMrcClearStats t) := by
  unfold execMrcClearStats
  repeat' with_reducible (first | intro _ | assumption | apply goesSame_next | apply onSys_same | fail_if_no_progress apply same_rec | apply same_ite | refine same_fst (by assumption) ?_ | refine same_snd (by assumption) ?_ | refine same_trd (by assumption) ?_ | dsimp only | split)

theorem execAonClearStats_same {s t : State} (h : Same s t) : GoesSame s (execAonClearStats t) := by
  unfold execAonClearStats
  repeat' with_reducible (first | intro _ | assumption | apply goesSame_next | apply onSys_same | fail_if_no_progress apply same_rec | apply same_ite | dsimp only | split)

theorem bobbinWrite_same {s t : State} (a0 : Nat) (a1 : Nat) (a2 : Nat) (h : Same s t) : Same s (bobbinWrite a0 a1 a2 t) := by
  unfold bobbinWrite
  repeat' with_reducible (first | intro _ | assumption | apply after_same | apply execBobStop_same | apply ignoredWrite_same | apply onBobbin_same | apply execBobStart_same | fail_if_no_progress apply same_rec | fail_if_no_progress apply same_bob | apply same_ite | dsimp only | split)

theorem ringCmdWrite_same {s t : State} (a0 : Nat) (h : Same s t) : Same s (ringCmdWrite a0 t) := by
  unfold ringCmdWrite
  repeat' with_reducible (first | intro _ | assumption | apply ringEvent_same | apply same_ite | dsimp only | split)

theorem statsWrite_same {s t : State} (a0 : Nat) (a1 : Out) (ha1 : GoesSame s a1) (h : Same s t) : Same s (statsWrite a0 a1 t) := by
  unfold statsWrite
  repeat' with_reducible (first | intro _ | assumption | apply after_same | apply same_ite | dsimp only | split)

theorem writeWord_same {s t : State} (a0 : Nat) (a1 : Nat) (h : Same s t) : Same s (writeWord a0 a1 t) := by
  unfold writeWord
  repeat' with_reducible (first | intro _ | assumption | apply statsWrite_same | apply execTmbClearStats_same | apply execSknClearStats_same | apply bobbinWrite_same | apply execBobClearStats_same | apply execLaceClearStats_same | apply execFadeClearStats_same | apply execAirClearStats_same | apply execCrsClearStats_same | apply execMetClearStats_same | apply execNetClearStats_same | apply ringCmdWrite_same | apply execTimeClearStats_same | apply after_same | apply execNetSettingsWindowWrite_same | apply onAlarm_same | apply execSmpClearStats_same | apply execMrcClearStats_same | apply execJnlClearStats_same | apply execPnlClearStats_same | apply execAonClearStats_same | fail_if_no_progress apply same_rec | fail_if_no_progress apply same_bob | apply same_ite | refine same_fst (by assumption) ?_ | refine same_snd (by assumption) ?_ | refine same_trd (by assumption) ?_ | dsimp only | split)

theorem execRegisterWrite_same {s t : State} (a0 : Nat) (a1 : U32) (h : Same s t) : GoesSame s (execRegisterWrite a0 a1 t) := by
  unfold execRegisterWrite
  repeat' with_reducible (first | intro _ | assumption | apply goesSame_next | apply writeWord_same | apply same_ite | dsimp only | split)

theorem readProbe_same {s t : State} (a0 : Nat) (h : Same s t) : Same s (readProbe a0 t).2 := by
  unfold readProbe
  repeat' with_reducible (first | intro _ | assumption | apply drawFree_same | apply after_same | apply execTbSecLoRead_same | apply execTbFracRead_same | apply execRtcTickLoRead_same | apply execRtcFlagsRead_same | apply same_ite | apply same_elim | refine same_fst (by assumption) ?_ | refine same_snd (by assumption) ?_ | refine same_trd (by assumption) ?_ | dsimp only | split)

theorem readAll_same {s t : State} (a0 : List Nat) (h : Same s t) : Same s (readAll a0 t).2 := by
  unfold readAll
  repeat' with_reducible (first | intro _ | assumption | apply readProbe_same | fail_if_no_progress apply same_rec | apply same_ite | apply same_foldl | apply same_foldl_fst | apply same_foldl_snd | refine same_fst (by assumption) ?_ | refine same_snd (by assumption) ?_ | refine same_trd (by assumption) ?_ | dsimp only | split)

theorem prbRead_same  : SpecSame (prbRead ) := by
  constructor <;> (unfold prbRead; repeat' with_reducible (first | intro _ | assumption | apply SpecSame.mk | apply readAll_same | apply same_ite | refine same_fst (by assumption) ?_ | refine same_snd (by assumption) ?_ | refine same_trd (by assumption) ?_ | dsimp only | split))

theorem execPrbRead_same {s t : State} (a0 : CmdStep) (h : Same s t) : GoesSame s (execPrbRead a0 t) := goesSame_next (mailboxCommand_same _ _ prbRead_same h)

theorem prbReadRange_same  : SpecSame (prbReadRange ) := by
  constructor <;> (unfold prbReadRange; repeat' with_reducible (first | intro _ | assumption | apply SpecSame.mk | apply readAll_same | apply same_ite | refine same_fst (by assumption) ?_ | refine same_snd (by assumption) ?_ | refine same_trd (by assumption) ?_ | dsimp only | split))

theorem execPrbReadRange_same {s t : State} (a0 : CmdStep) (h : Same s t) : GoesSame s (execPrbReadRange a0 t) := goesSame_next (mailboxCommand_same _ _ prbReadRange_same h)

theorem writeItem_same {s : State} {t : Sys2Proof.Bytes × State} (a0 : Bytes) (a2 : Nat) (h : Same s t.2) : Same s (writeItem a0 t a2).2 := by
  unfold writeItem
  repeat' with_reducible (first | intro _ | assumption | apply writeWord_same | apply readProbe_same | apply same_ite | refine same_fst (by assumption) ?_ | refine same_snd (by assumption) ?_ | refine same_trd (by assumption) ?_ | dsimp only | split)

theorem prbWrite_same  : SpecSame (prbWrite ) := by
  constructor <;> (unfold prbWrite; repeat' with_reducible (first | intro _ | assumption | apply SpecSame.mk | apply settingAccepted_same | apply writeItem_same | apply post_same | apply dueChange_same | fail_if_no_progress apply same_rec | apply same_ite | apply same_foldl | apply same_foldl_fst | apply same_foldl_snd | refine same_fst (by assumption) ?_ | refine same_snd (by assumption) ?_ | refine same_trd (by assumption) ?_ | dsimp only | split))

theorem execPrbWrite_same {s t : State} (a0 : CmdStep) (h : Same s t) : GoesSame s (execPrbWrite a0 t) := goesSame_next (mailboxCommand_same _ _ prbWrite_same h)

theorem prbMap_same  : SpecSame (prbMap ) := by
  constructor <;> (unfold prbMap; repeat' with_reducible (first | intro _ | assumption | apply SpecSame.mk | apply same_ite | apply same_elim | refine same_fst (by assumption) ?_ | refine same_snd (by assumption) ?_ | refine same_trd (by assumption) ?_ | dsimp only | split))

theorem execPrbMap_same {s t : State} (a0 : CmdStep) (h : Same s t) : GoesSame s (execPrbMap a0 t) := goesSame_next (mailboxCommand_same _ _ prbMap_same h)

theorem onStitch_same {s t : State} (a0 : StitchGen → StitchGen) (h : Same s t) : Same s (onStitch a0 t) := by
  unfold onStitch
  repeat' with_reducible (first | intro _ | assumption | fail_if_no_progress apply same_rec | apply same_ite | dsimp only | split)

theorem shiftStitches_same {s t : State} (a0 : U32) (h : Same s t) : Same s (shiftStitches a0 t) := by
  unfold shiftStitches
  repeat' with_reducible (first | intro _ | assumption | fail_if_no_progress apply same_rec | apply same_ite | refine same_fst (by assumption) ?_ | refine same_snd (by assumption) ?_ | refine same_trd (by assumption) ?_ | dsimp only | split)

theorem stepNumber_same {s t : State} (h : Same s t) : Same s (stepNumber t) := by
  unfold stepNumber
  repeat' with_reducible (first | intro _ | assumption | apply post_same | apply shiftStitches_same | apply onStitch_same | fail_if_no_progress apply same_rec | apply same_ite | refine same_fst (by assumption) ?_ | refine same_snd (by assumption) ?_ | refine same_trd (by assumption) ?_ | dsimp only | split)

theorem numberBoundary_same {s t : State} (h : Same s t) : Same s (numberBoundary t) := by
  unfold numberBoundary
  repeat' with_reducible (first | intro _ | assumption | apply stepNumber_same | apply onStitch_same | fail_if_no_progress apply same_rec | apply same_ite | refine same_fst (by assumption) ?_ | refine same_snd (by assumption) ?_ | refine same_trd (by assumption) ?_ | dsimp only | split)

theorem changePeriod_same {s t : State} (a0 : Nat) (h : Same s t) : Same s (changePeriod a0 t) := by
  unfold changePeriod
  repeat' with_reducible (first | intro _ | assumption | apply post_same | apply clearMarks_same | apply shiftStitches_same | apply onStitch_same | fail_if_no_progress apply same_rec | apply same_ite | refine same_fst (by assumption) ?_ | refine same_snd (by assumption) ?_ | refine same_trd (by assumption) ?_ | dsimp only | split)

theorem steer_same {s t : State} (h : Same s t) : Same s (steer t) := by
  unfold steer
  repeat' with_reducible (first | intro _ | assumption | apply onStitch_same | fail_if_no_progress apply same_rec | apply same_ite | refine same_fst (by assumption) ?_ | refine same_snd (by assumption) ?_ | refine same_trd (by assumption) ?_ | dsimp only | split)

theorem stitchEnd_same {s t : State} (h : Same s t) : Same s (stitchEnd t) := by
  unfold stitchEnd
  repeat' with_reducible (first | intro _ | assumption | apply closePresence_same | apply closeLoads_same | apply dropPacket_same | apply cancelStrict_same | apply samplerStitchEnd_same | apply chainStitchEnd_same | apply fadeBoundary_same | apply laceStitchEnd_same | apply same_ite | apply same_foldl | apply same_foldl_fst | apply same_foldl_snd | dsimp only | split)

theorem beginCommit_same {s t : State} (h : Same s t) : Same s (beginCommit t) := by
  unfold beginCommit
  repeat' with_reducible (first | intro _ | assumption | apply sealBatch_same | apply sealWork_same | apply same_ite | dsimp only | split)

theorem boundary_same {s t : State} (h : Same s t) : Same s (boundary t) := by
  unfold boundary
  repeat' with_reducible (first | intro _ | assumption | apply stitchEnd_same | apply changePeriod_same | apply numberBoundary_same | apply beginCommit_same | apply onStitch_same | apply steer_same | fail_if_no_progress apply same_rec | apply same_ite | dsimp only | split)

theorem execStitchBoundary_same {s t : State} (h : Same s t) : GoesSame s (execStitchBoundary t) := by
  unfold execStitchBoundary
  repeat' with_reducible (first | intro _ | assumption | apply goesSame_next | apply boundary_same | apply same_ite | dsimp only | split)

theorem execStitchPeriodChange_same {s t : State} (h : Same s t) : GoesSame s (execStitchPeriodChange t) := by
  unfold execStitchPeriodChange
  repeat' with_reducible (first | intro _ | assumption | apply goesSame_next | apply boundary_same | apply same_ite | dsimp only | split)

theorem execJournalBatchCommit_same {s t : State} (h : Same s t) : GoesSame s (execJournalBatchCommit t) := by
  unfold execJournalBatchCommit
  repeat' with_reducible (first | intro _ | assumption | apply goesSame_next | apply sealBatch_same | apply sealWork_same | apply same_ite | dsimp only | split)

theorem sampleInputs_same {s t : State} (h : Same s t) : Same s (sampleInputs t) := by
  unfold sampleInputs
  repeat' with_reducible (first | intro _ | assumption | apply tablesAtBoundary_same | apply homeFrames_same | apply groundAtBoundary_same | apply fadePrune_same | apply settingsFrames_same | apply scheduleSample_same | apply captureStores_same | apply dueSettings_same | apply checkStartUp_same | apply contactorsAtBoundary_same | apply fittedAtBoundary_same | apply hearPins_same | apply releaseBoundary_same | apply holdPins_same | apply resetTargets_same | apply chainClasses_same | apply activationBoundary_same | apply rehomeBoundary_same | apply chainCommit_same | apply laceBoundary_same | apply same_ite | dsimp only | split)

theorem releaseTasks_same {s t : State} (h : Same s t) : Same s (releaseTasks t) := by
  unfold releaseTasks
  repeat' with_reducible (first | intro _ | assumption | apply releaseTask_same | apply same_ite | apply same_foldl | apply same_foldl_fst | apply same_foldl_snd | dsimp only | split)

theorem boundaryWork_same {s t : State} (h : Same s t) : Same s (boundaryWork t) := by
  unfold boundaryWork
  repeat' with_reducible (first | intro _ | assumption | apply postMailboxTasks_same | apply releaseTasks_same | apply sampleInputs_same | apply abortsDone_same | apply onStitch_same | fail_if_no_progress apply same_rec | apply same_ite | dsimp only | split)

theorem afterCommit_same {s t : State} (a0 : Batch) (h : Same s t) : Same s (afterCommit a0 t) := by
  unfold afterCommit
  repeat' with_reducible (first | intro _ | assumption | apply boundaryWork_same | apply beginCommit_same | apply postMailboxTasks_same | apply same_ite | dsimp only | split)

theorem failedCopies_same {s t : State} (a0 : CopyWrite) (a1 : CopyWrite) (h : Same s t) : Same s (failedCopies a0 a1 t) := by
  unfold failedCopies
  repeat' with_reducible (first | intro _ | assumption | apply loseBank_same | apply same_ite | dsimp only | split)

theorem execJournalCommitDone_same {s t : State} (a0 : CopyWrite) (a1 : CopyWrite) (a2 : Nat) (h : Same s t) : GoesSame s (execJournalCommitDone a0 a1 a2 t) := by
  unfold execJournalCommitDone
  repeat' with_reducible (first | intro _ | assumption | apply goesSame_next | apply failedCopies_same | apply onJnl_same | apply afterCommit_same | apply commitWork_same | fail_if_no_progress apply same_rec | apply same_ite | dsimp only | split)

theorem idle_same {s t : State} (h : Same s t) : Same s (idle t) := by
  unfold idle
  repeat' with_reducible (first | intro _ | assumption | apply netTick_same | apply abortsDone_same | apply fabricTick_same | apply tick_same | apply same_ite | dsimp only | split)

end Sys2Proof.Machine
end

