-- ==== Sys2Proof/Laws/Still.lean ====
section
/-! SUPPORT. What the end of a Stitch and the sealing of work leave: the Stitch generator, and the commit in progress. `Still` says
that both are as they were; beside each operation of theirs one lemma says so, and the lemmas below serve their proofs. -/

set_option linter.all false

namespace Sys2Proof.Machine

/-- `t` has the Stitch generator of `s`, and the commit in progress of `s`. -/
structure Still (s t : State) : Prop where
  stitch : t.stitch = s.stitch
  committing : t.jnl.committing = s.jnl.committing

theorem Still.refl (s : State) : Still s s := ⟨rfl, rfl⟩
theorem Still.trans {s t u : State} (a : Still s t) (b : Still t u) : Still s u := ⟨b.1.trans a.1, b.2.trans a.2⟩

theorem still_rec {s t : State} (h : Still s t) (pending : List Instr) (mbx : Mailboxes) (smp : Sampler) (set : Settings) (sec : Security)
    (time : TimeUnit) (rtc : Rtc) (tmb : Tambour) (skn : SkeinUnit) (bob : BobUnit) (tab : Tables) (sched : Schedule) (lace : Lace) (fade :
    FadeUnit) (chain : Chain) (air : Air) (met : Met) (sys : Sys) (net : Net) (pnl : Panel) (freeCtr : Nat) :
    Still s ⟨pending, mbx, t.jnl, smp, set, sec, time, rtc, t.stitch, tmb, skn, bob, tab, sched, lace, fade, chain, air, met, sys, net, pnl, freeCtr⟩ := ⟨h.1, h.2⟩

theorem still_jnl {s t : State} (h : Still s t) (pending : List Instr) (mbx : Mailboxes) (smp : Sampler) (set : Settings) (sec : Security)
    (time : TimeUnit) (rtc : Rtc) (tmb : Tambour) (skn : SkeinUnit) (bob : BobUnit) (tab : Tables) (sched : Schedule) (lace : Lace) (fade :
    FadeUnit) (chain : Chain) (air : Air) (met : Met) (sys : Sys) (net : Net) (pnl : Panel) (freeCtr : Nat) (log' : List LogItem) (batch' :
    List JEntry) (seqTable' : Tab Nat) (copy0Extra' : Option Batch) (nextSeq' : U32) (commitNo' : U32) (lastSeq' : U32) (stitchOfCommit' :
    U32) (replayDone' : Bool) (copy0Ok' : Bool) (copy1Ok' : Bool) (single' : Bool) (resultsDown' : Bool) (journalLost' : Bool) (a0Held' :
    Bool) (prodHeld' : Bool) (relocating' : Bool) (commits' : U32) (batchCommits' : U32) (commitMax' : Nat) (a0Hold' : U32) (prodHold' :
    U32) (reloc' : U32) (copyErr' : U32) (replayCount' : Nat) (rebuilds' : U32) :
    Still s ⟨pending, mbx, ⟨log', batch', t.jnl.committing, seqTable', copy0Extra', nextSeq', commitNo', lastSeq', stitchOfCommit', replayDone',
    copy0Ok', copy1Ok', single', resultsDown', journalLost', a0Held', prodHeld', relocating', commits', batchCommits', commitMax', a0Hold',
    prodHold', reloc', copyErr', replayCount', rebuilds'⟩, smp, set, sec, time, rtc, t.stitch, tmb, skn, bob, tab, sched, lace, fade, chain,
    air, met, sys, net, pnl, freeCtr⟩ := ⟨h.1, h.2⟩

theorem still_foldl {s t : State} {α : Type} {g : State → α → State} {l : List α} (h : Still s t)
    (hg : ∀ t x, Still s t → Still s (g t x)) : Still s (l.foldl g t) := by
  induction l generalizing t with
  | nil => exact h
  | cons a l ih => exact ih (hg _ _ h)
theorem still_ite {s a b : State} {c : Prop} [Decidable c] (ha : Still s a) (hb : Still s b) : Still s (if c then a else b) := by
  split <;> assumption

theorem still_foldl_fst {s : State} {α β : Type} {g : State × β → α → State × β} {l : List α} {a : State × β} (h : Still s a.1)
    (hg : ∀ a x, Still s a.1 → Still s (g a x).1) : Still s (l.foldl g a).1 := by
  induction l generalizing a with
  | nil => exact h
  | cons x l ih => exact ih (hg a x h)

theorem still_foldl_snd {s : State} {α β : Type} {g : β × State → α → β × State} {l : List α} {a : β × State} (h : Still s a.2)
    (hg : ∀ a x, Still s a.2 → Still s (g a x).2) : Still s (l.foldl g a).2 := by
  induction l generalizing a with
  | nil => exact h
  | cons x l ih => exact ih (hg a x h)

theorem still_elim {s a : State} {α : Type} {o : Option α} {f : α → State} (ha : Still s a) (hf : ∀ x, Still s (f x)) :
    Still s (o.elim a f) := by cases o with | none => exact ha | some x => exact hf x

theorem still_fst {s u : State} {β : Type} {p : State × β} {b : β} (e : p = (u, b)) (h : Still s p.1) : Still s u := by subst e; exact h

theorem still_snd {s u : State} {α : Type} {p : α × State} {a : α} (e : p = (a, u)) (h : Still s p.2) : Still s u := by subst e; exact h

theorem still_trd {s u : State} {α β : Type} {p : α × β × State} {a : α} {b : β} (e : p = (a, b, u)) (h : Still s p.2.2) : Still s u := by
  subst e; exact h

theorem onSkein_still {s t : State} (a0 : Nat) (a1 : Skein → Skein) (h : Still s t) : Still s (onSkein a0 a1 t) := by
  unfold onSkein
  repeat' with_reducible (first | intro _ | assumption | fail_if_no_progress apply still_rec | fail_if_no_progress apply still_jnl | apply still_ite | dsimp only | split)

theorem throughSkein_still {s t : State} (a0 : Nat) (a1 : Bytes) (h : Still s t) : Still s (throughSkein a0 a1 t) := by
  unfold throughSkein
  repeat' with_reducible (first | intro _ | assumption | apply onSkein_still | apply still_ite | dsimp only | split)

theorem dropPacket_still {s t : State} (a0 : Nat) (h : Still s t) : Still s (dropPacket a0 t) := by
  unfold dropPacket
  repeat' with_reducible (first | intro _ | assumption | apply onSkein_still | fail_if_no_progress apply still_rec | fail_if_no_progress apply still_jnl | apply still_ite | refine still_fst (by assumption) ?_ | refine still_snd (by assumption) ?_ | refine still_trd (by assumption) ?_ | dsimp only | split)

theorem post_still {s t : State} (a0 : Nat) (a1 : Nat) (a2 : Bytes) (h : Still s t) : Still s (post a0 a1 a2 t) := by
  unfold post
  repeat' with_reducible (first | intro _ | assumption | apply onSkein_still | apply throughSkein_still | fail_if_no_progress apply still_rec | fail_if_no_progress apply still_jnl | apply still_ite | dsimp only | split)

theorem joinRef_still {s t : State} (a0 : U32) (a1 : Nat) (a2 : Nat) (a3 : Bytes) (h : Still s t) : Still s (joinRef a0 a1 a2 a3 t) := by
  unfold joinRef
  repeat' with_reducible (first | intro _ | assumption | fail_if_no_progress apply still_rec | fail_if_no_progress apply still_jnl | apply still_ite | dsimp only | split)

theorem joinWork_still {s t : State} (a0 : Nat) (a1 : Nat) (a2 : U32 → Bytes) (h : Still s t) : Still s (joinWork a0 a1 a2 t).2 := by
  unfold joinWork
  repeat' with_reducible (first | intro _ | assumption | fail_if_no_progress apply still_rec | fail_if_no_progress apply still_jnl | apply still_ite | dsimp only | split)

theorem onBox_still {s t : State} (a0 : Nat) (a1 : Mailbox → Mailbox) (h : Still s t) : Still s (onBox a0 a1 t) := by
  unfold onBox
  repeat' with_reducible (first | intro _ | assumption | fail_if_no_progress apply still_rec | fail_if_no_progress apply still_jnl | apply still_ite | dsimp only | split)

theorem joinEvent_still {s t : State} (a0 : Event) (h : Still s t) : Still s (joinEvent a0 t) := by
  unfold joinEvent
  repeat' with_reducible (first | intro _ | assumption | apply joinWork_still | apply still_ite | apply still_foldl | apply still_foldl_fst | apply still_foldl_snd | dsimp only | split)

theorem notMade_still {s t : State} (a0 : Nat) (h : Still s t) : Still s (notMade a0 t) := by
  unfold notMade
  repeat' with_reducible (first | intro _ | assumption | fail_if_no_progress apply still_rec | fail_if_no_progress apply still_jnl | apply still_ite | dsimp only | split)

theorem enterEvent_still {s t : State} (a0 : Event) (h : Still s t) : Still s (enterEvent a0 t) := by
  unfold enterEvent
  repeat' with_reducible (first | intro _ | assumption | apply joinEvent_still | apply notMade_still | apply still_ite | dsimp only | split)

theorem enterIntake_still {s t : State} (a0 : List Event) (a1 : Nat) (a2 : Nat) (h : Still s t) : Still s (enterIntake a0 a1 a2 t).1 := by
  induction a0 generalizing t a1 a2 with
  | nil => exact h
  | cons e l ih =>
    unfold enterIntake
    repeat' with_reducible (first | with_reducible apply ih | intro _ | assumption | apply enterEvent_still | fail_if_no_progress apply still_rec | fail_if_no_progress apply still_jnl | apply still_ite | apply still_foldl | apply still_foldl_fst | apply still_foldl_snd | apply still_elim | dsimp only | split)

theorem overflowFor_still {s : State} {t : State × Nat} (a0 : Nat) (h : Still s t.1) : Still s (overflowFor a0 t).1 := by
  unfold overflowFor
  repeat' with_reducible (first | intro _ | assumption | apply joinEvent_still | fail_if_no_progress apply still_rec | fail_if_no_progress apply still_jnl | apply still_ite | refine still_fst (by assumption) ?_ | refine still_snd (by assumption) ?_ | refine still_trd (by assumption) ?_ | dsimp only | split)

theorem suppressOld_still {s t : State} (h : Still s t) : Still s (suppressOld t) := by
  unfold suppressOld
  repeat' with_reducible (first | intro _ | assumption | fail_if_no_progress apply still_rec | fail_if_no_progress apply still_jnl | apply still_ite | apply still_foldl | apply still_foldl_fst | apply still_foldl_snd | dsimp only | split)

theorem takeStalled_still {s t : State} (h : Still s t) : Still s (takeStalled t) := by
  unfold takeStalled
  repeat' with_reducible (first | intro _ | assumption | apply dropPacket_still | fail_if_no_progress apply still_rec | fail_if_no_progress apply still_jnl | apply still_ite | apply still_foldl | apply still_foldl_fst | apply still_foldl_snd | dsimp only | split)

theorem enterRecords_still {s t : State} (h : Still s t) : Still s (enterRecords t) := by
  unfold enterRecords
  have h1 := enterIntake_still t.smp.intake (logRate t) 256 h
  rcases he : enterIntake t.smp.intake (logRate t) 256 t with ⟨t1, rest, cap⟩
  rw [he] at h1
  dsimp only at h1 ⊢
  generalize upTo 11 = l
  have h2 := still_foldl_fst (g := fun a c => overflowFor c a) (l := l) (a := ({ t1 with smp := { t1.smp with intake := rest } }, cap))
    (still_rec h1 ..) fun a x ha => overflowFor_still _ ha
  rcases hf : l.foldl (fun a c => overflowFor c a) ({ t1 with smp := { t1.smp with intake := rest } }, cap) with ⟨t2, c2⟩
  rw [hf] at h2
  exact still_rec (suppressOld_still h2) ..

theorem samplerStitchEnd_still {s t : State} (h : Still s t) : Still s (samplerStitchEnd t) := by
  unfold samplerStitchEnd
  repeat' with_reducible (first | intro _ | assumption | apply enterRecords_still | apply takeStalled_still | apply still_ite | dsimp only | split)

theorem modifyCmd_still {s t : State} (a0 : Nat) (a1 : U32) (a2 : Cmd → Cmd) (h : Still s t) : Still s (modifyCmd a0 a1 a2 t) := by
  unfold modifyCmd
  repeat' with_reducible (first | intro _ | assumption | apply onBox_still | fail_if_no_progress apply still_rec | fail_if_no_progress apply still_jnl | apply still_ite | dsimp only | split)

theorem dropSetting_still {s t : State} (a0 : U32) (h : Still s t) : Still s (dropSetting a0 t) := by
  unfold dropSetting
  repeat' with_reducible (first | intro _ | assumption | fail_if_no_progress apply still_rec | fail_if_no_progress apply still_jnl | apply still_ite | dsimp only | split)

theorem completeWith_still {s t : State} (a0 : Nat) (a1 : U32) (a2 : CmdOutcome) (h : Still s t) : Still s (completeWith a0 a1 a2 t) := by
  unfold completeWith
  repeat' with_reducible (first | intro _ | assumption | apply dropSetting_still | apply joinRef_still | apply modifyCmd_still | fail_if_no_progress apply still_rec | fail_if_no_progress apply still_jnl | apply still_ite | refine still_fst (by assumption) ?_ | refine still_snd (by assumption) ?_ | refine still_trd (by assumption) ?_ | dsimp only | split)

theorem onList_still {s t : State} (a0 : Nat) (a1 : ReadyList → ReadyList) (h : Still s t) : Still s (onList a0 a1 t) := by
  unfold onList
  repeat' with_reducible (first | intro _ | assumption | fail_if_no_progress apply still_rec | fail_if_no_progress apply still_jnl | apply still_ite | dsimp only | split)

theorem fray_still {s t : State} (a0 : TaskSlot) (h : Still s t) : Still s (fray a0 t) := by
  unfold fray
  repeat' with_reducible (first | intro _ | assumption | apply onList_still | fail_if_no_progress apply still_rec | fail_if_no_progress apply still_jnl | apply still_ite | dsimp only | split)

theorem cancelTask_still {s t : State} (a0 : TaskSlot) (h : Still s t) : Still s (cancelTask a0 t) := by
  unfold cancelTask
  repeat' with_reducible (first | intro _ | assumption | apply fray_still | apply onList_still | fail_if_no_progress apply still_rec | fail_if_no_progress apply still_jnl | apply still_ite | refine still_fst (by assumption) ?_ | refine still_snd (by assumption) ?_ | refine still_trd (by assumption) ?_ | dsimp only | split)

theorem cancelHeld_still {s t : State} (a0 : U32) (h : Still s t) : Still s (cancelHeld a0 t) := by
  unfold cancelHeld
  repeat' with_reducible (first | intro _ | assumption | apply fray_still | fail_if_no_progress apply still_rec | fail_if_no_progress apply still_jnl | apply still_ite | apply still_foldl | apply still_foldl_fst | apply still_foldl_snd | dsimp only | split)

theorem cancelStrict_still {s t : State} (a0 : U32) (h : Still s t) : Still s (cancelStrict a0 t) := by
  unfold cancelStrict
  repeat' with_reducible (first | intro _ | assumption | apply cancelHeld_still | apply cancelTask_still | fail_if_no_progress apply still_rec | fail_if_no_progress apply still_jnl | apply still_ite | apply still_foldl | apply still_foldl_fst | apply still_foldl_snd | dsimp only | split)

theorem closeLoads_still {s t : State} (h : Still s t) : Still s (closeLoads t) := by
  unfold closeLoads
  repeat' with_reducible (first | intro _ | assumption | fail_if_no_progress apply still_rec | fail_if_no_progress apply still_jnl | apply still_ite | refine still_fst (by assumption) ?_ | refine still_snd (by assumption) ?_ | refine still_trd (by assumption) ?_ | dsimp only | split)

theorem onLace_still {s t : State} (a0 : Lace → Lace) (h : Still s t) : Still s (onLace a0 t) := by
  unfold onLace
  repeat' with_reducible (first | intro _ | assumption | fail_if_no_progress apply still_rec | fail_if_no_progress apply still_jnl | apply still_ite | dsimp only | split)

theorem closePresence_still {s t : State} (h : Still s t) : Still s (closePresence t) := by
  unfold closePresence
  repeat' with_reducible (first | intro _ | assumption | fail_if_no_progress apply still_rec | fail_if_no_progress apply still_jnl | apply still_ite | refine still_fst (by assumption) ?_ | refine still_snd (by assumption) ?_ | refine still_trd (by assumption) ?_ | dsimp only | split)

theorem laceStitchEnd_still {s t : State} (a0 : List Nat) (h : Still s t) : Still s (laceStitchEnd a0 t) := by
  unfold laceStitchEnd
  repeat' with_reducible (first | intro _ | assumption | apply fray_still | apply onLace_still | fail_if_no_progress apply still_rec | fail_if_no_progress apply still_jnl | apply still_ite | apply still_foldl | apply still_foldl_fst | apply still_foldl_snd | refine still_fst (by assumption) ?_ | refine still_snd (by assumption) ?_ | refine still_trd (by assumption) ?_ | dsimp only | split)

theorem onFade_still {s t : State} (a0 : FadeUnit → FadeUnit) (h : Still s t) : Still s (onFade a0 t) := by
  unfold onFade
  repeat' with_reducible (first | intro _ | assumption | fail_if_no_progress apply still_rec | fail_if_no_progress apply still_jnl | apply still_ite | dsimp only | split)

theorem fadeBoundary_still {s t : State} (h : Still s t) : Still s (fadeBoundary t) := by
  unfold fadeBoundary
  repeat' with_reducible (first | intro _ | assumption | apply onFade_still | fail_if_no_progress apply still_rec | fail_if_no_progress apply still_jnl | apply still_ite | refine still_fst (by assumption) ?_ | refine still_snd (by assumption) ?_ | refine still_trd (by assumption) ?_ | dsimp only | split)

theorem onChain_still {s t : State} (a0 : Chain → Chain) (h : Still s t) : Still s (onChain a0 t) := by
  unfold onChain
  repeat' with_reducible (first | intro _ | assumption | fail_if_no_progress apply still_rec | fail_if_no_progress apply still_jnl | apply still_ite | dsimp only | split)

theorem dropFrame_still {s t : State} (h : Still s t) : Still s (dropFrame t) := by
  unfold dropFrame
  repeat' with_reducible (first | intro _ | assumption | apply onChain_still | fail_if_no_progress apply still_rec | fail_if_no_progress apply still_jnl | apply still_ite | refine still_fst (by assumption) ?_ | refine still_snd (by assumption) ?_ | refine still_trd (by assumption) ?_ | dsimp only | split)

theorem chainStitchEnd_still {s t : State} (h : Still s t) : Still s (chainStitchEnd t) := by
  unfold chainStitchEnd
  repeat' with_reducible (first | intro _ | assumption | apply dropFrame_still | apply onChain_still | fail_if_no_progress apply still_rec | fail_if_no_progress apply still_jnl | apply still_ite | refine still_fst (by assumption) ?_ | refine still_snd (by assumption) ?_ | refine still_trd (by assumption) ?_ | dsimp only | split)

theorem refuseCancels_still {s t : State} (a0 : Bytes) (h : Still s t) : Still s (refuseCancels a0 t) := by
  unfold refuseCancels
  repeat' with_reducible (first | intro _ | assumption | apply onList_still | fail_if_no_progress apply still_rec | fail_if_no_progress apply still_jnl | apply still_ite | apply still_foldl | apply still_foldl_fst | apply still_foldl_snd | dsimp only | split)

theorem undoAccept_still {s t : State} (a0 : Cmd) (h : Still s t) : Still s (undoAccept a0 t) := by
  unfold undoAccept
  repeat' with_reducible (first | intro _ | assumption | apply dropSetting_still | fail_if_no_progress apply still_rec | fail_if_no_progress apply still_jnl | apply still_ite | apply still_elim | refine still_fst (by assumption) ?_ | refine still_snd (by assumption) ?_ | refine still_trd (by assumption) ?_ | dsimp only | split)

theorem revokeOne_still {s t : State} (a0 : Cmd) (h : Still s t) : Still s (revokeOne a0 t) := by
  unfold revokeOne
  repeat' with_reducible (first | intro _ | assumption | apply undoAccept_still | apply completeWith_still | fail_if_no_progress apply still_rec | fail_if_no_progress apply still_jnl | apply still_ite | dsimp only | split)

theorem sealCommand_still {s t : State} (a0 : Cmd) (a1 : Nat) (h : Still s t) : Still s (sealCommand a0 a1 t) := by
  unfold sealCommand
  repeat' with_reducible (first | intro _ | assumption | apply completeWith_still | apply revokeOne_still | apply refuseCancels_still | apply still_ite | apply still_foldl | apply still_foldl_fst | apply still_foldl_snd | dsimp only | split)

theorem sealEntries_still {s t : State} (a0 : List JEntry) (a1 : Nat) (h : Still s t) : Still s (sealEntries a0 a1 t) := by
  induction a0 generalizing t a1 with
  | nil => exact h
  | cons e l ih =>
    unfold sealEntries
    repeat' with_reducible (first | with_reducible apply ih | intro _ | assumption | apply sealCommand_still | fail_if_no_progress apply still_rec | fail_if_no_progress apply still_jnl | apply still_ite | apply still_foldl | apply still_foldl_fst | apply still_foldl_snd | apply still_elim | dsimp only | split)

theorem sealWork_still {s t : State} (h : Still s t) : Still s (sealWork t) := by
  unfold sealWork
  repeat' with_reducible (first | intro _ | assumption | apply sealEntries_still | fail_if_no_progress apply still_rec | fail_if_no_progress apply still_jnl | apply still_ite | dsimp only | split)

theorem shiftStitches_still {s t : State} (a0 : U32) (h : Still s t) : Still s (shiftStitches a0 t) := by
  unfold shiftStitches
  repeat' with_reducible (first | intro _ | assumption | fail_if_no_progress apply still_rec | fail_if_no_progress apply still_jnl | apply still_ite | refine still_fst (by assumption) ?_ | refine still_snd (by assumption) ?_ | refine still_trd (by assumption) ?_ | dsimp only | split)

theorem stitchEnd_still {s t : State} (h : Still s t) : Still s (stitchEnd t) := by
  unfold stitchEnd
  repeat' with_reducible (first | intro _ | assumption | apply closePresence_still | apply closeLoads_still | apply dropPacket_still | apply cancelStrict_still | apply samplerStitchEnd_still | apply chainStitchEnd_still | apply fadeBoundary_still | apply laceStitchEnd_still | apply still_ite | apply still_foldl | apply still_foldl_fst | apply still_foldl_snd | dsimp only | split)

end Sys2Proof.Machine
end

