-- ==== Sys2Proof/Laws/Boundary.lean ====
section
/-! SUPPORT. What the work of a boundary and of a commit leaves: the Stitch generator, the commit in progress, the mailboxes. -/

namespace Sys2Proof.Machine

/-- The part of a state that the Sampler's own work leaves: everything but the Sampler, the panel's banners and the log. -/
structure SmpOnly (s t : State) : Prop where
  mbx : t.mbx = s.mbx
  freeze : t.smp.freeze = s.smp.freeze
  sec : t.sec = s.sec

theorem SmpOnly.rfl' (s : State) : SmpOnly s s := ⟨rfl, rfl, rfl⟩

theorem SmpOnly.trans {s t u : State} (a : SmpOnly s t) (b : SmpOnly t u) : SmpOnly s u := ⟨b.1.trans a.1, b.2.trans a.2, b.3.trans a.3⟩

theorem post_smpOnly (c n : Nat) (p : Bytes) (s : State) : SmpOnly s (post c n p s) := by
  refine ⟨by simp, ?_, by simp⟩
  unfold post
  dsimp only
  split
  · rfl
  · show (postEvent _ s.smp).freeze = _
    unfold postEvent sampSuppress sampTally
    dsimp only
    repeat' split
    all_goals rfl

theorem overtake_smpOnly (d n : U32) (s : State) (k : Nat) : SmpOnly s (overtake d n s k) := by
  unfold overtake
  dsimp only
  split
  · exact ⟨(post_smpOnly _ _ _ _).1, (post_smpOnly _ _ _ _).2, (post_smpOnly _ _ _ _).3⟩
  · exact SmpOnly.rfl' s

theorem foldl_smpOnly {α : Type} (f : State → α → State) (h : ∀ s a, SmpOnly s (f s a)) (l : List α) (s : State) : SmpOnly s (l.foldl f s) := by
  induction l generalizing s with
  | nil => exact SmpOnly.rfl' s
  | cons a l ih => exact (h s a).trans (ih _)

theorem roundWrite_smpOnly (r : Record) (s : State) : SmpOnly s (roundWrite r s) := by
  unfold roundWrite
  dsimp only
  split
  · split
    · have h := foldl_smpOnly _ (overtake_smpOnly
        ‹Record›.seq (((s.smp.round.drop 1 ++ [r]).head?.map (·.seq)).getD r.seq))
      exact ⟨(h _ _).1, (h _ _).2, (h _ _).3⟩
    · exact ⟨rfl, rfl, rfl⟩
  · exact ⟨rfl, rfl, rfl⟩

theorem endFreeze_mbx (n : Nat) (s : State) : (endFreeze n s).mbx = s.mbx ∧ (endFreeze n s).smp.freeze = none ∧ (endFreeze n s).sec = s.sec := by
  unfold endFreeze
  split
  · next h => exact ⟨rfl, h, rfl⟩
  · have h := (foldl_smpOnly (fun t r => roundWrite r t) (fun s a => roundWrite_smpOnly a s) s.smp.waiting
      { s with smp := { s.smp with freeze := none, waiting := [] } })
    have h' := fun c n p => (post_smpOnly c n p (s.smp.waiting.foldl (fun t r => roundWrite r t) { s with smp := { s.smp with freeze := none, waiting := [] } }))
    exact ⟨(h' _ _ _).1.trans h.1, (h' _ _ _).2.trans h.2, (h' _ _ _).3.trans h.3⟩

theorem post_smp_skn (code : Nat) (hc : bannerCodes.contains code = false) (src : Nat) (b : Sys2Proof.Bytes) (s : State) :
    ∃ x y, post code src b s = { s with smp := x, skn := y } := by
  have hb : hotBanner code src s = s.pnl := by unfold hotBanner; rw [hc]; rfl
  unfold post
  dsimp only
  rw [hb]
  split
  · exact ⟨_, _, rfl⟩
  · exact ⟨_, _, rfl⟩

theorem fold_post_smp (code : Nat) (hc : bannerCodes.contains code = false) (l : List Nat) (s : State) :
    ∃ x y, l.foldl (fun t p => post code p [] t) s = { s with smp := x, skn := y } := by
  induction l generalizing s with
  | nil => exact ⟨s.smp, s.skn, rfl⟩
  | cons a l ih =>
    obtain ⟨x, y, h⟩ := post_smp_skn code hc a [] s
    obtain ⟨x', y', h'⟩ := ih (post code a [] s)
    exact ⟨x', y', by rw [List.foldl_cons, h', h]⟩

theorem completeWith_chain (m q o s) : (completeWith m q o s).chain = s.chain := by
  cases o with
  | waits => rfl
  | done st r => 
    show (if isFailure st = true then dropSetting q s else s).chain = s.chain
    split
    · obtain ⟨x, hx, -⟩ := dropSetting_set q s; rw [hx]
    · rfl
  | effect n r => rfl

theorem completeAccepts_chain (b : Nat) (s : State) : (completeAccepts b s).chain = { s.chain with accepts := [] } := by
  unfold completeAccepts
  dsimp only
  generalize s.chain.accepts = l
  have : ∀ (l : List (Nat × U32)) (t : State), (l.foldl (fun t a => freeTask (.mailbox a.1) (completeWith a.1 a.2 (.effect t.stitch.number (u8Sat b ++ zeros 3)) t)) t).chain = t.chain := by
    intro l; induction l with
    | nil => intro t; rfl
    | cons a l ih => intro t; rw [List.foldl_cons, ih, freeTask_only]; exact completeWith_chain _ _ _ _
  rw [this]; rfl

theorem stitchEnd_stitch (s : State) : (stitchEnd s).stitch = s.stitch := (stitchEnd_still (Still.refl s)).stitch

theorem completeWith_stitch (m : Nat) (q : U32) (o : CmdOutcome) (s : State) : (completeWith m q o s).stitch = s.stitch := (completeWith_still m q o (Still.refl s)).stitch

theorem sealWork_stitch (s : State) : (sealWork s).stitch = s.stitch := (sealWork_still (Still.refl s)).stitch

theorem beginCommit_stitch (s : State) : (beginCommit s).stitch = s.stitch := by
  unfold beginCommit; split
  · rfl
  · exact sealWork_stitch s

theorem periodDue_of_stitch {s t : State} (h : t.stitch = s.stitch) : periodDue t = periodDue s := by unfold periodDue; rw [h]

theorem stitchEnd_committing (s : State) : (stitchEnd s).jnl.committing = s.jnl.committing := (stitchEnd_still (Still.refl s)).committing

theorem post_jnl_eq (c n : Nat) (p : Bytes) (s : State) : (post c n p s).jnl = s.jnl := by simp

theorem shiftStitches_jnl (d : U32) (s : State) : (shiftStitches d s).jnl = s.jnl := rfl

theorem onStitch_jnl (f : StitchGen → StitchGen) (s : State) : (onStitch f s).jnl = s.jnl := rfl

theorem numberBoundary_jnl (s : State) : (numberBoundary s).jnl = s.jnl := by
  unfold numberBoundary
  split
  · unfold stepNumber
    dsimp only
    split
    · rw [post_jnl_eq, shiftStitches_jnl, onStitch_jnl]
    · rw [post_jnl_eq, onStitch_jnl]
  · rw [onStitch_jnl]

theorem clearMarks_only (s : State) : clearMarks s = { s with lace := (clearMarks s).lace } := rfl

theorem changePeriod_jnl (p : Nat) (s : State) : (changePeriod p s).jnl = s.jnl := by
  unfold changePeriod
  dsimp only
  rw [post_jnl_eq, clearMarks_only]
  dsimp only
  rw [shiftStitches_jnl, onStitch_jnl]

theorem beginCommit_none (w : State) (h : w.jnl.committing = none) : ∃ b, (beginCommit w).jnl.committing = some b ∧ b.boundary = true ∧
    (beginCommit w).jnl.batch = [] ∧ (beginCommit w).jnl.stitchOfCommit = w.stitch.number := by
  have e : beginCommit w = sealBatch true (sealWork w) := by unfold beginCommit; rw [h]; rfl
  rw [e]
  exact ⟨_, rfl, rfl, rfl, congrArg (fun g => g.number) (sealWork_stitch w)⟩

theorem steer_committing (s : State) : (steer s).jnl = s.jnl := rfl

theorem boundary_numbered (s : State) : ∃ u, boundary s = beginCommit (onStitch (fun g => { g with busy := true }) (steer u)) ∧
    (∀ p, periodDue (stitchEnd s) = some p → u = changePeriod p (stitchEnd s)) ∧
    (periodDue (stitchEnd s) = none → u = numberBoundary (stitchEnd s)) := by
  unfold boundary
  dsimp only
  exact ⟨_, rfl, fun p h => by rw [h], fun h => by rw [h]⟩

theorem changePeriod_stitch (p : Nat) (s : State) : (changePeriod p s).stitch =
    { s.stitch with period := p, number := BitVec.ofNat 32 (gridIndex (p * 1000000) s.stitch.nextBoundary), offset := 0, step := 0,
                    newPeriod := none } := by
  unfold changePeriod
  dsimp only
  rw [post_stitch_eq]
  rfl

theorem numberBoundary_stitch (s : State) : (numberBoundary s).stitch =
    (if s.stitch.period * 500000 < s.stitch.step.natAbs then
      if (0 < s.stitch.step && serialBefore (s.stitch.number + 1) (BitVec.ofNat 32 (gridIndex (s.stitch.period * 1000000) s.stitch.nextBoundary))) = true then
        { s.stitch with number := BitVec.ofNat 32 (gridIndex (s.stitch.period * 1000000) s.stitch.nextBoundary), offset := 0, step := 0,
                        skip := s.stitch.skip + (BitVec.ofNat 32 (gridIndex (s.stitch.period * 1000000) s.stitch.nextBoundary) - (s.stitch.number + 1)) }
      else { s.stitch with number := s.stitch.number + 1, step := 0,
                           offset := s.stitch.number + 1 - BitVec.ofNat 32 (gridIndex (s.stitch.period * 1000000) s.stitch.nextBoundary) }
    else { s.stitch with number := s.stitch.number + 1, step := 0 }) := by
  unfold numberBoundary
  split
  · unfold stepNumber
    dsimp only
    split <;>
    · rw [post_stitch_eq]
      rfl
  · rfl

theorem headOf_least (t : TaskSlot) : ∀ (l : List TaskSlot), t ∈ l → (∀ u ∈ l, u ≠ t → sortsBefore t u = true ∧ sortsBefore u t = false) →
    headOf l = some t
  | [], h, _ => by simp at h
  | x :: rest, h, hl => by
      unfold headOf
      by_cases hx : t ∈ rest
      · rw [headOf_least t rest hx (fun u hu => hl u (List.mem_cons_of_mem _ hu))]
        by_cases he : x = t
        · subst he; simp
        · simp [(hl x (List.mem_cons_self) he).1]
      · have he : x = t := by
          rcases List.mem_cons.mp h with h | h
          · exact h.symm
          · exact absurd h hx
        subst he
        have key : ∀ l : List TaskSlot, ∀ u, headOf l = some u → u ∈ l := by
          intro l
          induction l with
          | nil => intro u hu; simp [headOf] at hu
          | cons a l ih =>
            intro u hu
            unfold headOf at hu
            split at hu
            · cases hu; exact List.mem_cons_self
            · rename_i v hv
              cases hu
              split
              · exact List.mem_cons_of_mem _ (ih _ hv)
              · exact List.mem_cons_self
        cases hr : headOf rest with
        | none => rfl
        | some u =>
          have hu := key rest u hr
          have hne : u ≠ x := fun e => hx (e ▸ hu)
          simp [(hl u (List.mem_cons_of_mem _ hu) hne).2]

theorem earlier_sorts {t u : TaskSlot} (h : serialBefore t.dlStitch u.dlStitch = true ∨ (t.dlStitch = u.dlStitch ∧ t.dlOff < u.dlOff)) :
    sortsBefore t u = true ∧ sortsBefore u t = false := by
  unfold sortsBefore
  rcases h with h | ⟨h1, h2⟩
  · have hne : t.dlStitch ≠ u.dlStitch := by
      intro e; rw [e] at h; revert h; unfold serialBefore; simp
    have hne' : u.dlStitch ≠ t.dlStitch := fun e => hne e.symm
    have hrev : serialBefore u.dlStitch t.dlStitch = false := by
      revert h; unfold serialBefore
      simp only [Bool.and_eq_true, decide_eq_true_eq, Bool.and_eq_false_iff, decide_eq_false_iff_not]
      intro h
      by_contra hh
      push Not at hh
      have : (t.dlStitch - u.dlStitch).toNat + (u.dlStitch - t.dlStitch).toNat = 4294967296 := by
        have := t.dlStitch.isLt; have := u.dlStitch.isLt
        simp only [BitVec.toNat_sub] at *
        omega
      omega
    simp [hne, hne', h, hrev]
  · have hne : t.dlOff ≠ u.dlOff := by omega
    have hne' : u.dlOff ≠ t.dlOff := by omega
    have : ¬ u.dlOff < t.dlOff := by omega
    simp [h1, hne, hne', h2, this]

theorem shrinkRound_jnl' (a b : Nat) (s : State) : (shrinkRound a b s).2.jnl.copy0Ok = s.jnl.copy0Ok ∧ (shrinkRound a b s).2.jnl.copy1Ok = s.jnl.copy1Ok := by
  unfold shrinkRound
  exact ⟨rfl, rfl⟩

theorem bootRecord_jnl (c n : Nat) (p : Bytes) (s : State) : (bootRecord c n p s).jnl = s.jnl := by
  unfold bootRecord
  split
  · exact post_jnl_eq c n p s
  · rfl

theorem loseBank_copies {b : Nat} {s : State} : True ∧ (loseBank b s).jnl.copy0Ok = (s.jnl.copy0Ok && b != 0) ∧
    (loseBank b s).jnl.copy1Ok = (s.jnl.copy1Ok && b != 1) := by
  refine ⟨trivial, ?_, ?_⟩ <;>
  · unfold loseBank
    dsimp only
    rw [bootRecord_jnl]
    have h0 := shrinkRound_jnl' round1 (roundSlots - round1) s
    have h1 := shrinkRound_jnl' 0 round1 s
    by_cases hb : b = 0 <;> simp [hb, onSys, onJnl, onSettings, h0, h1]

theorem cancelTask_keeps (a : TaskSlot) (s : State) (t : TaskSlot) (h : t ∈ s.tmb.slots) (hn : t.slot ≠ a.slot) : t ∈ (cancelTask a s).tmb.slots := by
  unfold cancelTask
  dsimp only
  generalize hu : (if (a.state == SlotState.ready && a.readyAt == (fray a s).time.fabCycle) = true then _ else fray a s : State) = u
  have hs : u.tmb.slots = s.tmb.slots := by subst hu; split <;> rfl
  split
  · exact List.mem_map.mpr ⟨t, hs ▸ h, by simp [hn]⟩
  · exact List.mem_filter.mpr ⟨hs ▸ h, by simpa using hn⟩

theorem zeros_allZero (n : Nat) : allZero (zeros n) = true := by
  unfold allZero zeros; simp

theorem tabGet_tabSet {α : Type} (v : α) (k : Nat) : ∀ t : Tab α, tabGet (tabSet t k v) k = some v
  | [] => by simp [tabSet, tabGet]
  | (j, x) :: t => by
      unfold tabSet
      split
      · simp [tabGet]
      · split
        · simp [tabGet]
        · have : ¬ j = k := by omega
          simp [tabGet, this, tabGet_tabSet v k t]

theorem overlay_u16 (b old : Bytes) (hb : b.length = 2) (ho : 2 ≤ old.length) : u16At (overlay old 0 b) 0 = u16At b 0 := by
  match b, hb, old, ho with
  | [x, y], _, p :: q :: r, _ => simp [overlay, slice, zeros, u16At, u8At]

theorem retire_fold_stitch (l : List U32) (s : State) : (l.foldl (fun s q => retire q s) s).stitch = s.stitch ∧
    (l.foldl (fun s q => retire q s) s).time = s.time := by
  induction l generalizing s with
  | nil => exact ⟨rfl, rfl⟩
  | cons a l ih => exact ih _

theorem freeTask_stitch (k : TaskKind) (s : State) : (freeTask k s).stitch = s.stitch := by rw [freeTask_only]

theorem cutLong_keeps (k : Nat) : ∀ (n : Nat) (s : State), (cutLong n s).mbx.sent = s.mbx.sent ∧ (cutLong n s).mbx.a0Running = s.mbx.a0Running ∧
    (cutLong n s).mbx.boxes.length = s.mbx.boxes.length ∧ (box (cutLong n s) k).cmds = (box s k).cmds ∧ (box (cutLong n s) k).session = (box s k).session
  | 0, s => ⟨rfl, rfl, rfl, rfl, rfl⟩
  | n + 1, s => by
      unfold cutLong
      split
      · exact ⟨rfl, rfl, rfl, rfl, rfl⟩
      · split
        · exact ⟨rfl, rfl, rfl, rfl, rfl⟩
        · dsimp only
          obtain ⟨h1, h2, h3, h4, h5⟩ := cutLong_keeps k n _
          refine ⟨h1, h2, h3.trans (by simp), h4.trans ?_, h5.trans ?_⟩
          all_goals
            unfold box
            simp only [List.getD_eq_getElem?_getD, List.getElem?_map]
            cases s.mbx.boxes[k]? <;> rfl

theorem produceResult_one (m : Nat) (c : Cmd) (rest : List Cmd) (s : State) (hm : m < s.mbx.boxes.length) (hc : (box s m).cmds = c :: rest)
    (hd : ∀ d ∈ rest, d.seq ≠ c.seq) (ho : (box s m).session ≠ .closed) (hr : s.mbx.a0Running = true) :
    (box (produceResult m c s) m).cmds = rest ∧ (produceResult m c s).mbx.sent.map (·.seq) = s.mbx.sent.map (·.seq) ++ (if c.push then [c.seq] else []) ∧
    (produceResult m c s).mbx.boxes.length = s.mbx.boxes.length ∧ (box (produceResult m c s) m).session = (box s m).session ∧
    (produceResult m c s).mbx.a0Running = true ∧ ∀ k, k ≠ m → (box (produceResult m c s) k).cmds = (box s k).cmds := by
  have hfilter : (c :: rest).filter (fun k => k.seq != c.seq) = rest := by
    have h1 : rest.filter (fun k => k.seq != c.seq) = rest := List.filter_eq_self.mpr (fun d hd' => by simpa using hd d hd')
    simp [h1]
  unfold produceResult
  dsimp only
  generalize hu : onJnl _ _ = u
  have e1 : u.mbx.sent = s.mbx.sent := by rw [← hu]; rfl
  have e2 : u.mbx.a0Running = true := by rw [← hu]; exact hr
  have e3 : u.mbx.boxes.length = s.mbx.boxes.length := by rw [← hu]; exact listModify_length _ _ _
  have e4 : (box u m).cmds = rest ∧ (box u m).session = (box s m).session := by
    have := (congrArg (fun x => box x m) hu.symm).trans (onBox_in m _ s hm)
    rw [this]
    exact ⟨by show (box s m).cmds.filter _ = rest; rw [hc, hfilter], rfl⟩
  have e5 : ∀ k, k ≠ m → box u k = box s k := fun k hk => (congrArg (fun x => box x k) hu.symm).trans (onBox_other m k _ s hk)
  have hcut := fun k => cutLong_keeps k (16 * 256) u
  have o2 : (box (cutLong (16 * 256) u) m).session ≠ .closed := by rw [(hcut m).2.2.2.2, e4.2]; exact ho
  have o3 : (cutLong (16 * 256) u).mbx.a0Running = true := (hcut m).2.1.trans e2
  have done : ∀ v, AnswersOnly m (cutLong (16 * 256) u) v → v.mbx.sent.map (·.seq) = s.mbx.sent.map (·.seq) ++ (if c.push then [c.seq] else []) →
      (box v m).cmds = rest ∧ v.mbx.sent.map (·.seq) = s.mbx.sent.map (·.seq) ++ (if c.push then [c.seq] else []) ∧
      v.mbx.boxes.length = s.mbx.boxes.length ∧ (box v m).session = (box s m).session ∧ v.mbx.a0Running = true ∧
      ∀ k, k ≠ m → (box v k).cmds = (box s k).cmds := by
    intro v hv hsent
    obtain ⟨a, w, hown⟩ := hv.own
    refine ⟨?_, hsent, ?_, ?_, ?_, ?_⟩
    · rw [hown]; exact (hcut m).2.2.2.1.trans e4.1
    · exact hv.length.trans ((hcut m).2.2.1.trans e3)
    · rw [hown]; exact (hcut m).2.2.2.2.trans e4.2
    · rw [hv.rest]; exact o3
    · intro k hk; rw [hv.others k hk, (hcut k).2.2.2.1, e5 k hk]
  split
  · rename_i hp
    refine done _ (AnswersOnly.rfl' m _) ?_
    have : c.push = false := by simpa using hp
    rw [this, (hcut m).1, e1]; simp
  · rename_i hp
    have hp' : c.push = true := by simpa using hp
    have snd : ∀ kind rep op tag st p, ∀ v, v = send m kind rep op c.seq tag st p (cutLong (16 * 256) u) →
        (box v m).cmds = rest ∧ v.mbx.sent.map (·.seq) = s.mbx.sent.map (·.seq) ++ (if c.push then [c.seq] else []) ∧
        v.mbx.boxes.length = s.mbx.boxes.length ∧ (box v m).session = (box s m).session ∧ v.mbx.a0Running = true ∧
        ∀ k, k ≠ m → (box v k).cmds = (box s k).cmds := by
      rintro kind rep op tag st p v rfl
      refine done _ (answersOnly_send ..) ?_
      rw [send_open _ _ _ _ _ _ _ _ _ o2 o3, (hcut m).1, e1, hp']
      simp
    split
    · have := snd kResult false c.opcode c.tag stResultLost (le16 c.status ++ le16 0) _ rfl
      rw [if_pos hp'] at this
      exact this
    · have := snd kResult false c.opcode c.tag c.status c.result _ rfl
      rw [if_pos hp'] at this
      exact this

theorem dropSession_sec (m : Nat) (s : State) : (dropSession m s).sec = s.sec := by
  unfold dropSession
  dsimp only
  split
  · split
    · exact (endFreeze_mbx _ _).2.2
    · rfl
  · rfl

theorem protCommitted_sec (m : Nat) (p : Bytes) (s : State) : (protCommitted m p s).sec =
    { s.sec with prot := protOf s.sec.prot p, service := if allZero (bindCredential p 14) then s.sec.service else bindCredential p 14,
                 protPending := s.sec.protPending - 1 } := by
  have fold : ∀ (l : List Nat) (t : State), (l.foldl (fun s m => dropSession m s) t).sec = t.sec := by
    intro l
    induction l with
    | nil => intro t; rfl
    | cons a l ih => intro t; exact (ih _).trans (dropSession_sec a t)
  unfold protCommitted
  simp only [post_fields, fold]
  rfl

theorem dropSetting_jnl (q : U32) (s : State) : (dropSetting q s).jnl = s.jnl := by unfold dropSetting; split <;> rfl

theorem undoAccept_jnl (c : Cmd) (s : State) : (undoAccept c s).jnl = s.jnl := by
  have h := dropSetting_jnl c.seq s
  unfold undoAccept
  generalize dropSetting c.seq s = t at h
  dsimp only
  split <;> exact h

theorem completeDone_batch (m : Nat) (c : Cmd) (st : Nat) (s : State) :
    (completeWith m c.seq (.done st []) s).jnl.batch = s.jnl.batch ++ [doneEntry m c st []] := by
  have key : ∀ u : State, u.jnl = s.jnl → (joinRef c.seq jkDone m (le16 st ++ le16 0 ++ le32 0 ++ []) (modifyCmd m c.seq
      (fun c => { c with phase := .finishing, status := st, result := [] }) u)).jnl.batch = s.jnl.batch ++ [doneEntry m c st []] := by
    intro u hu
    rw [← hu]; rfl
  unfold completeWith
  refine key _ ?_
  split
  · exact dropSetting_jnl _ _
  · rfl

theorem revokeOne_batch (c : Cmd) (s : State) : (revokeOne c s).jnl.batch = s.jnl.batch ++ [doneEntry c.mailbox c stRevoked []] := by
  have h := undoAccept_jnl c s
  unfold revokeOne
  generalize undoAccept c s = t at h
  dsimp only
  rw [completeDone_batch]
  split <;> simp [h]

theorem revokeAll_batch : ∀ (l : List Cmd) (s : State), (l.foldl (fun s c => revokeOne c s) s).jnl.batch =
    s.jnl.batch ++ l.map (fun d => doneEntry d.mailbox d stRevoked [])
  | [], s => by simp
  | c :: l, s => by
      rw [List.foldl_cons, revokeAll_batch l, revokeOne_batch]
      simp

end Sys2Proof.Machine
end

