-- ==== Sys2Proof/Tests/Slice0.lean ====
section
/-! SUPPORT. Small tests: what a well-formed term is, one step on a small state with the result the spec gives, and for every
statement that has hypotheses a state and operands that meet them. -/

namespace Sys2Proof.Tests

open Sys2Proof Sys2Proof.Machine

set_option Elab.async false

/-! Small states. -/

/-- A module in service, with the factory settings. -/
def up : State := { State.reset with sys.phase := .run, stitch.run := true, set.working := factorySettings }

/-- A command of mailbox 0 in execution. -/
def cmd (op : Nat) (p : Bytes) : Cmd :=
  { mailbox := 0, seq := 5, opcode := op, tag := 7, push := true, payload := p, principal := 0, rights := 0, maint := false, phase := .running,
    accepted := 0, status := 0, result := [] }

/-- `s` with mailbox 0 open and that one command in it. -/
def exe (s : State) (op : Nat) (p : Bytes) : State :=
  { s with mbx.boxes := listModify s.mbx.boxes 0 fun b => { b with session := .opened, cmds := [cmd op p] } }

/-- `s` with one task of this kind on its engine. -/
def withTask (k : TaskKind) (s : State) : State :=
  { s with tmb.slots := [{ (default : TaskSlot) with slot := 3, kind := k, engine := 14, state := .running }] }

/-! Mailbox commands. -/

/-- Every command, whatever its payload, can be in execution: the hypotheses of the statements that ask no more. -/
theorem witness_executing (op : Nat) (p : Bytes) : Executing (exe up op p) 0 (cmd op p) op := ⟨rfl, rfl, rfl⟩

def resetAt (k : U32) : PendingReset := { boundary := k, mailbox := 0, slot := none, trial := false, confirm := 0 }

theorem witness_sysReset : Executing (exe up 0x0109 [1, 0, 0, 0]) 0 (cmd 0x0109 [1, 0, 0, 0]) 0x0109 ∧ u8At [1, 0, 0, 0] 0 = 1 ∧
    (exe up 0x0109 [1, 0, 0, 0]).sys.pendingReset = none := ⟨⟨rfl, rfl, rfl⟩, rfl, rfl⟩
theorem witness_sysReset_conflict : ∃ s c, Executing s 0 c 0x0109 ∧ u8At c.payload 0 = 1 ∧ s.sys.pendingReset ≠ none :=
  ⟨exe { up with sys.pendingReset := some (resetAt 9) } 0x0109 [1, 0, 0, 0], cmd 0x0109 [1, 0, 0, 0], ⟨rfl, rfl, rfl⟩, rfl, by decide⟩
theorem witness_sysReset_cancel : ∃ s c r, Executing s 0 c 0x0109 ∧ u8At c.payload 0 ≠ 1 ∧ s.sys.pendingReset = some r ∧
    serialAtOrBefore r.boundary (nextStitch s) = false :=
  ⟨exe { up with sys.pendingReset := some (resetAt 2) } 0x0109 [2, 0, 0, 0], cmd 0x0109 [2, 0, 0, 0], resetAt 2, ⟨rfl, rfl, rfl⟩, by decide, rfl, by decide⟩
theorem witness_sysReset_cancel_late : ∃ s c r, Executing s 0 c 0x0109 ∧ u8At c.payload 0 ≠ 1 ∧ s.sys.pendingReset = some r ∧
    serialAtOrBefore r.boundary (nextStitch s) = true :=
  ⟨exe { up with sys.pendingReset := some (resetAt 1) } 0x0109 [2, 0, 0, 0], cmd 0x0109 [2, 0, 0, 0], resetAt 1, ⟨rfl, rfl, rfl⟩, by decide, rfl, by decide⟩
theorem witness_sysReset_cancel_none : ∃ s c, Executing s 0 c 0x0109 ∧ u8At c.payload 0 ≠ 1 ∧ s.sys.pendingReset = none :=
  ⟨exe up 0x0109 [2, 0, 0, 0], cmd 0x0109 [2, 0, 0, 0], ⟨rfl, rfl, rfl⟩, by decide, rfl⟩
theorem witness_maint_on : ∃ s c, Executing s 0 c 0x0813 ∧ u8At c.payload 0 ≠ 0 := ⟨exe up 0x0813 [1, 0, 0, 0], cmd 0x0813 [1, 0, 0, 0], ⟨rfl, rfl, rfl⟩, by decide⟩
theorem witness_maint_off : ∃ s c, Executing s 0 c 0x0813 ∧ u8At c.payload 0 = 0 := ⟨exe up 0x0813 [0, 0, 0, 0], cmd 0x0813 [0, 0, 0, 0], ⟨rfl, rfl, rfl⟩, rfl⟩

/-- `up` with a SEC_PROT_WRITE, SEC_REVOKE or LIT_PRESENCE_REPORT in the open batch. -/
def batched (op : Nat) (p : Bytes) : State :=
  { up with mbx.boxes := listModify up.mbx.boxes 0 (fun b => { b with session := .opened, cmds := [{ cmd op p with phase := .batched }] }),
            jnl.batch := [{ seq := 5, kind := 1, flags := 0, source := 0, body := [] }] }

theorem witness_sealed : ∀ op ∈ [0x0811, 0x0314, 0x0812], ∃ e, (batched op []).jnl.batch = [e] ∧ e.kind = 1 ∧ e.source = 0 ∧
    (box (batched op []) 0).cmds.find? (fun d => d.seq == e.seq && d.phase == .batched && sealedOpcode d.opcode) = some { cmd op [] with phase := .batched } := by
  intro op h
  refine ⟨{ seq := 5, kind := 1, flags := 0, source := 0, body := [] }, rfl, rfl, rfl, ?_⟩
  simp only [List.mem_cons, List.not_mem_nil, or_false] at h
  rcases h with rfl | rfl | rfl <;> rfl

/-! Tables. -/

def someGround : Ground := { generation := 3, pins := 1, points := 1, record := [], order := 0 }

theorem witness_groundRead : ∃ s c r, Executing s 0 c 0x0254 ∧ recordWith s (u16At c.payload 0) (u32At c.payload 4) = some r :=
  ⟨exe { up with tab.ground := [(0, [someGround, default])] } 0x0254 [0, 0, 0, 0, 3, 0, 0, 0, 0, 0, 1, 0],
   cmd 0x0254 [0, 0, 0, 0, 3, 0, 0, 0, 0, 0, 1, 0], someGround, ⟨rfl, rfl, rfl⟩, by decide⟩
theorem witness_groundRead_gone : ∃ s c, Executing s 0 c 0x0254 ∧ recordWith s (u16At c.payload 0) (u32At c.payload 4) = none :=
  ⟨exe up 0x0254 [0, 0, 0, 0, 3, 0, 0, 0, 0, 0, 1, 0], cmd 0x0254 [0, 0, 0, 0, 3, 0, 0, 0, 0, 0, 1, 0], ⟨rfl, rfl, rfl⟩, by decide⟩
theorem witness_groundCommit : ∃ s c, Executing s 0 c 0x0252 ∧ (s.tab.commits.any fun g => g.seq == c.seq) = true :=
  ⟨exe { up with tab.commits := [⟨5, 0, someGround, false⟩] } 0x0252 [], cmd 0x0252 [], ⟨rfl, rfl, rfl⟩, by decide⟩
theorem witness_groundCommit_gone : ∃ s c, Executing s 0 c 0x0252 ∧ (s.tab.commits.any fun g => g.seq == c.seq) = false :=
  ⟨exe up 0x0252 [], cmd 0x0252 [], ⟨rfl, rfl, rfl⟩, by decide⟩

def aChange (held : Bool) : TabChange := { seq := 5, mailbox := 0, items := [.clear 0], held := held }

theorem witness_tabWrite_effected : ∃ s c i n g, (0x0202, i) ∈ tabWriteRows 0 ∧ Executing s 0 c 0x0202 ∧
    s.tab.closeFail.find? (fun e => e.1 == c.seq) = none ∧ s.tab.stagedSeqs.contains c.seq = false ∧
    s.tab.effected.find? (fun e => e.1 == c.seq) = some (c.seq, n, g) :=
  ⟨exe { up with tab.effected := [(5, 9, 2)] } 0x0202 [], cmd 0x0202 [], .tabPinClear (.run 0), 9, 2, by simp [tabWriteRows], ⟨rfl, rfl, rfl⟩, rfl, rfl, rfl⟩
theorem witness_tabWrite_waits (held : Bool) : ∃ s c i t, (0x0202, i) ∈ tabWriteRows 0 ∧ Executing s 0 c 0x0202 ∧
    s.tab.closeFail.find? (fun e => e.1 == c.seq) = none ∧ s.tab.stagedSeqs.contains c.seq = false ∧
    s.tab.effected.find? (fun e => e.1 == c.seq) = none ∧ s.tab.changes.find? (fun t => t.seq == c.seq) = some t ∧ t.held = held :=
  ⟨exe { up with tab.changes := [aChange held] } 0x0202 [], cmd 0x0202 [], .tabPinClear (.run 0), aChange held, by simp [tabWriteRows], ⟨rfl, rfl, rfl⟩,
   rfl, rfl, rfl, rfl, rfl⟩
theorem witness_tabWrite_staged : ∃ s c i, (0x0202, i) ∈ (tabWriteRows 0).take 7 ∧ Executing s 0 c 0x0202 ∧ s.tab.stagedSeqs.contains c.seq = true :=
  ⟨exe { up with tab.stagedSeqs := [5] } 0x0202 [], cmd 0x0202 [], .tabPinClear (.run 0), by simp [tabWriteRows], ⟨rfl, rfl, rfl⟩, rfl⟩
theorem witness_batchClose_fails : ∃ s c p, Executing s 0 c 0x0231 ∧ s.tab.closeFail.find? (fun e => e.1 == c.seq) = some (c.seq, p) :=
  ⟨exe { up with tab.closeFail := [(5, 9215)] } 0x0231 [], cmd 0x0231 [], 9215, ⟨rfl, rfl, rfl⟩, rfl⟩

/-! Light, radio, metering and time commands. -/

theorem witness_chainAccept_off : ∃ s c, Executing s 0 c 0x0326 ∧ s.chain.state = .off := ⟨exe up 0x0326 [], cmd 0x0326 [], ⟨rfl, rfl, rfl⟩, rfl⟩
theorem witness_chainAccept : ∃ s c, Executing s 0 c 0x0326 ∧ s.chain.state ≠ .off :=
  ⟨exe { up with chain.state := .run } 0x0326 [], cmd 0x0326 [], ⟨rfl, rfl, rfl⟩, by decide⟩
theorem witness_air (op : Nat) : hasRadio (exe up op []) = true ∧ Executing (exe up op []) 0 (cmd op []) op := ⟨rfl, rfl, rfl, rfl⟩
theorem witness_pinRelease (done : Option U32) : ∃ s c r, hasRadio s = true ∧ Executing s 0 c 0x0407 ∧
    s.air.releases.find? (fun r => r.seq == c.seq) = some r ∧ r.done = done :=
  ⟨exe { up with air.releases := [⟨0, 5, [0], true, done⟩] } 0x0407 [], cmd 0x0407 [], ⟨0, 5, [0], true, done⟩, rfl, ⟨rfl, rfl, rfl⟩, rfl, rfl⟩
theorem witness_imageStart : ∃ s c z, hasRadio s = true ∧ Executing s 0 c 0x0412 ∧ s.air.session = some z :=
  ⟨exe { up with air.session := some default } 0x0412 [], cmd 0x0412 [], default, rfl, ⟨rfl, rfl, rfl⟩, rfl⟩
theorem witness_noRadio : ∃ s c i, hasRadio s = false ∧ (0x0409, i) ∈ airRows 0 ∧ Executing s 0 c 0x0409 :=
  ⟨exe { up with sys.variant := 2 } 0x0409 [], cmd 0x0409 [], .airWake (.run 0), rfl, by simp [airRows], ⟨rfl, rfl, rfl⟩⟩
theorem witness_modeSet (k : Byte) : Executing (exe up 0x0501 [k, 1]) 0 (cmd 0x0501 [k, 1]) 0x0501 ∧ u8At (cmd 0x0501 [k, 1]).payload 0 = k.toNat :=
  ⟨⟨rfl, rfl, rfl⟩, rfl⟩
theorem witness_contactorSet : ∃ s c, Executing s 0 c 0x050C ∧ ¬(u8At c.payload 1 = 1 ∧ (itemsOf 8 (u8At c.payload 0)).any (fun n => (output s n).tripped) = true) :=
  ⟨exe up 0x050C [128, 1, 0, 0], cmd 0x050C [128, 1, 0, 0], ⟨rfl, rfl, rfl⟩, by decide⟩
theorem witness_contactorSet_tripped : ∃ s c, Executing s 0 c 0x050C ∧
    (u8At c.payload 1 = 1 ∧ (itemsOf 8 (u8At c.payload 0)).any (fun n => (output s n).tripped) = true) :=
  ⟨exe { up with met.outputs := listSet up.met.outputs 7 { (default : Contactor) with tripped := true } } 0x050C [128, 1, 0, 0], cmd 0x050C [128, 1, 0, 0],
   ⟨rfl, rfl, rfl⟩, by decide⟩
theorem witness_dfc_sealed : ∃ s c, Executing s 0 c 0x050E ∧ u8At c.payload 1 = 0 := ⟨exe up 0x050E [3, 0], cmd 0x050E [3, 0], ⟨rfl, rfl, rfl⟩, rfl⟩
theorem witness_dfc_test : ∃ s c, Executing s 0 c 0x050E ∧ u8At c.payload 1 ≠ 0 ∧ s.met.mode ≠ .service :=
  ⟨exe up 0x050E [3, 1], cmd 0x050E [3, 1], ⟨rfl, rfl, rfl⟩, by decide, by decide⟩
theorem witness_dfc_service : ∃ s c, Executing s 0 c 0x050E ∧ u8At c.payload 1 ≠ 0 ∧ s.met.mode = .service :=
  ⟨exe { up with met.mode := .service } 0x050E [3, 1], cmd 0x050E [3, 1], ⟨rfl, rfl, rfl⟩, by decide, rfl⟩
theorem witness_timeSet : ∃ s c, Executing s 0 c 0x0604 ∧ timeSetOpen s = true := ⟨exe up 0x0604 [], cmd 0x0604 [], ⟨rfl, rfl, rfl⟩, rfl⟩
theorem witness_timeSet_held : ∃ s c, Executing s 0 c 0x0604 ∧ timeSetOpen s = false :=
  ⟨exe { up with time.servo.state := .locked } 0x0604 [], cmd 0x0604 [], ⟨rfl, rfl, rfl⟩, rfl⟩
theorem witness_rtcSet : ∃ s c, Executing s 0 c 0x0606 ∧ rtcSetOpen c.payload s = true := ⟨exe up 0x0606 [], cmd 0x0606 [], ⟨rfl, rfl, rfl⟩, by decide⟩
theorem witness_rtcSet_held : ∃ s c, Executing s 0 c 0x0606 ∧ rtcSetOpen c.payload s = false :=
  ⟨exe { up with time.servo.traceable := true } 0x0606 (zeros 13 ++ [1, 0, 0]), cmd 0x0606 (zeros 13 ++ [1, 0, 0]), ⟨rfl, rfl, rfl⟩, by decide⟩
theorem witness_rtcShift : ∃ s c, Executing s 0 c 0x0607 ∧ s.rtc.shiftTotal = 0 := ⟨exe up 0x0607 [], cmd 0x0607 [], ⟨rfl, rfl, rfl⟩, rfl⟩
theorem witness_rtcShift_runs : ∃ s c, Executing s 0 c 0x0607 ∧ s.rtc.shiftTotal ≠ 0 :=
  ⟨exe { up with rtc.shiftTotal := -1 } 0x0607 [], cmd 0x0607 [], ⟨rfl, rfl, rfl⟩, by decide⟩
/-! Firmware, log, panel and probe commands. -/

/-- A load of `b` complete in every byte. -/
def loadOf' (b : Bytes) : UpdLoad := { length := b.length, crc := crc32c b, data := b, ranges := [(0, b.length)], verified := false }

/-- The header of a well-formed image with one body byte: product, header version, version, security, journal format, body length, hash. -/
def header : Bytes :=
  zeros 4 ++ le16 0x8640 ++ le16 1 ++ le32 0x04010000 ++ le32 0 ++ le16 3 ++ zeros 2 ++ le32 1 ++ zeros 8 ++ Config.sha256 [0]

def image : Bytes := header ++ zeros 64 ++ [0]

/-- An image passes when the Feovol key has signed its header: whether this signature is such a one is not known here. -/
theorem witness_updVerify (h : Config.feovolSigned header (zeros 64) = true) : ∃ s c l, s.sys.phase = .run ∧ Executing s 0 c 0x0904 ∧ s.sys.load = some l ∧
    covered l.length l.ranges = true ∧ crc32c l.data = l.crc ∧ s.sys.emmcFault = false ∧ imageReason s.sys.minSec l.data = none := by
  refine ⟨exe { up with sys.load := some (loadOf' image) } 0x0904 [], cmd 0x0904 [], loadOf' image, rfl, ⟨rfl, rfl, rfl⟩, rfl, ?_, ?_, rfl, ?_⟩
  · show covered image.length [(0, image.length)] = true
    simp [covered]
  · show crc32c image = crc32c image
    rfl
  have e1 : slice image 0 64 = header := by rfl
  have e2 : slice image 64 64 = zeros 64 := by rfl
  have e3 : imHash image = Config.sha256 (image.drop 128) := by rfl
  show imageReason 0 image = none
  unfold imageReason
  rw [e1, e2, h, e3, if_neg (by decide), if_neg (by decide +kernel), if_neg (by decide +kernel), if_neg, if_neg (by decide +kernel)]
  rintro (g | g | g | g)
  · exact absurd g (by decide +kernel)
  · exact absurd g (by decide +kernel)
  · exact absurd g (by decide +kernel)
  · exact g rfl
theorem witness_updVerify_rejects : ∃ s c l r, s.sys.phase = .run ∧ Executing s 0 c 0x0904 ∧ s.sys.load = some l ∧ covered l.length l.ranges = true ∧
    crc32c l.data = l.crc ∧ s.sys.emmcFault = false ∧ imageReason s.sys.minSec l.data = some r := by
  have : ∃ r, imageReason 0 [] = some r := by
    unfold imageReason
    split
    · exact ⟨_, rfl⟩
    · exact ⟨1, rfl⟩
  obtain ⟨r, h⟩ := this
  exact ⟨exe { up with sys.load := some (loadOf' []) } 0x0904 [], cmd 0x0904 [], loadOf' [], r, rfl, ⟨rfl, rfl, rfl⟩, rfl, rfl, rfl, rfl, h⟩
theorem witness_updData : ∃ s c l, s.sys.phase = .run ∧ Executing s 0 c 0x0903 ∧ s.sys.load = some l :=
  ⟨exe { up with sys.load := some (loadOf' []) } 0x0903 [], cmd 0x0903 [], loadOf' [], rfl, ⟨rfl, rfl, rfl⟩, rfl⟩
theorem witness_updActivate : ∃ s c, s.sys.phase = .run ∧ Executing s 0 c 0x0906 ∧ loadVerified s = true ∧ s.sys.pendingReset = none :=
  ⟨exe { up with sys.load := some { loadOf' [] with verified := true } } 0x0906 [], cmd 0x0906 [], rfl, ⟨rfl, rfl, rfl⟩, rfl, rfl⟩
theorem witness_updConfirm : ∃ s c, s.sys.phase = .run ∧ Executing s 0 c 0x0907 ∧ (imageSlot s s.sys.running).state = .trial ∧ s.sys.dramImage = none :=
  ⟨exe { up with sys.slots := [{ (default : ImageSlot) with state := .trial }, default] } 0x0907 [], cmd 0x0907 [], rfl, ⟨rfl, rfl, rfl⟩, rfl, rfl⟩
theorem witness_updConfirm_none : ∃ s c, s.sys.phase = .run ∧ Executing s 0 c 0x0907 ∧ (imageSlot s s.sys.running).state ≠ .trial :=
  ⟨exe up 0x0907 [], cmd 0x0907 [], rfl, ⟨rfl, rfl, rfl⟩, by decide⟩
theorem witness_updRollback : ∃ s c, s.sys.phase = .run ∧ Executing s 0 c 0x0908 ∧ canRollback s = true ∧ s.sys.pendingReset = none :=
  ⟨exe { up with sys.active := 1 } 0x0908 [], cmd 0x0908 [], rfl, ⟨rfl, rfl, rfl⟩, rfl, rfl⟩
theorem witness_updRollback_none : ∃ s c, s.sys.phase = .run ∧ Executing s 0 c 0x0908 ∧ canRollback s = false :=
  ⟨exe up 0x0908 [], cmd 0x0908 [], rfl, ⟨rfl, rfl, rfl⟩, rfl⟩

theorem witness_logRecordRead : ∃ s c, Executing s 0 c 0x0702 ∧ s.smp.corrupt = 0 := ⟨exe up 0x0702 [], cmd 0x0702 [], ⟨rfl, rfl, rfl⟩, rfl⟩
/-- `up` with a freeze of mailbox 0. -/
def frozen : State := { up with smp.freeze := some { mailbox := 0, until_ := 9 } }
theorem witness_logFreeze : ∃ s c, Executing s 0 c 0x0703 ∧ s.smp.freeze = none := ⟨exe up 0x0703 [], cmd 0x0703 [], ⟨rfl, rfl, rfl⟩, rfl⟩
theorem witness_logFreeze_held : ∃ s c, Executing s 0 c 0x0703 ∧ s.smp.freeze ≠ none := ⟨exe frozen 0x0703 [], cmd 0x0703 [], ⟨rfl, rfl, rfl⟩, by decide⟩
theorem witness_logThaw : ∃ s c, Executing s 0 c 0x0704 ∧ freezeOf s 0 = true := ⟨exe frozen 0x0704 [], cmd 0x0704 [], ⟨rfl, rfl, rfl⟩, rfl⟩
theorem witness_logThaw_none : ∃ s c, Executing s 0 c 0x0704 ∧ freezeOf s 0 = false := ⟨exe up 0x0704 [], cmd 0x0704 [], ⟨rfl, rfl, rfl⟩, rfl⟩
def aRecord : Record := { seq := 7, pcycle := 0, code := 0x0101, opSec := 0, opSub := 0, source := 0, flags := 0, payload := [] }
theorem witness_logMarkSet : ∃ s c, ∃ p q : U32, Executing s 0 c 0x0705 ∧ p = BitVec.ofNat 32 (u32At c.payload 4) ∧ q = (if p = 0 then newestRound s.smp else p) ∧
    (s.smp.round.any fun r => r.seq == q) = true :=
  ⟨exe { up with smp.round := [aRecord] } 0x0705 [0, 0, 0, 0, 7, 0, 0, 0], cmd 0x0705 [0, 0, 0, 0, 7, 0, 0, 0], 7, 7, ⟨rfl, rfl, rfl⟩, by decide, by decide, by decide⟩
theorem witness_logMarkSet_gone : ∃ s c, ∃ p q : U32, Executing s 0 c 0x0705 ∧ p = BitVec.ofNat 32 (u32At c.payload 4) ∧ q = (if p = 0 then newestRound s.smp else p) ∧
    (s.smp.round.any fun r => r.seq == q) = false :=
  ⟨exe up 0x0705 [0, 0, 0, 0, 7, 0, 0, 0], cmd 0x0705 [0, 0, 0, 0, 7, 0, 0, 0], 7, 7, ⟨rfl, rfl, rfl⟩, by decide, by decide, by decide⟩
theorem witness_pnlTest : ∃ s c, Executing s 0 c 0x0B05 ∧ s.pnl.test = none := ⟨exe up 0x0B05 [], cmd 0x0B05 [], ⟨rfl, rfl, rfl⟩, rfl⟩
theorem witness_pnlTest_runs : ∃ s c, Executing s 0 c 0x0B05 ∧ s.pnl.test ≠ none :=
  ⟨exe { up with pnl.test := some { mailbox := 0, test := 1, until_ := 9, seen := 0 } } 0x0B05 [], cmd 0x0B05 [], ⟨rfl, rfl, rfl⟩, by decide⟩
/-- A PRB_WRITE of no word answers a short result. -/
theorem witness_prbWrite : ∃ s c, ∃ n b t, Executing s 0 c 0x0A03 ∧ n = u16At c.payload 0 ∧ (upTo n).foldl (writeItem c.payload) ([], s) = (b, t) ∧
    (le16 n ++ le16 0 ++ b).length ≤ 256 :=
  ⟨exe up 0x0A03 (zeros 8), cmd 0x0A03 (zeros 8), 0, [], exe up 0x0A03 (zeros 8), ⟨rfl, rfl, rfl⟩, rfl, rfl, by decide⟩
/-- One of 32 words, to an address outside every block, answers more than 256 bytes. -/
theorem witness_prbWrite_long : ∃ s c, ∃ n b t, Executing s 0 c 0x0A03 ∧ n = u16At c.payload 0 ∧ (upTo n).foldl (writeItem c.payload) ([], s) = (b, t) ∧
    256 < (le16 n ++ le16 0 ++ b).length :=
  ⟨exe up 0x0A03 ([32] ++ zeros 259), cmd 0x0A03 ([32] ++ zeros 259), 32, _, _, ⟨rfl, rfl, rfl⟩, rfl, rfl, by decide +kernel⟩
/-! The Tambour. -/

/-- A SOFT task of list 4 in slot 3, READY. -/
def softTask' : TaskSlot := { (default : TaskSlot) with slot := 3, kind := .interval, list := 4, soft := true, state := .ready }
def withSlot (t : TaskSlot) : State := { up with tmb.slots := [t] }

theorem witness_softDeadline : ∃ (s : State), ∃ k t, s.tmb.slots.find? (fun t => t.slot == k && t.soft && !t.frayed) = some t := ⟨withSlot softTask', 3, softTask', rfl⟩
theorem witness_softDeadline_none : ∃ (s : State) (k : Nat), s.tmb.slots.find? (fun t => t.slot == k && t.soft && !t.frayed) = none := ⟨up, 3, rfl⟩
theorem witness_dispatch : ∃ (s : State), ∃ l e k, dispatchChoice s l = some (e, k) := ⟨withSlot softTask', 4, 11, softTask', by decide +kernel⟩
theorem witness_heldSource : ∃ (s : State), ∃ l h, firstHeld s l = some h ∧ (freeSlot s).isSome = true ∧ roomFor s l h.source = true :=
  ⟨{ up with tmb.held := [⟨9, softTask', none⟩, ⟨4, softTask', some 2⟩] }, 4, ⟨4, softTask', some 2⟩, by decide +kernel, by decide +kernel, by decide +kernel⟩
theorem witness_mailboxExecution : ∃ (s : State), ∃ m c, taskRunning s (.mailbox m) = true ∧ mayBegin (box s m) = some c :=
  ⟨withTask (.mailbox 0) { up with mbx.boxes := listModify up.mbx.boxes 0 fun b => { b with cmds := [{ cmd 0x0104 [] with phase := .waiting }] } }, 0,
   { cmd 0x0104 [] with phase := .waiting }, rfl, rfl⟩
theorem witness_softTask : ∃ s : State, ∃ t ∈ s.tmb.slots, t.soft = true ∧ (∀ u ∈ s.tmb.slots, u.slot = t.slot → u = t) ∧ t.frayed = false ∧
    t.list < s.tmb.lists.length ∧ t.state = .ready ∧ affinity s t.kind = none ∧ (∃ e ∈ listEngines s t.list, engineIdle s e = true) ∧
    (∀ u ∈ s.tmb.slots, u.list = t.list → u.state = .ready → u ≠ t →
      (serialBefore t.dlStitch u.dlStitch = true ∨ (t.dlStitch = u.dlStitch ∧ t.dlOff < u.dlOff))) := by
  refine ⟨withSlot softTask', softTask', by simp [withSlot], rfl, ?_, rfl, by decide, rfl, rfl, ⟨11, by decide, by decide⟩, ?_⟩
  · intro u hu _; simpa [withSlot] using hu
  · intro u hu _ _ hne; exact absurd (by simpa [withSlot] using hu) hne

/-! The light field. -/

theorem witness_schedule_plan : ∃ (s : State), ∃ k p, taskRunning s (.schedule k) = true ∧ (if s.sched.noTime then some (default : DayPlan) else planOf s s.sched.day) = some p :=
  ⟨withTask (.schedule 35) { up with sched.noTime := true }, 35, default, rfl, rfl⟩
theorem witness_schedule_noPlan : ∃ (s : State), ∃ k, taskRunning s (.schedule k) = true ∧ (if s.sched.noTime then some (default : DayPlan) else planOf s s.sched.day) = none :=
  ⟨withTask (.schedule 35) up, 35, rfl, by decide +kernel⟩
theorem witness_task (k : TaskKind) : taskRunning (withTask k up) k = true := by
  simp [taskRunning, withTask, stalled, engineWorks]; intro x h; cases h
theorem witness_walkLate : ∃ s : State, s.tmb.slots.any (fun t => t.kind == .walk) = true ∧ s.lace.streamsStarted = false := ⟨withTask .walk up, rfl, rfl⟩
/-- Local time settings that ended at TAI second 1. -/
def endedTz : State := { up with set.working := tabSet factorySettings secTz ([1] ++ zeros 527), time.tb := 2 * 2 ^ 64 }
theorem witness_tzExpired : u64At (sect endedTz secTz) 0 < taiSec endedTz ∧ endedTz.sched.tzExpired = false := ⟨by decide +kernel, rfl⟩
theorem witness_tzExpired_again : ∃ s : State, s.sched.tzExpired = true := ⟨{ up with sched.tzExpired := true }, rfl⟩
theorem witness_photocell : ∃ s : State, setU8 s secSite 8 ≠ 0xFF := ⟨{ up with set.working := tabSet factorySettings secSite (zeros 12) }, by decide +kernel⟩
theorem witness_photocell_none : setU8 up secSite 8 = 0xFF := by decide +kernel

/-! The radio. -/

/-- A region profile whose four Shuttles and wake channel are enabled at 100 kb/s. -/
def regionProfile : Bytes :=
  le16 1 ++ zeros 14 ++ (upTo 4).flatMap (fun _ => le32 865000000 ++ le8 2 ++ le8 14 ++ le16 1000 ++ le8 1 ++ zeros 7) ++
    le32 869000000 ++ le8 14 ++ le8 1 ++ le16 1000 ++ le8 1 ++ zeros 7
/-- `up` with that profile and the radio enabled. -/
def onAir' : State :=
  { up with set.working := tabSet (tabSet factorySettings secRegion regionProfile) secAir (slice factoryAir 0 3 ++ [3] ++ slice factoryAir 4 28) }
theorem witness_shuttleOn : ∀ k, k < 4 → shuttleOn onAir' k = true := by decide +kernel

/-- The configuration half of a lantern on the radio, mains (1) or sleepy (2), with home Shuttle 0 and key slot 0. -/
def lantern (transport : Byte) : Bytes := zeros 10 ++ [1, transport] ++ zeros 52
/-- `onAir'` with Pin 5 a lantern. -/
def withLantern (transport : Byte) : State := { onAir' with tab.live := { onAir'.tab.live with pins := [(5, lantern transport)] } }

/-- Telemetry of Shuttle 3 on engine 14, with this packet in its Skein. -/
def heard (b : Bytes) : State :=
  withTask (.telemetry 3) { up with skn.skeins := listModify up.skn.skeins 7 fun x => { x with packets := [⟨b⟩], readers := 2 } }
theorem witness_telemetry : taskRunning (heard (zeros 16)) (.telemetry 3) = true ∧ appInitiator (heard (zeros 16)) (.telemetry 3) = 1 ∧
    (readWhole 7 1 .ok maxWords 0 [] (heard (zeros 16))).1 = some (zeros 16) ∧ tlmBlock ((zeros 16).drop 10) = none ∧
    (readWhole 7 1 .ok maxWords 0 [] (heard (zeros 10 ++ [0, 1, 1, 0, 9, 0]))).1 = some (zeros 10 ++ [0, 1, 1, 0, 9, 0]) ∧
    tlmBlock [0, 1, 1, 0, 9, 0] = some [9] ∧ (readWhole 7 0 .ok maxWords 0 [] (heard [])).1 = none := by decide +kernel
theorem witness_coursePlanning : taskRunning (withTask (.planning 3) onAir') (.planning 3) = true ∧ shuttleOn (withTask (.planning 3) onAir') 3 = true := by decide +kernel
/-- `onAir'` with Shuttle 3 changed. -/
def withShuttle (f : Shuttle → Shuttle) (s : State) : State := { s with air.shuttles := listModify s.air.shuttles 3 f }
theorem witness_course_follow : ∃ (s : State), ∃ k f, shuttleOn s k = true ∧
    ((shuttle s k).owed.isSome || (shuttle s k).awaiting.isSome || decide (taiNs s < (shuttle s k).txTo)) = false ∧ (shuttle s k).follow = some f :=
  ⟨withShuttle (fun h => { h with follow := some ⟨5, false⟩ }) onAir', 3, ⟨5, false⟩, by decide +kernel, by decide +kernel, rfl⟩
/-- A Course of Shuttle 3 with this plan, in a Stitch that ends in 20 ms. -/
def inCourse (hold : Bool) (plan : List PlanItem) : State :=
  withTask (.course 3) (withShuttle (fun h => { h with plan := plan, holdTx := hold }) { onAir' with stitch.nextBoundary := 20000000 })
theorem witness_course : ∀ s ∈ [inCourse false [], inCourse true [⟨.probe 5, 0, 1000⟩], inCourse false [⟨.probe 5, 0, 1000⟩]], shuttleOn s 3 = true ∧
    ((shuttle s 3).owed.isSome || (shuttle s 3).awaiting.isSome || decide (taiNs s < (shuttle s 3).txTo)) = false ∧ (shuttle s 3).follow = none ∧
    taskRunning s (.course 3) = true := by decide +kernel
theorem witness_course_item : (shuttle (inCourse false []) 3).plan.filter (itemFits (inCourse false []) 3) = [] ∧
    (∀ start, start ∈ [0, 18499000] → ((shuttle (inCourse false [⟨.probe 5, start, 1000⟩]) 3).plan.filter (itemFits (inCourse false [⟨.probe 5, start, 1000⟩]) 3)).length = 1 ∧
      itemStart (inCourse false [⟨.probe 5, start, 1000⟩]) 3 ⟨.probe 5, start, 1000⟩ = start) ∧
    (shuttle (inCourse false [⟨.probe 5, 18499001, 1000⟩]) 3).plan.filter (itemFits (inCourse false [⟨.probe 5, 18499001, 1000⟩]) 3) = [] := by decide +kernel
theorem witness_beacon : (!beaconsDue onAir' || !isBeacon onAir'.stitch.number || onAir'.air.beaconAt == some onAir'.stitch.number) = false := by decide +kernel
theorem witness_windowEnd : ∃ (s : State), ∃ p w, s.air.windows.find? (fun w => w.pin == p) = some w := ⟨{ onAir' with air.windows := [⟨5, 3, 0, 0⟩] }, 5, ⟨5, 3, 0, 0⟩, rfl⟩

/-- A frame from Pin 5 on Shuttle 0, with this payload; `ack` for an Enh-Ack's control fields. -/
def frame (ack : Bool) (counter : U32) (payload : Bytes) : RxFrame :=
  { shuttle := 0, preamble := 8, modeSwitch := false, fcsShort := false, fcsOk := true, micOk := true, sfdEnd := 2000000, rssi := -80,
    frameControl := if ack then 0xAA4A else 0xA869, seq := 9, pan := 0xFFFE, dst := 0,
    src := 0x0805, security := if ack then 0x09 else 0x0D, keyIndex := 1, counter := counter, pending := false, timeCorrection := 0,
    payload := payload, airtimeUs := 3000, endUs := 0 }

/-- `withLantern` with a key in slot 0. -/
def keyed (transport : Byte) : State :=
  { withLantern transport with sec.slots := listSet onAir'.sec.slots 0 { (default : KeySlot) with key := some (zeros 16) } }
theorem witness_uplink : (frame false 1 [0x20]).shuttle < 4 ∧ hasRadio (keyed 1) = true ∧ running (keyed 1) = true ∧
    (pfEn (region (keyed 1)) 0 && !(shuttle (keyed 1) 0).failed && !(keyed 1).time.radiosHeld && hears (frame false 1 [0x20]) false (keyed 1)) = true ∧
    (∀ k ∈ [0x20, 0x21, 0x0E], rxCheck (frame false 1 [k]) false (keyed 1) = .ok 5) ∧
    (∀ k ∈ [0x20, 0x21, 0x0E], rxCheck (frame false 0 [k]) false (keyed 1) = .error .replay) ∧
    expectedWindow (keyed 1) 5 0 2000000 = none ∧ (9 : Nat) ≠ (pinState (keyed 1) 5).upSeq := by
  refine ⟨by decide, rfl, rfl, by decide +kernel, ?_, ?_, by decide +kernel, by decide +kernel⟩ <;>
    (intro k hk; simp only [List.mem_cons, List.not_mem_nil, or_false] at hk; rcases hk with rfl | rfl | rfl <;> rfl)

/-- Shuttle 0 of `keyed 1` awaits the Enh-Ack to a frame it has just sent. -/
def awaiting' (command : Option U32) : Awaiting :=
  { pin := 5, command := command, sync := false, seq := 9, keyIndex := 1, counter := 1, mode := 2, sfdAt := 100000, sentEnd := 200000 }
def awaits (command : Option U32) : State :=
  { keyed 1 with air.shuttles := listModify onAir'.air.shuttles 0 fun h => { h with awaiting := some (awaiting' command) } }
/-- The Enh-Ack begins in its window, 1 ms after the frame. -/
def timely (counter : U32) : RxFrame := { frame true 1 (leW counter) with sfdEnd := 1200000 + sfdTime 2 }
theorem witness_nodeEnhAck : (receives (awaits none) 0 && hears (timely 1) true (awaits none)) = true ∧ (shuttle (awaits none) 0).awaiting = some (awaiting' none) ∧
    rxCheck { timely 1 with counter := 0 } true (awaits none) = .error .replay ∧ (∀ c ∈ [1, 2], rxCheck (timely c) true (awaits none) = .ok 5) ∧
    ackMatches 5 (timely 2) (awaiting' none) = false ∧ ackMatches 5 { timely 1 with sfdEnd := 1250001 + sfdTime 2 } (awaiting' none) = false ∧
    ackMatches 5 { timely 1 with sfdEnd := 1250000 + sfdTime 2 } (awaiting' none) = true := by
  refine ⟨by decide +kernel, by decide +kernel, rfl, ?_, by decide +kernel, by decide +kernel, by decide +kernel⟩
  intro k hk; simp only [List.mem_cons, List.not_mem_nil, or_false] at hk; rcases hk with rfl | rfl <;> rfl
/-- A command of Pin 5 on the radio. -/
def pinCmd : PinCmd := { (default : PinCmd) with seq := 6, kind := 2, committed := true }
theorem witness_nodeEnhAck_command : ∃ s : State, ∃ q c, s = { awaits (some 6) with fade.queues := [(5, [pinCmd])] } ∧
    ackMatches 5 (timely 1) (awaiting' (some 6)) = true ∧ (awaiting' (some 6)).command = some q ∧
    commandOf (onShuttle 0 (fun h => { h with awaiting := none }) (rxAccept (timely 1) 5 s)) 5 q = some c :=
  ⟨_, 6, pinCmd, rfl, by decide +kernel, rfl, by decide +kernel⟩
theorem witness_enhAckTimeout : ∃ (s : State), ∃ k a, (shuttle s k).awaiting = some a := ⟨awaits none, 0, awaiting' none, by decide +kernel⟩
/-- Shuttle 3 owes an Enh-Ack. -/
def ackOwed : OwedAck := { pin := 5, seq := 9, keyIndex := 1, counter := 1, mode := 2, pending := false, sleepy := false, sync := false, offset := 0 }
def owes (hold : Bool) : State := { keyed 1 with air.shuttles := listModify onAir'.air.shuttles 3 fun h => { h with owed := some ackOwed, holdAck := hold } }
theorem witness_enhAckSend : ∀ hold, (shuttle (owes hold) 3).owed = some ackOwed ∧ (shuttle (owes hold) 3).holdAck = hold ∧ airOn (owes hold) = true ∧
    (shuttle (owes hold) 3).failed = false := by
  intro hold; cases hold <;> exact ⟨rfl, rfl, by decide +kernel, rfl⟩
theorem witness_enhAckSend_frame : ∃ c u, sendFrame (taiNs (owes false)) 2 33 (plainFrame 3 fcAck 9 (airPan (owes false)) (some 0x0805) 0x09 0 (ackIes 0) (leW 1))
    (onShuttle 3 (fun h => { h with owed := none }) (owes false)) = (some c, u) := ⟨0, _, by rfl⟩
theorem witness_foreignBeacon : ((0xFFFE : U16).toNat != airPan onAir' || !hasRadio onAir' || !pfEn (region onAir') 3) = false ∧
    (∀ c, onAir'.air.panMinute = some c → 60 * cyclesPerSec ≤ onAir'.time.cycle - c) := ⟨by decide +kernel, by simp [onAir', up, State.reset, coldAir]; decide⟩
theorem witness_foreignBeacon_again : ∃ s : State, ((0xFFFE : U16).toNat != airPan s || !hasRadio s || !pfEn (region s) 3) = false ∧ ∃ c, s.air.panMinute = some c ∧
    s.time.cycle - c < 60 * cyclesPerSec := ⟨{ onAir' with air.panMinute := some 0 }, by decide +kernel, 0, rfl, by decide⟩
/-- Pin 5, mains, with a level commanded, 1,000 s after the start. -/
def longQuiet (transport : Byte) (missed : Nat) : State :=
  { withLantern transport with tab := { (withLantern transport).tab with state := [(5, { (default : PinState) with commanded := 1 })] }, time.cycle := 1000 * cyclesPerSec,
                               air.radio := [(5, { (default : RadioPin) with missedInstants := missed })] }
theorem witness_probeDue : ∀ s, s = longQuiet 1 0 → ∀ conf, conf = pinConf s.tab.live 5 → cTransport conf = tMains ∧ isRadio conf = true ∧ (pinState s 5).pending = false ∧
    (∀ e ∈ s.air.probes, e.1 ≠ 5) ∧ inFlight s 5 = false ∧
    (radioPin s 5).probeAt ≤ s.time.cycle ∧ keepalive s ≤ secSince s ((radioPin s 5).heardAt.getD s.sys.startCycle) := by
  rintro s rfl conf rfl
  exact ⟨by decide +kernel, by decide +kernel, by decide +kernel, by decide +kernel, by decide +kernel, by decide +kernel, by decide +kernel⟩
theorem witness_pinSilent : ∀ t ∈ [1, 2], ∀ s, s = longQuiet t 6 → ∀ conf, conf = pinConf s.tab.live 5 → isRadio conf = true ∧ (pinState s 5).switchedOff = false ∧
    (pinState s 5).failure = 0 ∧ (cTransport conf = tMains → silentMains s ≤ secSince s (silentFrom s 5)) ∧
    (cTransport conf ≠ tMains → silentSleepy s ≤ (radioPin s 5).missedInstants) := by
  intro t ht s hs conf hc
  subst hs hc
  simp only [List.mem_cons, List.not_mem_nil, or_false] at ht
  rcases ht with rfl | rfl <;> exact ⟨by decide +kernel, by decide +kernel, by decide +kernel, by decide +kernel, by decide +kernel⟩
/-- A session that sends, whose target is every sleepy Pin. -/
def sendingSession : ImageSession := { (default : ImageSession) with sending := true, load := { (default : ImageLoad) with target := 0xFFFF } }
theorem witness_imagePicot : ∃ s : State, ∃ z, s.air.session = some z ∧ z.sending = true ∧ ((imageTargets s z).any fun e => cTransport e.2 == tSleepy) = true ∧
    60 * cyclesPerSec ≤ s.time.cycle - z.picotAt := ⟨{ withLantern 2 with air.session := some sendingSession, time.cycle := 1000 * cyclesPerSec }, sendingSession, rfl, rfl, by decide +kernel, by decide⟩
theorem witness_engineFaults : (3 < 4 ∧ hasRadio up = true ∧ (shuttle up 3).failed = false ∧ (shuttle up 3).leaving = false) ∧
    ∃ s : State, s.lace.inService.getD 7 false = true ∧ s.lace.leaving.contains 7 = false :=
  ⟨by decide +kernel, { up with lace.inService := List.replicate 8 true }, by decide +kernel, by decide +kernel⟩
/-! Skeins, Bobbins and registers. -/

/-- `up` with Skein 127 enabled, initiator 3 in both its sets, changed by `f`. -/
def withSkein (f : Skein → Skein) : State :=
  { up with skn.skeins := listModify up.skn.skeins 127 fun k => f { k with en := true, writers := 8, readers := 8, size := 1 } }
theorem witness_skeinEmpty : bit (skein (withSkein id) 127).readers 3 = true ∧ (skein (withSkein id) 127).packets = [] := by decide +kernel
theorem witness_skeinForeign : bit (skein (withSkein id) 127).readers 2 = false := by decide +kernel
/-- A packet of 17 bytes: a FIRST word and a LAST one. -/
def twoWords (held : Option HeldPacket) : State := withSkein fun k => { k with packets := [⟨zeros 17⟩], reading := held }
theorem witness_skeinRead : ∀ held ∈ [none, some ⟨2, 1⟩, some ⟨3, 1⟩], bit (skein (twoWords held) 127).readers 3 = true ∧
    (skein (twoWords held) 127).packets = [⟨zeros 17⟩] ∧ (skein (twoWords held) 127).reading = held := by decide +kernel
theorem witness_skeinRead_next : ∀ done ∈ [0, 1], ∃ held : Option HeldPacket, held.getD { reader := 3, done := 0 } = { reader := 3, done := done } := by
  intro done h
  simp only [List.mem_cons, List.not_mem_nil, or_false] at h
  rcases h with rfl | rfl
  · exact ⟨none, rfl⟩
  · exact ⟨some ⟨3, 1⟩, rfl⟩
theorem witness_skeinRead_other : ((⟨2, 1⟩ : HeldPacket)).reader ≠ 3 := by decide
theorem witness_ports : portStalled (withSkein id) 3 = false ∧ portStalled (withSkein fun k => { k with heldWrites := [⟨3, 0, 5⟩] }) 3 = true ∧
    portStalled (twoWords none) 3 = false := by decide +kernel
theorem witness_skeinPush : ∀ k, k = skein (withSkein id) 127 → bit k.writers 3 = true ∧ k.en = true ∧
    (storeWord k 3 0 5).2 = .stored ∧ (storeWord k 3 4 5).2 = .closed (le32 5) := by rintro k rfl; decide +kernel
/-- A Skein of one unit that holds 250 bytes and stalls. -/
def fullSkein : Skein := { skein (withSkein id) 127 with packets := [⟨zeros 250⟩], heldWrites := [] }
theorem witness_skeinStall : (storeWord fullSkein 3 0 5).2 = .stalled := by decide +kernel
theorem witness_heldWrite : ∀ k, k = skein (withSkein fun k => { k with heldWrites := [⟨3, 0, 5⟩] }) 127 →
    k.heldWrites.find? (fun h => (storeWord k h.writer h.valid h.word).2 != .stalled) = some ⟨3, 0, 5⟩ := by rintro k rfl; decide +kernel
theorem witness_heldNotice : ∃ (s : State), ∃ k, k = skein s 127 ∧ k.heldNotices ≠ 0 ∧ roomFor s k.noticeList srcSkein = true ∧ (freeSlot s).isSome = true :=
  ⟨withSkein fun k => { k with heldNotices := 1, noticeList := 4 }, _, rfl, by decide +kernel, by decide +kernel, by decide +kernel⟩
theorem witness_abandon : (skein (withSkein fun k => { k with opened := some ⟨3, [], false, false⟩ }) 127).opened.isSome = true ∧
    (skein (twoWords (some ⟨3, 1⟩)) 127).reading.isSome = true := by decide +kernel
theorem witness_rebuild : carriesWork 8 = true ∧ ∃ s : State, (skein s 8).lost = true :=
  ⟨by decide, { up with skn.skeins := listModify up.skn.skeins 8 fun k => { k with lost := true } }, by decide +kernel⟩

/-- `up` with Bobbin channel 31 changed. -/
def withBobbin (f : Bobbin → Bobbin) : State := { up with bob.channels := listModify up.bob.channels 31 f }
theorem witness_bobStart : ∃ s : State, bobActive (bobbin s 31) = false ∧ startError s 31 = false :=
  ⟨withBobbin fun b => { b with count := 1 }, by decide +kernel, by decide +kernel⟩
theorem witness_bobStart_wrong : bobActive (bobbin up 31) = false ∧ startError (withBobbin fun b => { b with ctrl := 0x80000000 }) 31 = true := by decide +kernel
/-- Channel 31 running a transfer between memory addresses, its turn, with these bytes in its holding register. -/
def moving (hold : Bytes) (ended : Bool) : State :=
  { withBobbin (fun b => { b with state := .active, count := 1, hold := hold, lastRead := ended, moved := hold.length, width := 0x200 }) with bob.turn := 31 }
theorem witness_bobActive : ∀ hold ∈ [[], [1]], (bobbin (moving hold false) 31).state = .active ∧ mayComplete (moving hold false) 31 = true ∧
    (bobbin (moving hold false) 31).hold = hold ∧ bSrcSkein (bobbin (moving hold false) 31) = false ∧ bDstSkein (bobbin (moving hold false) 31) = false := by
  decide +kernel
/-- Whether an address is closed is free (a bus error then): here it is open. -/
theorem witness_bobOpen (h : Config.closedAddress 0 = false) : ∀ hold ∈ [[], [1]], accessFails .ok (nextBurst (bobbin (moving hold false) 31)) = false := by
  intro hold hm
  simp only [List.mem_cons, List.not_mem_nil, or_false] at hm
  rcases hm with rfl | rfl <;> (show (false || ([0] : List Nat).any Config.closedAddress) = false; simp [h])
theorem witness_bobRetry : (bobbin (moving [1] false) 31).tries < bRetry (bobbin (moving [1] false) 31) ∧
    bRetry (bobbin (withBobbin fun b => { b with state := .active, hold := [1], tries := 4 }) 31) ≤ 4 := by decide +kernel
theorem witness_bobOver : ∀ s, s = moving [] true → transferOver (bobbin s 31) = true ∧ (bobbin s 31).fetching = false ∧ bKind (bobbin s 31) = 0 ∧
    bLinkEn (bobbin s 31) = false ∧ acknowledged s = true ∧ bobActive (bobbin s 31) = true := by rintro s rfl; decide +kernel
theorem witness_bobFetch : ∃ s : State, (bobbin s 31).fetching = true ∧ (bobbin s 31).state = .active ∧ acknowledged s = true :=
  ⟨withBobbin fun b => { b with state := .active, fetching := true }, by decide +kernel, by decide +kernel, by decide +kernel⟩
/-- The Bobbins' port is stalled on Skein 127. -/
theorem witness_bobStalled : acknowledged (withSkein fun k => { k with heldWrites := [⟨29, 0, 5⟩] }) = false := by decide +kernel
theorem witness_bobWait : (bobbin (withBobbin fun b => { b with state := .waitReq }) 31).state = .waitReq := by decide +kernel
/-- Channel 31 with the completion token for Skein 127 held. -/
def tokenHeld (stalls : Bool) : State :=
  { up with skn.skeins := listModify up.skn.skeins 127 (fun k => { k with en := true, size := 1, packets := if stalls then [⟨zeros 250⟩] else [] }),
            bob.channels := listModify up.bob.channels 31 fun b => { b with state := .pulseHeld, done := 0x2007F } }
theorem witness_bobHeld : (∀ stalls ∈ [false, true], (bobbin (tokenHeld stalls) 31).state = .pulseHeld) ∧ (sendCompletion 31 .ok (tokenHeld false)).1 = .sent ∧
    (sendCompletion 31 .ok (tokenHeld true)).1 = .held ∧ (sendCompletion 31 .busError (tokenHeld false)).1 = .failed := by decide +kernel
theorem witness_burst : (moving [1] false).wf ∧ mayComplete (moving [1] false) 31 = true ∧ (bobbin (moving [1] false) 31).hold = [1] ∧
    bDstSkein (bobbin (moving [1] false) 31) = false ∧ 31 < (moving [1] false).bob.channels.length ∧ bDinc (bobbin (moving [1] false) 31) = true ∧
    ∃ t, exec (.bobBurstDone 31 .ok) (moving [1] false) = .next t :=
  ⟨rfl, by decide +kernel, by decide +kernel, by decide +kernel, by decide +kernel, by decide +kernel, 
   (by show ∃ t, execBobBurstDone 31 .ok (moving [1] false) = .next t
       unfold execBobBurstDone; dsimp only; split
       · split <;> exact ⟨_, rfl⟩
       · exact ⟨_, rfl⟩)⟩
theorem witness_windowWord : windowWord (0x9000 - 0x9000 % 4) = some (secPorts, 0) ∧ windowWord (0x953E - 0x953E % 4) = some (secHost, 0x3C) ∧
    windowWord (0x9030 - 0x9030 % 4) = none := by decide
theorem witness_noBlock : blockOf 0x00000000 = none := by decide

/-! The chain. -/

/-- The chain runs, with a packet of levels in Skein 25. -/
theorem witness_chainShift : ∃ s : State, s.chain.state ≠ .off ∧ s.chain.state ≠ .scan ∧ s.chain.packetsAt ≠ none ∧
    (∀ f, s.chain.frame = some f → f.shifted = true ∧ f.committed = true) ∧ s.chain.state = .run ∧ s.chain.frame = none :=
  ⟨{ up with chain.state := .run, chain.packetsAt := some 0 }, by decide, by decide, by decide, (by intro f h; cases h), rfl, rfl⟩
theorem witness_chainShift_none : up.chain.packetsAt = none := rfl
theorem witness_chainFrame (shifted : Bool) : ∃ (s : State), ∃ f, s.chain.frame = some f ∧ f.shifted = shifted :=
  ⟨{ up with chain.frame := some { (default : ChainFrame) with shifted := shifted } }, _, rfl, rfl⟩
theorem witness_chainReturn : (wordAt [0xA00000000000000A] 0).isSome = true ∧ ([0xA00000000000000A] : List U64).any rwValid = true ∧ scanDelay [7, 8, 9] = some 8 := by decide +kernel
theorem witness_chainLatch : ∃ (s : State), ∃ f, s.chain.frame = some f ∧ f.shifted = true ∧ f.committed = true ∧ f.topoOk = true ∧ s.chain.state = .run :=
  ⟨{ up with chain.state := .run, chain.frame := some { (default : ChainFrame) with shifted := true, committed := true, topoOk := true } }, _, rfl, rfl, rfl, rfl, rfl⟩
theorem witness_chainScan : (∃ s : State, s.chain.state = .scan) ∧ up.chain.state ≠ .scan := ⟨⟨{ up with chain.state := .scan }, rfl⟩, by decide⟩
theorem witness_ntc : (up.chain.boards.getD 127 default).ntcFault = false ∧ ∃ s : State, 60 * cyclesPerSec ≤ s.time.cycle - (s.chain.boards.getD 127 default).codeAt :=
  ⟨by decide +kernel, { up with time.cycle := 60 * cyclesPerSec }, by decide +kernel⟩
/-! Metering. -/

/-- `up` with harness 1 in this state. -/
def withHarness (st : HarnessState) : State := { up with met.harnesses := listModify up.met.harnesses 1 fun x => { x with state := st } }
theorem witness_harnessRuns : harnessRuns (withHarness .run) 1 = true ∧ harnessRuns up 1 = false := by decide +kernel
theorem witness_interval : ∃ (s : State), ∃ b, b = gridStart s (gridLength s) (taiSec s) ∧ running s = true ∧ s.met.restored = true ∧ s.met.interval.lastClosed < b ∧
    s.met.interval.start < b ∧ logTight s = false :=
  ⟨{ up with met.restored := true, time.tb := 10000 * 2 ^ 64 }, _, rfl, rfl, rfl, by decide +kernel, by decide +kernel, by decide +kernel⟩
theorem witness_intervalClose : ∃ (s : State), ∃ c rest, taskRunning s .interval = true ∧ s.met.closing = c :: rest :=
  ⟨withTask .interval { up with met.closing := [default] }, default, [], by decide +kernel, rfl⟩
def closedSpan : ClosedSpan := { (default : ClosedSpan) with span := { (default : Span) with feeder := 11 } }
theorem witness_spanRecord : ∃ (s : State), ∃ n c, s.met.closed.find? (fun c => c.span.feeder == n) = some c ∧ (logTight s || (c.late && !s.time.servo.traceable) || !minuteOver s c) = false :=
  ⟨{ up with met.closed := [closedSpan], time.tb := 60 * 2 ^ 64 }, 11, closedSpan, rfl, by decide +kernel⟩
theorem witness_archive : ∃ (s : State), ∃ (q : U32) (here : List MetRecord → Bool), here = (fun l => l.any fun r => r.seq == q && r.accepted && !r.archived) ∧
    (here s.met.records || here s.met.spanRecords) = true ∧ s.sys.emmcFault = false :=
  ⟨{ up with met.records := [⟨5, [], true, false⟩] }, 5, _, rfl, by decide +kernel, rfl⟩
theorem witness_periodicSave : ∃ s : State, (running s && s.met.restored && s.sys.bankOk.getD 0 false) = true :=
  ⟨{ up with met.restored := true, sys := { up.sys with bankOk := [true, true] } }, rfl⟩
/-- Harness 1 in RUN with these samples in every channel of its set: a crossing every second one; `out` for FREQ_OUT. -/
def sampled (out : Bool) (samples : List Rat) : State :=
  { withHarness .run with met.sets := listModify up.met.sets 1 fun v =>
      { v with begun := true, freqOut := out, window := List.replicate 28 samples, half := List.replicate 28 samples } }
def wave : List Rat := (upTo 40).map fun k => if k % 2 = 0 then -1 else 1
theorem witness_window : (windowEnd (sampled false wave) 1 (beginWindow (sampled false wave) 1)).isSome = true ∧
    (windowEnd (sampled false []) 1 (beginWindow (sampled false []) 1)).isNone = true ∧
    (halfCycle (sampled false wave) 1).isSome = true ∧ (halfCycle (sampled false []) 1).isNone = true ∧ harnessRuns (sampled false wave) 1 = true := by decide +kernel
theorem witness_freqOutWindow : (windowEnd (sampled true (List.replicate 1600 0)) 1 (beginWindow (sampled true (List.replicate 1600 0)) 1)).isSome = true ∧
    (windowEnd (sampled true (List.replicate 1599 0)) 1 (beginWindow (sampled true (List.replicate 1599 0)) 1)).isNone = true := by decide +kernel
/-- A threshold of 1 and one sample on feeder 11, whose first current channel is watched and reads full scale. -/
def armedFeeder : State :=
  { withHarness .run with set.working := tabSet factorySettings secProt (zeros 176 ++ [1, 0, 1] ++ zeros 13),
                          met.decimators := listModify up.met.decimators (iChan 11 0) fun d => { d with recent := [32767] } }
theorem witness_ocInst : 11 < 12 ∧ harnessRuns armedFeeder (11 / 6) = true ∧ (feeder armedFeeder 11).armed = true ∧ prInst (prEntry armedFeeder 11) ≠ 0 ∧
    ((watched armedFeeder 11).any fun k => iChan 11 k == iChan 11 0) = true ∧
    ∀ l, l = lastFast armedFeeder 11 (iChan 11 0) [] → l = [32767] ∧ l.length = prInstCount (prEntry armedFeeder 11) ∧
      ∀ q ∈ l, fastThreshold armedFeeder 11 (iChan 11 0) < (q.natAbs : Int) := by
  refine ⟨by decide, by decide +kernel, by decide +kernel, by decide +kernel, by decide +kernel, ?_⟩
  rintro l rfl
  exact ⟨by decide +kernel, by decide +kernel, by decide +kernel⟩
def openSnap : Snapshot := { (default : Snapshot) with id := 5 }
theorem witness_snapshot : ∃ (s : State), ∃ b x, s.met.snaps.find? (fun x => x.buffer == b && x.coded.isNone && !x.lost) = some x :=
  ⟨{ up with met.snaps := [openSnap] }, 0, openSnap, rfl⟩
theorem witness_snapArchived : ∃ (s : State), ∃ id : U32, (s.met.snaps.any fun x => x.id == id && x.coded.isSome && !x.archived) = true ∧ s.sys.emmcFault = false :=
  ⟨{ up with met.snaps := [{ openSnap with coded := some [] }] }, 5, rfl, rfl⟩
theorem witness_edges : 1 < 2 ∧ (voltSet up 1).freqOut ≠ true ∧ up.met.chanFault.getD 55 true = false ∧
    ∃ s : State, s.met.chanFault.getD 55 false = true :=
  ⟨by decide, by decide +kernel, by decide +kernel, { up with met.chanFault := listSet up.met.chanFault 55 true }, by decide +kernel⟩
/-- Output 7 with these contents, its feedback on input 7, after 1,000 s. -/
def withOutput (x : Contactor) : State :=
  { up with met.outputs := listSet up.met.outputs 7 x, time.cycle := 1000 * cyclesPerSec,
            set.working := tabSet factorySettings secContactor (zeros (144 * 7) ++ ([7, 0, 7, 0] ++ slice (factoryContactor 7) 4 140)) }
theorem witness_fbTimeout : ∀ s, s = withOutput { (default : Contactor) with fbWait := true } → fbClosed s 7 = some false ∧ (output s 7).fbWait = true ∧
    coTimeout (coEntry s 7) ≤ sinceDrive s 7 := by rintro s rfl; decide +kernel
theorem witness_closeSettle : ∀ s, s = { withOutput { (default : Contactor) with closed := true } with sys.inputs := listSet up.sys.inputs 7 { (default : Input) with level := true } } →
    (output s 7).closed = true ∧ positionClosed s 7 = true ∧ (fbClosed s 7).getD true = true ∧ coSettle (coEntry s 7) ≤ settling s 7 := by rintro s rfl; decide +kernel
theorem witness_outFault : (output (withOutput { (default : Contactor) with drive := true }) 7).drive = true := by decide +kernel
theorem witness_input : (up.sys.inputs.getD 7 default).level ≠ true := by decide +kernel
theorem witness_pulse : ∃ s : State, (s.met.dfc.getD 3 default).pulsing = true := ⟨{ up with met.dfc := listSet up.met.dfc 3 { (default : Dfc) with pulsing := true } }, by decide +kernel⟩
theorem witness_harness (st : HarnessState) : (harness (withHarness st) 1).state = st ∧ (harness (withHarness st) 1).retries = 0 := ⟨rfl, rfl⟩
theorem witness_harness_spent : ∃ s : State, (harness s 1).state = .fault ∧ 3 ≤ (harness s 1).retries :=
  ⟨{ up with met.harnesses := listModify up.met.harnesses 1 fun x => { x with state := .fault, retries := 3 } }, by decide +kernel, by decide +kernel⟩
theorem witness_modes (m : MetMode) : ∃ s : State, s.met.mode = m ∧ s.met.testFrom = .recovery := ⟨{ up with met.mode := m, met.testFrom := .recovery }, rfl, rfl⟩

/-! Time. -/

/-- PTP enabled in domain 0, profile `k`, without the transparent clock; port 1 up, with a master there. -/
def ptpUp (k : Byte) : State :=
  { up with set.working := tabSet factorySettings secPtp ([k, 0, 0, 1] ++ slice factoryPtp 4 28),
            net.ports := listModify up.net.ports 1 fun x => { x with link := true } }
def source : Bytes := zeros 9 ++ [1]
def announce : Announce :=
  { domain := 0, source := source, priority1 := 128, clockClass := 6, accuracy := 0, variance := 0, priority2 := 128, grandmaster := zeros 8, steps := 0, utcOffset := 37,
    utcValid := true, timeTraceable := true, leap61 := false, leap59 := false, logInterval := 0 }
def withMaster (k : Byte) : State := { ptpUp k with time.ptp.master := some (1, announce) }
def ptpMsg (twoStep : Bool) : PtpMsg :=
  { domain := 0, source := source, sequence := 7, origin := 5, correction := 0, twoStep := twoStep, stamp := .at 9, requester := [], frame := [] }
/-- `s` after a PTP message of this kind has arrived on port 1. -/
def arrives (k : Nat) (s : State) : State := onPort 1 (fun x => { x with rxFrames := x.rxFrames + 1, rxOctets := x.rxOctets + ptpOctets k }) s
theorem witness_ptpPort : portUp (withMaster 0) 1 = true ∧ ∀ k, blocked (arrives k (withMaster 0)) 1 = false ∧ portPtp (arrives k (withMaster 0)) 1 = true :=
  ⟨by decide +kernel, fun _ => ⟨rfl, by show bit (setU8 (ptpUp 0) secPorts 8) 1 = true; decide +kernel⟩⟩
theorem witness_ptpAnnounce : ptpEn (arrives 11 (ptpUp 0)) = true ∧ announce.domain ≤ 127 ∧ announce.domain = ptpDomain (arrives 11 (ptpUp 0)) := by decide +kernel
theorem witness_ptpSync : ∀ two, ours (arrives 0 (withMaster 0)) (ptpMsg two) = true ∧ ptpTc (arrives 0 (withMaster 0)) = false ∧ (ptpMsg two).stamp = .at 9 ∧
    fromMaster (arrives 0 (withMaster 0)) 1 (ptpMsg two) = true ∧ (ptpMsg two).twoStep = two := by intro two; cases two <;> exact ⟨rfl, rfl, rfl, rfl, rfl⟩
theorem witness_ptpFollowUp : ∃ s : State, s = { withMaster 0 with time.ptp.sync := some (1, 7, 9, none, 0) } ∧ ours (arrives 8 s) (ptpMsg true) = true ∧
    ptpTc (arrives 8 s) = false ∧ fromMaster (arrives 8 s) 1 (ptpMsg true) = true ∧ (arrives 8 s).time.ptp.sync = some (1, 7, 9, none, 0) := ⟨_, rfl, rfl, rfl, rfl, rfl⟩
theorem witness_ptpDelayResp : ∃ (s : State), ∃ a, a = arrives 9 s ∧ ours a (ptpMsg false) = true ∧
    a.time.ptp.reqTransit.find? (fun r => r.1 == (ptpMsg false).requester && r.2.1 == (ptpMsg false).sequence) = none ∧ a.time.ptp.delayReq = some (7, 20) ∧
    a.time.ptp.t21 = some 4 ∧ a.time.ptp.sync = some (1, 6, 9, some 5, 0) ∧ fromMaster a 1 (ptpMsg false) = true :=
  ⟨{ withMaster 0 with time.ptp := { (withMaster 0).time.ptp with delayReq := some (7, 20), t21 := some 4, sync := some (1, 6, 9, some 5, 0) } }, _, rfl, rfl, rfl, rfl, rfl, rfl, rfl⟩
theorem witness_ptpPdelay : ∃ (s : State), ∃ a, a = arrives 3 s ∧ ours a (ptpMsg false) = true ∧ ptpProfile a = 1 ∧ (ptpMsg false).stamp = .at 9 ∧
    tabGet a.time.ptp.pdelay 1 = some (3, (ptpMsg false).sequence) :=
  ⟨{ ptpUp 1 with time.ptp := { (ptpUp 1).time.ptp with pdelay := [(1, (3, 7))] } }, _, rfl, by decide +kernel, by decide +kernel, rfl, by decide +kernel⟩
theorem witness_ptpAsks : (∀ k ∈ [0, 1], (withMaster k).time.ptp.master = some (1, announce) ∧ ptpEn (withMaster k) = true ∧ ptpProfile (withMaster k) = k.toNat ∧
    forwarding (withMaster k) 1 = true ∧ portPtp (withMaster k) 1 = true) := by
  intro k h; simp only [List.mem_cons, List.not_mem_nil, or_false] at h
  rcases h with rfl | rfl <;> exact ⟨rfl, by decide +kernel, by decide +kernel, by decide +kernel, by decide +kernel⟩
def queued : TxStamp := { id := 4, port := 1, stamp := 9, cycle := 0 }
theorem witness_txq : ∃ (s : State), ∃ k, s.time.ptp.txq = [queued] ∧ transitOf s queued.id = some k :=
  ⟨{ up with time.ptp := { up.time.ptp with txq := [queued], transit := [⟨source, 7, 1, 3, [(4, 1)], [], none⟩] } }, 0, rfl, by decide +kernel⟩
theorem witness_txq_unknown : ∃ s : State, s.time.ptp.txq = [queued] ∧ transitOf s queued.id = none :=
  ⟨{ up with time.ptp := { up.time.ptp with txq := [queued] } }, rfl, by decide +kernel⟩
theorem witness_txq_old : ∃ s : State, s.time.ptp.txq = [queued] ∧ cyclesPerSec ≤ s.time.cycle - queued.cycle :=
  ⟨{ up with time.cycle := cyclesPerSec, time.ptp.txq := [queued] }, rfl, by decide⟩
theorem witness_txq_full : ∃ s : State, s.time.ptp.master = some (1, announce) ∧ 16 ≤ s.time.ptp.txq.length :=
  ⟨{ withMaster 0 with time.ptp.txq := List.replicate 16 queued, time.ptp.master := some (1, announce) }, rfl, by decide⟩
theorem witness_ownStamp : (∃ t : State, t.time.ptp.delayWait = some (7, queued.id) ∧ tabGet t.time.ptp.pdelayWait queued.port = none) ∧
    ∃ t : State, t.time.ptp.delayWait = none ∧ tabGet t.time.ptp.pdelayWait queued.port = some (7, queued.id) :=
  ⟨⟨{ up with time.ptp.delayWait := some (7, 4) }, rfl, rfl⟩, { up with time.ptp.pdelayWait := [(1, (7, 4))] }, rfl, by decide +kernel⟩
theorem witness_ptpPdelayRx : ours (arrives 2 (ptpUp 1)) (ptpMsg false) = true ∧ ptpProfile (arrives 2 (ptpUp 1)) = 1 ∧ (ptpMsg false).stamp = .at 9 :=
  ⟨by decide +kernel, by decide +kernel, rfl⟩
theorem witness_leap : ∃ (s : State), ∃ d, d = s.time.ptp.leapPending ∧ d ≠ 0 ∧ utcFromPtp s = true :=
  ⟨{ up with time := { up.time with servo.traceable := true, ptp := { up.time.ptp with leapPending := -1, utcFromPtp := true } } }, -1, rfl, by decide, by decide +kernel⟩

/-- The 1PPS input enabled and used. -/
def ppsUp : State := { up with set.working := tabSet factorySettings secPps ([1, 5] ++ zeros 6) }
theorem witness_ppsIn : ppsInEn ppsUp = true ∧ ppsUp.time.pps.inLost = false ∧
    (∀ ns ∈ [900000000, 1100000000], (decide (100000000 < (fromSecond ((ns : Nat) - cableDelay ppsUp)).natAbs)) = false) ∧
    (∀ ns ∈ [899999999, 1100000001], (decide (100000000 < (fromSecond ((ns : Nat) - cableDelay ppsUp)).natAbs)) = true) := by
  refine ⟨by decide +kernel, rfl, ?_, ?_⟩ <;> decide +kernel
theorem witness_ppsOut : ∃ s : State, running s = true ∧ ((ppsMode s = 1 ∧ s.time.servo.traceable = true) ∨ 2 ≤ ppsMode s) :=
  ⟨{ up with time.servo.traceable := true }, rfl, .inl ⟨by decide +kernel, rfl⟩⟩
theorem witness_holdover : ∃ s : State, s.time.servo.state = .holdover := ⟨{ up with time.servo.state := .holdover }, rfl⟩
theorem witness_clockMonitor : 5000 < absDiff 25005001 25000000 ∧ ¬(5000 < absDiff 25005000 25000000) ∧ up.time.refBad + 1 < 3 ∧
    ∃ s : State, 3 ≤ s.time.refBad + 1 ∧ s.time.refFault = false := ⟨by decide, by decide, by decide, { up with time.refBad := 2 }, by decide, rfl⟩
theorem witness_soc : socRuns up = true ∧ running up = true := by decide +kernel
theorem witness_rtcAlign : ∃ (s : State), ∃ e : Int, e = (s.rtc.tick : Int) - (baseTicks s : Int) ∧ s.time.servo.traceable = true ∧ s.rtc.shiftTotal = 0 ∧ s.rtc.load = none ∧
    (32767 < e.natAbs ∨ s.rtc.lost = true) := ⟨{ up with time.servo.traceable := true }, _, rfl, rfl, rfl, rfl, .inr rfl⟩
theorem witness_rtcAlign_near : ∃ (s : State), ∃ e : Int, e = (s.rtc.tick : Int) - (baseTicks s : Int) ∧ s.time.servo.traceable = true ∧ s.rtc.shiftTotal = 0 ∧ s.rtc.load = none ∧
    ¬(32767 < e.natAbs ∨ s.rtc.lost = true) :=
  ⟨{ up with time.servo.traceable := true, rtc := { up.rtc with lost := false, tick := 32767 } }, _, rfl, rfl, rfl, rfl, by decide +kernel⟩
theorem witness_rtcLoad (l : RtcLoad) : ∃ s : State, s.rtc.load = some l := ⟨{ up with rtc.load := some l }, rfl⟩
theorem witness_rtcShiftDone : ∃ s : State, s.rtc.shiftTotal ≠ 0 ∧ s.rtc.shiftLeft = 0 := ⟨{ up with rtc.shiftTotal := -32767 }, by decide, rfl⟩
theorem witness_alarm : ∃ s : State, (alarm s 1).en = true ∧ (alarm s 1).inRun = false ∧ alarmMatches (alarm s 1) s.rtc.tick (wdayNow s.rtc) = true :=
  ⟨{ up with rtc.alarms := [default, { (default : Alarm) with en := true, wday := 7 }] }, by decide +kernel, by decide +kernel, by decide +kernel⟩
theorem witness_backup : (∃ s : State, s.rtc.onBackup = true) ∧ mainOff up = false ∧ mainOff State.reset = true ∧ ¬(chargerProfile up = 1 ∨ chargerProfile up = 2) ∧
    ∃ s : State, chargerProfile s = 2 :=
  ⟨⟨{ up with rtc.onBackup := true }, rfl⟩, rfl, rfl, by decide +kernel, { up with set.working := tabSet factorySettings secCharger [2, 0, 0, 0] }, by decide +kernel⟩
/-! The panel and the network. -/

theorem witness_keys : running up = true ∧ lockMode up ≠ 2 ∧ up.pnl.displayOn = false ∧ running State.reset = false := by decide +kernel
theorem witness_keyHeld : ∃ s : State, (∀ k < 2, s.pnl.keysNow.getD k false = true) ∧ running s = true ∧ s.pnl.displayOn = true ∧ lockMode s ≠ 2 ∧
    s.pnl.keysNow.getD 5 false = true ∧ s.pnl.lockout = true :=
  ⟨{ up with pnl := { up.pnl with keysNow := List.replicate 8 true, displayOn := true, lockout := true } }, by decide +kernel, rfl, rfl, by decide +kernel, by decide +kernel, rfl⟩
def aTest : PanelTest := { mailbox := 0, test := 1, until_ := 9, seen := 0 }
theorem witness_testEnd : ∃ s : State, s.pnl.test = some aTest ∧ runningCmd (post 0x0947 0 (le8 1 ++ le8 0) { s with pnl.test := none }) 0 = none :=
  ⟨{ up with pnl.test := some aTest }, rfl, by rfl⟩
theorem witness_testEnd_command : ∃ (s : State), ∃ c, s.pnl.test = some aTest ∧ runningCmd (post 0x0947 0 (le8 1 ++ le8 0) { s with pnl.test := none }) 0 = some c ∧
    c.opcode = 0x0B05 := ⟨exe { up with pnl.test := some aTest } 0x0B05 [], cmd 0x0B05 [], rfl, by rfl, rfl⟩
theorem witness_usb : up.pnl.vbus = false ∧ ∃ s : State, s.pnl.vbus = true ∧ usbMode s = 1 ∧ running s = true :=
  ⟨rfl, { up with pnl.vbus := true, set.working := tabSet factorySettings secPanel ([0, 1] ++ zeros 54) }, rfl, by decide +kernel, rfl⟩

def withPort (p : Nat) (f : SwPort → SwPort) : State := { up with net.ports := listModify up.net.ports p f }
theorem witness_linkUp : (port up 5).link = false ∧ portEn up 5 = true ∧ speedFits up 5 3 = true ∧
    speedFits (withPort 1 fun x => { x with sfp := .accepted, speed := 4 }) 1 4 = true ∧
    ∀ s, s = { up with time.plls := List.replicate 12 true } → ∀ p < 6, portClocked s p = true := by
  refine ⟨by decide +kernel, by decide +kernel, by decide +kernel, by decide +kernel, ?_⟩
  rintro s rfl; decide +kernel
theorem witness_sfp (st : SfpState) : (port (withPort 1 fun x => { x with sfp := st }) 1).sfp = st := rfl
def sfpId (tenGig : Bool) : SfpId := { readable := true, isSfp := true, tenGig := tenGig, oneGig := false, rateSelect := false, power := 15, part := [] }
theorem witness_sfpJudge : sfpJudge 0 (sfpId true) = .ok 4 ∧ sfpJudge 0 (sfpId false) = .error 1 := ⟨rfl, rfl⟩

/-- A frame of 1,522 octets to a unicast or broadcast address. -/
def ether (group : Bool) : EthFrame :=
  { fcsOk := true, dst := if group then ones 6 else zeros 6, src := zeros 6, vid := none, pcp := 0, etherType := 0x0800, length := 1522, payload := [] }
/-- Port 5 up, its storm limit 10 ms⁻¹. -/
def lanUp : State := withPort 5 fun x => { x with link := true }
theorem witness_ether : portUp lanUp 5 = true ∧ isRaps (ether false) = false ∧ (ether false).length ≤ 1522 ∧ ∀ t, t = countRx 5 (ether false) lanUp →
    blocked t 5 = false ∧ bit (vlanMembers t (frameVid t 5 (ether false))) 5 = true ∧ stormAllows t 5 (ether false) = true ∧
    bit (vlanMembers t 4094) 5 = false := by
  refine ⟨by decide +kernel, rfl, by decide, ?_⟩
  rintro t rfl; decide +kernel
theorem witness_ether_storm : ∃ s : State, portUp s 5 = true ∧ ∀ t, t = countRx 5 (ether true) s → stormAllows t 5 (ether true) = false :=
  ⟨withPort 5 fun x => { x with link := true, storm := List.replicate 1000 0 }, by decide +kernel, by rintro t rfl; decide +kernel⟩
theorem witness_ether_blocked : ∃ s : State, portUp s 1 = true ∧ ∀ t, t = countRx 1 (ether false) s → blocked t 1 = true :=
  ⟨{ withPort 1 (fun x => { x with link := true }) with net := { (withPort 1 (fun x => { x with link := true })).net with ring := { coldRing with blocked := [false, true] } } },
   by decide +kernel, by rintro t rfl; decide +kernel⟩
def raps (me : Bytes) : Raps := { request := 0xB, subcode := 0, rplBlocked := false, doNotFlush := false, bpr := 0, nodeId := me }
/-- A message of the node's own; one of another node exists too, as a base MAC address is one of many. -/
theorem witness_raps_own : portUp (withPort 1 fun x => { x with link := true }) 1 = true ∧ ((raps Config.baseMac).nodeId == Config.baseMac) = true :=
  ⟨by decide +kernel, by simp [raps]⟩
theorem witness_raps : ∃ me, ∀ u : State, u.net.ring.guard_ = false → (u.net.ring.guard_ || (raps me).nodeId == Config.baseMac) = false ∧ ∃ e, rapsEvent (raps me) = some e := by
  refine ⟨[], fun u h => ⟨?_, .rapsSf, rfl⟩⟩
  rw [h]; simp [raps, Config.baseMac, Config.octets]
theorem witness_rapsTx : ∃ (s : State), ∃ r, s.net.ring.tx = some r ∧ s.net.ring.wtr = true :=
  ⟨{ up with net := { up.net with ring := { coldRing with tx := some ⟨0, true, false⟩, wtr := true } } }, ⟨0, true, false⟩, rfl, rfl⟩

/-! Stores, power and the start. -/

def aBatch : TabBatch := { seq := 4, mailbox := 0, staged := [], bytes := 0 }
theorem witness_batch : ∃ (s : State), ∃ b, s.tab.batch = some b := ⟨{ up with tab.batch := some aBatch }, aBatch, rfl⟩
theorem witness_groundLoad : ∃ s : State, (loadOf s 1023).isSome = true := ⟨{ up with tab.loads := [{ (default : GroundLoad) with seg := 1023 }] }, by decide +kernel⟩
theorem witness_groundVerified : ∃ (s : State), ∃ g m, s.tab.commits.find? (fun g => g.seg == 1023 && g.begun) = some g ∧
    (upTo 16).find? (fun m => (runningCmd s m).any fun c => c.seq == g.seq) = some m ∧ m ≠ 16 ∧
    generationHeld { s with tab.commits := s.tab.commits.filter fun k => k.seq != g.seq } 1023 g.ground.generation = false :=
  ⟨exe { up with tab.commits := [⟨5, 1023, someGround, true⟩] } 0x0252 [], ⟨5, 1023, someGround, true⟩, 0, by decide +kernel, by decide +kernel, by decide, by decide +kernel⟩
theorem witness_persist : ∃ (s : State), ∃ e, s.tab.unpersisted.find? (fun e => e.1 == 5) = some e ∧ s.sys.bankOk.getD 0 false = true :=
  ⟨{ up with tab.unpersisted := [(5, [.clear 0])], sys := { up.sys with bankOk := [true, true] } }, (5, [.clear 0]), rfl, rfl⟩
theorem witness_reload : ∃ s : State, s.tab.reload.head? = some 1023 ∧ s.sys.emmcFault = false := ⟨{ up with tab.reload := [1023] }, rfl, rfl⟩
def aStore : Store := { mailbox := 0, seq := 5, captured := some factorySettings, generation := 3, stitch := 0 }
theorem witness_store : ∃ (s : State), ∃ x rest t, s.set.stores = x :: rest ∧ x.captured = some t := ⟨{ up with set.stores := [aStore] }, aStore, [], factorySettings, rfl, rfl⟩
theorem witness_resultCopy : ∃ (s : State), ∃ (q : U32) (live : Nat → Bool), live = (fun k : Nat => s.jnl.log.any fun i => i.live && i.entry.any fun e => e.seq == q && e.kind == k) ∧
    ((live jkEffect || live jkDone) && !live jkCommand && !s.sys.emmcFault) = true :=
  ⟨{ up with jnl.log := [⟨some ⟨5, 6, 0, 0, []⟩, 32, true⟩] }, 5, _, rfl, by decide +kernel⟩
theorem witness_phases (p : Phase) : ∃ s : State, s.sys.phase = p := ⟨{ up with sys.phase := p }, rfl⟩
theorem witness_planned : ∃ (s : State), ∃ p, s.sys.pendingReset = some p ∧ running s = true ∧ serialAtOrBefore p.boundary (nextStitch s) = true :=
  ⟨{ up with sys.pendingReset := some (resetAt 1) }, resetAt 1, rfl, rfl, by decide⟩
theorem witness_a0 : (running up = true ∧ up.mbx.a0Running = true) ∧ ∃ s : State, running s = true ∧ s.mbx.a0Running = false := ⟨⟨rfl, rfl⟩, { up with mbx.a0Running := false }, rfl, rfl⟩
theorem witness_parts : up.sys.diesLost.contains 1 = false ∧ (∃ s : State, s.sys.bankOk.getD 1 false = true) ∧ decide (149 < 150) ≠ up.sys.holdupLow ∧ decide (150 < 150) = up.sys.holdupLow :=
  ⟨rfl, ⟨{ up with sys := { up.sys with bankOk := [true, true] } }, rfl⟩, by decide, by decide⟩

/-! Mailboxes, boundaries and commits. -/

theorem witness_tls : bindingOf up [] = none ∧ ∃ (s : State), ∃ cred m, bindingOf s cred = some m ∧ (box s m).session = .closed :=
  ⟨by decide +kernel, { up with sec.prot := slice factoryProtection 0 32 ++ [0, 0, 1, 0] ++ zeros 4 ++ ones 32 ++ zeros 8 ++ slice factoryProtection 80 720 }, ones 32, 0, by decide +kernel, by decide +kernel⟩
theorem witness_tls_replaced : ∃ (s : State), ∃ cred m, bindingOf s cred = some m ∧ (box s m).session ≠ .closed :=
  ⟨{ up with sec.prot := slice factoryProtection 0 32 ++ [0, 0, 1, 0] ++ zeros 4 ++ ones 32 ++ zeros 8 ++ slice factoryProtection 80 720,
             mbx.boxes := listModify up.mbx.boxes 0 fun b => { b with session := .opened } }, ones 32, 0, by decide +kernel, by decide +kernel⟩
theorem witness_session : ∃ s : State, (box s 13).session ≠ .closed ∧ s.mbx.maintUntil.isSome = true :=
  ⟨{ up with mbx := { up.mbx with boxes := listModify up.mbx.boxes 13 fun b => { b with session := .opened }, maintUntil := some 5 } }, by decide +kernel, rfl⟩
/-- A well-formed request of mailbox `m` with this payload. -/
def request (m : Nat) (p : Bytes) : Request :=
  { session := m, magic := 0x5047, version := 3, mailbox := m, flags := 8, seq := 0, tag := 7, length := p.length, status := 0, payload := p, framed := true }
/-- The service port at its login. -/
def atLogin (st : SessionState) (nonce : Option Bytes) : State :=
  { up with mbx := { up.mbx with boxes := listModify up.mbx.boxes 14 fun b => { b with session := st }, nonce := nonce } }
theorem witness_login : ∀ st ∈ [SessionState.loginWait, .opened], ∀ op ∈ [0x0801, 0x0802], a0Takes (atLogin st (some [])) 14 = true ∧
    kindOf (request 14 []).flags = kRequest ∧ headerCheck 14 (messageOf op (request 14 [])) = .ok ∧ (box (atLogin st (some [])) 14).session = st := by decide +kernel
/-- A request with the right proof, and one with no nonce before it. -/
theorem witness_login_proof : ∃ p : Bytes, p.length = 32 ∧ p = Config.hmacSha256 (atLogin .loginWait (some [])).sec.service ([] ++ Config.eui64) ∧
    headerCheck 14 (messageOf 0x0802 (request 14 p)) = .ok := by
  refine ⟨_, by simp [Config.hmacSha256, Config.octets], rfl, ?_⟩
  generalize hp : Config.hmacSha256 _ _ = p
  have hl : p.length = 32 := by rw [← hp]; simp [Config.hmacSha256, Config.octets]
  simp [headerCheck, messageOf, request, kindOf, kRequest, kSlotRead, repeatOf, flagsClean, hl]
  decide
theorem witness_login_other : headerCheck 14 (messageOf 0x0802 (request 14 (zeros 32))) = .ok ∧ (zeros 32).length = 32 ∧ (atLogin .loginWait none).mbx.nonce = none := by decide +kernel
theorem witness_login_elsewhere : ∃ s : State, a0Takes s 0 = true ∧ ∀ op ∈ [0x0801, 0x0802], headerCheck 0 (messageOf op (request 0 [])) = .ok :=
  ⟨exe up 0x0104 [], by decide +kernel, by decide +kernel⟩

/-- Mailbox 14 open, under the factory protection table. -/
def usbUp : State := atLogin .opened none
theorem witness_request : mailboxRow (.sysNop (.request (request 14 []))) = some (sysNop, .request (request 14 [])) ∧ Clear usbUp 14 sysNop.needs (messageOf 0x0104 (request 14 [])) ∧
    allowed usbUp 14 sysNop.needs = true ∧ sysNop.check 14 [] usbUp = none ∧ 14 < usbUp.mbx.boxes.length ∧ (box usbUp 14).answers = [] := by
  refine ⟨rfl, ⟨by decide, by decide +kernel, by decide +kernel, by decide +kernel, by decide +kernel, by decide +kernel⟩, by decide +kernel, by decide +kernel, by decide +kernel, by decide +kernel⟩
theorem witness_request_checks : sysNop.check 14 [0] usbUp = some (stBadPayload, []) ∧ allowed (atLogin .loginWait none) 14 .rootMaint = false ∧
    headerCheck 14 { messageOf 0x0104 (request 14 []) with version := 2 } = .discard ∧ headerCheck 0 { messageOf 0x0104 (request 0 []) with magic := 0 } = .close ∧
    (∃ d, headerCheck 0 { messageOf 0x0104 (request 0 []) with version := 2 } = .refuse stBadVersion d) := ⟨rfl, by decide +kernel, by decide +kernel, by decide +kernel, _, rfl⟩
/-- Mailbox 14 with tag 7 used by an earlier command, committed or not. -/
def tagged (committed : Bool) : State :=
  { usbUp with mbx.boxes := listModify usbUp.mbx.boxes 14 fun b => { b with tags := [⟨7, 0x0104, payloadCrc [], 5, 0, committed⟩] } }
theorem witness_duplicate : ∀ committed, tagMatch (box (tagged committed) 14) 7 = some ⟨7, 0x0104, payloadCrc [], 5, 0, committed⟩ := by intro c; cases c <;> decide +kernel
theorem witness_loader : ∃ s : State, s.sys.phase = .loader ∧ a0Takes s 14 = true ∧ sysNop.loader = false := ⟨{ usbUp with sys.phase := .loader }, rfl, by decide +kernel, rfl⟩
theorem witness_unknown : ∃ h : Message, a0Takes usbUp 14 = true ∧ kindOf h.flags = kRequest ∧ headerCheck 14 h = .ok ∧ h.opcode = 0xFFFF :=
  ⟨messageOf 0xFFFF (request 14 []), by decide +kernel, by decide +kernel, by decide +kernel, rfl⟩
/-- A SLOT_READ of sequence 5. -/
def slotRead : Message := { messageOf 0 (request 14 []) with flags := BitVec.ofNat 32 kSlotRead, seq := 5 }
theorem witness_slotRead : a0Reads usbUp 14 = true ∧ headerCheck 14 slotRead = .ok ∧ kindOf slotRead.flags = kSlotRead := by decide +kernel
def withBox (f : Mailbox → Mailbox) : State := { usbUp with mbx.boxes := listModify usbUp.mbx.boxes 14 f }
theorem witness_slotRead_pending : ∀ p ∈ [CmdPhase.waiting, .running, .finishing, .held], ∃ (s : State), ∃ c,
    (box s 14).cmds.find? (fun c => c.seq == 5 && c.phase != .batched && (tagOf (box s 14) 5).any (·.committed)) = some c ∧ c.phase = p := by
  intro p h
  refine ⟨withBox fun b => { b with cmds := [{ cmd 0x0104 [] with phase := p }], tags := [⟨7, 0x0104, payloadCrc [], 5, 0, true⟩] }, { cmd 0x0104 [] with phase := p }, ?_, rfl⟩
  simp only [List.mem_cons, List.not_mem_nil, or_false] at h
  rcases h with rfl | rfl | rfl | rfl <;> decide +kernel
theorem witness_slotRead_kept (lost : Bool) : ∃ (s : State), ∃ x, (box s 14).slots.find? (fun x => x.seq == 5) = some x ∧ (x.lost || (x.copied && s.jnl.resultsDown)) = lost :=
  ⟨withBox fun b => { b with slots := [⟨5, 0x0104, 7, 0, [], lost, false, 0⟩] }, ⟨5, 0x0104, 7, 0, [], lost, false, 0⟩, by rfl, by cases lost <;> rfl⟩
theorem witness_slotRead_released : ∃ s : State, (box s 14).released.contains 5 = true := ⟨withBox fun b => { b with released := [5] }, by decide +kernel⟩
theorem witness_boundary : boundaryFree up = true ∧ boundaryFree State.reset = false ∧ up.jnl.committing = none ∧ periodDue up = none ∧
    ∃ s : State, boundaryFree s = true ∧ periodDue s = some 50 := ⟨by decide +kernel, by decide +kernel, rfl, rfl, { up with stitch.newPeriod := some (50, 0) }, by decide +kernel, by decide +kernel⟩
theorem witness_boundary_steps : ∀ step ∈ [(10000000 : Int), 10000001, -10000001], ∃ s : State, boundaryFree s = true ∧ s.stitch.step = step ∧
    (step.natAbs ≤ s.stitch.period * 500000 ↔ step = 10000000) := by
  intro step h
  refine ⟨{ up with stitch.step := step }, rfl, rfl, ?_⟩
  simp only [List.mem_cons, List.not_mem_nil, or_false] at h
  rcases h with rfl | rfl | rfl <;> decide +kernel
theorem witness_commit : ∃ (s : State), ∃ b, s.jnl.committing = some b ∧ s.jnl.copy0Ok = true ∧ s.jnl.copy1Ok = true :=
  ⟨{ up with jnl := { up.jnl with committing := some ⟨[], true⟩, copy0Ok := true, copy1Ok := true } }, ⟨[], true⟩, rfl, rfl, rfl⟩
theorem witness_batchCommit : ∃ s : State, running s = true ∧ s.jnl.committing = none ∧ 4096 < batchBytes s.jnl.batch :=
  ⟨{ up with jnl.batch := [⟨1, 1, 0, 0, zeros 4096⟩] }, rfl, rfl, by decide +kernel⟩
theorem witness_tableRead : bit (rightsOf usbUp 14) 2 = true ∧ ∀ p ∈ [[0, 36, 1, 0, 3, 0, 0, 0]], slice p 5 3 = zeros 3 ∧ 9216 < u16At p 0 + u16At p 2 ∧
    Clear usbUp 14 tabPinRead.needs (messageOf 0x0204 (request 14 p)) := by
  refine ⟨by decide +kernel, ?_⟩
  intro p h
  simp only [List.mem_cons, List.not_mem_nil, or_false] at h
  subst h
  exact ⟨by decide, by decide, by decide, by decide +kernel, by decide +kernel, by decide +kernel, by decide +kernel, by decide +kernel⟩
theorem witness_period : ∃ (s : State), ∃ x rest t p, s.set.stores = x :: rest ∧ x.captured = some t ∧ p = u16At (tabGetD t 1 []) 0 ∧
    p ≠ u16At (tabGetD (storedSections s) 1 []) 0 ∧ p ≠ s.stitch.period :=
  ⟨{ up with set.stores := [{ aStore with captured := some (tabSet factorySettings 1 [50, 0]) }] }, _, [], _, 50, rfl, rfl, by decide +kernel, by decide +kernel, by decide +kernel⟩
theorem witness_periodRequest : ∃ (s : State), ∃ r : Request, bit (rightsOf s r.session) 1 = true ∧ r.payload.length = 4 ∧ slice r.payload 2 2 = zeros 2 ∧
    u16At r.payload 0 ∉ [10, 20, 25, 40, 50] ∧ headerCheck r.session (messageOf 0x0108 r) = .ok := ⟨usbUp, request 14 [30, 0, 0, 0], by decide +kernel, rfl, by decide, by decide, by decide +kernel⟩
theorem witness_order : ∃ (s : State), ∃ done rest, (box s 14).cmds = done ++ rest ∧ done ≠ [] ∧ rest ≠ [] ∧ (∀ c ∈ done, c.phase = .held) ∧
    (∀ c, rest.head? = some c → c.phase ≠ .held) ∧ ((done ++ rest).map (·.seq)).Nodup ∧ (box s 14).session ≠ .closed ∧ s.mbx.a0Running = true :=
  ⟨withBox fun b => { b with cmds := [{ cmd 0x0104 [] with phase := .held }, { cmd 0x0104 [] with seq := 6 }] }, [{ cmd 0x0104 [] with phase := .held }], [{ cmd 0x0104 [] with seq := 6 }],
   by decide +kernel, by decide, by decide, by simp, by intro c h; cases h; decide, by decide +kernel, by decide +kernel, rfl⟩
/-! Ill-formed terms: one for each check, which the check refuses. -/

def message : Message := messageOf 0 (request 0 [])
def imageCheck : ImageCheck := { present := true, signatureOk := true, product := 0x8640, headerVersion := 1, hashOk := true, version := 1, securityVersion := 0 }
def found : RestoreFound :=
  { settings0 := true, settings1 := true, protection0 := true, protection1 := true, journal0 := true, journal1 := true, saveA := true, saveB := true, saveLg := true,
    resultStore := true, corruptSlots := 0, badPins := [], tables0 := true, tables1 := true }
theorem test_illFormed_1 : ∀ i ∈ ([.softDeadlinePass 1024,
    .taskDispatch 9,
    .heldSourceRelease 9,
    .scheduleEvaluation 36,
    .solveAndRepair 1024,
    .darning 1024,
    .mailboxCommandExecution 16,
    .coursePlanning 4,
    .courseRun 4,
    .raptorqEncoding 256,
    .skeinPushCont 128 0 0,
    .skeinPushCont 0 31 0,
    .skeinPushEnd 128 0 1 0,
    .skeinPushEnd 0 31 1 0,
    .skeinPushEnd 0 0 5 0,
    .skeinHeldWrite 128,
    .skeinHeldNotice 128,
    .skeinWriteAbandon 128,
    .skeinReadAbandon 128,
    .jnlRebuild 128,
    .bobStart 32,
    .bobStop 32 true,
    .bobRequest 32 true] : List Instr), i.wellFormed = false := by decide +kernel
theorem test_illFormed_2 : ∀ i ∈ ([.bobPulseRelease ⟨32, .ok, .ok⟩,
    .alarmStatusClear 2 0,
    .ringCmdForced 2,
    .ringCmdManual 2,
    .ringCmdClear 2,
    .netSettingsWindowWrite 65536 0,
    .registerWrite 4294967296 0,
    .sessionClose 16,
    .groundCommitVerified 1024 true,
    .tabGroundDiscard 1024,
    .chainBoardSilent 128,
    .ntcFault 128,
    .enhAckSend 4,
    .enhAckTimeout 4,
    .receiveWindowEnd 8192 true,
    .probeDue 8192,
    .pinSilent 8192,
    .dutyBinRoll 4,
    .shuttleFault 4 0,
    .shuttleFault 0 256,
    .laceFault 8 0,
    .laceFault 0 256,
    .ocInstDetect 12 0 [],
    .ocInstDetect 0 56 []] : List Instr), i.wellFormed = false := by decide +kernel
theorem test_illFormed_3 : ∀ i ∈ ([.ocInstDetect 0 0 (List.replicate 10001 true),
    .feederRearm 12,
    .freqOut 2 true,
    .chanFault 56,
    .chanOk 56,
    .decOverrun 2 true,
    .contactorFbTimeout 8,
    .contactorCloseSettle 8,
    .contactorOutFault 8,
    .digitalInputChange 8 true,
    .dfcPulseEnd 8,
    .harnessInserted 2,
    .harnessPowered 2,
    .harnessSettled 2,
    .harnessRemoved 2,
    .harnessUnexpected 2,
    .harnessSupplyFault 2,
    .harnessFaultRetry 2,
    .spanRecordDue 12,
    .rtcAlarm 2,
    .keyPress 8,
    .keyRelease 8,
    .keyRepeat 8,
    .linkUp 6 1] : List Instr), i.wellFormed = false := by decide +kernel
theorem test_illFormed_4 : ∀ i ∈ ([.linkUp 0 5,
    .linkDown 6,
    .sfpInsert 2,
    .sfpPowered 2,
    .sfpOut 2,
    .groundReloadDone 1024 true,
    .dramDieLost 2,
    .mramBankFault 2,
    .skeinPop 128 0 .ok,
    .skeinPop 0 31 .ok,
    .skeinPushEnd 0 0 0 0,
    .bobBurstDone 32 .ok,
    .bobTransferEnd 32 ⟨.ok, .ok⟩,
    .telemetryDecode ⟨4, .ok⟩,
    .pllLockLoss (.e 6),
    .pllRelock (.e 6),
    .netSettingsWindowWrite 2 0,
    .slotRead 16 message,
    .slotRead 0 { message with magic := 65536 },
    .foreignBeacon 4 0,
    .halfCycleEnd 2 [],
    .meteringBlock 2 [],
    .meteringBlock 0 (List.replicate 27 []),
    .meteringBlock 0 (List.replicate 28 [true]),
    .snapshotComplete 16 []] : List Instr), i.wellFormed = false := by decide +kernel
theorem test_illFormed_5 : ∀ i ∈ ([.snapshotComplete 0 (List.replicate 9 []),
    .measurementWindowClose 2 [],
    .ptpSync 7 (ptpMsg true),
    .ptpFollowUp 7 (ptpMsg true),
    .ptpDelayResp 7 (ptpMsg true),
    .ptpPdelayReq 7 .lost,
    .ptpPdelayReqRx 7 (ptpMsg true),
    .ptpPdelayResp 7 (ptpMsg true),
    .ptpSync 0 { ptpMsg true with domain := 256 },
    .ptpFollowUp 0 { ptpMsg true with source := [] },
    .ptpDelayResp 0 { ptpMsg true with sequence := 65536 },
    .ptpPdelayReqRx 0 { ptpMsg true with domain := 256 },
    .ptpPdelayResp 0 { ptpMsg true with domain := 256 },
    .ptpAnnounce 7 announce,
    .ptpAnnounce 0 { announce with domain := 256 },
    .linkUp 0 0,
    .sfpIdentified 2 (sfpId true),
    .sfpIdentified 0 { sfpId true with power := 256 },
    .ethernetFrame 6 (ether false),
    .ethernetFrame 0 { ether false with pcp := 8 },
    .fdbAge 4096 (zeros 6),
    .fdbAge 0 [],
    .rapsFrame 2 (raps (zeros 6))] : List Instr), i.wellFormed = false := by decide +kernel
theorem test_illFormed_6 : ∀ i ∈ ([.rapsFrame 0 (raps []),
    .unknownOpcodeRequest 16 message,
    .unknownOpcodeRequest 0 { message with version := 256 },
    .tlsSessionOpen [],
    .chainShiftDone (List.replicate 131 0),
    .chainScan (List.replicate 3 []) [],
    .chainScan (List.replicate 4 (List.replicate 131 0)) [],
    .chainScan (List.replicate 4 []) [256],
    .uplinkPoll { frame false 1 [] with shuttle := 4 },
    .uplinkReport { frame false 1 [] with keyIndex := 256 },
    .uplinkImageState { frame false 1 [] with payload := zeros 2048 },
    .nodeEnhAck { frame true 1 [] with shuttle := 4 },
    .boot { imageCheck with product := 65536 } imageCheck,
    .boot imageCheck { imageCheck with headerVersion := 65536 },
    .restore { found with badPins := [8192] },
    .sysNop (.run 16),
    .sysNop (.request { request 0 [] with session := 16 })] : List Instr), i.wellFormed = false := by decide +kernel
theorem test_illFormed_message : message.wellFormed = true ∧ ∀ h ∈ [{ message with magic := 65536 }, { message with version := 256 }, { message with mailbox := 256 },
    { message with opcode := 65536 }, { message with length := 4294967296, framed := false }, { message with status := 65536 }, { message with length := 1 }],
    h.wellFormed = false := by decide +kernel
theorem test_illFormed_request : (request 0 []).wellFormed = true ∧ ∀ h ∈ [{ request 0 [] with magic := 65536 }, { request 0 [] with version := 256 }, { request 0 [] with mailbox := 256 },
    { request 0 [] with length := 4294967296, framed := false }, { request 0 [] with status := 65536 }, { request 0 [] with length := 1 }], h.wellFormed = false := by decide +kernel
theorem test_illFormed_announce : announce.wellFormed = true ∧ ∀ a ∈ [{ announce with source := [] }, { announce with priority1 := 256 }, { announce with clockClass := 256 },
    { announce with accuracy := 256 }, { announce with variance := 65536 }, { announce with priority2 := 256 }, { announce with grandmaster := [] }, { announce with steps := 65536 }],
    a.wellFormed = false := by decide +kernel
theorem test_illFormed_network : (ether false).wellFormed = true ∧ (∀ f ∈ [{ ether false with dst := [] }, { ether false with src := [] }, { ether false with vid := some 4096 },
    { ether false with etherType := 65536 }], f.wellFormed = false) ∧ (raps (zeros 6)).wellFormed = true ∧
    (∀ r ∈ [{ raps (zeros 6) with request := 16 }, { raps (zeros 6) with subcode := 16 }, { raps (zeros 6) with bpr := 2 }], r.wellFormed = false) ∧
    (sfpId true).wellFormed = true ∧ { sfpId true with part := zeros 17 }.wellFormed = false := by decide +kernel

/-! Commands at the front of the queue, and the rest of the witnesses. -/

theorem witness_front : ∃ (i : Instr) (rest : List Instr) (s : State), s.pending = i :: rest :=
  ⟨.stitchBoundary, [.freezeExpire], { up with pending := [.stitchBoundary, .freezeExpire] }, rfl⟩
theorem witness_emptyQueue : up.pending = [] := rfl
theorem witness_tableRead_more : ∀ p ∈ [[0, 36, 1, 0], [0xFF, 35, 2, 0]], 1 ≤ u16At p 2 ∧ u16At p 2 ≤ 31 ∧ 9216 < u16At p 0 + u16At p 2 ∧
    ∀ op ∈ [0x0211, 0x0222], headerCheck 14 (messageOf op (request 14 p)) = .ok := by decide +kernel
/-- The first role without PROBE_READ, at the service port. -/
def plainUser : State :=
  { usbUp with sec.prot := usbUp.sec.prot.map fun _ => 0 }
theorem witness_probe_denied : bit (rightsOf plainUser 14) 19 = false ∧ Clear plainUser 14 (prbRead).needs (messageOf 0x0A01 (request 14 [])) := by
  refine ⟨by decide +kernel, ⟨by decide, by decide +kernel, by decide +kernel, by decide +kernel, by decide +kernel, by decide +kernel⟩⟩

/-! Values that the spec works out. -/

/-- R33's example: 20 ms, TAI 1,960,000,000.740 s. -/
theorem test_stitchNumber : BitVec.ofNat 32 (gridIndex 20000000 1960000000740000000) = (3510719525 : U32) ∧
    beaconFrom 3510719525 = 3510719552 := by decide +kernel
/-- R59's and R63's example: 22 bytes, two words, tags 0xB0 and 0xC6. -/
def sample22 : Packet := ⟨(upTo 22).map fun k => BitVec.ofNat 8 (k + 1)⟩
theorem test_skeinWords : (readWord sample22 0).2.1 = 0xB0 ∧ (readWord sample22 1) = ([17, 18, 19, 20, 21, 22] ++ zeros 10, 0xC6, true) := by decide +kernel
/-- Skein 6 closed by five CONT words and one END2 word holds those 22 bytes. -/
theorem test_skeinPacket : ∀ k, k = { skein (withSkein id) 127 with opened := some ⟨3, zeros 20, false, false⟩ } →
    (storeWord k 3 2 0x1615).2 = .closed (zeros 20 ++ [0x15, 0x16]) := by rintro k rfl; decide +kernel
/-- Table 4.7's words. -/
theorem test_edge : eNeighbour 0x064704B5 = 1205 ∧ eDist 0x064704B5 = 284 ∧ eDir 0x064704B5 = 6 ∧ eNeighbour 0x024D84B7 = 1207 ∧ eDist 0x024D84B7 = 310 ∧
    eDir 0x0A0004B6 = 10 := by decide +kernel
/-- Tables 5.7 and 5.8. Sunrise 07:16, sunset 19:25. -/
def profile2 : Bytes :=
  [2, 6] ++ le16 205 ++ zeros 12 ++
  ([2, 0x7F] ++ leS16 (-10) ++ le16 716 ++ le16 3000) ++ ([0, 0x7F] ++ le16 1320 ++ le16 716 ++ le16 3000) ++
  ([0, 0xCF] ++ le16 1350 ++ le16 307 ++ le16 2700) ++ ([0, 0x60] ++ le16 30 ++ le16 716 ++ le16 0) ++
  ([0, 0xE0] ++ le16 60 ++ le16 307 ++ le16 0) ++ ([1, 0x7F] ++ le16 10 ++ le16 0 ++ le16 0) ++ zeros 144
def sunDay : List Nat := [26160, 69900, 0, 71700, 48000]
theorem test_schedule : profileValue profile2 sunDay 1 79920 = (553, 2881) ∧ (profileValue profile2 sunDay 1 81600).1 = 307 ∧
    (profileValue profile2 sunDay 5 600).1 = 716 ∧ (profileValue profile2 sunDay 5 2700).1 = 512 ∧ (profileValue profile2 sunDay 1 46800).1 = 0 := by decide +kernel
/-- Table 6.2: the lane, walked from sensor 6150 heading east. -/
def lane : State :=
  { up with tab.live := { up.tab.live with
      pins := [1204, 1205, 1206, 1207, 1208, 1209, 1210, 6150].map fun p => (p, zeros 64),
      edges := [(1204, leW 0x024884B5), (1205, leW 0x064884B4 ++ leW 0x024704B6), (1206, leW 0x064704B5 ++ leW 0x024D84B7),
        (1207, leW 0x064D84B6 ++ leW 0x024A04B8), (1208, leW 0x064A04B7 ++ leW 0x024B84B9), (1209, leW 0x064B84B8 ++ leW 0x024C44BA),
        (1210, leW 0x064C44B9), (6150, leW 0x0A0004B6)] } }
theorem test_walk : (walk lane 6150 0 2 1000).1.reverse = [6150, 1206, 1207, 1208, 1209] ∧ (walk lane 6150 0 6 300).1.reverse = [6150, 1206, 1205] := by decide +kernel
/-- R156's example. -/
theorem test_fade : light 307 = 2523 ∧ light 716 = 3561 ∧ fadeLevel 307 716 500 250 = 483 ∧ fadeLevel 307 716 500 500 = 716 := by decide +kernel
/-- R171's example: Pin 8202 at 55.0 °C. -/
def model8202 : Bytes :=
  le16 1 ++ [1, 1] ++ le16 2700 ++ le16 5000 ++ le16 60292 ++ le16 6554 ++ zeros 4 ++ le16 7864 ++ le16 62258 ++ zeros 4 ++
  leS16 (-197) ++ leS16 (-131) ++ zeros 4 ++ zeros 8 ++ le16 3950 ++ zeros 6
theorem test_drive : driveOf (some model8202) 2 983 3000 550 = ⟨[51625, 19092], none⟩ ∧ driveOf (some model8202) 2 1023 2700 550 = ⟨[65535, 6895], some 64811⟩ := by
  decide +kernel
/-- R192's example frame: the payload of the LEVEL after its type octet. -/
theorem test_level : levelPayload 716 0 50 0 = [0x00, 0xCC, 0x02, 0x00, 0x00, 0x32, 0x00, 0x00, 0x00] := by decide
/-- R202's example. -/
theorem test_telemetry : tlmBlock [0x00, 0x05, 0x3C, 0x00, 0x7C, 0x01, 0x64, 0x89] = some [380, 381, 379, 379, 383] := by decide +kernel
/-- R226's example: Pin 6150, listen interval 300. -/
theorem test_listenPhase : listenPhase 6150 (zeros 32 ++ le16 300 ++ zeros 30) = 26550 := by decide +kernel
/-- R238's example: 1,756 source symbols and 351 repair symbols in one block. -/
theorem test_image : ∀ l, l = { (default : ImageLoad) with length := 393216, symbol := 224 } → imgKt l = 1756 ∧ imgZ l = 1 ∧ imgTotal 20 l = 1756 + 351 := by
  rintro l rfl; decide +kernel
/-- R245's example: the L2 current of feeder 7. -/
theorem test_channel : iChan 7 1 = 37 := by decide
/-- R288's example: q = 2. -/
theorem test_snapshotCode : codeResiduals 2 [1000, 1010, 1030, 1041] 0 0 = [143, -142, 2, -1] ∧
    ([143, -142, 2, -1].map fun q => (codeBits q).length) = [17, 17, 5, 3] := by decide +kernel
/-- Table 12.3: at 12.0 s the SET jumps over one-shot alarm A, which fires once, SKIPPED, and over alarm B, which is JUMPED. -/
def alarmA : Alarm := { (default : Alarm) with en := true, oneShot := true, compare := 1960000018 * 32768 }
def jumped : State :=
  loadTick (1960000020 * 32768) { up with rtc := { up.rtc with tick := 1960000017 * 32768, sod := 19580, lost := false, alarms := [alarmA, { (default : Alarm) with en := true, mask := 1 }] } }
theorem test_rtcJump : jumped.rtc.sod = 19583 ∧ (alarm jumped 0).fired = true ∧ (alarm jumped 0).skipped = true ∧ (alarm jumped 0).en = false ∧
    (alarm jumped 1).jumped = true ∧ (alarm jumped 1).fired = false := by decide +kernel
/-- Table 14.11: AIR_ID reads four Shuttles and block version 2; 0x0700_0000 lies in no block. -/
theorem test_probe : (readAll [0x03000000] up).1 = [0x02, 0x00, 0x04, 0x00] ∧ prbRead.check 2 (le16 4 ++ le16 0 ++ le32 0x01000010 ++ le32 0x01000014 ++ le32 0x03000000 ++ le32 0x07000000) up =
    some (stRange, le16 3) := by decide +kernel
/-- On a WZB-8640-W the same address reads 0 (R206). -/
theorem test_probe_noRadio : (readAll [0x03000000] { up with sys.variant := 2 }).1 = zeros 4 := by decide +kernel

/-! One step. -/

def after (o : Host.Outcome State Fault Refusal) : State := match o with | .next t => t | _ => State.reset

theorem test_clearsOnRead : (after (step { up with pending := [.tbSecLoRead, .tbFracRead] })).pending = [.tbFracRead] ∧
    (after (step { up with pending := [.tbSecLoRead] })).time.tbLatch.isSome = true := by decide +kernel
theorem test_pop : (after (step { (twoWords none) with pending := [.skeinPop 127 3 .ok] })).skn.pops.map (·.tag) = [0xB0] := by decide +kernel
theorem test_foreign : (skein (after (step { (twoWords none) with pending := [.skeinPop 127 2 .ok] })) 127).foreign = 1 := by decide +kernel
theorem test_nop : ((after (step { exe up 0x0104 [] with pending := [.sysNop (.run 0)] })).jnl.batch.map (·.kind)) = [7] := by decide +kernel
theorem test_backupMeasure : (after (step { up with pending := [.backupMeasure 2900] })).rtc.backupMv = 2900 := by decide +kernel
theorem test_decode : decodeTableWord 32 0 = none ∧ State.withFetchWord up 32 0 = up := ⟨rfl, rfl⟩

/-! The tasks of the light field, and more worked examples. -/

theorem crc32c_lt (b : Bytes) : crc32c b < 2 ^ 32 := by
  have bit : ∀ c, c < 2 ^ 32 → crcBitR 0x82F63B78 c < 2 ^ 32 := by
    intro c h
    unfold crcBitR
    split
    · exact Nat.xor_lt_two_pow (by omega) (by decide)
    · omega
  have bits : ∀ k c, c < 2 ^ 32 → crcBitsR 0x82F63B78 k c < 2 ^ 32 := by
    intro k
    induction k with
    | zero => intro c h; exact h
    | succ k ih => intro c h; exact ih _ (bit c h)
  have all : ∀ (l : Bytes) c, c < 2 ^ 32 → l.foldl (fun c x => crcBitsR 0x82F63B78 8 (c ^^^ x.toNat)) c < 2 ^ 32 := by
    intro l
    induction l with
    | nil => intro c h; exact h
    | cons x l ih => intro c h; exact ih _ (bits 8 _ (Nat.xor_lt_two_pow h (by have := x.isLt; omega)))
  exact Nat.xor_lt_two_pow (all b _ (by decide)) (by decide)
/-- The entry of road segment 7, of Pin 5 alone, with this check sum of its Ground of generation 3. -/
def segment7 (crc : Nat) : Bytes := le16 7 ++ [1, 1] ++ le16 1 ++ zeros 2 ++ le32 3 ++ le32 crc ++ zeros 48 ++ le16 5 ++ zeros 62
/-- Road segment 7, lit, with that Ground in DRAM. -/
def solvable : State :=
  withTask (.solve 7)
    { up with tab.live := { up.tab.live with segs := [(7, segment7 (crc32c (slice [] 0 16384)))] },
              tab.ground := [(7, [{ generation := 3, pins := 1, points := 1, record := [], order := 0 }])],
              sched.out := [(5, { (default : SchedOut) with lit := true })] }
theorem gCrc_segment7 (c : Nat) (h : c < 2 ^ 32) : gCrc (segment7 c) = c := by
  simp [segment7, gCrc, u32At, u16At, u8At, le32, le16, leBytes, zeros]
  omega
theorem witness_solve : taskRunning solvable (.solve 7) = true ∧ (matching solvable 7).isSome = true ∧ isDark solvable 7 = false := by
  refine ⟨by decide +kernel, ?_, rfl⟩
  have e : matchIndex [{ generation := 3, pins := 1, points := 1, record := [], order := 0 }] (segment7 (crc32c (slice [] 0 16384))) = some 0 := by
    unfold matchIndex
    rw [List.findIdx?_cons, gCrc_segment7 _ (crc32c_lt _)]
    exact if_pos (by simp; rfl)
  show ((matchIndex _ _).bind _).isSome = true
  exact (congrArg (fun o => (Option.bind o _).isSome) e).trans rfl
theorem witness_walk : ∀ s, s = withTask .walk up → taskRunning s .walk = true ∧ (s.lace.closed.foldl walkSource s).lace.streamsStarted = false := by
  rintro s rfl; decide +kernel
theorem witness_walk_late : ∀ s, s = withTask .walk { up with lace.streamsStarted := true } → taskRunning s .walk = true ∧
    (s.lace.closed.foldl walkSource s).lace.streamsStarted = true := by rintro s rfl; decide +kernel
theorem witness_evaluation : ∀ s, s = withTask (.schedule 0) { up with sched.noTime := false, sched.plans := [{ (default : DayPlan) with day := up.sched.day }] } →
    taskRunning s (.schedule 0) = true ∧ s.sched.noTime = false ∧ (planOf s s.sched.day).isSome = true := by rintro s rfl; decide +kernel
theorem witness_smallBatch : batchBytes up.jnl.batch ≤ 4096 ∧ up.jnl.committing = none := by decide +kernel

/-- R200's example: the LEVEL of Pin 1206 from frame control to the auxiliary security header. -/
theorem test_macHeader : macHeader { plainFrame 1 0xA869 0x2C 0x51A3 (some (0x0800 + 1206)) 0x0D 4 [] [] with counter := 0x00019F40 } =
    [0x69, 0xA8, 0x2C, 0xA3, 0x51, 0xB6, 0x0C, 0x00, 0x00, 0x0D, 0x40, 0x9F, 0x01, 0x00, 0x05] := by decide +kernel
/-- R247: a comb's output of 1,250³ is full scale, and 64³ clamps. -/
theorem test_fullScale : mainCode 1953125000 = 8388607 ∧ mainCode (-1953125000) = -8388607 ∧ fastCode 262144 = 32767 ∧ fastCode (-262144) = -32767 ∧
    (decimate default (List.replicate 64 true)).1.recent.length = 1 := by decide +kernel
/-- R290's example: 400.0 A on a channel of 1,000.0 A. -/
theorem test_fastThreshold : roundHalfAway ((4000 : Rat) / 10 * 32767 / 1000) = 13107 := by decide +kernel

end Sys2Proof.Tests
end

section
/-! SUPPORT. The AIR group in the variant without radio (R5): each AIR row carries out the execution of a command made by `airCmd`,
and such a command answers NO_RADIO there with the state unchanged. -/

namespace Sys2Proof.Machine

/-- The Air tile runs only where the radio is fitted, and a Shuttle only where the Air tile runs (R5). -/
theorem shuttleOn_noRadio {s : State} (hr : hasRadio s = false) (k : Nat) : shuttleOn s k = false := by
  have hair : airOn s = false := by simp [airOn, hr]
  simp [shuttleOn, hair]

/-- Beside `air_run`: where there is no radio, the command's own part is left out. -/
theorem air_run_noRadio {spec : CmdSpec} {s : State} (hr : hasRadio s = false) (m : Nat) (c : Cmd) :
    (airCmd spec).run m c s = (s, .done stNoRadio []) := by
  simp [airCmd, hr]

/-- Every AIR row is the execution of a command under `airCmd`, with that row's opcode. -/
theorem airRows_airCmd (m : Nat) :
    ∀ row ∈ airRows m, ∃ spec, mailboxRow row.2 = some (airCmd spec, .run m) ∧ (airCmd spec).opcode = row.1 := by
  simp only [airRows, List.forall_mem_cons, List.not_mem_nil, IsEmpty.forall_iff, implies_true, and_true]
  and_intros <;> exact ⟨_, rfl, rfl⟩

/-- Without radio the execution of a command under `airCmd` completes with NO_RADIO (R5). -/
theorem fails_of_airCmd_noRadio {i : Instr} {spec : CmdSpec} {s : State} {m : Nat} {c : Cmd} (hr : hasRadio s = false)
    (hrow : mailboxRow i = some (airCmd spec, .run m)) (hc : Executing s m c (airCmd spec).opcode) : Fails i s m c stNoRadio :=
  fails_of_run (row_exec s hrow) hc (air_run_noRadio hr m c)

/-- Settles O9: without radio the Air tile is off, and every AIR row is a command under `airCmd`. -/
theorem airWithoutRadioFails : Obligations.AirWithoutRadioFails := by
  intro s hr
  refine ⟨shuttleOn_noRadio hr, fun m c op i hi hc => ?_⟩
  obtain ⟨spec, hrow, rfl⟩ := airRows_airCmd m (op, i) hi
  exact fails_of_airCmd_noRadio hr hrow hc

end Sys2Proof.Machine
end

section
/-! SUPPORT. SOFT tasks and their deadlines (R43): a boundary's cancellation removes STRICT tasks only, a passed deadline is marked
and counted once, and the task with the earliest deadline of its list is the one that an idle engine takes. -/

namespace Sys2Proof.Machine

/-! Frays (R44). -/

@[simp] theorem fray_slots (t : TaskSlot) (s : State) : (fray t s).tmb.slots = s.tmb.slots := rfl

@[simp] theorem fray_lists (t : TaskSlot) (s : State) : (fray t s).tmb.lists = listModify s.tmb.lists t.list fun l =>
    if t.soft then { l with softFray := l.softFray + 1 } else { l with strictFray := l.strictFray + 1 } := rfl

theorem fray_softFray {t : TaskSlot} {s : State} (hsoft : t.soft = true) (hlist : t.list < s.tmb.lists.length) :
    ((fray t s).tmb.lists.getD t.list default).softFray = (s.tmb.lists.getD t.list default).softFray + 1 := by
  rw [fray_lists, listModify_in default _ _ _ hlist, if_pos hsoft]

/-! The boundary's cancellation (R42). -/

theorem soft_of_reaches {n : U32} {t : TaskSlot} (h : reaches n t = true) : t.soft = false := by
  simp only [reaches, Bool.and_eq_true, Bool.not_eq_true'] at h
  obtain ⟨⟨⟨hsoft, -⟩, -⟩, -⟩ := h
  exact hsoft

theorem cancelTasks_keep {t : TaskSlot} : ∀ (l : List TaskSlot) (s : State), t ∈ s.tmb.slots → (∀ u ∈ l, t.slot ≠ u.slot) →
    t ∈ (l.foldl (fun s u => cancelTask u s) s).tmb.slots
  | [], _, ht, _ => ht
  | u :: l, s, ht, hne =>
    cancelTasks_keep l (cancelTask u s) (cancelTask_keeps u s t ht (hne u List.mem_cons_self))
      fun w hw => hne w (List.mem_cons_of_mem u hw)

@[simp] theorem cancelHeld_slots (n : U32) (s : State) : (cancelHeld n s).tmb.slots = s.tmb.slots :=
  foldl_keep (fun t (h : HeldTask) => fray h.task t) (·.tmb.slots) (fun t h => fray_slots h.task t) _ _

/-- No task that the boundary cancels has the SOFT task's slot, for such a task is STRICT. -/
theorem cancelStrict_keeps_soft {s : State} {t : TaskSlot} (ht : t ∈ s.tmb.slots) (hsoft : t.soft = true)
    (halone : ∀ u ∈ s.tmb.slots, u.slot = t.slot → u = t) (n : U32) : t ∈ (cancelStrict n s).tmb.slots := by
  rw [cancelStrict, cancelHeld_slots]
  refine cancelTasks_keep _ _ ht fun u hu hslot => ?_
  obtain ⟨hmem, hreach⟩ := List.mem_filter.mp hu
  obtain rfl := halone u hmem hslot.symm
  exact Bool.false_ne_true ((soft_of_reaches hreach).symm.trans hsoft)

/-! The passed deadline (R43). -/

/-- The slots with the task of slot `k` marked as past its deadline. -/
def markFrayed (k : Nat) (l : List TaskSlot) : List TaskSlot := l.map fun u => if u.slot == k then { u with frayed := true } else u

theorem mem_markFrayed {t : TaskSlot} {l : List TaskSlot} (h : t ∈ l) : { t with frayed := true } ∈ markFrayed t.slot l :=
  List.mem_map.mpr ⟨t, h, by simp⟩

theorem frayed_of_mem_markFrayed {u : TaskSlot} {k : Nat} {l : List TaskSlot} (h : u ∈ markFrayed k l) (hslot : u.slot = k) :
    u.frayed = true := by
  obtain ⟨w, -, rfl⟩ := List.mem_map.mp h
  by_cases hw : w.slot = k
  · simp [hw]
  · simp [hw] at hslot

theorem softDeadlinePass_counts {s : State} {t : TaskSlot} (ht : t ∈ s.tmb.slots) (hsoft : t.soft = true) (hfray : t.frayed = false)
    (halone : ∀ u ∈ s.tmb.slots, u.slot = t.slot → u = t) :
    exec (.softDeadlinePass t.slot) s = .next (fray t { s with tmb.slots := markFrayed t.slot s.tmb.slots }) := by
  have hfind : s.tmb.slots.find? (fun u => u.slot == t.slot && u.soft && !u.frayed) = some t := by
    cases h : s.tmb.slots.find? (fun u => u.slot == t.slot && u.soft && !u.frayed) with
    | none => simpa [hsoft, hfray] using List.find?_eq_none.mp h t ht
    | some u =>
      have hu := List.find?_some h
      simp only [Bool.and_eq_true, beq_iff_eq] at hu
      obtain ⟨⟨hslot, -⟩, -⟩ := hu
      rw [halone u (List.mem_of_find?_eq_some h) hslot]
  show execSoftDeadlinePass t.slot s = _
  rw [execSoftDeadlinePass, hfind]
  rfl

theorem softDeadlinePass_frayed {s : State} {k : Nat} (h : ∀ u ∈ s.tmb.slots, u.slot = k → u.frayed = true) :
    exec (.softDeadlinePass k) s = .next s := by
  have hfind : s.tmb.slots.find? (fun u => u.slot == k && u.soft && !u.frayed) = none :=
    List.find?_eq_none.mpr fun u hu => by
      by_cases hk : u.slot = k
      · simp [h u hu hk]
      · simp [hk]
  show execSoftDeadlinePass k s = _
  rw [execSoftDeadlinePass, hfind]
  rfl

/-! Dispatch (R46, R47). -/

theorem taskFor_earliest {s : State} {t : TaskSlot} (ht : t ∈ s.tmb.slots) (hready : t.state = .ready) (hfree : affinity s t.kind = none)
    (hlater : ∀ u ∈ s.tmb.slots, u.list = t.list → u.state = .ready → u ≠ t →
      (serialBefore t.dlStitch u.dlStitch = true ∨ (t.dlStitch = u.dlStitch ∧ t.dlOff < u.dlOff))) (e : Nat) :
    taskFor s t.list e = some t := by
  refine headOf_least t _ (List.mem_filter.mpr ⟨ht, by simp [hready, hfree]⟩) fun u hu hne => ?_
  obtain ⟨hmem, htakes⟩ := List.mem_filter.mp hu
  simp only [Bool.and_eq_true, beq_iff_eq] at htakes
  obtain ⟨⟨hlist, hstate⟩, -⟩ := htakes
  exact earlier_sorts (hlater u hmem hlist hstate hne)

/-- A task that every engine of its list would take is dispatched as soon as one of them is idle. -/
theorem taskDispatch_of_taskFor {s : State} {l : Nat} {t : TaskSlot} (htake : ∀ e, taskFor s l e = some t)
    (hidle : ∃ e ∈ listEngines s l, engineIdle s e = true) : ∃ e, exec (.taskDispatch l) s = .next (startOn e t s) := by
  obtain ⟨e, he, hi⟩ := hidle
  obtain ⟨e₀, rest, hengines⟩ := List.exists_cons_of_ne_nil (List.ne_nil_of_mem (List.mem_filter.mpr ⟨he, hi⟩))
  have hchoice : dispatchChoice s l = some (e₀, t) := by
    simp [dispatchChoice, hengines, htake]
  refine ⟨e₀, ?_⟩
  show execTaskDispatch l s = _
  rw [execTaskDispatch, hchoice]
  rfl

/-- Settles O25: the boundary cancels STRICT tasks only; once marked, the task is not found again by SOFT_DEADLINE_PASS; and the
earliest READY task of a list is the one that every engine of the list would take. -/
theorem softTasksKeepTheirDeadline : Obligations.SoftTasksKeepTheirDeadline := by
  intro s t ht hsoft
  refine ⟨cancelStrict_keeps_soft ht hsoft, fun halone hfray hlist => ?_, fun hready hfree hidle hlater => ?_⟩
  · exact ⟨_, softDeadlinePass_counts ht hsoft hfray halone, mem_markFrayed ht, fray_softFray hsoft hlist,
      softDeadlinePass_frayed fun _ => frayed_of_mem_markFrayed⟩
  · exact taskDispatch_of_taskFor (taskFor_earliest ht hready hfree hlater) hidle

end Sys2Proof.Machine
end

section
/-! SUPPORT. Reads of a Skein's pop port (R61-R63, R66): what `popSkein` answers, once for each of its cases, and how the access keeps
that answer. -/

namespace Sys2Proof.Machine

/-! What a read answers. -/

/-- An initiator outside the reader set gets nothing, counted in FOREIGN (R62). -/
theorem popSkein_foreign {s : State} {n r : Nat} (hr : bit (skein s n).readers r = false) (ecc : Ecc) :
    popSkein n r ecc s = (zeros 16, 0, onSkein n (fun k => { k with foreign := sat8 k.foreign }) s) := by
  simp [popSkein, hr]

/-- A read without a visible packet counts in EMPTY_RD (R62). -/
theorem popSkein_empty {s : State} {n r : Nat} (hr : bit (skein s n).readers r = true) (hp : (skein s n).packets = []) (ecc : Ecc) :
    popSkein n r ecc s = (zeros 16, 0, onSkein n (fun k => { k with emptyRd := k.emptyRd + 1 }) s) := by
  simp [popSkein, hr, hp]

section
variable {s : State} {n r : Nat} {p : Packet} {rest : List Packet}
  (hr : bit (skein s n).readers r = true) (hp : (skein s n).packets = p :: rest)
include hr hp

/-- While another reader holds the oldest packet, a read counts in EMPTY_RD (R63). -/
theorem popSkein_heldByOther {h : HeldPacket} (hh : (skein s n).reading = some h) (hne : h.reader ≠ r) (ecc : Ecc) :
    popSkein n r ecc s = (zeros 16, 0, onSkein n (fun k => { k with emptyRd := k.emptyRd + 1 }) s) := by
  simp [popSkein, hr, hp, hh, hne]

variable {done : Nat} (hd : (skein s n).reading.getD { reader := r, done := 0 } = { reader := r, done := done })
include hd

/-- The reader that may go on gets its next word, and holds the packet until the word is the last one (R61, R63). -/
theorem popSkein_word : popSkein n r .ok s =
    ((readWord p done).1, (readWord p done).2.1, onSkein n (fun k => if (readWord p done).2.2 then { k with packets := rest, reading := none }
      else { k with reading := some { reader := r, done := done + 1 } }) s) := by
  simp [popSkein, hr, hp, hd]

/-- An uncorrectable word is answered by the bad-packet marker, and the packet is gone (R66). -/
theorem popSkein_uncorrectable : popSkein n r .uncorrectable s =
    (zeros 16, tagValid + tagLast, post 0x0202 n [] (onSkein n (fun k =>
      { k with packets := rest, reading := none, eccDrop := sat8 k.eccDrop, lost := k.lost || carriesWork n }) s)) := by
  simp [popSkein, hr, hp, hd]

end

/-- A word is the last one where no more than 16 bytes are left (R61). -/
theorem readWord_last (p : Packet) (done : Nat) : (readWord p done).2.2 = !decide (16 < p.bytes.length - 16 * done) := by
  rw [← decide_not, readWord, decide_eq_decide.mpr Nat.not_lt]

/-- The tag of Table 3.2: VALID and the bytes returned, LAST where no more than 16 are left, FIRST for the packet's first word. -/
theorem readWord_tag (p : Packet) (done : Nat) : (readWord p done).2.1 = 128 + (if 16 < p.bytes.length - 16 * done then 0 else 64) +
    (if done = 0 then 32 else 0) + min 16 (p.bytes.length - 16 * done) := by
  by_cases hleft : 16 < p.bytes.length - 16 * done
  · simp [readWord, tagValid, tagFirst, hleft, Nat.not_le.mpr hleft]
  · simp [readWord, tagValid, tagLast, tagFirst, hleft, Nat.not_lt.mp hleft]

/-! The access. -/

/-- A read behind its initiator's held write waits (R60). -/
theorem skeinPop_waits {s : State} {r : Nat} (hst : portStalled s r = true) (n : Nat) (ecc : Ecc) :
    exec (.skeinPop n r ecc) s = .next (waitAccess { initiator := r, skein := n, push := none, ecc := ecc } s) := by
  show execSkeinPop n r ecc s = _
  rw [execSkeinPop, if_pos hst]
  rfl

/-- A read that need not wait has its word and tag kept as the port's answer. -/
theorem skeinPop_answers {s t : State} {n r tag : Nat} {ecc : Ecc} {d : Bytes} (hst : portStalled s r = false)
    (hpop : popSkein n r ecc s = (d, tag, t)) : exec (.skeinPop n r ecc) s =
      .next { t with skn.pops := t.skn.pops ++ [{ skein := n, initiator := r, data := d, tag := tag }] } := by
  show execSkeinPop n r ecc s = _
  rw [execSkeinPop, hst, if_neg Bool.false_ne_true, popAccess, hpop]
  rfl

/-- A held packet left without a read is discarded and counted (R63). -/
theorem skeinReadAbandon_held {s : State} {n : Nat} (hh : (skein s n).reading.isSome = true) : exec (.skeinReadAbandon n) s =
    .next (onSkein n (fun k => { k with packets := k.packets.drop 1, reading := none, abandoned := sat8 k.abandoned,
                                        lost := k.lost || carriesWork n }) s) := by
  show execSkeinReadAbandon n s = _
  rw [execSkeinReadAbandon, if_pos hh]
  rfl

/-- The word a reader gets, with the tag and what becomes of the packet told by the bytes left (R61, R63). -/
theorem skeinPop_word {s t : State} {n r done left : Nat} {p : Packet} {rest : List Packet} (hst : portStalled s r = false)
    (hr : bit (skein s n).readers r = true) (hp : (skein s n).packets = p :: rest)
    (hd : (skein s n).reading.getD { reader := r, done := 0 } = { reader := r, done := done })
    (hleft : left = p.bytes.length - 16 * done)
    (ht : t = if 16 < left then onSkein n (fun k => { k with reading := some { reader := r, done := done + 1 } }) s
      else onSkein n (fun k => { k with packets := rest, reading := none }) s) :
    exec (.skeinPop n r .ok) s = .next { t with
      skn.pops := t.skn.pops ++ [{
        skein := n, initiator := r, data := slice p.bytes (16 * done) (min 16 left) ++ zeros (16 - min 16 left),
        tag := 128 + (if 16 < left then 0 else 64) + (if done = 0 then 32 else 0) + min 16 left }] } := by
  refine skeinPop_answers hst ?_
  rw [popSkein_word hr hp hd, readWord_tag, readWord_last, ← hleft, ht]
  by_cases hmore : 16 < left
  · simp [hmore, readWord, ← hleft]
  · simp [hmore, readWord, ← hleft]

/-- Settles O31: each read answers as its case of `popSkein`, and the access keeps that answer in `skn.pops`. -/
theorem skeinReadsAnswer : Obligations.SkeinReadsAnswer := by
  refine ⟨?_, ?_, fun s n k hk hh => ?_⟩
  · rintro s n _ rfl r ecc _ rfl
    exact ⟨fun hst hr hp => skeinPop_answers hst (popSkein_empty hr hp ecc), fun hst hr => skeinPop_answers hst (popSkein_foreign hr ecc),
      fun hst => skeinPop_waits hst n ecc⟩
  · rintro s n r p rest _ rfl hst hr hp _ rfl
    refine ⟨fun h ecc hh hne => skeinPop_answers hst (popSkein_heldByOther hr hp hh hne ecc), fun done hd => ⟨?_, ?_⟩⟩
    · exact fun left hleft t ht => skeinPop_word hst hr hp hd hleft ht
    · exact skeinPop_answers hst (popSkein_uncorrectable hr hp hd)
  · subst hk
    exact skeinReadAbandon_held hh

end Sys2Proof.Machine
end

section
/-! SUPPORT. A request that A0 has found clear and allowed is refused with the status of its command's first failing check (R326,
R348); and the range that the three table reads share, refused with RANGE where it reaches beyond the last index (R96). -/

namespace Sys2Proof.Machine

/-- A clear and allowed request comes to its command's own checks, and the first that fails refuses it (R326). -/
theorem takeRequest_of_check {spec : CmdSpec} {s : State} {m st : Nat} {h : Message} {d : Bytes} (hclear : Clear s m spec.needs h)
    (hop : h.opcode = spec.opcode) (hallowed : allowed s m spec.needs = true) (hcheck : spec.check m h.payload s = some (st, d)) :
    takeRequest spec m h s = refuseRequest m h st d (spec.onRefuse h.payload st s) := by
  obtain ⟨hphase, htakes, hheader, hkind, hlogin, htag⟩ := hclear
  rw [hop] at htakes
  simp [takeRequest, htakes, hheader, hkind, hlogin, hphase, htag, hallowed, hcheck]

/-- The same for a row whose refusal changes nothing more: the row answers the REFUSED with that status. -/
theorem refused_of_check {i : Instr} {spec : CmdSpec} {s : State} {r : Request} {st : Nat} {d : Bytes}
    (hrow : mailboxRow i = some (spec, .request r)) (hclear : Clear s r.session spec.needs (messageOf spec.opcode r))
    (hallowed : allowed s r.session spec.needs = true) (hcheck : spec.check r.session r.payload s = some (st, d))
    (hkeep : spec.onRefuse r.payload st s = s) : ∃ t, exec i s = .next t ∧ Refused s t r.session spec.opcode r.tag st d := by
  refine ⟨_, take_ok s hrow, ?_⟩
  rw [takeRequest_of_check hclear rfl hallowed hcheck]
  exact hkeep.symm ▸ refuseRequest_refused r.session (messageOf spec.opcode r) st d s

theorem lenIs_pass {p : Bytes} {n : Nat} (h : p.length = n) : lenIs p n = none := by simp [lenIs, need, h]

theorem reserved_pass {p : Bytes} {off n : Nat} (h : slice p off n = zeros n) : reserved p off n = none := by
  simp [reserved, need, h, zeros_allZero]

/-- A number of entries in its bounds passes, and a range that ends after `last` does not (R96). -/
theorem rangeCheck_beyond {most last : Nat} {p : Bytes} (hmin : 1 ≤ u16At p 2) (hmax : u16At p 2 ≤ most)
    (hend : last + 1 < u16At p 0 + u16At p 2) : rangeCheck most last p = some (stRange, []) := by
  simp [rangeCheck, checks, need, hmin, hmax, Nat.not_le.2 hend]

theorem tabPinRead_check_beyond {m : Nat} {s : State} {p : Bytes} (hlen : p.length = 8) (hres : slice p 5 3 = zeros 3)
    (hhalf : 1 ≤ u8At p 4) (hhalf' : u8At p 4 ≤ 3) (hrange : rangeCheck 60 9215 p = some (stRange, [])) :
    tabPinRead.check m p s = some (stRange, []) := by
  simp [tabPinRead, checks, need, lenIs_pass hlen, reserved_pass hres, hhalf, hhalf', hrange]

/-- The edge and road segment reads check the length, then the range. -/
theorem andThen_lenIs {p : Bytes} {n : Nat} (h : p.length = n) (c : Chk) : andThen (lenIs p n) c = c := by
  rw [lenIs_pass h]; rfl

/-- Settles O54: each read's part answers the live image with the state unchanged, and its range check is the first that fails. -/
theorem tableReadsAnswerOneGeneration : Obligations.TableReadsAnswerOneGeneration := by
  refine fun s => ⟨?_, ?_⟩
  · rintro m c _ rfl
    exact ⟨fun h => reads_of_run (row_exec s rfl) h rfl, fun h => reads_of_run (row_exec s rfl) h rfl,
      fun h => reads_of_run (row_exec s rfl) h rfl⟩
  · rintro r _ rfl hright _ rfl
    refine ⟨fun hlen hres hhalf hhalf' hmin hmax hend hclear => ?_, fun hlen hmin hmax hend hclear => ?_,
      fun hlen hmin hmax hend hclear => ?_⟩
    · exact refused_of_check (spec := tabPinRead) rfl hclear hright
        (tabPinRead_check_beyond hlen hres hhalf hhalf' (rangeCheck_beyond hmin hmax hend)) rfl
    · exact refused_of_check (spec := tabEdgeRead) rfl hclear hright
        ((andThen_lenIs hlen _).trans (rangeCheck_beyond hmin hmax hend)) rfl
    · exact refused_of_check (spec := tabSegRead) rfl hclear hright
        ((andThen_lenIs hlen _).trans (rangeCheck_beyond hmin hmax hend)) rfl

end Sys2Proof.Machine
end

section
/-! SUPPORT. The Stitch period (R38, R357): a settings write of the section that holds it is read back, a verified STORE has a new
period wait, and a request with a period outside R32's five is refused. -/

namespace Sys2Proof.Machine

/-! The working copy. -/

/-- A section reads what a write of it left. -/
theorem sect_writeWorking (id off : Nat) (b : Bytes) (s : State) : sect (writeWorking id off b s) id = overlay (sect s id) off b := by
  simp [sect, writeWorking, writeSect, tabGetD, tabGet_tabSet]

/-- A due change of the Stitch section is a write of it: its new value has no effect beside being read. -/
theorem applyDue_stitchSection {d : Due} {off : Nat} {b : Bytes} (hd : d.change = .settings secStitch off b) (s : State) :
    applyDue d s = writeWorking secStitch off b s := by
  rw [applyDue, hd]; rfl

/-! The verified STORE. -/

/-- A stored period that differs from the stored one and from the one in force waits for its second (R38). -/
theorem storedPeriod_waits {old new : Tab Bytes} {s : State} (hold : u16At (tabGetD new secStitch []) 0 ≠ u16At (tabGetD old secStitch []) 0)
    (hrun : u16At (tabGetD new secStitch []) 0 ≠ s.stitch.period) : (storedPeriod old new s).stitch =
      { s.stitch with newPeriod := some (u16At (tabGetD new secStitch []) 0, (taiNs s + 2999999999) / 1000000000) } := by
  simp [storedPeriod, hold, hrun]

/-- Beside the two copies the new Stitch generator rests on the one before and the clocks alone. -/
theorem storedPeriod_stitch_congr {s t : State} (hstitch : t.stitch = s.stitch) (htime : t.time = s.time) (old new : Tab Bytes) :
    (storedPeriod old new t).stitch = (storedPeriod old new s).stitch := by
  simp only [storedPeriod]
  split
  · exact hstitch
  · simp [taiNs, hstitch, htime]

/-- A verified STORE leaves the Stitch generator as `storedPeriod` does. -/
theorem settingsStoreVerified_stitch {s : State} {x : Store} {rest : List Store} {t : Tab Bytes} (hstores : s.set.stores = x :: rest)
    (hcaptured : x.captured = some t) : ∃ u, exec (.settingsStoreVerified true) s = .next u ∧
      u.stitch = (storedPeriod (storedSections s) t s).stitch := by
  show ∃ u, execSettingsStoreVerified true s = .next u ∧ _
  simp only [execSettingsStoreVerified, hstores, hcaptured]
  refine ⟨_, rfl, ?_⟩
  rw [freeTask_stitch, completeWith_stitch]
  refine storedPeriod_stitch_congr ?_ ?_ _ _ <;> simp [retire_fold_stitch, onSettings]

/-! The request. -/

theorem sysStitchSet_check_badPeriod {m : Nat} {p : Bytes} {s : State} (hlen : p.length = 4) (hres : slice p 2 2 = zeros 2)
    (hperiod : u16At p 0 ∉ [10, 20, 25, 40, 50]) : sysStitchSet.check m p s = some (stBadPayload, []) := by
  have hbad : periodOk (u16At p 0) = false := by simpa [periodOk] using hperiod
  simp [sysStitchSet, checks, need, lenIs_pass hlen, reserved_pass hres, hbad]

/-- Settles O55: the command's part is a due change of the Stitch section, `storedPeriod` is all that a verified STORE does to the
Stitch generator, and the period is the request's first failing check. -/
theorem stitchPeriodIsSet : Obligations.StitchPeriodIsSet := by
  refine fun s => ⟨fun m c h => ?_, fun d b hd hb hlong => ?_, ?_, fun r hclear hright hlen hres hperiod => ?_⟩
  · exact schedules_of_run (spec := sysStitchSet) (row_exec s rfl) h rfl
  · show u16At (sect (applyDue d s) secStitch) 0 = _
    rw [applyDue_stitchSection hd, sect_writeWorking]
    exact overlay_u16 b _ hb hlong
  · rintro x rest t hstores hcaptured _ rfl hold hrun
    obtain ⟨u, hexec, hu⟩ := settingsStoreVerified_stitch hstores hcaptured
    exact ⟨u, hexec, hu.trans (storedPeriod_waits hold hrun)⟩
  · exact refused_of_check (spec := sysStitchSet) rfl hclear hright (sysStitchSet_check_badPeriod hlen hres hperiod) rfl

end Sys2Proof.Machine
end

section
/-! SUPPORT. The queue and the fabric memory under every command: all but nine leave both as they are, those nine leave the queue and
the memory's canonical form. -/

namespace Sys2Proof.Machine

/-- A Bobbin burst writes the fabric memory; the others reset the SoC, or end a supply phase, which resets it. -/
def mayChangeMemory : Instr → Bool
  | .bobBurstDone .. | .watchdogReset .. | .memoryErrorReset .. | .pllLockLoss .. | .tcxoStop | .powerFailWarning
  | .lastGaspComplete .. | .dcInputOn | .plannedReset => true
  | _ => false

/-- Every other command leaves the queue and the memory, by the lemma of its own row. -/
theorem exec_same (s : State) (i : Instr) (h : mayChangeMemory i = false) : GoesSame s (exec i s) := by
  cases i
  case stitchBoundary => exact execStitchBoundary_same (Same.refl s)
  case stitchPeriodChange => exact execStitchPeriodChange_same (Same.refl s)
  case journalBatchCommit => exact execJournalBatchCommit_same (Same.refl s)
  case journalCommitDone copy0 copy1 us => exact execJournalCommitDone_same copy0 copy1 us (Same.refl s)
  case freezeExpire => exact execFreezeExpire_same (Same.refl s)
  case softDeadlinePass slot => exact execSoftDeadlinePass_same slot (Same.refl s)
  case frayRecord => exact execFrayRecord_same (Same.refl s)
  case taskDispatch list => exact execTaskDispatch_same list (Same.refl s)
  case heldSourceRelease list => exact execHeldSourceRelease_same list (Same.refl s)
  case scheduleEvaluation block => exact execScheduleEvaluation_same block (Same.refl s)
  case presenceWalk => exact execPresenceWalk_same (Same.refl s)
  case walkLate => exact execWalkLate_same (Same.refl s)
  case solveAndRepair seg => exact execSolveAndRepair_same seg (Same.refl s)
  case darning seg => exact execDarning_same seg (Same.refl s)
  case fadeShaping => exact execFadeShaping_same (Same.refl s)
  case telemetryDecode read => exact execTelemetryDecode_same read (Same.refl s)
  case mailboxCommandExecution mailbox => exact execMailboxCommandExecution_same mailbox (Same.refl s)
  case coursePlanning shuttle => exact execCoursePlanning_same shuttle (Same.refl s)
  case courseRun shuttle => exact execCourseRun_same shuttle (Same.refl s)
  case beacon => exact execBeacon_same (Same.refl s)
  case meteringBlock harness bits => exact execMeteringBlock_same harness bits (Same.refl s)
  case intervalClose => exact execIntervalClose_same (Same.refl s)
  case intervalBoundary => exact execIntervalBoundary_same (Same.refl s)
  case raptorqEncoding block => exact execRaptorqEncoding_same block (Same.refl s)
  case skeinPushCont skein initiator word => exact execSkeinPushCont_same skein initiator word (Same.refl s)
  case skeinPushEnd skein initiator valid word => exact execSkeinPushEnd_same skein initiator valid word (Same.refl s)
  case skeinHeldWrite skein => exact execSkeinHeldWrite_same skein (Same.refl s)
  case skeinHeldNotice skein => show GoesSame s (execSkeinHeldNotice skein s); exact execSkeinHeldNotice_same skein (Same.refl s)
  case skeinPop skein initiator ecc => exact execSkeinPop_same skein initiator ecc (Same.refl s)
  case skeinWriteAbandon skein => exact execSkeinWriteAbandon_same skein (Same.refl s)
  case skeinReadAbandon skein => exact execSkeinReadAbandon_same skein (Same.refl s)
  case jnlRebuild skein => exact execJnlRebuild_same skein (Same.refl s)
  case bobStart channel => exact execBobStart_same channel (Same.refl s)
  case bobStop channel lastAck => exact execBobStop_same channel lastAck (Same.refl s)
  case bobRequest channel line => exact execBobRequest_same channel line (Same.refl s)
  case bobTransferEnd channel bus => exact execBobTransferEnd_same channel bus (Same.refl s)
  case bobPulseRelease entry => exact execBobPulseRelease_same entry (Same.refl s)
  case tmbClearStats => exact execTmbClearStats_same (Same.refl s)
  case sknClearStats => exact execSknClearStats_same (Same.refl s)
  case bobClearStats => exact execBobClearStats_same (Same.refl s)
  case laceClearStats => exact execLaceClearStats_same (Same.refl s)
  case fadeClearStats => exact execFadeClearStats_same (Same.refl s)
  case airClearStats => exact execAirClearStats_same (Same.refl s)
  case crsClearStats => exact execCrsClearStats_same (Same.refl s)
  case metClearStats => exact execMetClearStats_same (Same.refl s)
  case timeClearStats => exact execTimeClearStats_same (Same.refl s)
  case netClearStats => exact execNetClearStats_same (Same.refl s)
  case jnlClearStats => exact execJnlClearStats_same (Same.refl s)
  case smpClearStats => exact execSmpClearStats_same (Same.refl s)
  case mrcClearStats => exact execMrcClearStats_same (Same.refl s)
  case aonClearStats => exact execAonClearStats_same (Same.refl s)
  case pnlClearStats => exact execPnlClearStats_same (Same.refl s)
  case alarmStatusClear alarm value => exact execAlarmStatusClear_same alarm value (Same.refl s)
  case ringCmdForced port => exact execRingCmdForced_same port (Same.refl s)
  case ringCmdManual port => exact execRingCmdManual_same port (Same.refl s)
  case ringCmdClear port => exact execRingCmdClear_same port (Same.refl s)
  case tbSecLoRead => exact execTbSecLoRead_same (Same.refl s)
  case tbFracRead => exact execTbFracRead_same (Same.refl s)
  case rtcTickLoRead => exact execRtcTickLoRead_same (Same.refl s)
  case rtcFlagsRead => exact execRtcFlagsRead_same (Same.refl s)
  case netSettingsWindowWrite offset value => exact execNetSettingsWindowWrite_same offset value (Same.refl s)
  case registerWrite addr value => exact execRegisterWrite_same addr value (Same.refl s)
  case slotRead session msg => exact execSlotRead_same session msg (Same.refl s)
  case tlsSessionOpen credential => exact execTlsSessionOpen_same credential (Same.refl s)
  case sessionClose mailbox => exact execSessionClose_same mailbox (Same.refl s)
  case usbPartialTimeout => exact execUsbPartialTimeout_same (Same.refl s)
  case loginBlockEnd => exact execLoginBlockEnd_same (Same.refl s)
  case sysIdentify op => exact execSysIdentify_same op (Same.refl s)
  case sysStatus op => exact execSysStatus_same op (Same.refl s)
  case sysCounters op => exact execSysCounters_same op (Same.refl s)
  case sysNop op => exact execSysNop_same op (Same.refl s)
  case sysIoRead op => exact execSysIoRead_same op (Same.refl s)
  case sysSettingsDigest op => exact execSysSettingsDigest_same op (Same.refl s)
  case sysInputSet op => exact execSysInputSet_same op (Same.refl s)
  case sysStitchSet op => exact execSysStitchSet_same op (Same.refl s)
  case sysReset op => exact execSysReset_same op (Same.refl s)
  case sysStore op => exact execSysStore_same op (Same.refl s)
  case sysRevert op => exact execSysRevert_same op (Same.refl s)
  case sysFactory op => exact execSysFactory_same op (Same.refl s)
  case tabPinWrite op => exact execTabPinWrite_same op (Same.refl s)
  case tabPinClear op => exact execTabPinClear_same op (Same.refl s)
  case tabPinSet op => exact execTabPinSet_same op (Same.refl s)
  case tabPinRead op => exact execTabPinRead_same op (Same.refl s)
  case tabPinClearFault op => exact execTabPinClearFault_same op (Same.refl s)
  case tabEdgeWrite op => exact execTabEdgeWrite_same op (Same.refl s)
  case tabEdgeRead op => exact execTabEdgeRead_same op (Same.refl s)
  case tabSegWrite op => exact execTabSegWrite_same op (Same.refl s)
  case tabSegClear op => exact execTabSegClear_same op (Same.refl s)
  case tabSegRead op => exact execTabSegRead_same op (Same.refl s)
  case tabBatchOpen op => exact execTabBatchOpen_same op (Same.refl s)
  case tabBatchClose op => exact execTabBatchClose_same op (Same.refl s)
  case tabBatchAbort op => exact execTabBatchAbort_same op (Same.refl s)
  case tabBatchTimeout => exact execTabBatchTimeout_same (Same.refl s)
  case tabDigest op => exact execTabDigest_same op (Same.refl s)
  case tabGroundBegin op => exact execTabGroundBegin_same op (Same.refl s)
  case tabGroundData op => exact execTabGroundData_same op (Same.refl s)
  case tabGroundCommit op => exact execTabGroundCommit_same op (Same.refl s)
  case groundCommitVerified seg ok => exact execGroundCommitVerified_same seg ok (Same.refl s)
  case tabGroundAbort op => exact execTabGroundAbort_same op (Same.refl s)
  case tabGroundRead op => exact execTabGroundRead_same op (Same.refl s)
  case tabGroundStatus op => exact execTabGroundStatus_same op (Same.refl s)
  case tabGroundDelete op => exact execTabGroundDelete_same op (Same.refl s)
  case tabGroundDiscard seg => exact execTabGroundDiscard_same seg (Same.refl s)
  case tablePersistVerified sequence => exact execTablePersistVerified_same sequence (Same.refl s)
  case litProfileWrite op => exact execLitProfileWrite_same op (Same.refl s)
  case litProfileRead op => exact execLitProfileRead_same op (Same.refl s)
  case litExcWrite op => exact execLitExcWrite_same op (Same.refl s)
  case litExcRead op => exact execLitExcRead_same op (Same.refl s)
  case litZoneWrite op => exact execLitZoneWrite_same op (Same.refl s)
  case litZoneRead op => exact execLitZoneRead_same op (Same.refl s)
  case litSiteSet op => exact execLitSiteSet_same op (Same.refl s)
  case litTzSet op => exact execLitTzSet_same op (Same.refl s)
  case litTimeRead op => exact execLitTimeRead_same op (Same.refl s)
  case litSunRead op => exact execLitSunRead_same op (Same.refl s)
  case litSchedEval op => exact execLitSchedEval_same op (Same.refl s)
  case litClassWrite op => exact execLitClassWrite_same op (Same.refl s)
  case litClassRead op => exact execLitClassRead_same op (Same.refl s)
  case litSpeedWrite op => exact execLitSpeedWrite_same op (Same.refl s)
  case litSpeedRead op => exact execLitSpeedRead_same op (Same.refl s)
  case litPresenceReport op => exact execLitPresenceReport_same op (Same.refl s)
  case litSolverSet op => exact execLitSolverSet_same op (Same.refl s)
  case litSolverRead op => exact execLitSolverRead_same op (Same.refl s)
  case litSolveRead op => exact execLitSolveRead_same op (Same.refl s)
  case litMarkRead op => exact execLitMarkRead_same op (Same.refl s)
  case litFadeSet op => exact execLitFadeSet_same op (Same.refl s)
  case litFadeRead op => exact execLitFadeRead_same op (Same.refl s)
  case litModelWrite op => exact execLitModelWrite_same op (Same.refl s)
  case litModelRead op => exact execLitModelRead_same op (Same.refl s)
  case litChainSet op => exact execLitChainSet_same op (Same.refl s)
  case litChainStatus op => exact execLitChainStatus_same op (Same.refl s)
  case litChainAccept op => exact execLitChainAccept_same op (Same.refl s)
  case litOutRead op => exact execLitOutRead_same op (Same.refl s)
  case dayPlanBuild => exact execDayPlanBuild_same (Same.refl s)
  case localOffsetTransition => exact execLocalOffsetTransition_same (Same.refl s)
  case tzExpired => exact execTzExpired_same (Same.refl s)
  case photocellSettled level => exact execPhotocellSettled_same level (Same.refl s)
  case chainShift => exact execChainShift_same (Same.refl s)
  case chainShiftDone ret => exact execChainShiftDone_same ret (Same.refl s)
  case chainLatch => exact execChainLatch_same (Same.refl s)
  case chainScan ret delays => exact execChainScan_same ret delays (Same.refl s)
  case chainBoardSilent board => exact execChainBoardSilent_same board (Same.refl s)
  case ntcFault board => exact execNtcFault_same board (Same.refl s)
  case uplinkPoll frame => exact execUplinkPoll_same frame (Same.refl s)
  case uplinkReport frame => exact execUplinkReport_same frame (Same.refl s)
  case uplinkImageState frame => exact execUplinkImageState_same frame (Same.refl s)
  case nodeEnhAck frame => exact execNodeEnhAck_same frame (Same.refl s)
  case enhAckSend shuttle => exact execEnhAckSend_same shuttle (Same.refl s)
  case enhAckTimeout shuttle => exact execEnhAckTimeout_same shuttle (Same.refl s)
  case foreignBeacon shuttle pan => exact execForeignBeacon_same shuttle pan (Same.refl s)
  case receiveWindowEnd pin collided => exact execReceiveWindowEnd_same pin collided (Same.refl s)
  case probeDue pin => exact execProbeDue_same pin (Same.refl s)
  case pinSilent pin => exact execPinSilent_same pin (Same.refl s)
  case imagePicotTimer => exact execImagePicotTimer_same (Same.refl s)
  case dutyBinRoll shuttle => exact execDutyBinRoll_same shuttle (Same.refl s)
  case profileTakeEffect => exact execProfileTakeEffect_same (Same.refl s)
  case shuttleFault shuttle cause => exact execShuttleFault_same shuttle cause (Same.refl s)
  case laceFault engine cause => exact execLaceFault_same engine cause (Same.refl s)
  case airProfileSet op => exact execAirProfileSet_same op (Same.refl s)
  case airProfileRead op => exact execAirProfileRead_same op (Same.refl s)
  case airSet op => exact execAirSet_same op (Same.refl s)
  case airRead op => exact execAirRead_same op (Same.refl s)
  case airFailsafeSet op => exact execAirFailsafeSet_same op (Same.refl s)
  case airFailsafeRead op => exact execAirFailsafeRead_same op (Same.refl s)
  case airPinRelease op => exact execAirPinRelease_same op (Same.refl s)
  case airPinState op => exact execAirPinState_same op (Same.refl s)
  case airWake op => exact execAirWake_same op (Same.refl s)
  case airImageBegin op => exact execAirImageBegin_same op (Same.refl s)
  case airImageData op => exact execAirImageData_same op (Same.refl s)
  case airImageStart op => exact execAirImageStart_same op (Same.refl s)
  case airImageActivate op => exact execAirImageActivate_same op (Same.refl s)
  case airImageStop op => exact execAirImageStop_same op (Same.refl s)
  case airImageStatus op => exact execAirImageStatus_same op (Same.refl s)
  case ocInstDetect feeder channel bits => exact execOcInstDetect_same feeder channel bits (Same.refl s)
  case halfCycleEnd harness bits => exact execHalfCycleEnd_same harness bits (Same.refl s)
  case snapshotComplete buffer samples => exact execSnapshotComplete_same buffer samples (Same.refl s)
  case snapshotArchived id => exact execSnapshotArchived_same id (Same.refl s)
  case feederRearm feeder => exact execFeederRearm_same feeder (Same.refl s)
  case measurementWindowClose set bits => exact execMeasurementWindowClose_same set bits (Same.refl s)
  case freqOut set out => exact execFreqOut_same set out (Same.refl s)
  case chanFault channel => exact execChanFault_same channel (Same.refl s)
  case chanOk channel => exact execChanOk_same channel (Same.refl s)
  case decOverrun harness runEnds => exact execDecOverrun_same harness runEnds (Same.refl s)
  case contactorFbTimeout output => exact execContactorFbTimeout_same output (Same.refl s)
  case contactorCloseSettle output => exact execContactorCloseSettle_same output (Same.refl s)
  case contactorOutFault output => exact execContactorOutFault_same output (Same.refl s)
  case digitalInputChange input level => exact execDigitalInputChange_same input level (Same.refl s)
  case dfcPulseEnd output => exact execDfcPulseEnd_same output (Same.refl s)
  case harnessInserted harness => exact execHarnessInserted_same harness (Same.refl s)
  case harnessPowered harness => exact execHarnessPowered_same harness (Same.refl s)
  case harnessSettled harness => exact execHarnessSettled_same harness (Same.refl s)
  case harnessRemoved harness => exact execHarnessRemoved_same harness (Same.refl s)
  case harnessUnexpected harness => exact execHarnessUnexpected_same harness (Same.refl s)
  case harnessSupplyFault harness => exact execHarnessSupplyFault_same harness (Same.refl s)
  case harnessFaultRetry harness => exact execHarnessFaultRetry_same harness (Same.refl s)
  case testModeExpire => exact execTestModeExpire_same (Same.refl s)
  case recoveryExpire => exact execRecoveryExpire_same (Same.refl s)
  case periodicSave => exact execPeriodicSave_same (Same.refl s)
  case spanRecordDue feeder => exact execSpanRecordDue_same feeder (Same.refl s)
  case archiveVerified sequence => exact execArchiveVerified_same sequence (Same.refl s)
  case metModeSet op => exact execMetModeSet_same op (Same.refl s)
  case metStatus op => exact execMetStatus_same op (Same.refl s)
  case metQtyRead op => exact execMetQtyRead_same op (Same.refl s)
  case metCalWrite op => exact execMetCalWrite_same op (Same.refl s)
  case metCalRead op => exact execMetCalRead_same op (Same.refl s)
  case metHarnessSet op => exact execMetHarnessSet_same op (Same.refl s)
  case metHarnessRead op => exact execMetHarnessRead_same op (Same.refl s)
  case metProtWrite op => exact execMetProtWrite_same op (Same.refl s)
  case metProtRead op => exact execMetProtRead_same op (Same.refl s)
  case metContactorCfg op => exact execMetContactorCfg_same op (Same.refl s)
  case metContactorRead op => exact execMetContactorRead_same op (Same.refl s)
  case metContactorSet op => exact execMetContactorSet_same op (Same.refl s)
  case metTripReset op => exact execMetTripReset_same op (Same.refl s)
  case metDfcSet op => exact execMetDfcSet_same op (Same.refl s)
  case metDfcRead op => exact execMetDfcRead_same op (Same.refl s)
  case metPeakRead op => exact execMetPeakRead_same op (Same.refl s)
  case metPeakClear op => exact execMetPeakClear_same op (Same.refl s)
  case metRegRead op => exact execMetRegRead_same op (Same.refl s)
  case metLegacyRead op => exact execMetLegacyRead_same op (Same.refl s)
  case metIntervalSet op => exact execMetIntervalSet_same op (Same.refl s)
  case metIntervalRead op => exact execMetIntervalRead_same op (Same.refl s)
  case metSpanRead op => exact execMetSpanRead_same op (Same.refl s)
  case metSnapTrigger op => exact execMetSnapTrigger_same op (Same.refl s)
  case metSnapList op => exact execMetSnapList_same op (Same.refl s)
  case metSnapRead op => exact execMetSnapRead_same op (Same.refl s)
  case metSnapSet op => exact execMetSnapSet_same op (Same.refl s)
  case metSaveStatus op => exact execMetSaveStatus_same op (Same.refl s)
  case ptpSync port m => exact execPtpSync_same port m (Same.refl s)
  case ptpFollowUp port m => exact execPtpFollowUp_same port m (Same.refl s)
  case ptpDelayReq stamp => exact execPtpDelayReq_same stamp (Same.refl s)
  case ptpDelayResp port m => exact execPtpDelayResp_same port m (Same.refl s)
  case ptpPdelayReq port stamp => exact execPtpPdelayReq_same port stamp (Same.refl s)
  case ptpPdelayReqRx port m => exact execPtpPdelayReqRx_same port m (Same.refl s)
  case ptpPdelayResp port m => exact execPtpPdelayResp_same port m (Same.refl s)
  case ptpAnnounce port m => exact execPtpAnnounce_same port m (Same.refl s)
  case announceReceiptTimeout => exact execAnnounceReceiptTimeout_same (Same.refl s)
  case txqDrain => exact execTxqDrain_same (Same.refl s)
  case txqStale => exact execTxqStale_same (Same.refl s)
  case holdoverExpire => exact execHoldoverExpire_same (Same.refl s)
  case ppsInEdge stamp => exact execPpsInEdge_same stamp (Same.refl s)
  case ppsInLost => exact execPpsInLost_same (Same.refl s)
  case ppsOutPulse => exact execPpsOutPulse_same (Same.refl s)
  case ppsOutFall => exact execPpsOutFall_same (Same.refl s)
  case leapSecond => exact execLeapSecond_same (Same.refl s)
  case clockMonitorSecond count => exact execClockMonitorSecond_same count (Same.refl s)
  case pllRelock pll => exact execPllRelock_same pll (Same.refl s)
  case rtcAlign => exact execRtcAlign_same (Same.refl s)
  case rtcSetLoad => exact execRtcSetLoad_same (Same.refl s)
  case rtcShiftDone => exact execRtcShiftDone_same (Same.refl s)
  case rtcAlarm alarm => exact execRtcAlarm_same alarm (Same.refl s)
  case rtcSupplyChangeover toBackup => exact execRtcSupplyChangeover_same toBackup (Same.refl s)
  case rtcBatlow mv => exact execRtcBatlow_same mv (Same.refl s)
  case rtcLost => exact execRtcLost_same (Same.refl s)
  case backupMeasure mv => exact execBackupMeasure_same mv (Same.refl s)
  case timStatus op => exact execTimStatus_same op (Same.refl s)
  case timPtpSet op => exact execTimPtpSet_same op (Same.refl s)
  case timPtpRead op => exact execTimPtpRead_same op (Same.refl s)
  case timTimeSet op => exact execTimTimeSet_same op (Same.refl s)
  case timRtcRead op => exact execTimRtcRead_same op (Same.refl s)
  case timRtcSet op => exact execTimRtcSet_same op (Same.refl s)
  case timRtcShift op => exact execTimRtcShift_same op (Same.refl s)
  case timAlarmSet op => exact execTimAlarmSet_same op (Same.refl s)
  case timAlarmRead op => exact execTimAlarmRead_same op (Same.refl s)
  case timAlarmAck op => exact execTimAlarmAck_same op (Same.refl s)
  case timPpsSet op => exact execTimPpsSet_same op (Same.refl s)
  case timPpsRead op => exact execTimPpsRead_same op (Same.refl s)
  case timBackupSet op => exact execTimBackupSet_same op (Same.refl s)
  case logStatus op => exact execLogStatus_same op (Same.refl s)
  case logRecordRead op => exact execLogRecordRead_same op (Same.refl s)
  case logFreeze op => exact execLogFreeze_same op (Same.refl s)
  case logThaw op => exact execLogThaw_same op (Same.refl s)
  case logMarkSet op => exact execLogMarkSet_same op (Same.refl s)
  case logMarkClear op => exact execLogMarkClear_same op (Same.refl s)
  case logModeSet op => exact execLogModeSet_same op (Same.refl s)
  case logNote op => exact execLogNote_same op (Same.refl s)
  case secNonce op => exact execSecNonce_same op (Same.refl s)
  case secLogin op => exact execSecLogin_same op (Same.refl s)
  case secWhoami op => exact execSecWhoami_same op (Same.refl s)
  case secStatus op => exact execSecStatus_same op (Same.refl s)
  case secProtRead op => exact execSecProtRead_same op (Same.refl s)
  case secProtWrite op => exact execSecProtWrite_same op (Same.refl s)
  case secRevoke op => exact execSecRevoke_same op (Same.refl s)
  case secMaintSet op => exact execSecMaintSet_same op (Same.refl s)
  case maintExpire => exact execMaintExpire_same (Same.refl s)
  case secKeyWrite op => exact execSecKeyWrite_same op (Same.refl s)
  case secKeyStatus op => exact execSecKeyStatus_same op (Same.refl s)
  case secKeyClear op => exact execSecKeyClear_same op (Same.refl s)
  case secCertSet op => exact execSecCertSet_same op (Same.refl s)
  case secCsrRead op => exact execSecCsrRead_same op (Same.refl s)
  case updStatus op => exact execUpdStatus_same op (Same.refl s)
  case updBegin op => exact execUpdBegin_same op (Same.refl s)
  case updData op => exact execUpdData_same op (Same.refl s)
  case updVerify op => exact execUpdVerify_same op (Same.refl s)
  case updAbort op => exact execUpdAbort_same op (Same.refl s)
  case updActivate op => exact execUpdActivate_same op (Same.refl s)
  case updConfirm op => exact execUpdConfirm_same op (Same.refl s)
  case updRollback op => exact execUpdRollback_same op (Same.refl s)
  case updLoadTimeout => exact execUpdLoadTimeout_same (Same.refl s)
  case prbRead op => exact execPrbRead_same op (Same.refl s)
  case prbReadRange op => exact execPrbReadRange_same op (Same.refl s)
  case prbWrite op => exact execPrbWrite_same op (Same.refl s)
  case prbMap op => exact execPrbMap_same op (Same.refl s)
  case pnlStatus op => exact execPnlStatus_same op (Same.refl s)
  case pnlLock op => exact execPnlLock_same op (Same.refl s)
  case pnlPinSet op => exact execPnlPinSet_same op (Same.refl s)
  case pnlMessage op => exact execPnlMessage_same op (Same.refl s)
  case pnlTest op => exact execPnlTest_same op (Same.refl s)
  case pnlScreenRead op => exact execPnlScreenRead_same op (Same.refl s)
  case pnlTestEnd cause => exact execPnlTestEnd_same cause (Same.refl s)
  case keyPress key => exact execKeyPress_same key (Same.refl s)
  case keyRelease key => exact execKeyRelease_same key (Same.refl s)
  case keyRepeat key => exact execKeyRepeat_same key (Same.refl s)
  case proxWake => exact execProxWake_same (Same.refl s)
  case displayDim => exact execDisplayDim_same (Same.refl s)
  case controlLapse => exact execControlLapse_same (Same.refl s)
  case backHold => exact execBackHold_same (Same.refl s)
  case lockoutEnd => exact execLockoutEnd_same (Same.refl s)
  case bannerExpire => exact execBannerExpire_same (Same.refl s)
  case usbServiceKey => exact execUsbServiceKey_same (Same.refl s)
  case usbKeyWindowEnd => exact execUsbKeyWindowEnd_same (Same.refl s)
  case usbAttach => exact execUsbAttach_same (Same.refl s)
  case usbDetach => exact execUsbDetach_same (Same.refl s)
  case linkUp port speed => exact execLinkUp_same port speed (Same.refl s)
  case linkDown port => exact execLinkDown_same port (Same.refl s)
  case sfpInsert port => exact execSfpInsert_same port (Same.refl s)
  case sfpPowered port => exact execSfpPowered_same port (Same.refl s)
  case sfpIdentified port id => exact execSfpIdentified_same port id (Same.refl s)
  case sfpOut port => exact execSfpOut_same port (Same.refl s)
  case ethernetFrame port frame => exact execEthernetFrame_same port frame (Same.refl s)
  case fdbAge vid mac => exact execFdbAge_same vid mac (Same.refl s)
  case rapsFrame port m => exact execRapsFrame_same port m (Same.refl s)
  case rapsTransmit => exact execRapsTransmit_same (Same.refl s)
  case ringWtrExpire => exact execRingWtrExpire_same (Same.refl s)
  case ringGuardExpire => exact execRingGuardExpire_same (Same.refl s)
  case ringHoldOffExpire => exact execRingHoldOffExpire_same (Same.refl s)
  case dipReturn => exact execDipReturn_same (Same.refl s)
  case supplyPhaseDone => exact execSupplyPhaseDone_same (Same.refl s)
  case boot imageA imageB => exact execBoot_same imageA imageB (Same.refl s)
  case memoryReady die0 die1 emmc bank0 bank1 => exact execMemoryReady_same die0 die1 emmc bank0 bank1 (Same.refl s)
  case restore found => exact execRestore_same found (Same.refl s)
  case firstBoundaryRelease => exact execFirstBoundaryRelease_same (Same.refl s)
  case groundReloadDone seg ok => exact execGroundReloadDone_same seg ok (Same.refl s)
  case a0Stop => exact execA0Stop_same (Same.refl s)
  case a0Return => exact execA0Return_same (Same.refl s)
  case dramDieLost die => exact execDramDieLost_same die (Same.refl s)
  case mramBankFault bank => exact execMramBankFault_same bank (Same.refl s)
  case emmcFault => exact execEmmcFault_same (Same.refl s)
  case settingsStoreVerified ok => exact execSettingsStoreVerified_same ok (Same.refl s)
  case resultStoreCopy sequence => exact execResultStoreCopy_same sequence (Same.refl s)
  case operatingCountersSave => exact execOperatingCountersSave_same (Same.refl s)
  case holdupMeasure ms open_ => exact execHoldupMeasure_same ms open_ (Same.refl s)
  case unknownOpcodeRequest session msg => exact execUnknownOpcodeRequest_same session msg (Same.refl s)
  case chargerTempHold hot => exact execChargerTempHold_same hot (Same.refl s)
  case sodWrap => exact execSodWrap_same (Same.refl s)
  all_goals exact absurd h Bool.noConfusion

/-- The nine commands that may change the memory. -/
theorem mayChangeMemory_cases {i : Instr} (h : mayChangeMemory i = true) :
    (∃ ch a, i = .bobBurstDone ch a) ∨ (∃ u c, i = .watchdogReset u c) ∨ (∃ c, i = .memoryErrorReset c) ∨ (∃ p, i = .pllLockLoss p) ∨
      i = .tcxoStop ∨ i = .powerFailWarning ∨ (∃ us, i = .lastGaspComplete us) ∨ i = .dcInputOn ∨ i = .plannedReset := by
  unfold mayChangeMemory at h
  split at h
  case h_10 => exact absurd h Bool.false_ne_true
  all_goals simp

/-- Every command answers a next state, leaves the queue, and keeps the memory in its canonical form. -/
theorem exec_keeps (s : State) (i : Instr) : GoesKeeping s (exec i s) := by
  cases h : mayChangeMemory i with
  | false => exact (exec_same s i h).keeping
  | true =>
    obtain ⟨ch, a, rfl⟩ | ⟨u, c, rfl⟩ | ⟨c, rfl⟩ | ⟨p, rfl⟩ | rfl | rfl | ⟨us, rfl⟩ | rfl | rfl := mayChangeMemory_cases h
    · exact execBobBurstDone_keeps ch a (Keeps.refl s)
    · exact execWatchdogReset_keeps u c (Keeps.refl s)
    · exact execMemoryErrorReset_keeps c (Keeps.refl s)
    · exact execPllLockLoss_keeps p (Keeps.refl s)
    · exact execTcxoStop_keeps (Keeps.refl s)
    · exact execPowerFailWarning_keeps (Keeps.refl s)
    · exact execLastGaspComplete_keeps us (Keeps.refl s)
    · exact execDcInputOn_keeps (Keeps.refl s)
    · exact execPlannedReset_keeps (Keeps.refl s)

/-! One step. -/

theorem step_of_cons {s : State} {i : Instr} {rest : List Instr} (h : s.pending = i :: rest) :
    step s = exec i { s with pending := rest } := by rw [step, h]

theorem step_of_nil {s : State} (h : s.pending = []) : step s = .next (idle s) := by rw [step, h]

/-- Settles O18: a step is a command on the state with the rest of the queue, or the idle cycle, and both keep the form. -/
theorem everyStepKeepsTheMemoryCanonical : Obligations.EveryStepKeepsTheMemoryCanonical := by
  intro s t hwf hstep
  cases hq : s.pending with
  | nil =>
    rw [step_of_nil hq] at hstep
    obtain rfl := Host.Outcome.next.inj hstep
    exact (idle_same (Same.refl s)).keeps.mem hwf
  | cons i rest =>
    rw [step_of_cons hq] at hstep
    obtain ⟨u, hu, hkeeps⟩ := exec_keeps { s with pending := rest } i
    cases hstep.symm.trans hu
    exact hkeeps.mem hwf

/-- Settles O20: the commands left out are those of `mayChangeMemory_cases`. -/
theorem otherCommandsLeaveTheMemory : Obligations.OtherCommandsLeaveTheMemory := by
  intro i s t ht hburst hdog herror hpll htcxo hwarn hgasp hinput hplanned a
  have hleaves : mayChangeMemory i = false := Bool.eq_false_iff.mpr fun h => by
    obtain ⟨ch, b, e⟩ | ⟨u, c, e⟩ | ⟨c, e⟩ | ⟨p, e⟩ | e | e | ⟨us, e⟩ | e | e := mayChangeMemory_cases h
    · exact hburst ch b e
    · exact hdog u c e
    · exact herror c e
    · exact hpll p e
    · exact htcxo e
    · exact hwarn e
    · exact hgasp us e
    · exact hinput e
    · exact hplanned e
  obtain ⟨u, hu, hsame⟩ := exec_same s i hleaves
  cases ht.symm.trans hu
  rw [hsame.mem]

/-- Settles O17: the answer of `exec_keeps`, with its queue. -/
theorem everyCommandAnswers : Obligations.EveryCommandAnswers := by
  intro i s
  obtain ⟨u, hu, hkeeps⟩ := exec_keeps s i
  exact ⟨u, hu, hkeeps.queue⟩

/-- Settles O15. -/
theorem stepRunsTheFront : Obligations.StepRunsTheFront := fun _ _ _ h => step_of_cons h

/-- Settles O16: the idle cycle leaves queue and memory. -/
theorem emptyQueueLetsOneCyclePass : Obligations.EmptyQueueLetsOneCyclePass := by
  intro s h
  have hidle := idle_same (Same.refl s)
  exact ⟨step_of_nil h, hidle.queue.trans h, fun a => by rw [hidle.mem]⟩

end Sys2Proof.Machine
end


section
/-! SUPPORT. The fabric memory as its writes leave it (R67, R68), and what the write half of a Bobbin burst does to it (R69). -/

namespace Sys2Proof.Machine

/-! A write of one byte. -/

/-- Below the first address that it may list, a memory reads as unlisted. -/
theorem memRead_below {m : Memory} {l b : Nat} (h : memWfFrom (some l) m = true) (hb : b ≤ l) : memRead m b = unlisted := by
  induction m generalizing l with
  | nil => rfl
  | cons c t ih =>
    obtain ⟨a, v⟩ := c
    simp only [memWfFrom, Bool.and_eq_true, decide_eq_true_eq] at h
    obtain ⟨⟨hla, -⟩, ht⟩ := h
    rw [memRead, if_neg (by omega)]
    exact ih ht (by omega)

theorem memRead_memWrite_from {m : Memory} {lo : Option Nat} (hm : memWfFrom lo m = true) (a b : Nat) (v : Byte) :
    memRead (memWrite m a v) b = if b = a then v else memRead m b := by
  induction m generalizing lo with
  | nil =>
    by_cases hv : v = unlisted
    · simp [memWrite, hv, memRead]
    · simp [memWrite, hv, memRead]
  | cons c t ih =>
    obtain ⟨x, w⟩ := c
    simp only [memWfFrom, Bool.and_eq_true] at hm
    obtain ⟨-, ht⟩ := hm
    rcases Nat.lt_trichotomy a x with hax | rfl | hxa
    · have habsent : memRead ((x, w) :: t) a = unlisted := by
        rw [memRead, if_neg (by omega)]
        exact memRead_below ht (by omega)
      rw [memWrite, if_pos hax]
      split
      · next hv =>
        by_cases hba : b = a
        · rw [if_pos hba, hba, habsent, hv]
        · rw [if_neg hba]
      · rfl
    · rw [memWrite, if_neg (by omega), if_pos rfl]
      split
      · next hv =>
        by_cases hba : b = a
        · rw [if_pos hba, hba, hv]
          exact memRead_below ht (by omega)
        · rw [if_neg hba, memRead, if_neg hba]
      · by_cases hba : b = a
        · simp [memRead, hba]
        · simp [memRead, hba]
    · rw [memWrite, if_neg (by omega), if_neg (by omega), memRead, memRead, ih ht]
      by_cases hbx : b = x
      · rw [if_pos hbx, if_pos hbx, if_neg (by omega)]
      · rw [if_neg hbx, if_neg hbx]

theorem memRead_memWrite {m : Memory} (hm : Memory.wf m = true) (a b : Nat) (v : Byte) :
    memRead (memWrite m a v) b = if b = a then v else memRead m b := memRead_memWrite_from hm a b v

/-- Settles O21. -/
theorem memoryReadsWhatWasWritten : Obligations.MemoryReadsWhatWasWritten :=
  fun _ a b v hm => ⟨memRead_memWrite hm a b v, memWrite_wf hm a v⟩

/-! Writes in order. -/

theorem memRead_memWriteAll_other {m : Memory} (hm : Memory.wf m = true) (l : List (Nat × Byte)) {a : Nat} (h : ∀ p ∈ l, a ≠ p.1) :
    memRead (memWriteAll m l) a = memRead m a := by
  induction l generalizing m with
  | nil => rfl
  | cons p l ih =>
    have hrest := ih (memWrite_wf hm p.1 p.2) fun q hq => h q (List.mem_cons_of_mem p hq)
    exact hrest.trans ((memRead_memWrite hm p.1 a p.2).trans (if_neg (h p List.mem_cons_self)))

/-- Of writes to distinct addresses each is read back. -/
theorem memRead_memWriteAll_of_mem {m : Memory} (hm : Memory.wf m = true) {l : List (Nat × Byte)} (hl : (l.map (·.1)).Nodup)
    {p : Nat × Byte} (hp : p ∈ l) : memRead (memWriteAll m l) p.1 = p.2 := by
  induction l generalizing m with
  | nil => exact absurd hp List.not_mem_nil
  | cons q l ih =>
    rw [List.map_cons, List.nodup_cons] at hl
    obtain ⟨hq, hl⟩ := hl
    rcases List.mem_cons.mp hp with rfl | hp
    · have hother : ∀ r ∈ l, p.1 ≠ r.1 := fun r hr e => hq (e ▸ List.mem_map_of_mem hr)
      exact (memRead_memWriteAll_other (memWrite_wf hm p.1 p.2) l hother).trans ((memRead_memWrite hm p.1 p.1 p.2).trans (if_pos rfl))
    · exact ih (memWrite_wf hm q.1 q.2) hl hp

/-! The burst. -/

theorem bobbin_onBobbin {s : State} {ch : Nat} (h : ch < s.bob.channels.length) (f : Bobbin → Bobbin) :
    bobbin (onBobbin ch f s) ch = f (bobbin s ch) := listModify_in default f _ _ h

/-- The write half to memory stores the holding register at the channel's destination addresses. -/
theorem writeBurst_mem {s : State} {ch : Nat} (h : bDstSkein (bobbin s ch) = false) : ∀ b, b = bobbin s ch →
    (writeBurst ch s).bob.mem =
      memWriteAll s.bob.mem ((burstAddresses b.dst (bDw b) (bDinc b) (b.moved - b.hold.length) b.hold.length).zip b.hold) := by
  rintro b rfl
  simp only [writeBurst, h, Bool.false_eq_true, if_false]
  split
  · exact (haltBobbin_same _ _ _ _ (onBobbin_same _ _ (Same.refl _))).mem
  · exact (onBobbin_same _ _ (Same.refl _)).mem

/-- The write half's whole effect on the memory: settling the path afterwards leaves it. -/
theorem bobBurstDone_mem {s t : State} {ch : Nat} {b : Bobbin} (hb : b = bobbin s ch) (hmay : mayComplete s ch = true)
    (hopen : accessFails .ok (nextBurst b) = false) (hhold : b.hold ≠ []) (hdst : bDstSkein b = false) (hch : ch < s.bob.channels.length)
    (h : exec (.bobBurstDone ch .ok) s = .next t) :
    t.bob.mem = memWriteAll s.bob.mem ((burstAddresses b.dst (bDw b) (bDinc b) (b.moved - b.hold.length) b.hold.length).zip b.hold) := by
  subst hb
  have hreading : ((bobbin s ch).hold == []) = false := beq_eq_false_iff_ne.mpr hhold
  have hexec : exec (.bobBurstDone ch .ok) s = .next (passPath (writeBurst ch (onBobbin ch (fun b => { b with tries := 0 }) s))) := by
    show execBobBurstDone ch .ok s = _
    simp only [execBobBurstDone, hmay, hopen, hreading, if_true, Bool.false_eq_true, if_false]
    rfl
  have hbob := bobbin_onBobbin hch (fun b => { b with tries := 0 })
  cases h.symm.trans hexec
  rw [(passPath_same (Same.refl _)).mem, writeBurst_mem (by rw [hbob]; exact hdst) _ hbob.symm]
  rfl

/-- Within the 40-bit space an incrementing end gives distinct addresses. -/
theorem burstAddresses_nodup (base width start : Nat) {n : Nat} (hn : n ≤ 1099511627776) :
    (burstAddresses base width true start n).Nodup := by
  refine List.Nodup.map_on (fun i hi j hj hij => ?_) (by simpa [upTo] using List.nodup_range)
  simp only [upTo, List.mem_range] at hi hj
  simp only [endAddress, if_true] at hij
  omega

/-- Settles O22: the memory after the burst is the pairs of addresses and bytes written in order. -/
theorem burstStoresAtItsDestination : Obligations.BurstStoresAtItsDestination := by
  intro s t ch b hb hwf hmay hopen hhold hdst hch hexec
  rw [bobBurstDone_mem hb hmay hopen hhold hdst hch hexec]
  refine ⟨fun a ha => memRead_memWriteAll_other hwf _ fun p hp => ?_, fun hinc hlen k hk => ?_⟩
  · obtain ⟨k, hk, hka⟩ := List.mem_map.mp (List.of_mem_zip hp).1
    rw [← hka]
    exact ha k (by simpa [upTo] using hk)
  · have hlength : (burstAddresses b.dst (bDw b) (bDinc b) (b.moved - b.hold.length) b.hold.length).length = b.hold.length := by
      simp [burstAddresses, upTo]
    refine memRead_memWriteAll_of_mem (p := (_, _)) hwf ?_ (List.mem_iff_getElem.mpr ⟨k, by simp [hlength, hk], ?_⟩)
    · rw [List.map_fst_zip (le_of_eq hlength), hinc]; exact burstAddresses_nodup _ _ _ hlen
    · simp [burstAddresses, upTo, endAddress, hinc]

end Sys2Proof.Machine
end

section
/-! SUPPORT. What A0 makes of a request (R325, R326, R329, R335): one equation of `takeRequest` for each of its ends; the answer owed for a
command that the commit has not yet reached, or has (R328); and the answers to a SLOT_READ (R333). -/

namespace Sys2Proof.Machine

/-! The places of a mailbox. -/

theorem windowOf_congr {s t : State} {m : Nat} (htmb : t.tmb = s.tmb) (hcmds : (box t m).cmds = (box s m).cmds) : windowOf t m = windowOf s m := by
  simp [windowOf, a0HeldFor, htmb, hcmds]

/-! Answers owed (R328). -/

/-- An answer that names accepted work: ACCEPTED, or ACCEPTED again for a duplicate. -/
def namesWork (a : Answer) (q : U32) (op : Nat) (tag : U32) : Prop := a = .accepted q op tag ∨ a = .repeated q op tag

/-- The answer at the head of the queue waits until its work is committed. -/
theorem flushAnswers_waits {s : State} {m op : Nat} {q tag : U32} {a : Answer} {rest : List Answer} {x : TagEntry}
    (ha : namesWork a q op tag) (hbox : (box s m).answers = a :: rest) (hx : tagOf (box s m) q = some x) (hcom : x.committed = false) :
    ∀ n, flushAnswers m n s = s
  | 0 => rfl
  | n + 1 => by rcases ha with rfl | rfl <;> simp [flushAnswers, hbox, hx, hcom]

/-- Once its work is committed, the answer leaves with its Stitch. -/
theorem flushAnswers_committed {s : State} {m op : Nat} {q tag : U32} {a : Answer} {rest : List Answer} {x : TagEntry}
    (ha : namesWork a q op tag) (hbox : (box s m).answers = a :: rest) (hx : tagOf (box s m) q = some x) (hcom : x.committed = true) (n : Nat) :
    flushAnswers m (n + 1) s =
      flushAnswers m n (send m kAccepted false op q tag stOk (leW x.stitch) (onBox m (fun b => { b with answers := rest }) s)) := by
  rcases ha with rfl | rfl <;> simp [flushAnswers, hbox, hx, hcom]

/-- The state in which the answer is the only one owed. -/
theorem box_owing {s : State} {m : Nat} (hm : m < s.mbx.boxes.length) (hnone : (box s m).answers = []) (a : Answer) :
    box (onBox m (fun b => { b with answers := b.answers ++ [a] }) s) m = { box s m with answers := [a] } := by
  rw [onBox_in m _ s hm, hnone]; rfl

section
variable {s : State} {m op : Nat} {q tag : U32} {a : Answer} {x : TagEntry} (hm : m < s.mbx.boxes.length)
  (ha : namesWork a q op tag) (hnone : (box s m).answers = []) (hx : tagOf (box s m) q = some x)
include hm ha hnone hx

theorem answer_waits (hcom : x.committed = false) : answer m a s = onBox m (fun b => { b with answers := b.answers ++ [a] }) s := by
  have hbox := box_owing hm hnone a
  exact flushAnswers_waits ha (by rw [hbox]) (by rw [hbox]; exact hx) hcom _

theorem answer_committed_sent (hcom : x.committed = true) (hopen : (box s m).session ≠ .closed) (hrun : s.mbx.a0Running = true) :
    (answer m a s).mbx.sent = s.mbx.sent ++ [⟨m, kAccepted, false, windowOf s m, op, q, tag, stOk, leW x.stitch⟩] := by
  have hbox := box_owing hm hnone a
  have hsends : answer m a s = send m kAccepted false op q tag stOk (leW x.stitch)
      (onBox m (fun b => { b with answers := [] }) (onBox m (fun b => { b with answers := b.answers ++ [a] }) s)) := by
    rw [answer, hbox]
    exact flushAnswers_committed ha (by rw [hbox]) (by rw [hbox]; exact hx) hcom 0
  have hlength : m < (onBox m (fun b => { b with answers := b.answers ++ [a] }) s).mbx.boxes.length := by
    simpa [listModify_length] using hm
  have hown := onBox_in m (fun b => { b with answers := [] }) _ hlength
  rw [hbox] at hown
  rw [hsends, send_open _ _ _ _ _ _ _ _ _ (by rw [hown]; exact hopen) (by simpa using hrun),
    windowOf_congr (s := s) (by simp) (by rw [hown])]
  simp

end

/-! The ends of `takeRequest`. -/

section
variable {spec : CmdSpec} {s : State} {m : Nat} {h : Message}

/-- A0 does not take requests of this mailbox now, or the panel does not send this one. -/
theorem takeRequest_notTaken (htakes : (a0Takes s m && panelSends s m spec.opcode spec.needs) = false) : takeRequest spec m h s = s := by
  simp [takeRequest, htakes]

variable (htakes : (a0Takes s m && panelSends s m spec.opcode spec.needs) = true)
include htakes

theorem takeRequest_badHeader {st : Nat} {d : Bytes} (hheader : headerCheck m h = .refuse st d) :
    takeRequest spec m h s = refuseRequest m h st d s := by simp [takeRequest, htakes, hheader]

theorem takeRequest_closes (hheader : headerCheck m h = .close) : takeRequest spec m h s = post 0x0303 m [] (dropSession m s) := by
  simp [takeRequest, htakes, hheader]

theorem takeRequest_discards (hheader : headerCheck m h = .discard) :
    takeRequest spec m h s = onBox 14 (fun b => { b with usbCrcErr := sat16Inc b.usbCrcErr }) s := by
  simp [takeRequest, htakes, hheader]

variable (hheader : headerCheck m h = .ok) (hkind : kindOf h.flags = kRequest)
include hheader hkind

theorem takeRequest_loginWait (hlogin : (box s m).session = .loginWait) : takeRequest spec m h s = refuseRequest m h stDenied [] s := by
  simp [takeRequest, htakes, hheader, hkind, hlogin]

variable (hlogin : (box s m).session ≠ .loginWait)
include hlogin

theorem takeRequest_inLoader (hphase : s.sys.phase = .loader) (hloader : spec.loader = false) :
    takeRequest spec m h s = refuseRequest m h stBadOpcode [] s := by
  simp [takeRequest, htakes, hheader, hkind, hlogin, hphase, hloader]

variable (hphase : s.sys.phase ≠ .loader)
include hphase

/-- A tag in use by another request (R329). -/
theorem takeRequest_conflict {x : TagEntry} (htag : tagMatch (box s m) h.tag = some x) (hother : ¬(x.opcode = h.opcode ∧ x.crc = payloadCrc h.payload)) :
    takeRequest spec m h s = refuseRequest m h stConflict [] s := by
  have hdiffers : (x.opcode == h.opcode && x.crc == payloadCrc h.payload) = false := by
    simpa [Bool.and_eq_false_iff, not_and_or] using hother
  simp [takeRequest, htakes, hheader, hkind, hlogin, hphase, htag, hdiffers]

/-- The same request again (R329). -/
theorem takeRequest_duplicate {x : TagEntry} (htag : tagMatch (box s m) h.tag = some x) (hop : x.opcode = h.opcode)
    (hcrc : x.crc = payloadCrc h.payload) : takeRequest spec m h s =
      answer m (.repeated x.seq h.opcode h.tag) (onBox m (fun b => { b with dupCnt := b.dupCnt + 1 }) s) := by
  simp [takeRequest, htakes, hheader, hkind, hlogin, hphase, htag, hop, hcrc]

variable (htag : tagMatch (box s m) h.tag = none)
include htag

theorem takeRequest_notAllowed (hright : allowed s m spec.needs = false) : takeRequest spec m h s = refuseRequest m h stDenied [] s := by
  simp [takeRequest, htakes, hheader, hkind, hlogin, hphase, htag, hright]

/-- A request that passes every check (R326). -/
theorem takeRequest_accepts (hright : allowed s m spec.needs = true) (hcheck : spec.check m h.payload s = none) :
    takeRequest spec m h s = windowMessage m (accept spec m h s) := by
  simp [takeRequest, htakes, hheader, hkind, hlogin, hphase, htag, hright, hcheck]

end

/-! Acceptance (R326, R327). -/

/-- The command that an acceptance puts in its mailbox. -/
def acceptedCmd (m : Nat) (h : Message) (s : State) : Cmd :=
  { mailbox := m, seq := s.jnl.nextSeq, opcode := h.opcode, tag := h.tag, push := pushOf h.flags, payload := h.payload,
    principal := principalOf s m, rights := BitVec.ofNat 32 (rightsOf s m), maint := maintOn s, phase := .batched,
    accepted := 0, status := 0, result := [] }

/-- The entry that an acceptance puts in its mailbox's tags. -/
def acceptedTag (h : Message) (s : State) : TagEntry :=
  { tag := h.tag, opcode := h.opcode, crc := payloadCrc h.payload, seq := s.jnl.nextSeq, stitch := 0, committed := false }

/-- The work joins the journal and the command its mailbox; the command's own part comes after. -/
def joined (m : Nat) (h : Message) (s : State) : State :=
  onBox m (fun b => { b with cmds := b.cmds ++ [acceptedCmd m h s], tags := b.tags ++ [acceptedTag h s] })
    (joinWork jkCommand m (commandBody m h (principalOf s m) (rightsOf s m) (maintOn s)) s).2

theorem accept_eq (spec : CmdSpec) (m : Nat) (h : Message) (s : State) : accept spec m h s =
    answer m (.accepted s.jnl.nextSeq h.opcode h.tag) (spec.onAccept m s.jnl.nextSeq h.payload (joined m h s)) := rfl

theorem joined_box {s : State} {m : Nat} (hm : m < s.mbx.boxes.length) (h : Message) : box (joined m h s) m =
    { box s m with cmds := (box s m).cmds ++ [acceptedCmd m h s], tags := (box s m).tags ++ [acceptedTag h s] } := onBox_in m _ _ hm

theorem joined_box_other {s : State} {m k : Nat} (hk : k ≠ m) (h : Message) : box (joined m h s) k = box s k := onBox_other m k _ _ hk

/-- A sequence that no tag held names the tag that joined. -/
theorem tagOf_joined {s : State} {m : Nat} (hm : m < s.mbx.boxes.length) (h : Message) (hnew : ∀ x ∈ (box s m).tags, x.seq ≠ s.jnl.nextSeq) :
    tagOf (box (joined m h s) m) s.jnl.nextSeq = some (acceptedTag h s) := by
  have hnone : (box s m).tags.find? (fun t => t.seq == s.jnl.nextSeq) = none := List.find?_eq_none.mpr fun x hx => by simpa using hnew x hx
  rw [joined_box hm, tagOf, List.find?_append, hnone]
  simp [acceptedTag]

theorem accept_jnl {spec : CmdSpec} (hk : KeepsWork spec) (m : Nat) (h : Message) (s : State) :
    (accept spec m h s).jnl = (joined m h s).jnl := by
  rw [accept_eq, answersOnly_jnl (answersOnly_answer ..), (hk ..).1]

theorem box_onAccept {spec : CmdSpec} (hk : KeepsWork spec) (m : Nat) (q : U32) (p : Bytes) (s : State) (k : Nat) :
    box (spec.onAccept m q p s) k = box s k := by rw [box, box, (hk m q p s).2]

theorem accept_box_other {spec : CmdSpec} (hk : KeepsWork spec) {m k : Nat} (hne : k ≠ m) (h : Message) (s : State) :
    box (accept spec m h s) k = box s k := by
  rw [accept_eq, (answersOnly_answer ..).others k hne, box_onAccept hk, joined_box_other hne]

theorem accept_box {spec : CmdSpec} (hk : KeepsWork spec) {s : State} {m : Nat} (hm : m < s.mbx.boxes.length) (h : Message) :
    (box (accept spec m h s) m).cmds = (box s m).cmds ++ [acceptedCmd m h s] ∧
    (box (accept spec m h s) m).tags = (box s m).tags ++ [acceptedTag h s] := by
  obtain ⟨a, w, hown⟩ := (answersOnly_answer m (.accepted s.jnl.nextSeq h.opcode h.tag)
    (spec.onAccept m s.jnl.nextSeq h.payload (joined m h s))).own
  rw [accept_eq, hown, box_onAccept hk, joined_box hm]
  exact ⟨rfl, rfl⟩

/-- The ACCEPTED waits for the commit (R328). -/
theorem accept_owes {spec : CmdSpec} (hk : KeepsWork spec) {s : State} {m : Nat} (hm : m < s.mbx.boxes.length) (h : Message)
    (hnone : (box s m).answers = []) (hnew : ∀ x ∈ (box s m).tags, x.seq ≠ s.jnl.nextSeq) :
    (box (accept spec m h s) m).answers = [.accepted s.jnl.nextSeq h.opcode h.tag] ∧ (accept spec m h s).mbx.sent = s.mbx.sent := by
  have hmbx : (spec.onAccept m s.jnl.nextSeq h.payload (joined m h s)).mbx = (joined m h s).mbx := (hk ..).2
  have hlength : m < (spec.onAccept m s.jnl.nextSeq h.payload (joined m h s)).mbx.boxes.length := by
    rw [hmbx]; simpa [joined, joinWork, listModify_length] using hm
  have hbox := box_onAccept hk m s.jnl.nextSeq h.payload (joined m h s) m
  rw [accept_eq, answer_waits hlength (.inl rfl) (by rw [hbox, joined_box hm]; exact hnone) (by rw [hbox]; exact tagOf_joined hm h hnew) rfl]
  refine ⟨?_, ?_⟩
  · rw [onBox_in m _ _ hlength, hbox, joined_box hm, hnone]; rfl
  · show (spec.onAccept m s.jnl.nextSeq h.payload (joined m h s)).mbx.sent = s.mbx.sent
    rw [hmbx]; rfl

/-- Settles O49: the request comes to `accept`, whose parts the lemmas above give. -/
theorem requestsAreAccepted : Obligations.RequestsAreAccepted := by
  rintro s i spec r hrow _ rfl _ rfl ⟨hphase, htakes, hheader, hkind, hlogin, htag⟩ hright hcheck hm _ rfl _ rfl
  have hk := row_keeps hrow
  have haccepts := takeRequest_accepts (spec := spec) htakes hheader hkind hlogin hphase htag hright hcheck
  obtain ⟨hcmds, htags⟩ := accept_box hk hm (messageOf spec.opcode r)
  exact ⟨accept spec r.session (messageOf spec.opcode r) s, (take_ok s hrow).trans (congrArg _ haccepts), accept_jnl hk ..,
    fun k hne => accept_box_other hk hne .., hcmds, htags, accept_owes hk hm _⟩

/-! Duplicates (R329). -/

/-- A duplicate changes the duplicates' count and the answers of its own mailbox alone. -/
theorem duplicate_keeps {s t : State} {m : Nat} {a : Answer} (ht : t = answer m a (onBox m (fun b => { b with dupCnt := b.dupCnt + 1 }) s)) :
    t = { s with mbx.boxes := t.mbx.boxes, mbx.sent := t.mbx.sent } ∧ (∀ k, k ≠ m → box t k = box s k) ∧
    (box t m).cmds = (box s m).cmds ∧ (box t m).tags = (box s m).tags ∧
    (m < s.mbx.boxes.length → (box t m).dupCnt = (box s m).dupCnt + 1) := by
  obtain ⟨hrest, hothers, ⟨x, w, hown⟩, -⟩ := answersOnly_answer m a (onBox m (fun b => { b with dupCnt := b.dupCnt + 1 }) s)
  subst ht
  have hcount : (box (onBox m (fun b => { b with dupCnt := b.dupCnt + 1 }) s) m).cmds = (box s m).cmds ∧
      (box (onBox m (fun b => { b with dupCnt := b.dupCnt + 1 }) s) m).tags = (box s m).tags := by
    by_cases hm : m < s.mbx.boxes.length
    · rw [onBox_in m _ s hm]; exact ⟨rfl, rfl⟩
    · rw [onBox, listModify_out _ _ _ (Nat.not_lt.mp hm)]; exact ⟨rfl, rfl⟩
  refine ⟨?_, fun k hk => (hothers k hk).trans (onBox_other m k _ s hk), ?_, ?_, fun hm => ?_⟩
  · rw [hrest]; rfl
  · rw [hown]; exact hcount.1
  · rw [hown]; exact hcount.2
  · rw [hown, onBox_in m _ s hm]

/-- Settles O50: each way a request fails is one end of `takeRequest`, and every refusal is one by `refuseRequest`. -/
theorem requestsAreRefused : Obligations.RequestsAreRefused := by
  refine ⟨?_, fun s m h htakes hkind hheader hlogin => ?_⟩
  · rintro s i spec r hrow _ rfl _ rfl _ rfl
    have hexec := take_ok s hrow
    have refused : ∀ {u st d}, takeRequest spec r.session (messageOf spec.opcode r) s = refuseRequest r.session (messageOf spec.opcode r) st d u →
        ∃ t, exec i s = .next t ∧ Refused u t r.session spec.opcode r.tag st d := fun {u st d} e =>
      ⟨_, hexec.trans (congrArg _ e), refuseRequest_refused r.session (messageOf spec.opcode r) st d u⟩
    refine ⟨fun htakes => hexec.trans (congrArg _ (takeRequest_notTaken htakes)), fun htakes =>
      ⟨fun st d hheader => refused (takeRequest_badHeader htakes hheader), fun hheader => hexec.trans (congrArg _ (takeRequest_closes htakes hheader)),
        fun hheader => hexec.trans (congrArg _ (takeRequest_discards htakes hheader)), fun hheader hkind => ?_⟩⟩
    refine ⟨fun hlogin => refused (takeRequest_loginWait htakes hheader hkind hlogin), fun hlogin hphase hloader =>
      refused (takeRequest_inLoader htakes hheader hkind hlogin hphase hloader), fun hlogin hphase => ⟨fun x htag hother =>
        refused (takeRequest_conflict htakes hheader hkind hlogin hphase htag hother), fun x htag hop hcrc => ?_, fun htag hright =>
        refused (takeRequest_notAllowed htakes hheader hkind hlogin hphase htag hright), fun htag hright st d hcheck =>
        refused (takeRequest_of_check ⟨hphase, htakes, hheader, hkind, hlogin, htag⟩ rfl hright hcheck)⟩⟩
    obtain ⟨hrest, hothers, hcmds, htags, hcount⟩ := duplicate_keeps rfl
    refine ⟨_, hexec.trans (congrArg _ (takeRequest_duplicate htakes hheader hkind hlogin hphase htag hop hcrc)), hrest, hothers, hcmds, htags,
      hcount, fun hm hnone hopen hrun y hy => ?_⟩
    have hbox := onBox_in r.session (fun b => { b with dupCnt := b.dupCnt + 1 }) s hm
    have hlength : r.session < (onBox r.session (fun b => { b with dupCnt := b.dupCnt + 1 }) s).mbx.boxes.length := by
      simpa [listModify_length] using hm
    have hnone' : (box (onBox r.session (fun b => { b with dupCnt := b.dupCnt + 1 }) s) r.session).answers = [] := by rw [hbox]; exact hnone
    have hy' : tagOf (box (onBox r.session (fun b => { b with dupCnt := b.dupCnt + 1 }) s) r.session) x.seq = some y := by rw [hbox]; exact hy
    refine ⟨fun hcom => ?_, fun hcom => ?_⟩
    · rw [answer_committed_sent hlength (.inr rfl) hnone' hy' hcom (by rw [hbox]; exact hopen) hrun,
        windowOf_congr (s := s) (by simp) (by rw [hbox])]
      rfl
    · rw [answer_waits hlength (.inr rfl) hnone' hy' hcom]
      exact ⟨by rw [onBox_in _ _ _ hlength, hnone']; rfl, rfl⟩
  · have hexec : exec (.unknownOpcodeRequest m h) s = .next (refuseRequest m h stBadOpcode [] s) := by
      show execUnknownOpcodeRequest m h s = _
      simp [execUnknownOpcodeRequest, htakes, hheader, hkind, hlogin, next]
    exact ⟨_, hexec, refuseRequest_refused m h stBadOpcode [] s⟩

/-! SLOT_READ (R333). -/

/-- A SLOT_READ that is in order is answered. -/
theorem slotRead_answers {s : State} {m : Nat} {h : Message} (hreads : a0Reads s m = true) (hheader : headerCheck m h = .ok)
    (hkind : kindOf h.flags = kSlotRead) (hlogin : (box s m).session ≠ .loginWait) :
    exec (.slotRead m h) s = .next (slotAnswer m h.seq h.tag s) := by
  show execSlotRead m h s = _
  simp [execSlotRead, hreads, hheader, hkind, hlogin, next]

theorem running_of_a0Reads {s : State} {m : Nat} (h : a0Reads s m = true) : s.mbx.a0Running = true := by
  simp only [a0Reads, Bool.and_eq_true] at h
  obtain ⟨⟨⟨hrun, -⟩, -⟩, -⟩ := h
  exact hrun

/-- Settles O51: `slotAnswer` sends one message, by its cases. -/
theorem slotReadsAnswer : Obligations.SlotReadsAnswer := by
  rintro s m h hreads hheader hkind hlogin hopen _ rfl
  have hexec := slotRead_answers hreads hheader hkind hlogin
  have sends : ∀ {rep op tag st p}, slotAnswer m h.seq h.tag s = send m kResult rep op h.seq tag st p s → ∃ t, exec (.slotRead m h) s = .next t ∧
      t = { s with mbx.boxes := t.mbx.boxes, mbx.sent := t.mbx.sent } ∧
      t.mbx.sent = s.mbx.sent ++ [⟨m, kResult, rep, windowOf s m, op, h.seq, tag, st, p⟩] := fun e =>
    ⟨_, hexec.trans (congrArg _ e), (answersOnly_send ..).rest, send_open _ _ _ _ _ _ _ _ _ hopen (running_of_a0Reads hreads)⟩
  refine ⟨fun c hc => sends (by simp only [slotAnswer, hc] <;> rfl), fun hc => ⟨fun x hx => ⟨fun hkept => sends ?_, fun hlost => sends ?_⟩,
    fun hx => ⟨fun hreleased => sends ?_, fun hreleased => sends ?_⟩⟩⟩
  · simp only [slotAnswer, hc, hx, hkept, Bool.false_eq_true, if_false]
  · simp only [slotAnswer, hc, hx, hlost, if_true]
  · simp only [slotAnswer, hc, hx, hreleased, if_true]
  · simp only [slotAnswer, hc, hx, hreleased, Bool.false_eq_true, if_false]

end Sys2Proof.Machine
end

section
/-! SUPPORT. A boundary's number and steering (R34-R38): the generator as `steer` leaves it, and the boundary as the numbering of the ended
Stitch followed by it. -/

namespace Sys2Proof.Machine

/-! Steering (R36). -/

/-- Beside the instants, the phase and the state, steering leaves the generator. -/
theorem steer_stitch (s : State) : ∃ (e : Int) (st : StitchState) (next : Nat), (steer s).stitch =
    { s.stitch with phase := e, state := st, lastBoundary := s.stitch.nextBoundary, nextBoundary := next } := ⟨_, _, _, rfl⟩

theorem clampI_bounds {lo hi : Int} (h : lo ≤ hi) (x : Int) : lo ≤ clampI x lo hi ∧ clampI x lo hi ≤ hi := by
  unfold clampI
  omega

/-- The Stitch that begins is its period long within 1/2000. -/
theorem steer_length (s : State) :
    ((steer s).stitch.nextBoundary : Int) - s.stitch.nextBoundary ≤ s.stitch.period * 1000000 + s.stitch.period * 500 ∧
    (s.stitch.period : Int) * 1000000 - s.stitch.period * 500 ≤ (steer s).stitch.nextBoundary - s.stitch.nextBoundary := by
  obtain ⟨corr, hcorr, hlow, hhigh⟩ : ∃ corr : Int, (steer s).stitch.nextBoundary =
      ((s.stitch.nextBoundary : Int) + (s.stitch.period * 1000000 : Nat) - corr).toNat ∧
      -((s.stitch.period * 1000000 / 2000 : Nat) : Int) ≤ corr ∧ corr ≤ ((s.stitch.period * 1000000 / 2000 : Nat) : Int) := by
    refine ⟨_, rfl, ?_⟩
    split
    · omega
    · exact clampI_bounds (by omega) _
  rw [hcorr]
  omega

/-! The boundary. -/

/-- The generator that a boundary's numbering leaves (R35, R37). -/
def numbered (g : StitchGen) : StitchGen :=
  let would := g.number + 1
  let r33 := BitVec.ofNat 32 (gridIndex (g.period * 1000000) g.nextBoundary)
  if g.period * 500000 < g.step.natAbs then
    if (0 < g.step && serialBefore would r33) = true then { g with number := r33, offset := 0, step := 0, skip := g.skip + (r33 - would) }
    else { g with number := would, step := 0, offset := would - r33 }
  else { g with number := would, step := 0 }

/-- The generator that a change of period leaves (R38). -/
def periodChanged (p : Nat) (g : StitchGen) : StitchGen :=
  { g with period := p, number := BitVec.ofNat 32 (gridIndex (p * 1000000) g.nextBoundary), offset := 0, step := 0, newPeriod := none }

theorem numbered_keeps (g : StitchGen) : (numbered g).nextBoundary = g.nextBoundary ∧ (numbered g).step = 0 ∧ (numbered g).period = g.period ∧
    (numbered g).newPeriod = g.newPeriod := by
  unfold numbered
  dsimp only
  split
  · split <;> exact ⟨rfl, rfl, rfl, rfl⟩
  · exact ⟨rfl, rfl, rfl, rfl⟩

/-- The boundary as its numbering, whose generator is told, steered and marked busy. -/
theorem boundary_of_numbering (s : State) : ∃ u, boundary s = beginCommit (onStitch (fun g => { g with busy := true }) (steer u)) ∧
    (∀ p, periodDue s = some p → u.stitch = periodChanged p s.stitch) ∧ (periodDue s = none → u.stitch = numbered s.stitch) ∧
    u.jnl.committing = s.jnl.committing := by
  obtain ⟨u, hu, hchange, hnumber⟩ := boundary_numbered s
  have hstitch := stitchEnd_stitch s
  rw [periodDue_of_stitch hstitch] at hchange hnumber
  refine ⟨u, hu, fun p hp => ?_, fun hp => ?_, ?_⟩
  · rw [hchange p hp, changePeriod_stitch, hstitch, periodChanged]
  · rw [hnumber hp, numberBoundary_stitch, hstitch, numbered]
  · cases hp : periodDue s with
    | some p => rw [hchange p hp, changePeriod_jnl, stitchEnd_committing]
    | none => rw [hnumber hp, numberBoundary_jnl, stitchEnd_committing]

/-- What both kinds of numbering leave for the steering. -/
theorem numbering_keeps {s u : State} (hchange : ∀ p, periodDue s = some p → u.stitch = periodChanged p s.stitch)
    (hnumber : periodDue s = none → u.stitch = numbered s.stitch) : u.stitch.nextBoundary = s.stitch.nextBoundary ∧ u.stitch.step = 0 := by
  cases hp : periodDue s with
  | some p => simp only [hchange p hp, periodChanged, and_self]
  | none =>
    obtain ⟨hnext, hstep, -, -⟩ := numbered_keeps s.stitch
    rw [hnumber hp]
    exact ⟨hnext, hstep⟩

theorem stitchBoundary_busy {s : State} (h : boundaryFree s = false) : exec .stitchBoundary s = .next s ∧ exec .stitchPeriodChange s = .next s := by
  refine ⟨?_, ?_⟩
  · show execStitchBoundary s = _
    simp [execStitchBoundary, h, next]
  · show execStitchPeriodChange s = _
    simp [execStitchPeriodChange, h, next]

theorem stitchBoundary_free {s : State} (h : boundaryFree s = true) : exec .stitchBoundary s = .next (boundary s) := by
  show execStitchBoundary s = _
  simp [execStitchBoundary, h, next]

theorem stitchPeriodChange_due {s : State} {p : Nat} (h : boundaryFree s = true) (hp : periodDue s = some p) :
    exec .stitchPeriodChange s = .next (boundary s) := by
  show execStitchPeriodChange s = _
  simp [execStitchPeriodChange, h, hp, next]

theorem stitchPeriodChange_notDue {s : State} (hp : periodDue s = none) : exec .stitchPeriodChange s = .next s := by
  show execStitchPeriodChange s = _
  simp [execStitchPeriodChange, hp, next]

/-- Settles O52: the generator after the boundary is the numbered one, steered; its commit is that of `beginCommit`. -/
theorem boundaryAdvancesTheStitch : Obligations.BoundaryAdvancesTheStitch := by
  rintro s _ rfl
  refine ⟨stitchBoundary_busy, fun hfree => ⟨boundary s, stitchBoundary_free hfree, ?_⟩⟩
  obtain ⟨u, hu, hchange, hnumber, hcommit⟩ := boundary_of_numbering s
  obtain ⟨hnext, hstep⟩ := numbering_keeps hchange hnumber
  obtain ⟨e, st, nb, hsteer⟩ := steer_stitch u
  have hstitch : (boundary s).stitch = { (steer u).stitch with busy := true } := by rw [hu, beginCommit_stitch]; rfl
  obtain ⟨hlong, hshort⟩ := steer_length u
  have hcommits : s.jnl.committing = none → ∃ b, (boundary s).jnl.committing = some b ∧ b.boundary = true ∧ (boundary s).jnl.batch = [] ∧
      (boundary s).jnl.stitchOfCommit = (boundary s).stitch.number := fun hnone => by
    rw [hu, beginCommit_stitch]
    exact beginCommit_none _ (hcommit.trans hnone)
  have hperiod : (steer u).stitch.period = u.stitch.period := by rw [hsteer]
  refine ⟨by rw [hstitch], by rw [hstitch, hsteer]; exact hnext, by rw [hstitch, hsteer]; exact hstep, ?_, ?_, fun p hp => ?_, fun hp => ?_, hcommits⟩
  · rw [hstitch, ← hnext]
    simpa only [hperiod] using hlong
  · rw [hstitch, ← hnext]
    simpa only [hperiod] using hshort
  · rw [hstitch, hsteer, hchange p hp]
    exact ⟨stitchPeriodChange_due hfree hp, rfl, rfl, rfl, rfl⟩
  · obtain ⟨-, -, hkept, hnew⟩ := numbered_keeps s.stitch
    rw [hstitch, hsteer, hnumber hp]
    refine ⟨stitchPeriodChange_notDue hp, hkept, hnew, fun hsmall => ?_, fun hlarge => ?_⟩
    · simp [numbered, Nat.not_lt.mpr hsmall]
    · rintro _ rfl _ rfl
      refine ⟨fun hforward => ?_, fun hkeeps => ?_⟩
      · simp only [numbered, if_pos hlarge, Bool.and_eq_true, decide_eq_true_eq, if_pos hforward, and_self]
      · simp only [numbered, if_pos hlarge, Bool.and_eq_true, decide_eq_true_eq, if_neg hkeeps, and_self]

end Sys2Proof.Machine
end

section
/-! SUPPORT. The RESULTs of a mailbox (R331, R332), by induction over the completed commands at the head of its queue. -/

namespace Sys2Proof.Machine

theorem produceResults_stops {s : State} {m : Nat} {rest : List Cmd} (hcmds : (box s m).cmds = rest)
    (hrest : ∀ c, rest.head? = some c → c.phase ≠ .held) : ∀ n, produceResults m n s = s
  | 0 => rfl
  | n + 1 => by
    cases rest with
    | nil => simp [produceResults, hcmds]
    | cons c rest =>
      have hphase := hrest c rfl
      simp [produceResults, hcmds, hphase]

/-- Settles O56: each completed command leaves as `produceResult_one` gives, and the rest stays. -/
theorem resultsLeaveInOrder : Obligations.ResultsLeaveInOrder := by
  rintro s m done rest hm hcmds hheld hrest hseqs hopen hrun _ rfl
  induction done generalizing s with
  | nil =>
    rw [produceResults_stops hcmds hrest]
    exact ⟨hcmds, by simp, fun _ _ => rfl⟩
  | cons c done ih =>
    rw [List.cons_append, List.map_cons, List.nodup_cons] at hseqs
    obtain ⟨hfirst, hseqs⟩ := hseqs
    obtain ⟨hleft, hsent, hlength, hsession, hrunning, hothers⟩ := produceResult_one m c (done ++ rest) s hm hcmds
      (fun d hd e => hfirst (e ▸ List.mem_map_of_mem hd)) hopen hrun
    have hnext : produceResults m (c :: done ++ rest).length s = produceResults m (done ++ rest).length (produceResult m c s) := by
      simp [produceResults, hcmds, hheld c List.mem_cons_self]
    obtain ⟨hcmds', hsent', hothers'⟩ := ih (produceResult m c s) (by rw [hlength]; exact hm) hleft
      (fun d hd => hheld d (List.mem_cons_of_mem c hd)) hseqs (by rw [hsession]; exact hopen) hrunning
    rw [hnext]
    refine ⟨hcmds', ?_, fun k hk => (hothers' k hk).trans (hothers k hk)⟩
    rw [hsent', hsent]
    by_cases hpush : c.push = true
    · simp [hpush]
    · simp [hpush]

end Sys2Proof.Machine
end

section
/-! SUPPORT. The commits' two rows (R367, R368, R470). -/

namespace Sys2Proof.Machine

/-- Two verified writes lose no bank. -/
theorem failedCopies_verified (s : State) : failedCopies .verified .verified s = s := by simp [failedCopies]

/-- Two verified writes count no error. -/
theorem commitFigures_verified (b : Batch) (us : Nat) (j : Journal) : commitFigures b us .verified .verified j =
    { j with commitNo := j.commitNo + 1, commits := j.commits + 1, lastSeq := (workSeqs b.entries).getLast?.getD j.lastSeq,
             batchCommits := j.batchCommits + (if b.boundary then 0 else 1), commitMax := max j.commitMax (satU 16 us) } := by
  cases hb : b.boundary <;> simp [commitFigures, copyErrors, hb]

theorem afterCommit_eq (b : Batch) (s : State) : afterCommit b s =
    (if running s = false then s else if b.boundary then boundaryWork s else if s.stitch.busy then beginCommit s else postMailboxTasks s) := by
  cases h : running s <;> simp [afterCommit, h]

/-- A commit verified in a copy in use completes with its figures, its work, and what its kind asks for. -/
theorem journalCommitDone_verified {s : State} {b : Batch} (us : Nat) (hb : s.jnl.committing = some b)
    (hcopy : (s.jnl.copy0Ok || s.jnl.copy1Ok) = true) :
    exec (.journalCommitDone .verified .verified us) s = .next (afterCommit b (commitWork b
      { s with jnl.committing := none, jnl.commitNo := s.jnl.commitNo + 1, jnl.commits := s.jnl.commits + 1,
               jnl.lastSeq := (workSeqs b.entries).getLast?.getD s.jnl.lastSeq,
               jnl.batchCommits := s.jnl.batchCommits + (if b.boundary then 0 else 1),
               jnl.commitMax := max s.jnl.commitMax (satU 16 us) })) := by
  have hsome : (!s.jnl.copy0Ok && !s.jnl.copy1Ok) = false := by rw [← Bool.not_or, hcopy]; rfl
  show execJournalCommitDone .verified .verified us s = _
  simp only [execJournalCommitDone, hb, failedCopies_verified, hsome, Bool.false_eq_true, if_false, commitFigures_verified]
  rfl

/-- With both copies failed, both banks are lost and the commit stays. -/
theorem journalCommitDone_failed {s : State} {b : Batch} (us : Nat) (hb : s.jnl.committing = some b) (h0 : s.jnl.copy0Ok = true)
    (h1 : s.jnl.copy1Ok = true) : exec (.journalCommitDone .failed .failed us) s = .next (loseBank 1 (loseBank 0 s)) := by
  obtain ⟨-, hcopy0, hcopy1⟩ := loseBank_copies (b := 0) (s := s)
  obtain ⟨-, hcopy0', hcopy1'⟩ := loseBank_copies (b := 1) (s := loseBank 0 s)
  have hfailed : failedCopies .failed .failed s = loseBank 1 (loseBank 0 s) := by simp [failedCopies, h0, hcopy1, h1]
  have hnone : (!(loseBank 1 (loseBank 0 s)).jnl.copy0Ok && !(loseBank 1 (loseBank 0 s)).jnl.copy1Ok) = true := by
    simp [hcopy0', hcopy1', hcopy0]
  show execJournalCommitDone .failed .failed us s = _
  simp only [execJournalCommitDone, hb, hfailed, hnone, if_true]
  rfl

/-- Settles O53. -/
theorem commitsComplete : Obligations.CommitsComplete := by
  refine fun s => ⟨fun hphase hnone hbig => ?_, fun hsmall => ?_, fun c0 c1 us hnone => ?_, fun b us hb hcopy => ?_, fun b us => journalCommitDone_failed us⟩
  · show execJournalBatchCommit s = _
    have hruns : (running s || s.sys.phase == .wait) = true := by simpa using hphase
    simp [execJournalBatchCommit, hruns, hnone, hbig, next]
  · show execJournalBatchCommit s = _
    simp [execJournalBatchCommit, Nat.not_lt.mpr hsmall, next]
  · show execJournalCommitDone c0 c1 us s = _
    simp [execJournalCommitDone, hnone, next]
  · rintro _ rfl
    rw [journalCommitDone_verified us hb (by simpa using hcopy), afterCommit_eq, workSeqs, jkRecord]

end Sys2Proof.Machine
end

section
/-! SUPPORT. The command table (R334, R335, R344), the state at power-on, and the clears of the statistics: each true by unfolding. -/

namespace Sys2Proof.Machine

/-! The Needs of a command. -/

theorem allowed_right (s : State) (m b : Nat) :
    allowed s m (.right b) = bit (protRights s.sec.prot (principalOf s m) &&& bindMask s.sec.prot m) b := rfl

theorem allowed_root (s : State) (m : Nat) : allowed s m .root = true ↔ principalOf s m = 0 := by simp [allowed, pRoot]

theorem allowed_rootOrAuditor (s : State) (m : Nat) : allowed s m .rootOrAuditor = true ↔ principalOf s m = 0 ∨ principalOf s m = 4 := by
  simp [allowed, pRoot, pAuditor]

theorem maintOn_iff (s : State) : maintOn s = true ↔ s.mbx.maintUntil ≠ none := Option.isSome_iff_ne_none

theorem allowed_rootMaint (s : State) (m : Nat) : allowed s m .rootMaint = true ↔ principalOf s m = 0 ∧ s.mbx.maintUntil ≠ none := by
  simp [allowed, pRoot, maintOn_iff]

/-- Settles O57: each row's opcode and Needs are those of its command in `mailboxRow`. -/
theorem commandsHaveTheirOpcodesAndNeeds : Obligations.CommandsHaveTheirOpcodesAndNeeds := by
  rintro op _ rfl
  refine ⟨allowed_right, fun s m => ⟨allowed_root s m, allowed_rootOrAuditor s m, allowed_rootMaint s m, rfl⟩, ?_⟩
  and_intros <;> exact ⟨_, rfl, rfl, rfl⟩

/-! Power-on. -/

theorem getD_replicate_default {α : Type} (n k : Nat) (d : α) : (List.replicate n d).getD k d = d := by
  rcases Nat.lt_or_ge k n with h | h
  · exact List.getD_replicate d h
  · exact List.getD_eq_default _ _ (by simpa using h)

theorem box_reset (m : Nat) : box State.reset m = default := getD_replicate_default _ _ _

theorem skein_reset (n : Nat) : skein State.reset n = default := getD_replicate_default _ _ _

theorem bobbin_reset {c : Nat} (h : c < 32) : bobbin State.reset c = coldBobbin := List.getD_replicate coldBobbin h

/-- Settles O19: the cold state, field by field. -/
theorem resetIsTheFactoryModule : Obligations.ResetIsTheFactoryModule := by
  refine ⟨⟨rfl, rfl, fun _ => rfl⟩, rfl, rfl, rfl, fun m => ?_, rfl, rfl, rfl, rfl, rfl, fun n => ?_, fun c hc => ?_, ?_⟩
  · rw [box_reset]
    exact ⟨rfl, rfl, rfl, rfl⟩
  · rw [skein_reset]
    exact ⟨rfl, rfl⟩
  · rw [bobbin_reset hc]
    rfl
  · and_intros <;> rfl

/-! Statistics. -/

/-- Settles O23: each clear is the update that its row's meaning writes. -/
theorem statisticsAreCleared : Obligations.StatisticsAreCleared := fun _ =>
  ⟨rfl, rfl, rfl, rfl, rfl, rfl, rfl, rfl, rfl, rfl, rfl, rfl, rfl, rfl, rfl⟩

end Sys2Proof.Machine
end

section
/-! SUPPORT. A mailbox command's row, from its command in `mailboxRow` and what the command's own part answers. -/

namespace Sys2Proof.Machine

section
variable {i : Instr} {spec : CmdSpec} {s t : State} {m st : Nat} {c : Cmd} {n : U32} {res : Bytes}
  (hrow : mailboxRow i = some (spec, .run m)) (hc : Executing s m c spec.opcode)
include hrow hc

theorem reads_of_row (hr : spec.run m c s = (s, .done 0 res)) : Reads i s m c res := reads_of_run (row_exec s hrow) hc hr

theorem reads_of_rowDraw {k : Nat} (hr : spec.run m c s = ({ s with freeCtr := k }, .done 0 res)) : Reads i s m c res :=
  reads_of_draw (row_exec s hrow) hc hr

theorem acts_of_row (hr : spec.run m c s = (t, .effect n res)) : Acts i s m c n res t := acts_of_run (row_exec s hrow) hc hr

theorem fails_of_row (hr : spec.run m c s = (s, .done st [])) : Fails i s m c st := fails_of_run (row_exec s hrow) hc hr

theorem begins_of_row (hr : spec.run m c s = (t, .waits)) : Begins i s m c t := begins_of_run (row_exec s hrow) hc hr

theorem schedules_of_row {b : Bool} {ch : Change} (hr : spec.run m c s = (dueChange c n b ch s, .effect n res)) : Schedules i s m c n b ch res :=
  schedules_of_run (row_exec s hrow) hc hr

end

end Sys2Proof.Machine
end

section
/-! SUPPORT. The SYS and SEC commands (R338-R342, R352-R360): planned resets, and the entries that A0 works out as it seals a batch. -/

namespace Sys2Proof.Machine

/-- Settles O1: each command's part answers its record and leaves the state, or draws one free value. -/
theorem sysAndSecReadsAnswer : Obligations.SysAndSecReadsAnswer :=
  ⟨fun _ _ _ => ⟨fun h => reads_of_row rfl h rfl, fun h => reads_of_rowDraw rfl h rfl, fun h => reads_of_row rfl h rfl,
      fun h => reads_of_row rfl h rfl, fun h => reads_of_rowDraw rfl h rfl, fun h => reads_of_row rfl h rfl⟩,
    fun _ _ _ => ⟨fun h => reads_of_row rfl h rfl, fun h => reads_of_row rfl h rfl, fun h => reads_of_row rfl h rfl,
      fun h => reads_of_row rfl h rfl, fun h => reads_of_row rfl h rfl⟩⟩

/-! Planned resets (R360). -/

/-- With none pending a reset is asked for, and recorded. -/
theorem requestReset_free {s : State} (h : s.sys.pendingReset = none) (m delay : Nat) (slot : Option Nat) (trial : Bool) (confirm : Nat) :
    requestReset m delay slot trial confirm s =
      (post 0x0102 m (leW (resetBoundary delay s) ++ le16 delay)
        { s with sys.pendingReset := some { boundary := resetBoundary delay s, mailbox := m, slot := slot, trial := trial, confirm := confirm } },
      .effect s.stitch.number (leW (resetBoundary delay s))) := by
  simp [requestReset, h, did_post, onSys]

theorem requestReset_pending {s : State} (h : s.sys.pendingReset ≠ none) (m delay : Nat) (slot : Option Nat) (trial : Bool) (confirm : Nat) :
    requestReset m delay slot trial confirm s = (s, .done stConflict []) := by
  simp [requestReset, Option.isSome_iff_ne_none.mpr h]

theorem cancelReset_none {s : State} (h : s.sys.pendingReset = none) (m : Nat) : cancelReset m s = (s, .done stConflict []) := by
  simp [cancelReset, h]

/-- A reset is withdrawn until the Stitch before its boundary. -/
theorem cancelReset_some {s : State} {r : PendingReset} (h : s.sys.pendingReset = some r) (m : Nat) : cancelReset m s =
    if serialAtOrBefore r.boundary (nextStitch s) then (s, .done stConflict [])
    else (post 0x0103 m (leW r.boundary) { s with sys.pendingReset := none }, .effect s.stitch.number (le32 0)) := by
  simp [cancelReset, h, did_post, onSys]

theorem sysReset_request {c : Cmd} (h : u8At c.payload 0 = 1) (m : Nat) (s : State) :
    sysReset.run m c s = requestReset m (u16At c.payload 2) none false 0 s := if_pos h

theorem sysReset_cancel {c : Cmd} (h : u8At c.payload 0 ≠ 1) (m : Nat) (s : State) : sysReset.run m c s = cancelReset m s := if_neg h

/-- Settles O2. -/
theorem sysSettingsAndResetAct : Obligations.SysSettingsAndResetAct := by
  refine ⟨fun s m c => ⟨fun h => schedules_of_row rfl h rfl, fun h => schedules_of_row rfl h rfl, fun h => schedules_of_row rfl h rfl,
    fun h => schedules_of_row rfl h rfl, fun h => begins_of_row rfl h rfl⟩, fun s m c h => ⟨fun hreq hnone => ?_, fun hreq hsome => ?_,
    fun hcancel r hr hlater => ?_, fun hcancel r hr hnext => ?_, fun hcancel hnone => ?_⟩⟩
  · exact acts_of_row rfl h ((sysReset_request hreq m s).trans (requestReset_free hnone ..))
  · exact fails_of_row rfl h ((sysReset_request hreq m s).trans (requestReset_pending hsome ..))
  · exact acts_of_row rfl h ((sysReset_cancel hcancel m s).trans (by rw [cancelReset_some hr, hlater]; rfl))
  · exact fails_of_row rfl h ((sysReset_cancel hcancel m s).trans (by rw [cancelReset_some hr, hnext]; rfl))
  · exact fails_of_row rfl h ((sysReset_cancel hcancel m s).trans (cancelReset_none hnone m))

/-! Maintenance mode (R340). -/

theorem secMaintSet_starts {c : Cmd} (h : u8At c.payload 0 ≠ 0) (m : Nat) (s : State) : secMaintSet.run m c s =
    (post 0x0309 m (le16 (u8At c.payload 0))
      { s with mbx.maintUntil := some (s.time.cycle + minuteCycles (u8At c.payload 0)), mbx.maintOnBy := m },
    .effect s.stitch.number (le32 (60 * u8At c.payload 0))) := by
  simp [secMaintSet, h, onMbx]

theorem secMaintSet_ends {c : Cmd} (h : u8At c.payload 0 = 0) (m : Nat) (s : State) : secMaintSet.run m c s =
    (postIf (maintOn s) 0x030A noSource [] { s with mbx.maintUntil := none, mbx.maintOnBy := m }, .effect s.stitch.number (le32 0)) := by
  simp [secMaintSet, h, onMbx]

/-! Sealing (R368). -/

theorem completeWith_effect_batch (m : Nat) (c : Cmd) (n : U32) (res : Bytes) (s : State) :
    (completeWith m c.seq (.effect n res) s).jnl.batch = s.jnl.batch ++ [effectEntry m c n res] := rfl

theorem refuseCancels_jnl (p : Bytes) (s : State) : (refuseCancels p s).jnl = s.jnl := by
  refine foldl_keep _ State.jnl (fun t k => ?_) _ _
  rfl

/-- A batch of one COMMAND entry, of a command that its commit completes, is sealed with that command's entries. -/
theorem sealWork_one {s : State} {e : JEntry} {c : Cmd} (hbatch : s.jnl.batch = [e]) (hkind : e.kind = jkCommand)
    (hfind : (box s e.source).cmds.find? (fun d => d.seq == e.seq && d.phase == .batched && sealedOpcode d.opcode) = some c) :
    sealWork s = sealCommand c 0 s := by
  have hsame : { s with jnl := { s.jnl with batch := [e] } } = s := by rw [← hbatch]
  have hstep : sealWork s = sealEntries [e] 0 { s with jnl := { s.jnl with batch := [] } } := by rw [sealWork, hbatch]
  rw [hstep, sealEntries]
  simp only [List.nil_append, hsame, hkind, beq_self_eq_true, if_true, hfind, sealEntries]

theorem sealCommand_protWrite {c : Cmd} (h : c.opcode = 0x0811) (s : State) : (sealCommand c 0 s).jnl.batch =
    s.jnl.batch ++ [effectEntry c.mailbox c s.stitch.number (le32 (protGeneration s.sec.prot + 1))] := by
  simp [sealCommand, h, completeWith_effect_batch]

theorem sealCommand_presence {c : Cmd} (h : c.opcode = 0x0314) (s : State) : (sealCommand c 0 s).jnl.batch =
    s.jnl.batch ++ [effectEntry c.mailbox c s.stitch.number (leW s.stitch.number)] := by
  simp [sealCommand, h, completeWith_effect_batch]

/-- The EFFECT of a revocation is followed by the completions of the commands that it stops. -/
theorem sealCommand_revoke {c : Cmd} (h : c.opcode = 0x0812) {s : State} {l : List Cmd} (hl : l = revokeTargets s c.payload c.seq) :
    (sealCommand c 0 s).jnl.batch = s.jnl.batch ++ [effectEntry c.mailbox c s.stitch.number (le16 l.length ++ le16 0)] ++
      l.map (fun d => doneEntry d.mailbox d stRevoked []) := by
  subst hl
  simp only [sealCommand, h, beq_self_eq_true, if_true, revokeAll_batch, refuseCancels_jnl, completeWith_effect_batch]

/-- Settles O3: the entries are those of `sealCommand`, the work at the commit that of `sealedEffect`. -/
theorem securityWritesAct : Obligations.SecurityWritesAct := by
  refine ⟨fun s m c => ⟨fun h => schedules_of_row rfl h rfl, fun h => schedules_of_row rfl h rfl, fun h => acts_of_row rfl h rfl,
    fun h hstart => acts_of_row rfl h (secMaintSet_starts hstart m s), fun h hend => acts_of_row rfl h (secMaintSet_ends hend m s),
    fun h => acts_of_row rfl h rfl, fun h => acts_of_row rfl h rfl⟩, ?_⟩
  rintro s _ c e hbatch hkind rfl hfind hm
  have hseal := sealWork_one hbatch hkind hfind
  rw [hseal, ← hm]
  refine ⟨fun hop => ?_, fun hop => ?_, fun hop l hl => ?_⟩
  · rw [sealCommand_protWrite hop, hbatch]
    have hsec : (sealedEffect c s).sec = _ := (congrArg State.sec (if_pos (by rw [hop]; rfl))).trans (protCommitted_sec c.mailbox c.payload s)
    rw [hsec]
    exact ⟨rfl, rfl, rfl⟩
  · rw [sealCommand_presence hop, hbatch]
    exact ⟨rfl, by simp [sealedEffect, hop]⟩
  · rw [sealCommand_revoke hop hl, hbatch]
    exact ⟨rfl, by simp [sealedEffect, hop]⟩

end Sys2Proof.Machine
end

section
/-! SUPPORT. The TAB, LIT and AIR commands: what the part of each answers in each of its cases. -/

namespace Sys2Proof.Machine

/-! TAB (R86, R87, R97, R134, R135, R152). -/

theorem tabGroundRead_some {c : Cmd} {s : State} {r : Ground} (h : recordWith s (u16At c.payload 0) (u32At c.payload 4) = some r) (m : Nat) :
    tabGroundRead.run m c s = (s, .done 0 (slice r.record (64 * u16At c.payload 8) (64 * u16At c.payload 10))) := by
  simp only [tabGroundRead, h, ok, stOk]

theorem tabGroundRead_none {c : Cmd} {s : State} (h : recordWith s (u16At c.payload 0) (u32At c.payload 4) = none) (m : Nat) :
    tabGroundRead.run m c s = (s, .done stRange []) := by simp only [tabGroundRead, h]

theorem tabBatchAbort_run (m : Nat) (c : Cmd) (s : State) :
    tabBatchAbort.run m c s = (post 0x0507 m (le8 0) s, .effect s.stitch.number []) := rfl

theorem tabGroundCommit_begins {c : Cmd} {s : State} (h : (s.tab.commits.any fun g => g.seq == c.seq) = true) (m : Nat) :
    tabGroundCommit.run m c s = ({ s with
      tab.commits := s.tab.commits.map fun g => if g.seq == c.seq then { g with begun := true } else g }, .waits) := by
  simp only [tabGroundCommit, h, if_true]

theorem tabGroundCommit_gone {c : Cmd} {s : State} (h : (s.tab.commits.any fun g => g.seq == c.seq) = false) (m : Nat) :
    tabGroundCommit.run m c s = (s, .done stConflict []) := by
  simp only [tabGroundCommit, h, Bool.false_eq_true, if_false]

/-- Settles O4. -/
theorem tabReadsAndActionsAct : Obligations.TabReadsAndActionsAct :=
  ⟨fun _ m _ => ⟨fun h => reads_of_row rfl h rfl, fun h _ hr => reads_of_row rfl h (tabGroundRead_some hr m),
      fun h hr => fails_of_row rfl h (tabGroundRead_none hr m), fun h => reads_of_row rfl h rfl⟩,
    fun s m c => ⟨fun h => acts_of_row rfl h rfl, fun h => acts_of_row rfl h (tabBatchAbort_run m c s), fun h => acts_of_row rfl h rfl,
      fun h => acts_of_row rfl h rfl, fun h => acts_of_row rfl h rfl, fun h hload => begins_of_row rfl h (tabGroundCommit_begins hload m),
      fun h hload => fails_of_row rfl h (tabGroundCommit_gone hload m), fun h => acts_of_row rfl h rfl⟩⟩

section
variable {c : Cmd} {s : State}

/-- A write staged in a batch (R97). -/
theorem writeRun_staged (h : s.tab.stagedSeqs.contains c.seq = true) (m : Nat) :
    writeRun m c s = ({ s with tab.stagedSeqs := s.tab.stagedSeqs.erase c.seq }, .done stStaged []) := by
  simp only [writeRun, h, if_true]

variable (hstaged : s.tab.stagedSeqs.contains c.seq = false)
include hstaged

/-- A write whose change has taken effect (R86). -/
theorem writeRun_effected {q n g : U32} (h : s.tab.effected.find? (fun e => e.1 == c.seq) = some (q, n, g)) (m : Nat) :
    writeRun m c s = ({ s with tab.effected := s.tab.effected.filter fun e => e.1 != c.seq }, .effect n (leW g)) := by
  simp only [writeRun, hstaged, h, Bool.false_eq_true, if_false]

/-- A write whose change is still to be made, or waits under R87. -/
theorem writeRun_pending {t : TabChange} (hnone : s.tab.effected.find? (fun e => e.1 == c.seq) = none)
    (h : s.tab.changes.find? (fun t => t.seq == c.seq) = some t) (m : Nat) :
    writeRun m c s = (s, if t.held then .effect 0 (leW 0) else .waits) := by
  simp only [writeRun, hstaged, hnone, h, Bool.false_eq_true, if_false]

end

/-- The rows of the TAB writes but TAB_BATCH_CLOSE run `writeRun` whatever their batch. -/
theorem tabWriteRows_writeRun (m : Nat) : ∀ row ∈ (tabWriteRows m).take 7, ∃ spec : CmdSpec, mailboxRow row.2 = some (spec, .run m) ∧
    spec.opcode = row.1 ∧ spec.run = writeRun := by
  simp only [tabWriteRows, List.take_succ_cons, List.take_zero, List.forall_mem_cons, List.not_mem_nil, IsEmpty.forall_iff, implies_true, and_true]
  and_intros <;> exact ⟨_, rfl, rfl, rfl⟩

theorem batchCloseRun_fails {c : Cmd} {s : State} {q : U32} {p : Nat} (h : s.tab.closeFail.find? (fun e => e.1 == c.seq) = some (q, p)) (m : Nat) :
    batchCloseRun m c s = ({ s with tab.closeFail := s.tab.closeFail.filter fun e => e.1 != c.seq }, .done stConflict (le16 p)) := by
  simp only [batchCloseRun, h]

/-- Settles O5: the rows run `writeRun`, whose cases these are. -/
theorem tabWritesComplete : Obligations.TabWritesComplete := by
  refine ⟨fun s m c op i hi hc hclose hstaged => ?_, fun s m c => ⟨fun op i hi hc hstaged => ?_, fun hc p hp => ?_⟩⟩
  · obtain ⟨spec, rfl, hexec, hrun⟩ := write_spec m (op, i) hi
    have hwrite := hrun c s hclose
    refine ⟨fun n g hg => ?_, fun hnone t ht hheld => ?_, fun hnone t ht hheld => ?_⟩
    · exact acts_of_run (hexec s) hc (hwrite.trans (writeRun_effected hstaged hg m))
    · exact begins_of_run (hexec s) hc (hwrite.trans (by rw [writeRun_pending hstaged hnone ht, hheld]; rfl))
    · exact acts_of_run (hexec s) hc (hwrite.trans (by rw [writeRun_pending hstaged hnone ht, hheld]; rfl))
  · obtain ⟨spec, hrow, rfl, hrun⟩ := tabWriteRows_writeRun m (op, i) hi
    exact done_of_run (row_exec s hrow) hc (by rw [hrun]; exact writeRun_staged hstaged m)
  · exact done_of_run (spec := tabBatchClose) (row_exec s rfl) hc (batchCloseRun_fails hp m)

/-! LIT (R101, R110, R111, R120, R122, R151, R172, R178). -/

/-- Settles O6. -/
theorem litReadsAnswer : Obligations.LitReadsAnswer := by
  refine fun s m c => ⟨fun h => reads_of_row rfl h rfl, fun h => reads_of_row rfl h rfl, fun h => reads_of_row rfl h rfl,
    fun h => reads_of_row rfl h rfl, ?_, ?_, fun h => reads_of_row rfl h rfl, fun h => reads_of_row rfl h rfl, fun h => reads_of_row rfl h rfl,
    fun h => reads_of_row rfl h rfl, fun h => reads_of_row rfl h rfl, fun h => reads_of_row rfl h rfl, fun h => reads_of_row rfl h rfl,
    fun h => reads_of_row rfl h rfl, fun h => reads_of_row rfl h rfl⟩
  · rintro h _ rfl
    exact reads_of_row (spec := litSunRead) rfl h (by simp only [litSunRead, ok, stOk])
  · intro h v hv
    exact reads_of_row (spec := litSchedEval) rfl h (by simp only [litSchedEval, hv, ok, stOk])

theorem litChainAccept_off {s : State} (h : s.chain.state = .off) (m : Nat) (c : Cmd) :
    litChainAccept.run m c s = (s, .effect s.stitch.number (zeros 4)) := by
  simp [litChainAccept, h]

theorem litChainAccept_scans {s : State} (h : s.chain.state ≠ .off) (m : Nat) (c : Cmd) :
    litChainAccept.run m c s = ({ startScan s with chain.accepts := (startScan s).chain.accepts ++ [(m, c.seq)] }, .waits) := by
  simp [litChainAccept, h, onChain]

/-- Settles O7. -/
theorem litWritesAndActionsAct : Obligations.LitWritesAndActionsAct := by
  refine ⟨?_, fun s m c => ⟨fun h => acts_of_row rfl h rfl, fun h hoff => acts_of_row rfl h (litChainAccept_off hoff m c),
    fun h hoff => ⟨rfl, begins_of_row rfl h (litChainAccept_scans hoff m c)⟩⟩⟩
  rintro s m c _ rfl
  exact ⟨fun h => schedules_of_row rfl h rfl, fun h => schedules_of_row rfl h rfl, fun h => schedules_of_row rfl h rfl,
    fun h => schedules_of_row rfl h rfl, fun h => schedules_of_row rfl h rfl, fun h => schedules_of_row rfl h rfl,
    fun h => schedules_of_row rfl h rfl, fun h => schedules_of_row rfl h rfl, fun h => schedules_of_row rfl h rfl,
    fun h => schedules_of_row rfl h rfl, fun h => schedules_of_row rfl h rfl⟩

/-! AIR, with a radio (R184, R238, R241, R243). -/

section
variable {s : State} (hr : hasRadio s = true)
include hr

/-- A release whose Pins are still to be freed. -/
theorem airPinRelease_waits {c : Cmd} {r : Release} (h : s.air.releases.find? (fun r => r.seq == c.seq) = some r) (hdone : r.done = none) (m : Nat) :
    airPinRelease.run m c s = ({ s with
      air.releases := s.air.releases.map fun x => if x.seq == c.seq then { x with ready := true } else x },
      .effect (s.stitch.number + 1) (leW (s.stitch.number + 1))) := by
  rw [airPinRelease, air_run hr]
  simp only [h, hdone, onAir, nextStitch]

/-- A release whose Pins a boundary has freed. -/
theorem airPinRelease_done {c : Cmd} {r : Release} {k : U32} (h : s.air.releases.find? (fun r => r.seq == c.seq) = some r) (hdone : r.done = some k)
    (m : Nat) : airPinRelease.run m c s =
      ({ s with air.releases := s.air.releases.filter fun x => x.seq != c.seq }, .effect k (leW k)) := by
  rw [airPinRelease, air_run hr]
  simp only [h, hdone, onAir]

/-- The session starts: the encoding of its blocks is posted, and a Picot calls sleepy targets. -/
theorem airImageStart_run {c : Cmd} {z : ImageSession} (h : s.air.session = some z) (m : Nat) :
    ∀ u, u = (upTo (imgZ z.load)).foldl (fun t b => postTask 3 (newTask (.raptorq b) true (firstBeacon c s) 0 0) t)
      { s with air.session := some { z with begun := true, sending := true, first := firstBeacon c s, picotAt := s.time.cycle } } →
    airImageStart.run m c s = (if (imageTargets u z).any fun e => cTransport e.2 == tSleepy then requestPicot 0xFFFF 2 u else u,
      .effect (firstBeacon c s) (leW (firstBeacon c s))) := by
  rintro _ rfl
  rw [airImageStart, air_run hr]
  simp only [h, onAir]
  rfl

end

/-- Settles O8. -/
theorem airCommandsAct : Obligations.AirCommandsAct := by
  refine ⟨fun s m c hr => ?_, ?_⟩
  · exact ⟨fun h => reads_of_row rfl h (air_run hr m c), fun h => reads_of_row rfl h (air_run hr m c), fun h => reads_of_row rfl h (air_run hr m c),
      fun h => reads_of_row rfl h (air_run hr m c), fun h => reads_of_row rfl h (air_run hr m c)⟩
  · rintro s m c hr _ rfl
    exact ⟨fun h => schedules_of_row rfl h (air_run hr m c), fun h => schedules_of_row rfl h (air_run hr m c),
      fun h => schedules_of_row rfl h (air_run hr m c), fun h _ hfind hdone => acts_of_row rfl h (airPinRelease_waits hr hfind hdone m),
      fun h _ _ hfind hdone => acts_of_row rfl h (airPinRelease_done hr hfind hdone m), fun h => acts_of_row rfl h (air_run hr m c),
      fun h => acts_of_row rfl h (air_run hr m c), fun h => acts_of_row rfl h (air_run hr m c),
      fun h _ hz u hu => acts_of_row rfl h (airImageStart_run hr hz m u hu), fun h => acts_of_row rfl h (air_run hr m c),
      fun h => acts_of_row rfl h (air_run hr m c)⟩

end Sys2Proof.Machine
end

section
/-! SUPPORT. The MET and TIM commands: what the part of each answers in each of its cases. -/

namespace Sys2Proof.Machine

/-! MET (R250, R256, R263-R265, R268-R270, R279, R290). -/

/-- Settles O10. -/
theorem metReadsAnswer : Obligations.MetReadsAnswer := by
  rintro s m c _ rfl
  exact ⟨fun h => reads_of_row rfl h rfl, fun h => reads_of_row rfl h rfl, fun h => reads_of_row rfl h rfl, fun h => reads_of_row rfl h rfl,
    fun h => reads_of_row rfl h rfl, fun h => reads_of_row rfl h rfl, fun h => reads_of_row rfl h rfl, fun h => reads_of_row rfl h rfl,
    fun h => reads_of_row rfl h rfl, fun h => reads_of_row rfl h rfl, fun h => reads_of_row rfl h rfl, fun h => reads_of_row rfl h rfl,
    fun h => reads_of_row rfl h rfl, fun h => reads_of_row rfl h rfl, fun h => reads_of_row rfl h rfl⟩

section
variable {c : Cmd} {s : State}

theorem metModeSet_service (hp : u8At c.payload 0 = 1) (m : Nat) : ∀ t, t = (if s.met.mode = .startUp then s else modeTo .service s) →
    metModeSet.run m c s = (t, .effect s.stitch.number (le8 (modeCode t.met.mode) ++ zeros 3)) := by
  rintro _ rfl
  simp only [metModeSet, hp, if_true, beq_iff_eq, did]

theorem metModeSet_test (hp : u8At c.payload 0 ≠ 1) (m : Nat) : ∀ t, t = modeTo .test
      { s with met.testFrom := if s.met.mode == .test then s.met.testFrom else s.met.mode,
               met.testUntil := s.time.cycle + u8At c.payload 1 * 60 * cyclesPerSec } →
    metModeSet.run m c s = (t, .effect s.stitch.number (le8 (modeCode t.met.mode) ++ zeros 3)) := by
  rintro _ rfl
  simp only [metModeSet, hp, if_false, did, onMet]

/-- A calibration write acts at its execution: it leaves the front end as it was but for the count and the validity. -/
theorem metCalWrite_run (m : Nat) : ∀ n, n = s.met.calCount + 1 → ∀ w, w = writeNow c secCal (16 * u8At c.payload 0) (c.payload.drop 4) s →
    metCalWrite.run m c s = (checkStartUp (post 0x070C m (leW n ++ le64 (maskOfItems 56 (span (u8At c.payload 0) (u8At c.payload 1))))
        { w with met := { w.met with calCount := w.met.calCount + 1, calValid := w.met.calValid || u8At c.payload 1 == 56 } }),
      .effect s.stitch.number (leW n)) := by
  rintro _ rfl _ rfl
  simp only [metCalWrite, onMet, did, post_fields, writeNow, writeWorking]

theorem metSnapTrigger_taken (h : (trigger s).1 ≠ 0) (m : Nat) :
    metSnapTrigger.run m c s = ((trigger s).2, .effect s.stitch.number (leW (trigger s).1 ++ le64 (taiNs s))) := by
  simp only [metSnapTrigger, h, if_false, did]

theorem metSnapTrigger_full (h : (trigger s).1 = 0) (m : Nat) :
    metSnapTrigger.run m c s = ((trigger s).2, .done stLimit (leW 0 ++ le64 (taiNs s))) := by
  simp only [metSnapTrigger, h, if_true]

theorem metContactorSet_joins (h : ¬(u8At c.payload 1 = 1 ∧ (itemsOf 8 (u8At c.payload 0)).any (fun n => (output s n).tripped) = true)) (m : Nat) :
    metContactorSet.run m c s = ({ s with met.contDue := s.met.contDue ++
        [{ mailbox := m, seq := c.seq, reset := false, mask := u8At c.payload 0, action := u8At c.payload 1, newTrip := 0 }] }, .waits) := by
  simp only [metContactorSet, Bool.and_eq_true, decide_eq_true_eq, h, if_false, onMet]

theorem metContactorSet_tripped (h : u8At c.payload 1 = 1 ∧ (itemsOf 8 (u8At c.payload 0)).any (fun n => (output s n).tripped) = true) (m : Nat) :
    metContactorSet.run m c s = (s, .done stConflict []) := by
  simp only [metContactorSet, Bool.and_eq_true, decide_eq_true_eq, h, and_self, if_true]

theorem metDfcSet_sealed (h : u8At c.payload 1 = 0) (m : Nat) : metDfcSet.run m c s = (onDfc (u8At c.payload 0) (fun x => { x with clear := true })
      (writeNow c secDfc (8 * u8At c.payload 0) (le32 (u32At c.payload 4) ++ le16 (u16At c.payload 8) ++ le16 0) s), .effect s.stitch.number []) := by
  simp only [metDfcSet, h, if_true, did]

theorem metDfcSet_bound (h : u8At c.payload 1 ≠ 0) (hmode : s.met.mode ≠ .service) (m : Nat) : metDfcSet.run m c s =
    (onDfc (u8At c.payload 0) (fun x => { x with assigned := true, code := u16At c.payload 2, c := u32At c.payload 4, w := u16At c.payload 8,
                                                 clear := true }) s, .effect s.stitch.number []) := by
  simp only [metDfcSet, h, beq_iff_eq, hmode, if_false, did]

theorem metDfcSet_inService (h : u8At c.payload 1 ≠ 0) (hmode : s.met.mode = .service) (m : Nat) : metDfcSet.run m c s = (s, .done stConflict []) := by
  simp only [metDfcSet, h, beq_iff_eq, hmode, if_false, if_true]

end

/-- Settles O11. -/
theorem metCommandsAct : Obligations.MetCommandsAct := by
  refine ⟨?_, fun s m c => ⟨fun h hp t ht => ?_, fun h hp t ht => ?_, fun h n hn w hw => acts_of_row rfl h (metCalWrite_run m n hn w hw),
      fun h => acts_of_row rfl h rfl, fun h => acts_of_row rfl h rfl, fun h => acts_of_row rfl h rfl, ?_, ?_⟩,
    fun s m c => ⟨fun h hopen => begins_of_row rfl h (metContactorSet_joins hopen m), fun h htrip => fails_of_row rfl h (metContactorSet_tripped htrip m),
      fun h => begins_of_row rfl h rfl⟩,
    fun s m c h => ⟨fun hp => acts_of_row rfl h (metDfcSet_sealed hp m), fun hp hmode => acts_of_row rfl h (metDfcSet_bound hp hmode m),
      fun hp hmode => fails_of_row rfl h (metDfcSet_inService hp hmode m)⟩⟩
  · rintro s m c _ rfl
    exact ⟨fun h => schedules_of_row rfl h rfl, fun h => schedules_of_row rfl h rfl, fun h => schedules_of_row rfl h rfl⟩
  · exact acts_of_row rfl h (metModeSet_service hp m t ht)
  · exact acts_of_row rfl h (metModeSet_test hp m t ht)
  · rintro h htaken _ rfl
    exact acts_of_row rfl h (metSnapTrigger_taken htaken m)
  · rintro h hfull _ rfl
    exact done_of_run (spec := metSnapTrigger) (row_exec s rfl) h (metSnapTrigger_full hfull m)

/-! TIM (R298, R304, R308-R311, R317). -/

section
variable {c : Cmd} {s : State}

theorem timTimeSet_open (h : timeSetOpen s = true) (m : Nat) : ∀ d : Int,
    d = ((u64At c.payload 0 * 1000000000 + u32At c.payload 8 : Nat) : Int) - (taiNs s : Int) → ∀ t, t = stepTime d 1 s →
    timTimeSet.run m c s = (refreshTrace { t with time.servo.secondsBy := if bit (u8At c.payload 12) 0 then .timeSet else .neither },
      .effect s.stitch.number (leS64 d)) := by
  rintro _ rfl _ rfl
  simp only [timTimeSet, h, if_true, onServo, did]

theorem timTimeSet_held (h : timeSetOpen s = false) (m : Nat) : timTimeSet.run m c s = (s, .done stConflict []) := by
  simp only [timTimeSet, h, Bool.false_eq_true, if_false]

theorem timRtcSet_open (h : rtcSetOpen c.payload s = true) (m : Nat) : ∀ w, w = u8At c.payload 13 → timRtcSet.run m c s =
    ({ s with rtc.load := some { tick := if bit w 0 then some (u64At c.payload 0) else none, sod := if bit w 1 then some (u32At c.payload 8) else none,
                                 wday := if bit w 2 then some (u8At c.payload 12) else none, align := false } },
      .effect s.stitch.number (le64 (if bit w 0 then u64At c.payload 0 else (s.rtc.tick + 1) % tickSpan))) := by
  rintro _ rfl
  simp only [timRtcSet, h, if_true, onRtc, did]

theorem timRtcSet_held (h : rtcSetOpen c.payload s = false) (m : Nat) : timRtcSet.run m c s = (s, .done stConflict []) := by
  simp only [timRtcSet, h, Bool.false_eq_true, if_false]

theorem timRtcShift_free (h : s.rtc.shiftTotal = 0) (m : Nat) : timRtcShift.run m c s =
    ({ s with rtc := { s.rtc with shiftLeft := s16At c.payload 0, shiftEdges := 0, shiftTotal := s16At c.payload 0 } }, .effect s.stitch.number []) := by
  simp only [timRtcShift, h, if_true, startShift, onRtc, did]

theorem timRtcShift_runs (h : s.rtc.shiftTotal ≠ 0) (m : Nat) : timRtcShift.run m c s = (s, .done stConflict []) := by
  simp only [timRtcShift, h, if_false]

end

/-- Settles O12. -/
theorem timCommandsAct : Obligations.TimCommandsAct := by
  refine ⟨fun s m c => ⟨?_, fun h => reads_of_row rfl h rfl, fun h => reads_of_row rfl h rfl, fun h => reads_of_row rfl h rfl,
      fun h => reads_of_row rfl h rfl⟩,
    fun s m c => ⟨fun h => schedules_of_row rfl h rfl, fun h => schedules_of_row rfl h rfl, fun h => schedules_of_row rfl h rfl,
      fun h hopen d hd t ht => acts_of_row rfl h (timTimeSet_open hopen m d hd t ht), fun h hheld => fails_of_row rfl h (timTimeSet_held hheld m),
      fun h hopen w hw => acts_of_row rfl h (timRtcSet_open hopen m w hw), fun h hheld => fails_of_row rfl h (timRtcSet_held hheld m),
      fun h hfree => acts_of_row rfl h (timRtcShift_free hfree m), fun h hruns => fails_of_row rfl h (timRtcShift_runs hruns m),
      fun h => acts_of_row rfl h rfl, fun h => acts_of_row rfl h rfl⟩⟩
  rintro h _ rfl
  exact reads_of_row rfl h rfl

end Sys2Proof.Machine
end

section
/-! SUPPORT. The UPD, LOG and PRB commands: what the part of each answers in each of its cases. -/

namespace Sys2Proof.Machine

/-! UPD in a running module (R403, R405, R406, R416, R417). -/

section
variable {s : State} (hrun : s.sys.phase = .run)
include hrun

theorem inLoader_of_run : inLoader s = false := by simp [inLoader, hrun]

theorem loadSlot_of_run : loadSlot s = 1 - s.sys.active := by simp [loadSlot, inLoader_of_run hrun]

theorem bootRecord_of_run (code source : Nat) (b : Sys2Proof.Bytes) : bootRecord code source b s = post code source b s := by
  simp [bootRecord, running, hrun]

theorem updBegin_run (m : Nat) (c : Cmd) : updBegin.run m c s = ({ s with
      sys.slots := listSet s.sys.slots (1 - s.sys.active) default,
      sys.load := some { length := u32At c.payload 0, crc := u32At c.payload 4, data := zeros (u32At c.payload 0), ranges := [], verified := false } },
    .effect s.stitch.number []) := by
  simp only [updBegin, beginLoad, setSlot, onSys, loadSlot_of_run hrun, did]

section
variable {l : UpdLoad} (hload : s.sys.load = some l) (hcovered : covered l.length l.ranges = true) (hcrc : crc32c l.data = l.crc)
  (hemmc : s.sys.emmcFault = false)
include hload hcovered hcrc hemmc

/-- An image that passes R403 is VALID in the inactive slot. -/
theorem updVerify_valid (hreason : imageReason s.sys.minSec l.data = none) (m : Nat) (c : Cmd) : ∀ x : ImageSlot,
    x = { state := .valid, version := imVersion l.data, secVersion := imSecurity l.data } → updVerify.run m c s =
      (post 0x0142 (1 - s.sys.active) (leW (imVersion l.data))
        { s with sys.load := some { l with verified := true }, sys.slots := listSet s.sys.slots (1 - s.sys.active) x },
      .effect s.stitch.number (leW (imVersion l.data) ++ le32 (imSecurity l.data))) := by
  rintro _ rfl
  simp [updVerify, hload, verifyLoad, hcovered, hcrc, hemmc, hreason, loadSlot_of_run hrun, onSys, setSlot, bootRecord, running, hrun, did]

theorem updVerify_rejected {r : Nat} (hreason : imageReason s.sys.minSec l.data = some r) (m : Nat) (c : Cmd) : updVerify.run m c s =
    (post 0x0141 noSource (le8 r ++ le16 (imProduct l.data) ++ leW (imVersion l.data)) s, .done stImageRejected []) := by
  simp [updVerify, hload, verifyLoad, hcovered, hcrc, hemmc, hreason, bootRecord_of_run hrun]

end

theorem updActivate_run (hverified : loadVerified s = true) (hfree : s.sys.pendingReset = none) (m : Nat) (c : Cmd) :
    ∀ b, b = resetBoundary (u16At c.payload 0) s →
    ∀ r : PendingReset, r = { boundary := b, mailbox := m, slot := some (1 - s.sys.active), trial := true, confirm := u16At c.payload 2 } →
    updActivate.run m c s =
      (post 0x0102 m (leW b ++ le16 (u16At c.payload 0)) { s with sys.pendingReset := some r }, .effect s.stitch.number (leW b)) := by
  rintro _ rfl _ rfl
  simp [updActivate, inLoader_of_run hrun, hverified, requestReset_free hfree, loadSlot_of_run hrun]

end

section
variable {s : State}

theorem updData_run {l : UpdLoad} (hload : s.sys.load = some l) (m : Nat) (c : Cmd) : updData.run m c s =
    ({ s with sys.load := some { l with data := overlay l.data (u32At c.payload 0) (c.payload.drop 8),
                                        ranges := addRange (u32At c.payload 0) (c.payload.drop 8).length l.ranges, verified := false } },
      .effect s.stitch.number []) := by
  simp only [updData, hload, storeLoad, onSys, did]

theorem updConfirm_trial (htrial : (imageSlot s s.sys.running).state = .trial) (hdram : s.sys.dramImage = none) (m : Nat) (c : Cmd) :
    ∀ n, n = max s.sys.minSec (imageSlot s s.sys.running).secVersion →
    ∀ x : ImageSlot, x = { imageSlot s s.sys.running with state := .confirmed } →
    updConfirm.run m c s = (post 0x0144 s.sys.running (leW (imageSlot s s.sys.running).version ++ le32 n)
        { s with sys.minSec := n, sys.slots := listSet s.sys.slots s.sys.running x }, .effect s.stitch.number (le32 n)) := by
  rintro _ rfl _ rfl
  simp [updConfirm, htrial, hdram, onSys, setSlot, did_post]

theorem updConfirm_notTrial (htrial : (imageSlot s s.sys.running).state ≠ .trial) (m : Nat) (c : Cmd) :
    updConfirm.run m c s = (s, .done stConflict []) := by
  simp [updConfirm, htrial]

theorem updRollback_run (hcan : canRollback s = true) (hfree : s.sys.pendingReset = none) (m : Nat) (c : Cmd) :
    ∀ b, b = resetBoundary (u16At c.payload 0) s →
    ∀ r : PendingReset, r = { boundary := b, mailbox := m, slot := some (1 - s.sys.active), trial := false, confirm := 0 } →
    updRollback.run m c s =
      (post 0x0102 m (leW b ++ le16 (u16At c.payload 0)) { s with sys.pendingReset := some r }, .effect s.stitch.number (leW b)) := by
  rintro _ rfl _ rfl
  simp [updRollback, hcan, requestReset_free hfree]

theorem updRollback_closed (hcan : canRollback s = false) (m : Nat) (c : Cmd) : updRollback.run m c s = (s, .done stConflict []) := by
  simp [updRollback, hcan]

/-! LOG (R391-R393, R397). -/

section
variable {m : Nat} {c : Cmd}

/-- With no corrupt record the area is read whole (R397). -/
theorem logRecordRead_run (hcorrupt : s.smp.corrupt = 0) : ∀ held, held = areaRecords (u8At c.payload 6) s.smp →
    ∀ first : U32, first = BitVec.ofNat 32 (u32At c.payload 0) →
    ∀ hits, hits = held.filter (fun r => (first == 0 || serialAtOrBefore first r.seq) && bit (u32At c.payload 8) (classOf r.code)) →
    logRecordRead.run m c s = ({ s with freeCtr := s.freeCtr + 1 }, .done 0
      (leW ((held.head?.map (·.seq)).getD 0) ++ leW ((held.getLast?.map (·.seq)).getD 0) ++ le16 (min (u16At c.payload 4) hits.length) ++
        le8 (bitN (first != 0 && held != [] && serialBefore first ((held.head?.map (·.seq)).getD 0)) 0 +
          bitN (decide (u16At c.payload 4 < hits.length)) 1 + bitN false 2) ++
        le8 0 ++ (hits.take (u16At c.payload 4)).flatMap recordBytes)) := by
  rintro _ rfl _ rfl _ rfl
  simp only [logRecordRead, drawFree, hcorrupt, bne_self_eq_false, Bool.false_and, ok, stOk]

theorem logFreeze_free (h : s.smp.freeze = none) : logFreeze.run m c s = (post 0x0A03 m (zeros 4)
      { s with smp.freeze := some { mailbox := m, until_ := s.time.cycle + u16At c.payload 0 * cyclesPerSec } },
    .effect s.stitch.number (leW s.smp.newest)) := by
  simp [logFreeze, h, onSmp, did_post, post_newest]

theorem logFreeze_held (h : s.smp.freeze ≠ none) : logFreeze.run m c s = (s, .done stConflict []) := by
  simp [logFreeze, Option.isSome_iff_ne_none.mpr h]

theorem logThaw_own (h : freezeOf s m = true) :
    logThaw.run m c s = (endFreeze 2 s, .effect s.stitch.number (le16 s.smp.waiting.length ++ le16 0)) := by
  simp only [logThaw, h, if_true, did, endFreeze_stitch]

theorem logThaw_other (h : freezeOf s m = false) : logThaw.run m c s = (s, .done stConflict []) := by
  simp only [logThaw, h, Bool.false_eq_true, if_false]

theorem logMarkSet_held : ∀ p : U32, p = BitVec.ofNat 32 (u32At c.payload 4) → ∀ q, q = (if p = 0 then newestRound s.smp else p) →
    (s.smp.round.any fun r => r.seq == q) = true → logMarkSet.run m c s =
      (fullCheck { s with smp.marks := listSet s.smp.marks (u8At c.payload 0) { isSet := true, overtaken := false, seq := q } },
        .effect s.stitch.number (leW q)) := by
  rintro _ rfl _ rfl h
  simp only [logMarkSet, h, if_true, did, fullCheck_stitch, onSmp]

theorem logMarkSet_notHeld : ∀ p : U32, p = BitVec.ofNat 32 (u32At c.payload 4) → ∀ q, q = (if p = 0 then newestRound s.smp else p) →
    (s.smp.round.any fun r => r.seq == q) = false → logMarkSet.run m c s = (s, .done stConflict []) := by
  rintro _ rfl _ rfl h
  simp only [logMarkSet, h, Bool.false_eq_true, if_false]

theorem logNote_run : logNote.run m c s = (post 0x0901 m (slice c.payload 4 (u8At c.payload 0)) s, .effect s.stitch.number []) := by
  simp only [logNote, did_post]

end

end

/-- Settles O13. -/
theorem updAndLogCommandsAct : Obligations.UpdAndLogCommandsAct := by
  refine ⟨fun s m c hrun => ⟨fun h => reads_of_row rfl h rfl, fun h => acts_of_row rfl h (updBegin_run hrun m c),
      fun h _ hload => acts_of_row rfl h (updData_run hload m c),
      fun h _ hload hcov hcrc hemmc hreason x hx => acts_of_row rfl h (updVerify_valid hrun hload hcov hcrc hemmc hreason m c x hx),
      fun h _ _ hload hcov hcrc hemmc hreason =>
        done_of_run (spec := updVerify) (row_exec s rfl) h (updVerify_rejected hrun hload hcov hcrc hemmc hreason m c),
      fun h => acts_of_row rfl h rfl, fun h hver hfree b hb r hr => acts_of_row rfl h (updActivate_run hrun hver hfree m c b hb r hr),
      fun h htrial hdram n hn x hx => acts_of_row rfl h (updConfirm_trial htrial hdram m c n hn x hx),
      fun h htrial => fails_of_row rfl h (updConfirm_notTrial htrial m c),
      fun h hcan hfree b hb r hr => acts_of_row rfl h (updRollback_run hcan hfree m c b hb r hr),
      fun h hcan => fails_of_row rfl h (updRollback_closed hcan m c)⟩,
    fun s m c => ⟨fun h => reads_of_row rfl h rfl, fun h held hheld first hfirst hits hhits hcorrupt =>
        reads_of_rowDraw rfl h (logRecordRead_run hcorrupt held hheld first hfirst hits hhits),
      fun h hfree => acts_of_row rfl h (logFreeze_free hfree), fun h hheld => fails_of_row rfl h (logFreeze_held hheld),
      fun h hown => acts_of_row rfl h (logThaw_own hown), fun h hother => fails_of_row rfl h (logThaw_other hother),
      fun h p hp q hq hin => acts_of_row rfl h (logMarkSet_held p hp q hq hin), fun h p hp q hq hout => fails_of_row rfl h (logMarkSet_notHeld p hp q hq hout),
      fun h => acts_of_row rfl h rfl, fun h => schedules_of_row rfl h rfl, fun h => acts_of_row rfl h logNote_run⟩⟩

/-! PRB (R335, R361-R363). -/

/-- Beside the two latches a completed Probe read leaves the state as it was. -/
theorem completed_latches {s t : State} {m st n : Nat} {c : Cmd} {e : JEntry} {res : Sys2Proof.Bytes} {x : Option Nat}
    {y : Option (Nat × Nat × Nat)}
    (h : Completed { s with time.tbLatch := x, rtc.latch := y, freeCtr := n } t m c e st res) :
    Completed { s with time.tbLatch := t.time.tbLatch, rtc.latch := t.rtc.latch } t m c e st res := by
  obtain ⟨hrest, hjoined, hothers, hbox⟩ := h
  have htb : t.time.tbLatch = x := by rw [hrest]; rfl
  have hrtc : t.rtc.latch = y := by rw [hrest]; rfl
  exact ⟨by rw [htb, hrtc]; exact hrest, hjoined, hothers, hbox⟩

/-- A row whose part answers the words that `readAll` gives. -/
theorem reads_of_readAll {i : Instr} {spec : CmdSpec} {s : State} {m : Nat} {c : Cmd} {l : List Nat} {head : Sys2Proof.Bytes}
    (hrow : mailboxRow i = some (spec, .run m)) (hc : Executing s m c spec.opcode)
    (hr : spec.run m c s = ((readAll l s).2, .done 0 (head ++ (readAll l s).1))) : ∃ t, exec i s = .next t ∧ ∀ res, res = head ++ (readAll l s).1 →
      Completed { s with time.tbLatch := t.time.tbLatch, rtc.latch := t.rtc.latch } t m c (doneEntry m c 0 res) 0 res := by
  obtain ⟨x, y, n, hleft⟩ := readAll_only l s
  rw [hleft] at hr
  obtain ⟨t, hexec, hdone⟩ := doneOk_of_run (row_exec s hrow) hc hr
  refine ⟨t, hexec, ?_⟩
  rintro _ rfl
  exact completed_latches hdone

theorem prbWrite_run {s t : State} {c : Cmd} {b : Sys2Proof.Bytes} (m : Nat) : ∀ n, n = u16At c.payload 0 → ∀ w, w = windowItems c.payload →
    (upTo n).foldl (writeItem c.payload) ([], s) = (b, t) →
    ∀ v, v = post 0x0902 m (le16 n ++ le16 0 ++ le32 (u32At c.payload 4)) { t with time.tbLatch := s.time.tbLatch, rtc.latch := s.rtc.latch } →
    ∀ u, u = (if w = [] then v else dueChange c (effectAfterCommit c v) false (.network w) v) →
    prbWrite.run m c s = (u, if (le16 n ++ le16 0 ++ b).length ≤ 256 then did u (le16 n ++ le16 0 ++ b) else ok (le16 n ++ le16 0 ++ b)) := by
  rintro _ rfl _ rfl hitems _ rfl _ rfl
  simp only [prbWrite, hitems]

/-- A request whose principal lacks what its command needs is DENIED. -/
theorem denied_of_row {i : Instr} {spec : CmdSpec} {s : State} {r : Request} (hrow : mailboxRow i = some (spec, .request r))
    (hclear : Clear s r.session spec.needs (messageOf spec.opcode r)) (hright : allowed s r.session spec.needs = false) :
    ∃ t, exec i s = .next t ∧ Refused s t r.session spec.opcode r.tag stDenied [] := by
  obtain ⟨hphase, htakes, hheader, hkind, hlogin, htag⟩ := hclear
  refine ⟨_, take_ok s hrow, ?_⟩
  rw [takeRequest_notAllowed htakes hheader hkind hlogin hphase htag hright]
  exact refuseRequest_refused r.session (messageOf spec.opcode r) stDenied [] s

/-- Settles O14. -/
theorem probeCommandsAct : Obligations.ProbeCommandsAct := by
  refine ⟨fun s m c => ⟨?_, ?_, fun h => reads_of_row rfl h rfl, fun h n hn w hw b t hitems v hv u hu => ?_⟩, fun s r hclear => ⟨fun hno => ?_,
    fun hno => ⟨fun hc => denied_of_row (spec := prbRead) rfl hc hno, fun hc => denied_of_row (spec := prbReadRange) rfl hc hno,
      fun hc => denied_of_row (spec := prbMap) rfl hc hno⟩⟩⟩
  · rintro h _ rfl
    exact reads_of_readAll rfl h rfl
  · rintro h _ rfl
    exact reads_of_readAll rfl h rfl
  · have hrun := prbWrite_run m n hn w hw hitems v hv u hu
    refine ⟨fun hshort => acts_of_row rfl h (hrun.trans (by rw [if_pos hshort]; rfl)), fun hlong => ?_⟩
    exact doneOk_of_run (spec := prbWrite) (row_exec s rfl) h (hrun.trans (by rw [if_neg (by omega)]; rfl))
  · refine denied_of_row (spec := prbWrite) rfl hclear (Bool.eq_false_iff.mpr fun hallowed => ?_)
    obtain ⟨hroot, hmaint⟩ := (allowed_rootMaint s r.session).mp hallowed
    exact hno.elim (fun h => h hroot) hmaint

end Sys2Proof.Machine
end

section
/-! SUPPORT. The Tambour's events, the schedule and calendar, and the light tasks. -/

namespace Sys2Proof.Machine

/-! The Tambour (R43, R44, R47, R48, R331). -/

/-- The FRAY record of one kind of task for the second that ends (R44). -/
theorem frayRecordOf_eq (f : FrayRun) (t : State) : frayRecordOf f t =
    if f.count ≠ 0 then post 0x0107 f.list (le32 f.count ++ le8 f.kind ++ le8 (bitN f.soft 0) ++ le8 0) t
    else if f.running then post 0x0107 f.list (le32 0 ++ le8 f.kind ++ le8 (bitN f.soft 0) ++ le8 1) t else t := by
  cases hsoft : f.soft <;> simp [frayRecordOf, hsoft, bitN]

/-- A dispatch changes the Tambour alone. -/
theorem taskDispatch_starts {s : State} {l e : Nat} {k : TaskSlot} (h : dispatchChoice s l = some (e, k)) :
    exec (.taskDispatch l) s = .next (startOn e k s) := by
  show execTaskDispatch l s = _
  simp only [execTaskDispatch, h, next]

theorem heldSourceRelease_some {s : State} {l k : Nat} {h : HeldTask} (hheld : firstHeld s l = some h) (hfree : freeSlot s = some k) :
    exec (.heldSourceRelease l) s = .next (if roomFor s l h.source = true then windowMessages (enterHeld h k s) else s) := by
  show execHeldSourceRelease l s = _
  simp only [execHeldSourceRelease, hheld, hfree, next]

theorem heldSourceRelease_none {s : State} {l : Nat} (h : firstHeld s l = none ∨ freeSlot s = none) : exec (.heldSourceRelease l) s = .next s := by
  show execHeldSourceRelease l s = _
  rcases h with h | h
  · simp only [execHeldSourceRelease, h, next]
  · cases hheld : firstHeld s l <;> simp only [execHeldSourceRelease, h, hheld, next]

theorem mailboxCommandExecution_begins {s : State} {m : Nat} {c : Cmd} (htask : taskRunning s (.mailbox m) = true)
    (hbegin : mayBegin (box s m) = some c) : exec (.mailboxCommandExecution m) s = .next
      (onBox m (fun b => { b with lastBegun := c.seq }) (modifyCmd m c.seq (fun c => { c with phase := .running }) s)) := by
  show execMailboxCommandExecution m s = _
  simp only [execMailboxCommandExecution, htask, if_true, hbegin, next]

/-- Settles O24. -/
theorem tambourEventsAct : Obligations.TambourEventsAct := by
  refine fun s => ⟨fun k t hfind => ?_, fun k hnone => ?_, ⟨_, rfl, ?_⟩, fun l e k hchoice => ⟨_, taskDispatch_starts hchoice, rfl, rfl⟩,
    fun l h k => heldSourceRelease_some, fun l => heldSourceRelease_none, fun m c => mailboxCommandExecution_begins⟩
  · show execSoftDeadlinePass k s = _
    simp only [execSoftDeadlinePass, hfind, next]
  · show execSoftDeadlinePass k s = _
    simp only [execSoftDeadlinePass, hnone, next]
  · simp only [frayRecordOf_eq]

/-! The schedule and the calendar (R100, R101, R103, R112, R119). -/

section
variable {s : State} {k : Nat} (htask : taskRunning s (.schedule k) = true)
include htask

theorem scheduleEvaluation_run : ∀ t, t = { s with sched.evaluated := s.sched.evaluated ++ [k] } →
    ∀ plan, plan = (if s.sched.noTime then some (default : DayPlan) else planOf s s.sched.day) → exec (.scheduleEvaluation k) s =
      .next (endBeforeFade (.schedule k)
        (plan.elim t fun p => (s.tab.live.pins.filter fun e => e.1 / 256 == k).foldl (scheduleOne p) t)) := by
  rintro _ rfl _ rfl
  show execScheduleEvaluation k s = _
  simp only [execScheduleEvaluation, htask, if_true]
  cases (if s.sched.noTime then some (default : DayPlan) else planOf s s.sched.day) <;> rfl

end

/-- Settles O26. -/
theorem scheduleAndCalendarAct : Obligations.ScheduleAndCalendarAct := by
  refine ⟨fun s k htask t ht plan hplan => ⟨fun hnone => ?_, fun p hsome => ?_⟩, fun s => ⟨rfl, rfl, fun hpast hfirst => ?_, fun honce => ?_,
    fun level hnamed => ?_, fun level hunnamed => ?_⟩⟩
  · rw [scheduleEvaluation_run htask t ht plan hplan, hnone]; rfl
  · rw [scheduleEvaluation_run htask t ht plan hplan, hsome]; rfl
  · show execTzExpired s = _
    simp [execTzExpired, hpast, hfirst, next]
  · show execTzExpired s = _
    simp [execTzExpired, honce, next]
  · show execPhotocellSettled level s = _
    simp [execPhotocellSettled, hnamed, next]
  · show execPhotocellSettled level s = _
    simp [execPhotocellSettled, hunnamed, next]

/-! The light tasks (R127-R164). -/

section
variable {s : State}

theorem presenceWalk_run (htask : taskRunning s .walk = true) : ∀ t, t = s.lace.closed.foldl walkSource s →
    exec .presenceWalk s = .next (if t.lace.streamsStarted then freeTask .walk t else endBeforeFade .walk (startStreams t)) := by
  rintro _ rfl
  show execPresenceWalk s = _
  simp only [execPresenceWalk, htask, if_true, next]

theorem walkLate_run (htask : s.tmb.slots.any (fun t => t.kind == .walk) = true) (hfirst : s.lace.streamsStarted = false) :
    ∀ u, u = startStreams { s with lace.walkLate := s.lace.walkLate + 1 } →
    exec .walkLate s = .next (if fadeDue u .walk then postTask srcEngine (fadeTask u) u else u) := by
  rintro _ rfl
  show execWalkLate s = _
  simp only [execWalkLate, htask, hfirst, Bool.not_false, Bool.and_self, if_true, next, onLace]

theorem solveAndRepair_run {g : Nat} (htask : taskRunning s (.solve g) = true) : ∀ u, u = (match matching s g with
      | none => s
      | some r => if isDark s g then darkSegment g s else solveSegment g r s) →
    exec (.solveAndRepair g) s = .next (stream (freeHalf g (postFrom (.solve g) (newTask (.darn g) false (nextStitch u) 0 0) u))) := by
  rintro _ rfl
  show execSolveAndRepair g s = _
  simp only [execSolveAndRepair, htask, if_true, next]
  cases matching s g <;> rfl

theorem darning_run {g : Nat} (htask : taskRunning s (.darn g) = true) : ∀ pins, pins = gPins (segEntry s.tab.live g) →
    ∀ t, t = writeLevels g s → exec (.darning g) s = .next (endBeforeFade (.darn g)
      { setDarnBits (pins.map fun p => (p, darnBit t p)) t with
        lace.posted := ((pins.filter (isFailed t)).flatMap (darnRequests t g)).foldl postRequest t.lace.posted }) := by
  rintro _ rfl _ rfl
  show execDarning g s = _
  simp only [execDarning, htask, if_true, next]
  rfl

theorem fadeShaping_run (htask : taskRunning s .fade = true) : exec .fadeShaping s =
    .next (writeChain (freeTask .fade (shapeAll ((lightingPins s).filterMap fun e => shapeOf s e.1 e.2) s))) := by
  show execFadeShaping s = _
  simp only [execFadeShaping, htask, if_true, next]

end

/-- Settles O27. -/
theorem lightTasksRun : Obligations.LightTasksRun := by
  refine fun s => ⟨fun htask t ht => ⟨fun hfirst => ?_, fun hlate => ?_⟩, walkLate_run, fun g => solveAndRepair_run, fun g => darning_run, fadeShaping_run⟩
  · rw [presenceWalk_run htask t ht, hfirst]; rfl
  · rw [presenceWalk_run htask t ht, hlate]; rfl

end Sys2Proof.Machine
end

section
/-! SUPPORT. The radio's tasks, the frames of the Pins, the Enh-Acks and the radio's timers. -/

namespace Sys2Proof.Machine

/-! The tasks of the radio (R202, R207, R211-R214, R226, R231, R238). -/

section
variable {s : State} {k : Nat}

/-- The Course of a Stitch is planned: its items are those that fit between the windows, in the order of their starts. -/
theorem coursePlanning_run (htask : taskRunning s (.planning k) = true) (hon : shuttleOn s k = true) :
    ∀ q, q = planSleepy k s → ∀ p, p = onShuttle k (fun h => { h with groups := h.groups ++ newGroups q k }) q →
    ∀ a e, a = courseStart p k → e = courseEnd p →
    ∀ fixed, fixed = sortBy (fun x y => x.1 ≤ y.1) ((p.air.windows.filter fun w => w.shuttle == k).map (windowSpan p k)) →
    ∀ l d, place (candidates p k) (if a < e then gapsOf a e (fixed.filter fun w => a < w.2 && w.1 < e) else []) [] = (l, d) →
    ∀ items, items = (sortBy (fun x y => x.1 ≤ y.1) l).map (·.2) → exec (.coursePlanning k) s = .next
      (postFrom (.planning k) (newTask (.course k) true p.stitch.number ((e - p.stitch.lastBoundary) / 1000) 0)
        (onShuttle k (fun h => { h with plan := items, inCourse := true, itemsLast := items.length, itemsMax := max h.itemsMax items.length,
                                        deferCourse := h.deferCourse + BitVec.ofNat 32 d }) p)) := by
  intro q hq p hp a e ha he fixed hfixed l d hplace items hitems
  show execCoursePlanning k s = _
  simp only [execCoursePlanning, htask, hon, Bool.not_true, Bool.false_eq_true, if_false, ← hq, ← hp, ← ha, ← he, ← hfixed, hplace, ← hitems, next, onShuttle_fields]

section
variable (hon : shuttleOn s k = true)
  (hidle : ((shuttle s k).owed.isSome || (shuttle s k).awaiting.isSome || decide (taiNs s < (shuttle s k).txTo)) = false)
include hon hidle

theorem courseRun_follow {f : FollowUp} (hfollow : (shuttle s k).follow = some f) : exec (.courseRun k) s =
    .next (if (shuttle s k).holdTx then onShuttle k (fun h => { h with follow := none }) s else sendFollow k f s) := by
  show execCourseRun k s = _
  simp only [execCourseRun, hon, hidle, Bool.not_true, Bool.false_eq_true, if_false, hfollow, next]

theorem courseRun_next (hfollow : (shuttle s k).follow = none) (htask : taskRunning s (.course k) = true) :
    exec (.courseRun k) s = .next (courseNext k s) := by
  show execCourseRun k s = _
  simp only [execCourseRun, hon, hidle, Bool.not_true, Bool.false_eq_true, if_false, hfollow, htask, if_true, next]

end

/-- What the Course does with the items that still fit. -/
theorem courseNext_eq (s : State) (k : Nat) : ∀ left, left = (shuttle s k).plan.filter (itemFits s k) →
    ∀ t, t = deferItem k ((shuttle s k).plan.length - left.length) (onShuttle k (fun h => { h with plan := left }) s) →
    courseNext k s = match left with
      | [] => endCourse k t
      | i :: rest => if taiNs s < itemStart s k i then t else runItem k i (onShuttle k (fun h => { h with plan := rest }) t) := by
  rintro _ rfl _ rfl
  rfl

theorem raptorqEncoding_run {b : Nat} (htask : taskRunning s (.raptorq b) = true) : ∀ t, t = freeTask (.raptorq b) s →
    exec (.raptorqEncoding b) s = .next { t with air.session := t.air.session.map fun z =>
      { z with encoded := if z.encoded.contains b then z.encoded else z.encoded ++ [b] } } := by
  rintro _ rfl
  show execRaptorqEncoding b s = _
  simp only [execRaptorqEncoding, htask, if_true, next, onAir]

theorem beacon_run (hdue : (!beaconsDue s || !isBeacon s.stitch.number || s.air.beaconAt == some s.stitch.number) = false) :
    ∀ e, e = (if s.time.radiosHeld then [] else inServiceShuttles s).foldl sendBeacon (false, s) →
    exec .beacon s = .next { descriptorStep (beaconGap e.1 e.2) with air.beaconAt := some e.2.stitch.number } := by
  rintro _ rfl
  show execBeacon s = _
  simp only [execBeacon, hdue, Bool.false_eq_true, if_false, next, onAir]

theorem receiveWindowEnd_collided {p : Nat} {w : RxWindow} (h : s.air.windows.find? (fun w => w.pin == p) = some w) :
    exec (.receiveWindowEnd p true) s = .next (onShuttle w.shuttle (fun h => { h with winCollide := h.winCollide + 1 })
      { s with air.windows := s.air.windows.filter (· != w) }) := by
  show execReceiveWindowEnd p true s = _
  simp only [execReceiveWindowEnd, h, if_true, next, onAir]

/-- A window that ends missed; the third in a row leaves the Pin to be woken (R207). -/
theorem receiveWindowEnd_missed {p : Nat} {w : RxWindow} (h : s.air.windows.find? (fun w => w.pin == p) = some w) :
    ∀ t, t = onShuttle w.shuttle (fun h => { h with winMissed := h.winMissed + 1 }) { s with air.windows := s.air.windows.filter (· != w) } →
    ∀ u, u = onRadio p (fun r => { r with missedRow := r.missedRow + 1,
                                          missedInstants := if (pinState s p).switchedOff then r.missedInstants else r.missedInstants + 1 }) t →
    exec (.receiveWindowEnd p false) s = .next (if 3 ≤ (radioPin u p).missedRow then onPin p (fun t => { t with wakeOnly := true }) u else u) := by
  rintro _ rfl _ rfl
  show execReceiveWindowEnd p false s = _
  simp only [execReceiveWindowEnd, h, Bool.false_eq_true, if_false, next]
  rfl

end

/-- Settles O28. -/
theorem radioTasksRun : Obligations.RadioTasksRun := by
  refine fun s => ⟨fun k a htask o t hread u hu => ⟨fun hnone => ?_, fun b hsome hbad => ?_, fun b l hsome hgood => ?_⟩,
    fun k htask hon => coursePlanning_run htask hon, fun k f hon hidle hfollow => courseRun_follow hon hidle hfollow,
    fun k hon hidle hfollow htask left hleft t ht => ⟨fun hend => ?_, fun i rest hcons hlater => ?_, fun i rest hcons hnow => ?_⟩,
    fun b => raptorqEncoding_run, beacon_run, fun p w => receiveWindowEnd_collided, fun p w => receiveWindowEnd_missed⟩
  · show execTelemetryDecode ⟨k, a⟩ s = _
    simp only [execTelemetryDecode, htask, if_true, hread, hnone, hu, next]
  · show execTelemetryDecode ⟨k, a⟩ s = _
    simp only [execTelemetryDecode, htask, if_true, hread, hsome, hbad, hu, next, onAir]
  · show execTelemetryDecode ⟨k, a⟩ s = _
    simp only [execTelemetryDecode, htask, if_true, hread, hsome, hgood, hu, next, onAir]
  · rw [courseRun_next hon hidle hfollow htask, courseNext_eq s k left hleft t ht, hend]
  · rw [courseRun_next hon hidle hfollow htask, courseNext_eq s k left hleft t ht, hcons]; simp only [hlater, if_true]
  · rw [courseRun_next hon hidle hfollow htask, courseNext_eq s k left hleft t ht, hcons]; simp only [Nat.not_lt.mpr hnow, if_false]

end Sys2Proof.Machine
end

section
/-! SUPPORT. The frames that Pins send (R188-R201, R226, R240), the Enh-Acks, and the radio's timers and faults. -/

namespace Sys2Proof.Machine

/-! Uplinks. -/

section
variable {s : State} {f : RxFrame}

theorem otherKind_own {k : Nat} (h : u8At f.payload 0 = k) : otherKind f k = false := by simp [otherKind, kindIs, h]

/-- The row of a kind of Pin frame, where the frame is of that kind. -/
theorem uplinkPoll_own (h : u8At f.payload 0 = 0x20) : exec (.uplinkPoll f) s = .next (uplink f (ofKind f 0x20 fun _ t => t) s) := by
  show execUplinkPoll f s = _
  simp only [execUplinkPoll, otherKind_own h, Bool.false_eq_true, if_false, next]

theorem uplinkReport_own (h : u8At f.payload 0 = 0x21) : exec (.uplinkReport f) s = .next (uplink f (ofKind f 0x21 (handleReport f)) s) := by
  show execUplinkReport f s = _
  simp only [execUplinkReport, otherKind_own h, Bool.false_eq_true, if_false, next]

theorem uplinkImageState_own (h : u8At f.payload 0 = 0x0E) : exec (.uplinkImageState f) s = .next (uplink f (ofKind f 0x0E fun p t =>
    onRadio p (fun r => { r with image := some (u8At f.payload 2, BitVec.ofNat 32 (u32At f.payload 5)) }) t) s) := by
  show execUplinkImageState f s = _
  simp only [execUplinkImageState, otherKind_own h, Bool.false_eq_true, if_false, next]

variable (hears : (f.shuttle < 4 && hasRadio s && running s && pfEn (region s) f.shuttle && !(shuttle s f.shuttle).failed &&
  !s.time.radiosHeld && hears f false s) = true)
include hears

theorem uplink_dropped {d : RxDrop} (hcheck : rxCheck f false s = .error d) (handle : Nat → State → State) :
    uplink f handle s = countDrop f.shuttle d s := by
  simp only [uplink, hears, Bool.not_true, Bool.false_eq_true, if_false, hcheck]

theorem uplink_taken {p kind : Nat} (hcheck : rxCheck f false s = .ok p) (hkind : u8At f.payload 0 = kind) (take : Nat → State → State) :
    ∀ dup, dup = (f.seq.toNat == (pinState s p).upSeq &&
      (match (radioPin s p).heardAt with | some c => decide (s.time.cycle - c ≤ 10 * cyclesPerSec) | none => false)) →
    ∀ u, u = (match expectedWindow s p f.shuttle f.sfdEnd with
      | some w => oweAck f p (clampOffset (tdiv ((f.sfdEnd : Int) - w.instant) 1000)) (expectedFrame p w f.sfdEnd (rxAccept f p s))
      | none => oweAck f p 0 (rxAccept f p s)) →
    uplink f (ofKind f kind take) s = if dup then onShuttle f.shuttle (fun h => { h with rxDup := h.rxDup + 1 }) u
      else take p (onPin p (fun t => { t with upSeq := f.seq.toNat }) u) := by
  rintro _ rfl _ rfl
  have hown : ∀ t, ofKind f kind take p t = take p t := fun t => by simp [ofKind, kindIs, hkind]
  simp only [uplink, hears, Bool.not_true, Bool.false_eq_true, if_false, hcheck, hown]
  cases expectedWindow s p f.shuttle f.sfdEnd <;> rfl

end

/-- Settles O29: each of the three rows is `uplink` of its own kind of frame. -/
theorem uplinkFramesAreTaken : Obligations.UplinkFramesAreTaken := by
  rintro s f hears _ rfl kind answer take hrow hkind
  have hanswer : answer = .next (uplink f (ofKind f kind take) s) := by
    simp only [List.mem_cons, Prod.mk.injEq, List.not_mem_nil, or_false] at hrow
    rcases hrow with ⟨rfl, rfl, rfl⟩ | ⟨rfl, rfl, rfl⟩ | ⟨rfl, rfl, rfl⟩
    · exact uplinkPoll_own hkind
    · exact uplinkReport_own hkind
    · exact uplinkImageState_own hkind
  exact ⟨fun d hd => hanswer.trans (congrArg _ (uplink_dropped hears hd _)),
    fun p hp dup hdup u hu => hanswer.trans (congrArg _ (uplink_taken hears hp hkind take dup hdup u hu))⟩

/-! Enh-Acks (R193-R197, R216). -/

section
variable {s : State} {f : RxFrame} (hears : (receives s f.shuttle && hears f true s) = true)
include hears

theorem hears_not : (!receives s f.shuttle || !Machine.hears f true s) = false := by
  simpa using hears

theorem nodeEnhAck_dropped {d : RxDrop} (hcheck : rxCheck f true s = .error d) : exec (.nodeEnhAck f) s = .next (countDrop f.shuttle d s) := by
  show execNodeEnhAck f s = _
  simp only [execNodeEnhAck, hears_not hears, Bool.false_eq_true, if_false, hcheck, next]

theorem nodeEnhAck_checked {p : Nat} {a : Awaiting} (hcheck : rxCheck f true s = .ok p) (hawaiting : (shuttle s f.shuttle).awaiting = some a) :
    exec (.nodeEnhAck f) s = .next (if ackMatches p f a then ackTaken f p a s else s) := by
  show execNodeEnhAck f s = _
  simp only [execNodeEnhAck, hears_not hears, Bool.false_eq_true, if_false, hcheck, hawaiting, next]

end

theorem ackTaken_command {s : State} {f : RxFrame} {p : Nat} {a : Awaiting} {q : U32} {c : PinCmd} : ∀ u,
    u = onShuttle f.shuttle (fun h => { h with awaiting := none }) (rxAccept f p s) → a.command = some q → commandOf u p q = some c →
    ackTaken f p a s = deliverCommand f.shuttle p c u := by
  rintro _ rfl hq hc
  simp only [ackTaken, hq, hc]

theorem ackTaken_noCommand {s : State} {f : RxFrame} {p : Nat} {a : Awaiting} : ∀ u,
    u = onShuttle f.shuttle (fun h => { h with awaiting := none }) (rxAccept f p s) → a.command = none →
    ackTaken f p a s = if a.sync then syncDone p a u else u := by
  rintro _ rfl hnone
  simp only [ackTaken, hnone]

section
variable {s : State} {k : Nat}

theorem enhAckTimeout_missed {a : Awaiting} (h : (shuttle s k).awaiting = some a) : exec (.enhAckTimeout k) s = .next (tryMissed k a s) := by
  show execEnhAckTimeout k s = _
  simp only [execEnhAckTimeout, h, next]

theorem enhAckSend_held {o : OwedAck} (howed : (shuttle s k).owed = some o) (hheld : (shuttle s k).holdAck = true) :
    exec (.enhAckSend k) s = .next (onShuttle k (fun h => { h with owed := none }) s) := by
  show execEnhAckSend k s = _
  simp only [execEnhAckSend, howed, hheld, Bool.true_or, if_true, next]

/-- The Enh-Ack owed goes out, and what follows it is noted. -/
theorem enhAckSend_sent {o : OwedAck} (howed : (shuttle s k).owed = some o) (hopen : (shuttle s k).holdAck = false) (hon : airOn s = true)
    (hserves : (shuttle s k).failed = false) : ∀ t, t = onShuttle k (fun h => { h with owed := none }) s →
    ∀ c u, sendFrame (taiNs s) o.mode 33 (plainFrame k (if o.pending then fcAckPending else fcAck) o.seq (airPan s) (some (0x0800 + o.pin)) 0x09
      (o.keyIndex - 1) (ackIes o.offset) (leW o.counter)) t = (some c, u) →
    exec (.enhAckSend k) s = .next (onShuttle k (fun h =>
      { h with ackSent := h.ackSent + 1, ackPend := if o.pending then h.ackPend + 1 else h.ackPend,
               follow := if o.pending && o.sleepy then some { pin := o.pin, sync := o.sync } else h.follow }) u) := by
  intro t ht c u hsent
  have hon' : airOn t = true := by rw [ht]; exact hon
  have hpan : airPan t = airPan s := by rw [ht]; rfl
  have hnow : taiNs t = taiNs s := by rw [ht]; rfl
  show execEnhAckSend k s = _
  simp only [execEnhAckSend, howed, ← ht, hopen, hserves, hon', hpan, hnow, hsent, Bool.not_true, Bool.or_self, Bool.false_eq_true, if_false, next]

end

/-! Beacons, probes, silence, Picots, duty bins and failed engines (R19, R149, R185, R220, R221, R234, R239). -/

section
variable {s : State} {k : Nat}

/-- A beacon with the module's PAN ID is recorded unless one was within the minute (R185). -/
theorem foreignBeacon_run {pan : U16} (hown : (pan.toNat != airPan s || !hasRadio s || !pfEn (region s) k) = false) :
    ∀ t, t = { s with air.panConflict := s.air.panConflict + 1, air.panCount := s.air.panCount + 1 } →
    exec (.foreignBeacon k pan) s = .next
      (if (s.air.panMinute.elim true fun c => decide (60 * cyclesPerSec ≤ s.time.cycle - c)) then
        post 0x0601 k (le16 (min 65535 t.air.panCount)) { t with air.panCount := 0, air.panMinute := some s.time.cycle }
      else t) := by
  rintro _ rfl
  show execForeignBeacon k pan s = _
  simp only [execForeignBeacon, hown, Bool.false_eq_true, if_false, onAir, next]
  cases s.air.panMinute with
  | none => rfl
  | some c => by_cases hdue : 60 * cyclesPerSec ≤ s.time.cycle - c <;> simp only [hdue, decide_true, decide_false, Option.elim_some, if_true,
      Bool.false_eq_true, if_false]

theorem probeDue_sends {p : Nat} : ∀ conf, conf = pinConf s.tab.live p → cTransport conf = tMains → isRadio conf = true →
    (pinState s p).pending = false → (∀ e ∈ s.air.probes, e.1 ≠ p) → inFlight s p = false → (radioPin s p).probeAt ≤ s.time.cycle →
    keepalive s ≤ secSince s ((radioPin s p).heardAt.getD s.sys.startCycle) →
    exec (.probeDue p) s = .next { s with air.probes := s.air.probes ++ [(p, s.stitch.number)] } := by
  rintro _ rfl hmains hradio hpending hprobes hflight hat hsilent
  have hnew : s.air.probes.all (fun e => e.1 != p) = true := List.all_eq_true.mpr fun e he => bne_iff_ne.mpr (hprobes e he)
  show execProbeDue p s = _
  simp only [execProbeDue, hmains, hradio, hpending, hnew, hflight, hat, hsilent, beq_self_eq_true, Bool.not_false, Bool.and_self, decide_true,
    if_true, onAir, next]

theorem pinSilent_fails {p : Nat} : ∀ conf, conf = pinConf s.tab.live p → isRadio conf = true → (pinState s p).switchedOff = false →
    (pinState s p).failure = 0 → (cTransport conf = tMains → silentMains s ≤ secSince s (silentFrom s p)) →
    (cTransport conf ≠ tMains → silentSleepy s ≤ (radioPin s p).missedInstants) → ∀ t, t = onPin p (fun t => { t with failure := 1 }) s →
    exec (.pinSilent p) s = .next { t with air.heardNow := t.air.heardNow.filter (· != p) } := by
  rintro _ rfl hradio hon hwell hmains hsleepy _ rfl
  show execPinSilent p s = _
  by_cases ht : cTransport (pinConf s.tab.live p) = tMains
  · simp only [execPinSilent, ht, hradio, hon, hwell, hmains ht, beq_self_eq_true, Bool.not_false, Bool.and_self, decide_true, if_true, onAir, next]
  · simp only [execPinSilent, beq_eq_false_iff_ne.mpr ht, hradio, hon, hwell, hsleepy ht, beq_self_eq_true, Bool.not_false, Bool.and_self,
      decide_true, Bool.false_eq_true, if_false, if_true, onAir, next]

theorem imagePicotTimer_calls {z : ImageSession} (hsession : s.air.session = some z) (hsending : z.sending = true)
    (hsleepy : ((imageTargets s z).any fun e => cTransport e.2 == tSleepy) = true) (hdue : 60 * cyclesPerSec ≤ s.time.cycle - z.picotAt) :
    exec .imagePicotTimer s = .next (requestPicot 0xFFFF 2 { s with air.session := some { z with picotAt := s.time.cycle } }) := by
  show execImagePicotTimer s = _
  simp only [execImagePicotTimer, hsession, hsending, hsleepy, hdue, decide_true, Bool.and_self, if_true, onAir, next]

theorem dutyBinRoll_run (hk : k < 4) : ∀ keep, keep = (fun t : Tab Nat => t.filter fun e => decide (upSec s < e.1 + 3600)) →
    ∀ t, t = onShuttle k (fun h => { h with bins := keep h.bins }) s →
    exec (.dutyBinRoll k) s = .next (dutyUpdate k { t with air.wakeBins := keep t.air.wakeBins }) := by
  rintro _ rfl _ rfl
  show execDutyBinRoll k s = _
  simp only [execDutyBinRoll, hk, if_true, onAir, next]

theorem shuttleFault_leaves (hk : k < 4) (hradio : hasRadio s = true) (hserves : (shuttle s k).failed = false) (hstays : (shuttle s k).leaving = false)
    (cause : Nat) : exec (.shuttleFault k cause) s = .next (post 0x0207 k (le8 cause) (onShuttle k (fun h => { h with leaving := true }) s)) := by
  show execShuttleFault k cause s = _
  simp only [execShuttleFault, hk, hradio, hserves, hstays, decide_true, Bool.not_false, Bool.and_self, if_true, next]

theorem laceFault_leaves {e : Nat} (hserves : s.lace.inService.getD e false = true) (hstays : s.lace.leaving.contains e = false) (cause : Nat) :
    exec (.laceFault e cause) s = .next (post 0x0206 e (le8 cause)
      { s with lace.leaving := s.lace.leaving ++ [e], lace.inService := listSet s.lace.inService e false }) := by
  show execLaceFault e cause s = _
  simp only [execLaceFault, hserves, hstays, Bool.not_false, Bool.and_self, if_true, onLace, next]

end

/-- Settles O30. -/
theorem enhAcksAndRadioEventsAct : Obligations.EnhAcksAndRadioEventsAct := by
  refine ⟨fun s => ⟨fun f hears => ⟨fun d => nodeEnhAck_dropped hears, fun p a hcheck hawaiting => ⟨fun hdiffers => ?_, fun hmatches u hu =>
      ⟨fun q c hq hc => ?_, fun hnone => ?_⟩⟩⟩, fun k a => enhAckTimeout_missed, fun k o howed t ht => ⟨fun hheld => ?_,
      fun hopen hon hserves => enhAckSend_sent howed hopen hon hserves t ht⟩⟩,
    fun s => ⟨fun k pan hown t ht => ⟨fun hfirst => ?_, fun c hc hrecent => ?_⟩, fun p => probeDue_sends, fun p => pinSilent_fails,
      fun z => imagePicotTimer_calls, fun k => dutyBinRoll_run, fun k cause hk hradio hserves hstays => shuttleFault_leaves hk hradio hserves hstays cause,
      fun e cause hserves hstays => laceFault_leaves hserves hstays cause⟩⟩
  · rw [nodeEnhAck_checked hears hcheck hawaiting, hdiffers]; rfl
  · rw [nodeEnhAck_checked hears hcheck hawaiting, if_pos hmatches, ackTaken_command u hu hq hc]
  · rw [nodeEnhAck_checked hears hcheck hawaiting, if_pos hmatches, ackTaken_noCommand u hu hnone]
  · rw [enhAckSend_held howed hheld, ht]
  · rw [foreignBeacon_run hown t ht, if_pos]
    cases hm : s.air.panMinute with
    | none => rfl
    | some c => exact decide_eq_true (hfirst c hm)
  · rw [foreignBeacon_run hown t ht, hc, if_neg (by simpa using hrecent)]

end Sys2Proof.Machine
end

section
/-! SUPPORT. The Skein's events, the Bobbin channels, and accesses to registers. -/

namespace Sys2Proof.Machine

/-! Skeins (R57-R60, R64, R371). -/

section
variable {s : State} {n w : Nat}

section
variable (hwriter : bit (skein s n).writers w = true) (hen : (skein s n).en = true) (hfree : portStalled s w = false)
include hwriter hen hfree

theorem pushAccess_taken {valid : Nat} {word : U32} {k : Skein} {r : PushResult} (hstore : storeWord (skein s n) w valid word = (k, r))
    (hr : r ≠ .stalled) : pushAccess n w valid word s = afterPush n k r s := by
  simp only [pushAccess, hfree, pushWord, hwriter, hen, Bool.not_true, Bool.or_self, Bool.false_eq_true, if_false, hstore]

theorem pushAccess_stalls {valid : Nat} {word : U32} {k : Skein} (hstore : storeWord (skein s n) w valid word = (k, .stalled)) :
    pushAccess n w valid word s =
      onSkein n (fun k => { k with heldWrites := k.heldWrites ++ [{ writer := w, valid := valid, word := word }], stall := k.stall + 1 }) s := by
  simp only [pushAccess, hfree, pushWord, hwriter, hen, Bool.not_true, Bool.or_self, Bool.false_eq_true, if_false, hstore]

end

theorem pushAccess_waits (hst : portStalled s w = true) (valid : Nat) (word : U32) : pushAccess n w valid word s =
    { s with skn.waiting := s.skn.waiting ++ [{ initiator := w, skein := n, push := some (valid, word), ecc := .ok }] } := by
  simp only [pushAccess, hst, if_true, waitAccess]

theorem clampN_in {v lo hi : Nat} (h1 : lo ≤ v) (h2 : v ≤ hi) : clampN v lo hi = v := by
  rw [clampN, Nat.min_eq_left h2, Nat.max_eq_right h1]

theorem skeinHeldWrite_stores {h : HeldWrite} {k : Skein} {r : PushResult}
    (hfind : (skein s n).heldWrites.find? (fun h => (storeWord (skein s n) h.writer h.valid h.word).2 != .stalled) = some h)
    (hstore : storeWord { skein s n with heldWrites := (skein s n).heldWrites.erase h } h.writer h.valid h.word = (k, r)) :
    exec (.skeinHeldWrite n) s = .next (resumePort h.writer (afterPush n k r s)) := by
  show execSkeinHeldWrite n s = _
  simp only [execSkeinHeldWrite, hfind, hstore, next]

theorem skeinHeldNotice_enters {slot : Nat} (hheld : (skein s n).heldNotices ≠ 0) (hroom : roomFor s (skein s n).noticeList srcSkein = true)
    (hfree : freeSlot s = some slot) : exec (.skeinHeldNotice n) s =
      .next (onSkein n (fun k => { k with heldNotices := k.heldNotices - 1 }) (enterTask (noticeTask n s) slot s)) := by
  show execSkeinHeldNotice n s = _
  unfold execSkeinHeldNotice
  rw [hfree]
  dsimp only
  split
  · rfl
  · rename_i hno
    simp [hheld, hroom] at hno

theorem skeinWriteAbandon_discards (h : (skein s n).opened.isSome = true) : exec (.skeinWriteAbandon n) s = .next
    (onSkein n (fun k => { k with opened := none, abandoned := min (k.abandoned + 1) 255, lost := k.lost || carriesWork n }) s) := by
  show execSkeinWriteAbandon n s = _
  simp only [execSkeinWriteAbandon, h, if_true, next, sat8]

theorem jnlRebuild_writes (hwork : carriesWork n = true) (hlost : (skein s n).lost = true) :
    ∀ packets, packets = ((s.jnl.log.filterMap fun i => if i.live then i.entry else none).filter (carried s n)).map
      (fun e => ({ bytes := entryImage e } : Packet)) →
    ∀ t, t = onSkein n (fun k => packets.foldl (fun k p => if n ≤ 11 then placePacket p.bytes k else carry p.bytes k)
        { k with packets := [], reading := none, lost := false }) s →
    exec (.jnlRebuild n) s = .next { t with jnl.rebuilds := t.jnl.rebuilds + 1 } := by
  rintro _ rfl _ rfl
  show execJnlRebuild n s = _
  simp only [execJnlRebuild, hwork, hlost, Bool.and_self, if_true, next]

end

/-- Settles O32. -/
theorem skeinEventsAct : Obligations.SkeinEventsAct := by
  rintro s n _ rfl
  refine ⟨fun w word hwriter hen hfree => ⟨fun k hstore => ?_, fun valid k b hlo hhi hstore => ?_, fun k hstore => ?_⟩, fun w word hst => ?_,
    fun h hfind k r hstore => skeinHeldWrite_stores hfind hstore, fun slot => skeinHeldNotice_enters, skeinWriteAbandon_discards, jnlRebuild_writes⟩
  · exact congrArg Host.Outcome.next (pushAccess_taken hwriter hen hfree hstore (by simp))
  · show execSkeinPushEnd n w valid word s = _
    rw [execSkeinPushEnd, clampN_in hlo hhi, pushAccess_taken hwriter hen hfree hstore (by simp)]
    rfl
  · exact congrArg Host.Outcome.next (pushAccess_stalls hwriter hen hfree hstore)
  · exact congrArg Host.Outcome.next (pushAccess_waits hst 0 word)

/-! Bobbin channels (R67-R76). -/

section
variable {s : State} {c : Nat}

/-- A channel number that no channel has reads as an idle one. -/
theorem channel_of_state (h : (bobbin s c).state ≠ .idle) : c < s.bob.channels.length := by
  by_contra hout
  exact h (by rw [bobbin, List.getD_eq_default _ _ (by omega)]; rfl)

theorem channel_of_mayComplete (h : mayComplete s c = true) : c < s.bob.channels.length := by
  refine channel_of_state fun hidle => ?_
  simp [mayComplete, canMove, hidle] at h

section
variable (hc : c < 32)
include hc

theorem bobStart_starts (hidle : bobActive (bobbin s c) = false) (hok : startError s c = false) :
    exec (.bobStart c) s = .next (settlePath (onBobbin c (fun x =>
      { x with used := 0, remain := x.count, hold := [], packet := [], moved := 0, lastRead := false, fetching := false, error := 0,
               phase := 0, tries := 0, long := false, stopping := false, state := if bReqEn x then .waitReq else .active }) s)) := by
  show execBobStart c s = _
  simp only [execBobStart, Nat.not_le.mpr hc, hidle, hok, Bool.false_eq_true, if_false, next]

theorem bobStart_fails (hidle : bobActive (bobbin s c) = false) (herr : startError s c = true) :
    exec (.bobStart c) s = .next (haltBobbin c 3 0 0 (onBobbin c (fun b => { b with used := 0 }) s)) := by
  show execBobStart c s = _
  simp only [execBobStart, Nat.not_le.mpr hc, hidle, herr, Bool.false_eq_true, if_false, if_true, next, beCfg]

theorem bobStart_ignored (hactive : bobActive (bobbin s c) = true) :
    exec (.bobStart c) s = .next { s with bob.ignored := s.bob.ignored + 1 } := by
  show execBobStart c s = _
  simp only [execBobStart, Nat.not_le.mpr hc, hactive, if_false, if_true, next, ignoredWrite]

end

theorem bobRequest_high (h : (bobbin s c).state = .waitReq) :
    exec (.bobRequest c true) s = .next (settlePath (onBobbin c (fun b => { b with state := .active }) s)) := by
  show execBobRequest c true s = _
  simp only [execBobRequest, h, beq_self_eq_true, Bool.and_self, if_true, next]

theorem bobRequest_low : exec (.bobRequest c false) s = .next s := by
  show execBobRequest c false s = _
  simp only [execBobRequest, Bool.and_false, Bool.false_eq_true, if_false, next]

theorem bobStop_stops (h : bobActive (bobbin s c) = true) : exec (.bobStop c false) s = .next (settlePath (haltBobbin c 6 0 0 s)) := by
  show execBobStop c false s = _
  simp only [execBobStop, h, Bool.not_true, Bool.false_and, Bool.false_eq_true, if_false, next, beStopped]

/-- A transfer without a completion to send and without a link is over. -/
theorem endTransfer_idle {token fetch : BusAccess} (hkind : bKind (bobbin s c) = 0) (hlink : (bLinkEn (bobbin s c) && !(bobbin s c).stopping) = false) :
    endTransfer c token fetch s = onBobbin c (fun b => { b with state := .idle, fetching := false, stopping := false, tries := 0 }) s := by
  have hsent : sendCompletion c token s = (.sent, s) := by simp only [sendCompletion, hkind]
  simp only [endTransfer, hsent, goOn, hlink, Bool.false_eq_true, if_false]

theorem bobStop_completes (hactive : (bobbin s c).state = .active) (hover : transferOver (bobbin s c) = true)
    (hfetch : (bobbin s c).fetching = false) (hkind : bKind (bobbin s c) = 0) : exec (.bobStop c true) s = .next (settlePath
      (onBobbin c (fun b => { b with state := .idle, fetching := false, stopping := false, tries := 0 })
        (onBobbin c (fun b => { b with stopping := true }) { s with bob.ignored := s.bob.ignored + 1 }))) := by
  have hc : c < s.bob.channels.length := channel_of_state (by rw [hactive]; decide)
  have hstopping : bobbin (onBobbin c (fun b => { b with stopping := true }) { s with bob.ignored := s.bob.ignored + 1 }) c =
      { bobbin s c with stopping := true } := bobbin_onBobbin (s := { s with bob.ignored := s.bob.ignored + 1 }) hc _
  show execBobStop c true s = _
  simp only [execBobStop, bobActive, hactive, hover, hfetch, ignoredWrite]
  rw [endTransfer_idle (by rw [hstopping]; exact hkind) (by rw [hstopping]; simp)]
  rfl

section
variable (hmay : mayComplete s c = true)
include hmay

theorem bobBurstDone_reads (hempty : (bobbin s c).hold = []) (hopen : accessFails .ok (nextBurst (bobbin s c)) = false) :
    exec (.bobBurstDone c .ok) s = .next (passPath (readBurst c .ok (onBobbin c (fun b => { b with tries := 0 }) s))) := by
  show execBobBurstDone c .ok s = _
  simp only [execBobBurstDone, hmay, hempty, hopen, beq_self_eq_true, Bool.false_eq_true, if_false, if_true, next]

theorem bobBurstDone_writes (hfull : (bobbin s c).hold ≠ []) (hopen : accessFails .ok (nextBurst (bobbin s c)) = false) :
    exec (.bobBurstDone c .ok) s = .next (passPath (writeBurst c (onBobbin c (fun b => { b with tries := 0 }) s))) := by
  show execBobBurstDone c .ok s = _
  simp only [execBobBurstDone, hmay, beq_eq_false_iff_ne.mpr hfull, hopen, Bool.false_eq_true, if_false, if_true, next]

theorem bobBurstDone_fails (hfull : (bobbin s c).hold ≠ []) : exec (.bobBurstDone c .busError) s = .next (settlePath (busError c 1 s)) := by
  have hfails : accessFails .busError (nextBurst (bobbin s c)) = true := rfl
  show execBobBurstDone c .busError s = _
  simp only [execBobBurstDone, hmay, beq_eq_false_iff_ne.mpr hfull, hfails, Bool.false_eq_true, if_false, if_true, next]

end

/-- The read half from memory. -/
theorem readBurst_mem (h : bSrcSkein (bobbin s c) = false) : ∀ b, b = bobbin s c → ∀ n, n = min 512 (b.count - b.moved) →
    readBurst c .ok s = onBobbin c (fun x =>
      { x with hold := (burstAddresses b.src (bSw b) (bSinc b) b.moved n).map (memRead s.bob.mem), moved := x.moved + n,
               lastRead := x.moved + n == x.count }) s := by
  rintro _ rfl _ rfl
  simp only [readBurst, h, Bool.false_eq_true, if_false]

theorem busError_retries {phase : Nat} (h : (bobbin s c).tries < bRetry (bobbin s c)) : busError c phase s =
    { onBobbin c (fun x => { x with tries := x.tries + 1, phase := phase }) s with bob.retry := s.bob.retry + 1 } := by
  simp only [busError, Nat.not_le.mpr h, if_false]

theorem busError_halts {phase : Nat} (h : bRetry (bobbin s c) ≤ (bobbin s c).tries) :
    busError c phase s = haltBobbin c 1 phase ((bobbin s c).tries + 1) s := by
  simp only [busError, h, if_true, beBus]

section
variable {token fetch : BusAccess}

theorem bobTransferEnd_waits (h : acknowledged s = false) : exec (.bobTransferEnd c ⟨token, fetch⟩) s = .next s := by
  show execBobTransferEnd c ⟨token, fetch⟩ s = _
  simp only [execBobTransferEnd, h, Bool.not_false, Bool.or_true, if_true, next]

section
variable (hack : acknowledged s = true) (hactive : (bobbin s c).state = .active)
include hack hactive

theorem bobTransferEnd_fetched (hfetch : (bobbin s c).fetching = true) :
    exec (.bobTransferEnd c ⟨token, fetch⟩) s = .next (settlePath (loadDescriptor c fetch s)) := by
  show execBobTransferEnd c ⟨token, fetch⟩ s = _
  simp only [execBobTransferEnd, hactive, hack, hfetch, bne_self_eq_false, Bool.not_true, Bool.or_self, Bool.false_eq_true, if_false, if_true, next]

theorem bobTransferEnd_over (hfetch : (bobbin s c).fetching = false) (hover : transferOver (bobbin s c) = true) :
    exec (.bobTransferEnd c ⟨token, fetch⟩) s = .next (settlePath (endTransfer c token fetch s)) := by
  show execBobTransferEnd c ⟨token, fetch⟩ s = _
  simp only [execBobTransferEnd, hactive, hack, hfetch, hover, bne_self_eq_false, Bool.not_true, Bool.or_self, Bool.false_eq_true, if_false,
    if_true, next]

end

/-- A completion held goes on as the sending of its token answers. -/
theorem bobPulseRelease_run {r : Completion} {t : State} (hheld : (bobbin s c).state = .pulseHeld) (hsend : sendCompletion c token s = (r, t)) :
    exec (.bobPulseRelease ⟨c, ⟨token, fetch⟩⟩) s = .next (match r with
      | .sent => settlePath (goOn c fetch t)
      | .held => s
      | .failed => settlePath (busError c 3 t)) := by
  show execBobPulseRelease ⟨c, ⟨token, fetch⟩⟩ s = _
  simp only [execBobPulseRelease, hheld, beq_self_eq_true, if_true, hsend]
  cases r <;> rfl

end

end

/-- Settles O33. -/
theorem bobbinsAct : Obligations.BobbinsAct := by
  refine ⟨?_, ?_⟩
  · rintro s c _ rfl _ rfl
    exact ⟨bobStart_starts, bobStart_fails, bobStart_ignored, bobRequest_high, bobRequest_low, bobStop_stops, bobStop_completes⟩
  · rintro s c _ rfl
    refine ⟨fun hmay hempty hsrc hopen n hn t ht => ?_, bobBurstDone_writes, fun hmay hfull hleft => ?_, fun hmay hfull hspent => ?_,
      fun token fetch hack hfetch hactive hover hkind hlink => ?_, fun token fetch hack hfetch hactive => bobTransferEnd_fetched hack hactive hfetch,
      fun token fetch => bobTransferEnd_waits, fun token fetch t hheld hsend => bobPulseRelease_run hheld hsend,
      fun token fetch t hheld hsend => bobPulseRelease_run hheld hsend, fun token fetch t hheld hsend => bobPulseRelease_run hheld hsend⟩
    · have hb : bobbin t c = { bobbin s c with tries := 0 } := by
        rw [ht]; exact bobbin_onBobbin (channel_of_mayComplete hmay) _
      rw [bobBurstDone_reads hmay hempty hopen, ← ht, readBurst_mem (by rw [hb]; exact hsrc) _ rfl n (by rw [hb]; exact hn), hb, ht]
      rfl
    · rw [bobBurstDone_fails hmay hfull, busError_retries hleft]
    · rw [bobBurstDone_fails hmay hfull, busError_halts hspent]
    · rw [bobTransferEnd_over hack hactive hfetch hover, endTransfer_idle hkind (by rw [hlink]; rfl)]

end Sys2Proof.Machine
end

section
/-! SUPPORT. Accesses to registers (R13, R311, R318, R319, R426, R431), and the chain (R164-R176). -/

namespace Sys2Proof.Machine

/-! Register accesses. -/

section
variable {s : State}

theorem ringCmdForced_run {p : Nat} (hp : p < 2) : exec (.ringCmdForced p) s = .next (ringEvent (.forced p) s) := by
  show execRingCmdForced p s = _
  simp only [execRingCmdForced, hp, if_true, next]

theorem ringCmdManual_run {p : Nat} (hp : p < 2) : exec (.ringCmdManual p) s = .next (ringEvent (.manual p) s) := by
  show execRingCmdManual p s = _
  simp only [execRingCmdManual, hp, if_true, next]

theorem netSettingsWindowWrite_staged {o id at_ : Nat} (h : windowWord (o - o % 4) = some (id, at_)) (v : U32) :
    exec (.netSettingsWindowWrite o v) s = .next { s with set.staged := s.set.staged ++ [(id, at_, leW v)] } := by
  show execNetSettingsWindowWrite o v s = _
  simp only [execNetSettingsWindowWrite, h, next, stageWords]

theorem netSettingsWindowWrite_outside {o : Nat} (h : windowWord (o - o % 4) = none) (v : U32) : exec (.netSettingsWindowWrite o v) s = .next s := by
  show execNetSettingsWindowWrite o v s = _
  simp only [execNetSettingsWindowWrite, h, next]

theorem blockOf_channel : ∀ c < 32, blockOf (0x01201010 + 0x40 * c) = some 0x01200000 ∧
    arrayAt 0x1000 0x40 32 (0x01201010 + 0x40 * c - 0x01200000) = some (c, 0x10) := by decide

/-- The COUNT register of a Bobbin channel is written as its access code says. -/
theorem writeWord_count {c : Nat} (hc : c < 32) (v : Nat) : writeWord (0x01201010 + 0x40 * c) v s = bobbinWrite c 0x10 v s := by
  obtain ⟨hblock, harray⟩ := blockOf_channel c hc
  simp only [writeWord, hblock, harray, Nat.reduceEqDiff, if_false, if_true]

theorem bobbinWrite_count {c : Nat} (h : bobActive (bobbin s c) = false) (v : Nat) :
    bobbinWrite c 0x10 v s = onBobbin c (fun b => { b with count := v % 268435456 }) s := by
  simp only [bobbinWrite, h, Nat.reduceEqDiff, Bool.false_eq_true, decide_false, Bool.false_and, if_false, if_true]

theorem bobbinWrite_active {c : Nat} (h : bobActive (bobbin s c) = true) (v : Nat) :
    bobbinWrite c 0x10 v s = { s with bob.ignored := s.bob.ignored + 1 } := by
  simp only [bobbinWrite, h, Nat.reduceEqDiff, decide_false, Bool.false_and, Bool.false_eq_true, if_false, if_true, ignoredWrite]

theorem writeWord_smpStats (v : Nat) : writeWord 0x06010004 v s = statsWrite v (execSmpClearStats s) s := rfl

theorem writeWord_outside {a : Nat} (h : blockOf a = none) (v : Nat) : writeWord a v s = s := by simp only [writeWord, h]

end

/-- Settles O34. -/
theorem registerAccessesAct : Obligations.RegisterAccessesAct := by
  refine ⟨fun s => ⟨fun k v => rfl, fun p => ringCmdForced_run, fun p => ringCmdManual_run, fun p => rfl, rfl, rfl, rfl, rfl,
      fun o v id at_ h => netSettingsWindowWrite_staged h v, fun o v h => netSettingsWindowWrite_outside h v⟩,
    fun s v => ⟨rfl, fun hset => ?_, fun hclear => ?_, fun c hc hidle => ?_, fun c hc hactive => ?_, rfl, fun a h => congrArg _ (writeWord_outside h _)⟩⟩
  · exact congrArg Host.Outcome.next ((writeWord_smpStats v.toNat).trans (by rw [statsWrite, if_pos hset]; rfl))
  · exact congrArg Host.Outcome.next ((writeWord_smpStats v.toNat).trans (by simp only [statsWrite, hclear, Bool.false_eq_true, if_false]))
  · exact congrArg Host.Outcome.next ((writeWord_count hc _).trans (bobbinWrite_count (by rw [bobActive, hidle]; rfl) _))
  · exact congrArg Host.Outcome.next ((writeWord_count hc _).trans (bobbinWrite_active (by rw [bobActive, hactive]; rfl) _))

/-! The chain's packets (R164). -/

/-- Writing the packets of Skein 25 changes that Skein and the chain's own copy of them. -/
theorem writeChain_only (s : State) : ∃ x k, writeChain s = { s with skn := x, chain.packets := k, chain.packetsAt := some s.stitch.number } := by
  have hfold : ∀ (l : List (Nat × Sys2Proof.Bytes)) (t : State), ∃ x, l.foldl (fun t e => throughSkein 25 e.2 t) t = { t with skn := x } := by
    intro l
    induction l with
    | nil => exact fun t => ⟨t.skn, rfl⟩
    | cons e l ih => exact fun t => (ih (throughSkein 25 e.2 t)).imp fun x h => h
  unfold writeChain
  dsimp only
  exact (hfold _ s).elim fun x h => ⟨x, _, by rw [h]⟩

theorem chainPackets_only (s : State) : ∃ x k a, chainPackets s = { s with skn := x, chain.packets := k, chain.packetsAt := a } := by
  unfold chainPackets
  split
  · exact ⟨_, _, _, rfl⟩
  · obtain ⟨x, k, h⟩ := writeChain_only s
    exact ⟨x, k, _, h⟩

/-- The models that are missing are recorded, and the frame of the levels is built. -/
theorem chainShift_builds {s : State} (hon : s.chain.state ≠ .off) (hscan : s.chain.state ≠ .scan) (hshaped : s.chain.packetsAt ≠ none)
    (hidle : ∀ f, s.chain.frame = some f → f.shifted = true ∧ f.committed = true) : ∀ u, u = chainPackets s →
    ∃ t, exec .chainShift s = .next t ∧ t = { s with chain := t.chain, smp := t.smp, skn := t.skn } ∧
      (∃ f, t.chain.frame = some f ∧ f.seq = s.chain.built % 256 ∧ f.levels = (chainPins s).map (fun e => (e.1, packetLevel u e.1)) ∧
        f.blocks.length = 128 ∧ f.shifted = false ∧ f.committed = false) ∧
      t.chain.built = s.chain.built + 1 ∧
      t.chain.skipped = (if s.chain.frame.isSome then s.chain.skipped + 1 else s.chain.skipped) := by
  rintro _ rfl
  have hnone : s.chain.packetsAt.isNone = false := by simpa [Option.isSome_iff_ne_none] using hshaped
  show ∃ t, execChainShift s = .next t ∧ _
  unfold execChainShift
  dsimp only
  rw [if_neg (by
    rw [beq_eq_false_iff_ne.mpr hon, beq_eq_false_iff_ne.mpr hscan, hnone]
    cases hf : s.chain.frame with
    | none => simp
    | some f =>
      obtain ⟨hshifted, hcommitted⟩ := hidle f hf
      simp [hshifted, hcommitted])]
  obtain ⟨x, k, a, hpackets⟩ := chainPackets_only s
  rw [hpackets]
  generalize ((chainPins { s with skn := x, chain.packets := k, chain.packetsAt := a }).filter fun e =>
    (modelFor { s with skn := x, chain.packets := k, chain.packetsAt := a } e.2).isNone && !s.chain.modelMissing.contains e.1).map (·.1) = missing
  obtain ⟨y, z, hposted⟩ := fold_post_smp 0x050A (by decide) missing { s with skn := x, chain.packets := k, chain.packetsAt := a }
  rw [hposted]
  exact ⟨_, rfl, rfl, ⟨_, rfl, rfl, rfl, by simp [upTo], rfl, rfl⟩, rfl, rfl⟩

theorem chainShift_notShaped {s : State} (h : s.chain.packetsAt = none) : exec .chainShift s = .next s := by
  show execChainShift s = _
  simp only [execChainShift, h, Option.isNone_none, Bool.or_true, if_true, next]

/-- A frame whose first word returns ends the count of those that brought none. -/
theorem scanCheck_seen {ret : List U64} (h : (wordAt ret 0).isSome = true) (s : State) :
    scanCheck ret s = onChain (fun c => { c with badZero := 0 }) s := by
  have hseen : (wordAt ret 0).isNone = false := by simpa using h
  simp only [scanCheck, hseen, Bool.false_eq_true, if_false, Nat.reduceLeDiff]

theorem chainShiftDone_shifts {s : State} {f : ChainFrame} (hframe : s.chain.frame = some f) (hshift : f.shifted = false) (ret : List U64) :
    ∃ u, exec (.chainShiftDone ret) s =
      .next (scanCheck ret (onChain (fun k => { k with frame := some { f with shifted := true, topoOk := k.state == .run } }) u)) := by
  show ∃ u, execChainShiftDone ret s = _
  simp only [execChainShiftDone, hframe, hshift, Bool.false_eq_true, if_false, next]
  exact ⟨_, rfl⟩

theorem chainShiftDone_once {s : State} {f : ChainFrame} (hframe : s.chain.frame = some f) (hshift : f.shifted = true) (ret : List U64) :
    exec (.chainShiftDone ret) s = .next s := by
  show execChainShiftDone ret s = _
  simp only [execChainShiftDone, hframe, hshift, if_true, next]

theorem chainLatch_latches {s : State} {f : ChainFrame} (hframe : s.chain.frame = some f) (hshift : f.shifted = true) (hcommit : f.committed = true)
    (htopo : f.topoOk = true) (hrun : s.chain.state = .run) : exec .chainLatch s =
      .next ((chainPins s).foldl (fun t e => modifyQueue e.1 (fun q => if q.committed then { q with latched := true } else q) t)
        { s with chain.frame := none, chain.latched := some f, chain.frames := s.chain.frames + 1,
                 chain.shown := s.chain.shown ++ (f.levels.map (·.1)).filter fun p => !s.chain.shown.contains p }) := by
  show execChainLatch s = _
  simp only [execChainLatch, hframe, hshift, hcommit, htopo, hrun, beq_self_eq_true, Bool.and_self, if_true, next, onChain, chainPins]

/-! Scans (R167, R170, R172). -/

/-- A scan's end sets the chain's state and count; what it records and completes leaves the rest. -/
theorem chainScan_ends {s : State} (hscan : s.chain.state = .scan) (ret : List (List U64)) (delays : List Nat) :
    ∃ t, exec (.chainScan ret delays) s = .next t ∧
    t.chain.count = boardCount ((ret.take 4).getLast?.getD []) ∧ t.chain.frame = none ∧
    t.chain.state = (if 128 < boardCount ((ret.take 4).getLast?.getD []) then .overlength else .run) ∧
    t.chain.lost = !((ret.take 4).any fun l => l.any rwValid) ∧
    (((ret.take 4).any fun l => l.any rwValid) = true → ∀ d, scanDelay delays = some d → t.chain.retDelay = d) := by
  have recorded : ∀ (a b : Bool) (p q u : State), p.chain = u.chain → q.chain = u.chain →
      (if a = true then p else if b = true then q else u).chain = u.chain := by
    rintro (_ | _) (_ | _) p q u hp hq <;> simp [hp, hq]
  show ∃ t, execChainScan ret delays s = .next t ∧ _
  simp only [execChainScan, hscan, bne_self_eq_false, Bool.false_eq_true, if_false, next]
  refine ⟨_, rfl, ?_⟩
  rw [completeAccepts_chain]
  simp only [onChain_chain, dropFrame]
  rw [recorded _ _ _ _ _ (by simp) (by simp)]
  refine ⟨rfl, trivial, rfl, trivial, fun hany d hd => ?_⟩
  simp only [hany, hd, if_true, Option.getD_some]

/-- Settles O35. -/
theorem chainEventsAct : Obligations.ChainEventsAct := by
  refine fun s => ⟨chainShift_builds, chainShift_notShaped, fun ret f hframe hshift => ?_, fun ret f hframe hshift => chainShiftDone_once hframe hshift ret,
    fun f => chainLatch_latches, fun ret delays hscan => chainScan_ends hscan ret delays, fun ret delays hnot => ?_, fun b => rfl,
    fun b hb hok hdue t ht => ?_⟩
  · obtain ⟨u, hexec⟩ := chainShiftDone_shifts hframe hshift ret
    exact ⟨_, hexec, fun hseen => by rw [scanCheck_seen hseen]; rfl⟩
  · show execChainScan ret delays s = _
    simp only [execChainScan, bne_iff_ne.mpr hnot, if_true, next]
  · subst ht
    show execNtcFault b s = _
    simp only [execNtcFault, hb, hok, hdue, decide_true, Bool.not_false, Bool.and_self, if_true, next]
    rfl

end Sys2Proof.Machine
end

section
/-! SUPPORT. Metering blocks and windows (R245-R260, R270, R276, R277, R285), and the meter's records (R279-R286). -/

namespace Sys2Proof.Machine

section
variable {s : State} {h : Nat}

theorem meterBlock_run (hrun : harnessRuns s h = true) {bits : List (List Bool)} {samples : List (List Int)} {a : State}
    (hdec : decimateBlock h bits s = (samples, a)) : ∀ b, b = (if noBlockRoom h a then dropBlock h a
      else blockArrives h samples (if (harness a h).dropped = 0 then a else endDrops h a)) →
    meterBlock h bits s = (upTo b.met.blocks.length).foldl (fun t _ => runBlock h t) b := by
  intro b hb
  simp only [meterBlock, hrun, if_true, hdec, ← hb]

theorem meterBlock_settles (hstop : harnessRuns s h = false) (hstate : (harness s h).state = .settling) (bits : List (List Bool)) :
    meterBlock h bits s = (decimateBlock h bits s).2 := by
  simp only [meterBlock, hstop, hstate, beq_self_eq_true, Bool.false_eq_true, if_false, if_true]

theorem meterBlock_idle (hstop : harnessRuns s h = false) (hstate : (harness s h).state ≠ .settling) (bits : List (List Bool)) :
    meterBlock h bits s = s := by
  simp only [meterBlock, hstop, beq_eq_false_iff_ne.mpr hstate, Bool.false_eq_true, if_false]

/-- What one block of samples does, in the order of its parts. -/
theorem registerBlock_eq (x : MeterBlock) (s : State) : ∀ h, h = x.harness → ∀ k a, drawFree s = (k, a) →
    ∀ codes, codes = (fun c : Nat => x.samples.getD c []) →
    ∀ fs, fs = ((upTo 28).map fun c => filterBlock k (28 * h + c) (50000 - calDelay (calEntry a (28 * h + c)))
      ((codes c).map (sampleValue (calEntry a (28 * h + c)))) (a.met.filters.getD (28 * h + c) default)) →
    ∀ xs, xs = fs.map (·.1) → ∀ finish, finish = x.instants.getLastD 0 →
    ∀ b, b = { a with
      met.peaks := a.met.peaks.zipIdx.map (fun e => if e.2 / 28 = h then peakChannel x.instants (codes (e.2 % 28)) (xs.getD (e.2 % 28) []) e.1 else e.1),
      met.filters := a.met.filters.zipIdx.map (fun e => if e.2 / 28 = h then (fs.getD (e.2 % 28) ([], e.1)).2 else e.1),
      met.sets := listModify a.met.sets h (fun v => { v with window := List.zipWith (· ++ ·) v.window xs, half := List.zipWith (· ++ ·) v.half xs }),
      met.clipCnt := a.met.clipCnt + BitVec.ofNat 32 ((upTo 28).map fun c => ((codes c).filter fun r => mainLimit ≤ r.natAbs).length).sum } →
    ∀ c, c = (feedersOf h).foldl (fun t n => spanBlock (finish - 1000000) n t) b →
    ∀ es, es = (feedersOf h).map (fun n => (upTo 3).map fun p =>
      phaseEnergy c n p (xs.getD (uChan n p % 28) []) (xs.getD (iChan n p % 28) [])) →
    ∀ d, d = (upTo 4).foldl (dfcBlock h c.met.feeders es) (es.zipIdx.foldl (fun t e => registerFeeder (6 * h + e.2) e.1 t) c) →
    registerBlock x s = noteFlags { d with met.blockEnd := max d.met.blockEnd finish } := by
  intro h hh k a hdraw codes hcodes fs hfs xs hxs finish hfinish b hb c hc es hes d hd
  simp only [registerBlock, hdraw, ← hh, ← hfinish, onMet]
  subst hcodes
  simp only [← hfs, ← hxs, ← hb, ← hc, ← hes, ← hd]

end

/-- Settles O36. -/
theorem meteringBlocksAndWindowsRegister : Obligations.MeteringBlocksAndWindowsRegister := by
  refine ⟨⟨fun s h bits => ⟨fun hstop hstate => congrArg _ (meterBlock_idle hstop hstate bits),
      fun hstop hstate => congrArg _ (meterBlock_settles hstop hstate bits),
      fun hrun samples a hdec b hb => congrArg _ (meterBlock_run hrun hdec b hb)⟩, fun s x => registerBlock_eq x s⟩, ?_⟩
  intro s h hrun
  refine ⟨fun r bits hs v hv hnone => ?_, fun r bits hs v hv n origin cs hend k a hdraw w hw t ht => ?_, fun r bits hs hnone => ?_,
    fun r bits hs l rest hsome t ht => ?_, ?_⟩
  · show execMeasurementWindowClose h bits r = _
    simp only [execMeasurementWindowClose, ← hs, hrun, if_true, ← hv, hnone, next]
  · show execMeasurementWindowClose h bits r = _
    simp only [execMeasurementWindowClose, ← hs, hrun, if_true, ← hv, hend, next, closeWindow, hdraw, ← hw, ← ht, onMet]
  · show execHalfCycleEnd h bits r = _
    simp only [execHalfCycleEnd, ← hs, hrun, if_true, hnone, next]
  · show execHalfCycleEnd h bits r = _
    simp only [execHalfCycleEnd, ← hs, hrun, if_true, hsome, next, ← ht]
    split <;> rfl
  · rintro _ rfl _ rfl
    refine ⟨?_, ?_⟩
    · show execDecOverrun h false s = _
      simp only [execDecOverrun, hrun, if_true, Bool.false_eq_true, if_false, next, dropBlock, onMet]
    · show execDecOverrun h true s = _
      simp only [execDecOverrun, hrun, if_true, next, dropBlock, endDrops, onMet]

/-! The meter's records. -/

section
variable {s : State}

theorem intervalBoundary_closes : ∀ b, b = gridStart s (gridLength s) (taiSec s) → running s = true → s.met.restored = true →
    s.met.interval.lastClosed < b → s.met.interval.start < b → logTight s = false →
    exec .intervalBoundary s = .next (postTask 3 (softTask .interval 10000 s) (closeAt b s)) := by
  intro b hb hrun hrestored hlast hstart hroom
  show execIntervalBoundary s = _
  simp only [execIntervalBoundary, ← hb, hrun, hrestored, hlast, hstart, hroom, decide_true, Bool.not_false, Bool.and_self, if_true, next]

theorem intervalClose_records {c : ClosedInterval} {rest : List ClosedInterval} (htask : taskRunning s .interval = true)
    (hclosing : s.met.closing = c :: rest) : ∀ seq, seq = s.jnl.nextSeq →
    ∃ t, exec .intervalClose s = .next t ∧ t = { s with tmb := (freeTask .interval s).tmb, jnl := t.jnl, met := t.met } ∧
      t.jnl = { s.jnl with nextSeq := seqNext seq, batch := s.jnl.batch ++ [⟨seq, 3, 0, 0, intervalRecord c seq⟩] } ∧
      t.met = { s.met with closing := rest, records := s.met.records ++ [⟨seq, intervalRecord c seq, false, false⟩] } := by
  rintro _ rfl
  show ∃ t, execIntervalClose s = .next t ∧ _
  simp only [execIntervalClose, htask, if_true, hclosing, next, joinWork]
  rw [freeTask_only]
  exact ⟨_, rfl, rfl, rfl, rfl⟩

theorem spanRecordDue_records {n : Nat} {c : ClosedSpan} (hfind : s.met.closed.find? (fun c => c.span.feeder == n) = some c)
    (hdue : (logTight s || (c.late && !s.time.servo.traceable) || !minuteOver s c) = false) : ∀ seq, seq = s.jnl.nextSeq →
    ∃ t, exec (.spanRecordDue n) s = .next t ∧ t = { s with jnl := t.jnl, met := t.met } ∧
      t.jnl = { s.jnl with nextSeq := seqNext seq, batch := s.jnl.batch ++ [⟨seq, 4, 0, n, spanRecord c seq⟩] } ∧
      ∀ fs, fs = (if c.late then listModify s.met.feeders n (fun f =>
          { f with unmeasured := f.unmeasured + BitVec.ofNat 64 (msBetween c.span.start c.finish) }) else s.met.feeders) →
      t.met = { s.met with feeders := fs, closed := s.met.closed.erase c, spanRecords := s.met.spanRecords ++ [⟨seq, spanRecord c seq, false, false⟩] } := by
  rintro _ rfl
  show ∃ t, execSpanRecordDue n s = .next t ∧ _
  simp only [execSpanRecordDue, hfind, hdue, Bool.false_eq_true, if_false, next, joinWork]
  cases c.late
  · exact ⟨_, rfl, rfl, rfl, fun fs hfs => by subst hfs; rfl⟩
  · exact ⟨_, rfl, rfl, rfl, fun fs hfs => by subst hfs; rfl⟩

theorem archiveVerified_retires {q : U32} : ∀ here : List MetRecord → Bool, here = (fun l => l.any fun r => r.seq == q && r.accepted && !r.archived) →
    (here s.met.records || here s.met.spanRecords) = true → s.sys.emmcFault = false →
    ∀ mark : List MetRecord → List MetRecord, mark = (fun l => l.map fun r => if r.seq == q then { r with archived := true } else r) →
    ∀ t, t = retire q { s with met.records := mark s.met.records, met.spanRecords := mark s.met.spanRecords } →
    exec (.archiveVerified q) s = .next { t with jnl := spaceHolds t.jnl } := by
  rintro _ rfl hhere hemmc _ rfl _ rfl
  show execArchiveVerified q s = _
  simp only [execArchiveVerified, hhere, hemmc, Bool.not_false, Bool.and_self, if_true, next, onMet, markArchived]

/-- The meter is saved to the slot whose turn it is. -/
theorem periodicSave_saves (hrun : (running s && s.met.restored && s.sys.bankOk.getD 0 false) = true) : ∀ k, k = periodicSlot s → ∀ late, late =
      (s.met.lastKind == 1 && s.met.lastSaveAt != 0 && decide (440000000 < s.time.cycle - s.met.lastSaveAt)) →
    ∀ m, m = { s.met with saveSeq := s.met.saveSeq + 1, saveSlot := k, lastKind := 1, lastSaveAt := s.time.cycle,
                          msvLate := if late then s.met.msvLate + 1 else s.met.msvLate } →
    exec .periodicSave s = .next (checkStartUp { s with
      met := if k = 0 then { m with saveA := some (saveOf 1 s) } else { m with saveB := some (saveOf 1 s) } }) := by
  intro k hk late hlate m hm
  show execPeriodicSave s = _
  simp only [execPeriodicSave, hrun, if_true, next, onMet, ← hk, ← hlate, hm]
  split <;> rfl

end

/-- Settles O37. -/
theorem meterRecordsAreMade : Obligations.MeterRecordsAreMade := fun _ =>
  ⟨intervalBoundary_closes, fun _ _ => intervalClose_records, fun _ _ => spanRecordDue_records, fun _ => archiveVerified_retires, periodicSave_saves⟩

end Sys2Proof.Machine
end

section
/-! SUPPORT. Protection, outputs, inputs and the states of a harness (R252-R272, R287, R290, R454). -/

namespace Sys2Proof.Machine

/-! Protection and snapshots. -/

section
variable {s : State}

theorem ocInstDetect_detects {n c : Nat} {bits : List Bool} : ∀ l, l = lastFast s n c bits → n < 12 → harnessRuns s (n / 6) = true →
    (feeder s n).armed = true → prInst (prEntry s n) ≠ 0 → ((watched s n).any fun k => iChan n k == c) = true →
    l.length = prInstCount (prEntry s n) → (∀ q ∈ l, fastThreshold s n c < (q.natAbs : Int)) →
    exec (.ocInstDetect n c bits) s = .next (detect n c 0 (fastPeak s c l) s) := by
  intro l hl hn hrun harmed hinst hwatched hcount habove
  have hall : (l.all fun q => decide (fastThreshold s n c < (q.natAbs : Int))) = true :=
    List.all_eq_true.mpr fun q hq => decide_eq_true (habove q hq)
  show execOcInstDetect n c bits s = _
  simp only [execOcInstDetect, ← hl, hn, hrun, harmed, bne_iff_ne.mpr hinst, hwatched, hcount, hall, beq_self_eq_true, decide_true, Bool.and_self,
    if_true, next]

theorem snapshotComplete_codes {b : Nat} {samples : List (List Int)} {x : Snapshot}
    (hfind : s.met.snaps.find? (fun x => x.buffer == b && x.coded.isNone && !x.lost) = some x) : ∀ t, t = { s with freeCtr := s.freeCtr + 1 } →
    ∀ coded raw, codeSnapshot t x (Config.freeNat s.freeCtr) samples = (coded, raw) → exec (.snapshotComplete b samples) s = .next
      { t with met.snaps := t.met.snaps.map (fun y => if y.id == x.id then { y with coded := some coded } else y),
               met.snapRawblk := t.met.snapRawblk + BitVec.ofNat 32 raw } := by
  rintro _ rfl coded raw hcode
  show execSnapshotComplete b samples s = _
  simp only [execSnapshotComplete, hfind, drawFree, hcode, next, onMet]

theorem snapshotArchived_frees {id : U32} (hcoded : (s.met.snaps.any fun x => x.id == id && x.coded.isSome && !x.archived) = true)
    (hemmc : s.sys.emmcFault = false) : ∀ l, l = s.met.snaps.map (fun y => if y.id == id then { y with archived := true } else y) →
    exec (.snapshotArchived id) s = .next { s with met.snaps := trimArchive l.length l, met.snapArchived := s.met.snapArchived + 1 } := by
  rintro _ rfl
  show execSnapshotArchived id s = _
  simp only [execSnapshotArchived, hcoded, hemmc, Bool.not_false, Bool.and_self, if_true, next, onMet]

/-! Channels, outputs and inputs. -/

theorem freqOut_edge {set : Nat} {out : Bool} (hset : set < 2) (hedge : (voltSet s set).freqOut ≠ out) : exec (.freqOut set out) s =
    .next (noteFlags (post 0x0708 set (edge out) (onSet set (fun v => { v with freqOut := out }) (noteFlags s)))) := by
  show execFreqOut set out s = _
  simp only [execFreqOut, beq_eq_false_iff_ne.mpr hedge, Nat.not_le.mpr hset, decide_false, Bool.or_self, Bool.false_eq_true, if_false, next]

theorem chanFault_stuck {c : Nat} (h : s.met.chanFault.getD c true = false) :
    exec (.chanFault c) s = .next (post 0x070A c [] { s with met.chanFault := listSet s.met.chanFault c true }) := by
  show execChanFault c s = _
  simp only [execChanFault, h, Bool.false_eq_true, if_false, next, onMet]

theorem chanOk_free {c : Nat} (h : s.met.chanFault.getD c false = true) :
    exec (.chanOk c) s = .next (post 0x070B c [] { s with met.chanFault := listSet s.met.chanFault c false }) := by
  show execChanOk c s = _
  simp only [execChanOk, h, if_true, next, onMet]

theorem contactorFbTimeout_judges {n : Nat} {f : Bool} : ∀ x, x = output s n → fbClosed s n = some f → n < 8 → x.fbWait = true →
    coTimeout (coEntry s n) ≤ sinceDrive s n → exec (.contactorFbTimeout n) s = .next (postIf (f != x.closed && !x.fbFault) 0x0707 n (le8 0)
      (onOutput n (fun y => { y with fbWait := false, fbFault := f != y.closed }) s)) := by
  rintro _ rfl hf hn hwait htime
  show execContactorFbTimeout n s = _
  simp only [execContactorFbTimeout, hf, hn, hwait, htime, decide_true, Bool.and_self, if_true, next]

theorem contactorCloseSettle_settles {n : Nat} (hn : n < 8) (hclosed : (output s n).closed = true) (hposition : positionClosed s n = true)
    (hfb : (fbClosed s n).getD true = true) (htime : coSettle (coEntry s n) ≤ settling s n) :
    exec (.contactorCloseSettle n) s = .next (onOutput n (fun x => { x with settled := true }) s) := by
  show execContactorCloseSettle n s = _
  simp only [execContactorCloseSettle, hn, hclosed, hposition, hfb, htime, decide_true, Bool.and_self, if_true, next]

theorem contactorOutFault_latches {n : Nat} (hn : n < 8) (hdrive : (output s n).drive = true) :
    ∀ t, t = onOutput n (fun x => { x with drive := false, outFault := true, settled := false }) s →
    exec (.contactorOutFault n) s = .next (post 0x0706 noSource (le8 (2 ^ n) ++ le8 (closedMask t) ++ le8 3) (post 0x0707 n (le8 1) t)) := by
  rintro _ rfl
  show execContactorOutFault n s = _
  simp only [execContactorOutFault, hn, hdrive, decide_true, Bool.and_self, if_true, next]

theorem digitalInputChange_counts {n : Nat} {level : Bool} (hn : n < 8) (hedge : (s.sys.inputs.getD n default).level ≠ level) :
    ∀ x, x = { s.sys.inputs.getD n default with level := level, changes := (s.sys.inputs.getD n default).changes + 1 } →
    ∀ t, t = { s with sys.inputs := listSet s.sys.inputs n x } →
    exec (.digitalInputChange n level) s = .next (if running t then feedbackChanged n (recordInput n t) else t) := by
  rintro _ rfl _ rfl
  show execDigitalInputChange n level s = _
  simp only [execDigitalInputChange, hn, bne_iff_ne.mpr hedge, decide_true, Bool.and_self, if_true, next, onSys]
  rfl

theorem dfcPulseEnd_ends {d : Nat} (h : (s.met.dfc.getD d default).pulsing = true) : exec (.dfcPulseEnd d) s =
    .next { s with met.dfc := listModify s.met.dfc d fun x => { x with pulsing := false, edgeAt := s.time.cycle } } := by
  show execDfcPulseEnd d s = _
  simp only [execDfcPulseEnd, h, if_true, next, onDfc, onMet]

/-! A harness round its states (R271, R272). -/

section
variable {h : Nat} (hh : h < 2)
include hh

theorem harnessInserted_powers (hstate : (harness s h).state = .absent) :
    exec (.harnessInserted h) s = .next (onHarness h (fun y => { y with present := true }) (harnessTo h .powering s)) := by
  show execHarnessInserted h s = _
  simp only [execHarnessInserted, hstate, hh, beq_self_eq_true, decide_true, Bool.and_self, if_true, next]

theorem harnessPowered_settles (hstate : (harness s h).state = .powering) : exec (.harnessPowered h) s = .next (harnessTo h .settling s) := by
  show execHarnessPowered h s = _
  simp only [execHarnessPowered, hstate, hh, beq_self_eq_true, decide_true, Bool.and_self, if_true, next]

theorem harnessSettled_runs (hstate : (harness s h).state = .settling) : exec (.harnessSettled h) s = .next (checkStartUp
    (postIf (harness s h).left 0x070F h [] (post 0x0710 h [] (onHarness h (fun y => { y with retries := 0 }) (harnessTo h .run s))))) := by
  show execHarnessSettled h s = _
  simp only [execHarnessSettled, hstate, hh, beq_self_eq_true, decide_true, Bool.and_self, if_true, next]

theorem harnessRemoved_leaves (hfitted : (harness s h).state ≠ .notFitted) (hpresent : (harness s h).state ≠ .absent) :
    exec (.harnessRemoved h) s = .next (checkStartUp (post 0x0711 h []
      (onHarness h (fun y => { y with present := false, retries := 0 }) (harnessTo h .absent (leaveRun h (taiNs s - 4000000) s))))) := by
  show execHarnessRemoved h s = _
  simp only [execHarnessRemoved, bne_iff_ne.mpr hfitted, bne_iff_ne.mpr hpresent, hh, decide_true, Bool.and_self, if_true, next]

theorem harnessUnexpected_once (hstate : (harness s h).state = .notFitted) : exec (.harnessUnexpected h) s =
    .next (postIf (!(harness s h).unexpected) 0x0713 h [] (onHarness h (fun y => { y with present := true, unexpected := true }) s)) := by
  show execHarnessUnexpected h s = _
  simp only [execHarnessUnexpected, hstate, hh, beq_self_eq_true, decide_true, Bool.and_self, if_true, next]

theorem harnessSupplyFault_leaves (hstate : (harness s h).state = .powering ∨ (harness s h).state = .settling ∨ (harness s h).state = .run) :
    ∀ t, t = harnessTo h .fault (leaveRun h (taiNs s - sampleDelay) s) →
    exec (.harnessSupplyFault h) s = .next (post 0x0712 h (le8 (harness s h).retries) { t with met.supplyFault := t.met.supplyFault + 1 }) := by
  rintro _ rfl
  have hpowered : [.powering, .settling, .run].contains (harness s h).state = true := by simpa using hstate
  show execHarnessSupplyFault h s = _
  simp only [execHarnessSupplyFault, hpowered, hh, decide_true, Bool.and_self, if_true, next, onMet]

theorem harnessFaultRetry_retries (hstate : (harness s h).state = .fault) (hleft : (harness s h).retries < 3) :
    exec (.harnessFaultRetry h) s = .next (onHarness h (fun y => { y with retries := y.retries + 1 }) (harnessTo h .powering s)) := by
  show execHarnessFaultRetry h s = _
  simp only [execHarnessFaultRetry, hstate, hleft, hh, beq_self_eq_true, decide_true, Bool.and_self, if_true, next]

end

theorem harnessRemoved_notFitted {h : Nat} (hstate : (harness s h).state = .notFitted) :
    exec (.harnessRemoved h) s = .next (onHarness h (fun y => { y with present := false }) s) := by
  show execHarnessRemoved h s = _
  simp only [execHarnessRemoved, hstate, bne_self_eq_false, Bool.and_false, Bool.false_and, Bool.false_eq_true, if_false, next]

theorem harnessFaultRetry_spent {h : Nat} (hspent : 3 ≤ (harness s h).retries) : exec (.harnessFaultRetry h) s = .next s := by
  show execHarnessFaultRetry h s = _
  simp only [execHarnessFaultRetry, Nat.not_lt.mpr hspent, decide_false, Bool.and_false, Bool.false_eq_true, if_false, next]

/-! The modes' times (R268). -/

theorem testModeExpire_ends (h : s.met.mode = .test) : exec .testModeExpire s =
    .next (if s.met.testFrom == .startUp && startUpOver s then modeTo (afterStartUp s) s else modeTo s.met.testFrom s) := by
  show execTestModeExpire s = _
  simp only [execTestModeExpire, h, beq_self_eq_true, if_true, next]

theorem recoveryExpire_ends (h : s.met.mode = .recovery) : exec .recoveryExpire s = .next (modeTo .service s) := by
  show execRecoveryExpire s = _
  simp only [execRecoveryExpire, h, beq_self_eq_true, if_true, next]

theorem recoveryExpire_inTest (h : s.met.mode = .test) (hfrom : s.met.testFrom = .recovery) :
    exec .recoveryExpire s = .next { s with met.testFrom := .service } := by
  have hnot : (s.met.mode == .recovery) = false := by rw [h]; rfl
  have hback : (s.met.mode == .test && s.met.testFrom == .recovery) = true := by rw [h, hfrom]; rfl
  show execRecoveryExpire s = _
  simp only [execRecoveryExpire, hnot, hback, Bool.false_eq_true, if_false, if_true, next, onMet]

end

/-- Settles O38. -/
theorem protectionAndOutputEventsAct : Obligations.ProtectionAndOutputEventsAct := by
  refine ⟨fun s => ⟨fun n c bits => ocInstDetect_detects, fun n => rfl, fun b samples x => snapshotComplete_codes, fun id => snapshotArchived_frees⟩,
    fun s => ⟨fun set out => freqOut_edge, fun c => chanFault_stuck, fun c => chanOk_free, fun n f => contactorFbTimeout_judges,
      fun n => contactorCloseSettle_settles, fun n => contactorOutFault_latches, fun n level => digitalInputChange_counts, fun d => dfcPulseEnd_ends⟩, ?_⟩
  rintro s h hh _ rfl _ rfl
  exact ⟨harnessInserted_powers hh, harnessPowered_settles hh, harnessSettled_runs hh, harnessRemoved_leaves hh, harnessRemoved_notFitted,
    harnessUnexpected_once hh, harnessSupplyFault_leaves hh, harnessFaultRetry_retries hh, fun _ => harnessFaultRetry_spent, testModeExpire_ends,
    recoveryExpire_ends, recoveryExpire_inTest⟩

end Sys2Proof.Machine
end

section
/-! SUPPORT. PTP (R299-R303): a message that a port takes, the module's own requests, and the transmit timestamps. -/

namespace Sys2Proof.Machine

/-! Messages. -/

section
variable {s : State} {port : Nat} (hport : port < 7) (hup : portUp s port = true)
include hport hup

/-- A message of PTP at an unblocked port that takes part in it. -/
theorem ptpRx_taken {kind : Nat} (f : State → State) : ∀ a,
    a = onPort port (fun x => { x with rxFrames := x.rxFrames + 1, rxOctets := x.rxOctets + ptpOctets kind }) s →
    blocked a port = false ∧ portPtp a port = true → ptpRx port kind f s = f a := by
  rintro a ha ⟨hblocked, hptp⟩
  simp only [ptpRx, Nat.not_le.mpr hport, hup, decide_false, Bool.not_true, Bool.or_self, Bool.false_eq_true, if_false, ← ha, hblocked, hptp, if_true]

end

section
variable {a : State} {port : Nat}

theorem ptpAnnounceAt_joins {m : Announce} (hen : ptpEn a = true) (hdomain : m.domain ≤ 127) (hown : m.domain = ptpDomain a) (hring : port < 2) :
    ptpAnnounceAt port m a = selectMaster
      { a with time.ptp.foreign := (a.time.ptp.foreign.filter fun x => !(x.1 == port && x.2.source == m.source)) ++ [(port, m)] } := by
  simp only [ptpAnnounceAt, hen, hown, Nat.not_le.mpr hring, bne_self_eq_false, decide_false, Bool.or_self, Bool.not_true,
    Bool.false_eq_true, if_false, onPtp]
  rw [if_neg (by omega)]

variable {m : PtpMsg} (hdomain : m.domain ≤ 127) (hours : ours a m = true)
include hdomain

omit hours in
theorem badDomain_in : badDomain a m = false := by simp [badDomain, Nat.not_lt.mpr hdomain]

include hours

/-- The master's Sync is kept for its Follow_Up, or is complete. -/
theorem ptpSyncAt_master {ns t2 : Nat} (htc : ptpTc a = false) (hstamp : m.stamp = .at ns) (hmaster : fromMaster a port m = true)
    (ht2 : t2 = ((ns : Int) + asym a port).toNat) : ptpSyncAt port m a =
      if m.twoStep then { a with time.ptp.sync := some (port, m.sequence, t2, none, m.correction) }
      else syncComplete port t2 ((t2 : Int) - (m.origin : Int) - m.correction)
        { a with time.ptp.sync := some (port, m.sequence, t2, some (m.origin : Int), m.correction) } := by
  cases htwo : m.twoStep <;> simp only [ptpSyncAt, badDomain_in hdomain, hours, hstamp, htc, hmaster, ← ht2, htwo, Bool.not_true,
    Bool.false_eq_true, if_false, if_true, onPtp]

theorem ptpFollowUpAt_completes {t2 : Nat} {c : Int} (htc : ptpTc a = false) (hmaster : fromMaster a port m = true)
    (hsync : a.time.ptp.sync = some (port, m.sequence, t2, none, c)) : ptpFollowUpAt port m a =
      syncComplete port t2 ((t2 : Int) - (m.origin : Int) - c - m.correction)
        { a with time.ptp.sync := some (port, m.sequence, t2, some (m.origin : Int), c + m.correction) } := by
  simp only [ptpFollowUpAt, badDomain_in hdomain, hours, htc, hsync, hmaster, beq_self_eq_true, Bool.and_self, Bool.not_true, Bool.false_eq_true,
    if_false, if_true, onPtp]

theorem ptpDelayRespAt_measures {t3 t2 q n : Nat} {d c : Int} {o : Option Int}
    (hother : a.time.ptp.reqTransit.find? (fun r => r.1 == m.requester && r.2.1 == m.sequence) = none)
    (hreq : a.time.ptp.delayReq = some (m.sequence, t3)) (ht21 : a.time.ptp.t21 = some d) (hsync : a.time.ptp.sync = some (q, n, t2, o, c))
    (hmaster : fromMaster a port m = true) : ∀ back : Int, back = (m.origin : Int) - (t3 : Int) - m.correction →
    ptpDelayRespAt port m a = measure .ptp (tdiv (d - back) 2) t2
      { a with time.ptp.delayReq := none, time.servo.meanPath := (tdiv (d + back) 2).toNat } := by
  rintro _ rfl
  simp only [ptpDelayRespAt, badDomain_in hdomain, hours, hother, hreq, ht21, hsync, hmaster, beq_self_eq_true, Bool.and_self, Bool.not_true,
    Bool.false_eq_true, if_false, if_true, onPtp, onServo]

variable (hprofile : ptpProfile a = 1)
include hprofile

theorem ptpPdelayReqRxAt_answers {ns : Nat} (hstamp : m.stamp = .at ns) : ptpPdelayReqRxAt port m a =
    sendPtp port 3 m.sequence (m.correction + (Config.freeNat a.freeCtr : Int)) { a with freeCtr := a.freeCtr + 1 } := by
  simp only [ptpPdelayReqRxAt, badDomain_in hdomain, hours, hprofile, hstamp, drawFree, pmPdelayResp, ne_eq, not_true_eq_false, decide_false,
    Bool.not_true, Bool.or_self, Bool.false_eq_true, if_false]

theorem ptpPdelayRespAt_measures {t4 t1 : Nat} (hstamp : m.stamp = .at t4) (hreq : tabGet a.time.ptp.pdelay port = some (t1, m.sequence)) :
    ptpPdelayRespAt port m a =
      { a with time.ptp.linkDelay := tabSet a.time.ptp.linkDelay port (tdiv ((t4 : Int) + asym a port - (t1 : Int) - m.correction) 2).toNat,
               time.ptp.pdelay := tabErase a.time.ptp.pdelay port } := by
  simp only [ptpPdelayRespAt, badDomain_in hdomain, hours, hprofile, hstamp, hreq, beq_self_eq_true, ne_eq, not_true_eq_false, decide_false,
    Bool.not_true, Bool.or_self, Bool.false_eq_true, if_false, if_true, onPtp]

end

/-! The module's own requests, and their egress stamps. -/

theorem enqueueStamp_room {t : State} (h : t.time.ptp.txq.length < 16) (port ns : Nat) : enqueueStamp port ns t = (some t.time.ptp.nextId,
    { t with time.ptp.nextId := (t.time.ptp.nextId + 1) % 65536,
             time.ptp.txq := t.time.ptp.txq ++ [{ id := t.time.ptp.nextId, port := port, stamp := ns, cycle := t.time.cycle }] }) := by
  simp only [enqueueStamp, onPtp, h, if_true]

theorem enqueueStamp_full {t : State} (h : 16 ≤ t.time.ptp.txq.length) (port ns : Nat) : (enqueueStamp port ns t).1 = none := by
  simp only [enqueueStamp, onPtp, Nat.not_lt.mpr h, if_false]

/-- A stamp's entry, or its loss, leaves the requests that ports have open. -/
theorem enqueueStamp_pdelay (port ns : Nat) (t : State) : (enqueueStamp port ns t).2.time.ptp.pdelay = t.time.ptp.pdelay ∧
    (enqueueStamp port ns t).2.time.ptp.pdelayWait = t.time.ptp.pdelayWait := by
  by_cases h : t.time.ptp.txq.length < 16 <;> simp [enqueueStamp, onPtp, h]

section
variable {s : State}

theorem ptpDelayReq_sends {port : Nat} {m : Announce} (hmaster : s.time.ptp.master = some (port, m)) (hen : ptpEn s = true)
    (hprofile : ptpProfile s = 0) (hforwards : forwarding s port = true) (hptp : portPtp s port = true) :
    ∀ t, t = sendPtp port 1 s.time.ptp.delaySeq 0 { s with time.ptp.delaySeq := (s.time.ptp.delaySeq + 1) % 65536 } →
    (∀ ns, exec (.ptpDelayReq (.at ns)) s = .next (onPtp (fun p =>
      { p with delayReq := none, delayWait := (enqueueStamp port ns t).1.map fun id => (s.time.ptp.delaySeq, id) }) (enqueueStamp port ns t).2)) ∧
    exec (.ptpDelayReq .lost) s = .next (onPtp (fun p => { p with delayReq := none, delayWait := none }) (stampLost t)) := by
  intro t ht
  have hrun : ∀ stamp, exec (.ptpDelayReq stamp) s = execPtpDelayReq stamp s := fun _ => rfl
  simp only [hrun, execPtpDelayReq, hmaster, hen, hprofile, hforwards, hptp, ne_eq, not_true_eq_false, decide_false, Bool.not_true, Bool.or_self,
    Bool.false_eq_true, if_false]
  simp only [onPtp, pmDelayReq, ← ht, next, implies_true, and_self]

theorem ptpPdelayReq_sends {port : Nat} (hen : ptpEn s = true) (hprofile : ptpProfile s = 1) (hport : port < 6)
    (hforwards : forwarding s port = true) (hptp : portPtp s port = true) :
    ∀ t, t = sendPtp port 2 s.time.ptp.pdelaySeq 0 { s with time.ptp.pdelaySeq := (s.time.ptp.pdelaySeq + 1) % 65536 } →
    (∀ ns, exec (.ptpPdelayReq port (.at ns)) s = .next (onPtp (fun p =>
      { p with pdelay := tabErase p.pdelay port,
               pdelayWait := (enqueueStamp port ns t).1.elim (tabErase p.pdelayWait port) fun id => tabSet p.pdelayWait port (s.time.ptp.pdelaySeq, id) })
      (enqueueStamp port ns t).2)) ∧
    exec (.ptpPdelayReq port .lost) s =
      .next (onPtp (fun p => { p with pdelay := tabErase p.pdelay port, pdelayWait := tabErase p.pdelayWait port }) (stampLost t)) := by
  intro t ht
  have hrun : ∀ stamp, exec (.ptpPdelayReq port stamp) s = execPtpPdelayReq port stamp s := fun _ => rfl
  simp only [hrun, execPtpPdelayReq, hen, hprofile, Nat.not_le.mpr hport, hforwards, hptp, ne_eq, not_true_eq_false, decide_false, Bool.not_true,
    Bool.or_self, Bool.false_eq_true, if_false]
  simp only [onPtp, pmPdelayReq, ← ht, next, implies_true, and_self]

theorem announceReceiptTimeout_drops {port : Nat} {m : Announce} (h : s.time.ptp.master = some (port, m)) :
    exec .announceReceiptTimeout s = .next (selectMaster { s with
      time.ptp.annTimeouts := s.time.ptp.annTimeouts + 1,
      time.ptp.foreign := s.time.ptp.foreign.filter fun x => !(x.1 == port && x.2.source == m.source) }) := by
  show execAnnounceReceiptTimeout s = _
  simp only [execAnnounceReceiptTimeout, h, next, onPtp]

section
variable {e : TxStamp} {rest : List TxStamp} (hqueue : s.time.ptp.txq = e :: rest)
include hqueue

/-- The queue's oldest stamp is of a message in transit through the switch. -/
theorem txqDrain_transit {k : Nat} (h : transitOf s e.id = some k) : exec .txqDrain s = .next (sendFollowUps k
    { s with time.ptp.txq := rest, time.ptp.transit := listModify s.time.ptp.transit k fun t =>
      { t with awaited := t.awaited.filter (fun a => a.1 != e.id), egress := tabSet t.egress e.port e.stamp } }) := by
  have h' : transitOf (onPtp (fun p => { p with txq := rest }) s) e.id = some k := h
  show execTxqDrain s = _
  simp only [execTxqDrain, hqueue, h', next]
  rfl

theorem txqDrain_own (h : transitOf s e.id = none) : exec .txqDrain s = .next (ownStamp e (some e.stamp) { s with time.ptp.txq := rest }) := by
  have h' : transitOf (onPtp (fun p => { p with txq := rest }) s) e.id = none := h
  show execTxqDrain s = _
  simp only [execTxqDrain, hqueue, h', next]
  rfl

variable (hstale : cyclesPerSec ≤ s.time.cycle - e.cycle)
include hstale

theorem txqStale_transit {k : Nat} (h : transitOf s e.id = some k) : exec .txqStale s = .next
    { s with time.ptp.txq := rest, time.ptp.txqStale := s.time.ptp.txqStale + 1, time.ptp.tcLost := s.time.ptp.tcLost + 1,
             time.ptp.transit := listModify s.time.ptp.transit k fun t => { t with awaited := t.awaited.filter fun a => a.1 != e.id } } := by
  have h' : transitOf (onPtp (fun p => { p with txq := rest, txqStale := p.txqStale + 1 }) s) e.id = some k := h
  show execTxqStale s = _
  simp only [execTxqStale, hqueue, Nat.not_lt.mpr hstale, if_false, h', next]
  rfl

theorem txqStale_own (h : transitOf s e.id = none) :
    exec .txqStale s = .next (ownStamp e none { s with time.ptp.txq := rest, time.ptp.txqStale := s.time.ptp.txqStale + 1 }) := by
  have h' : transitOf (onPtp (fun p => { p with txq := rest, txqStale := p.txqStale + 1 }) s) e.id = none := h
  show execTxqStale s = _
  simp only [execTxqStale, hqueue, Nat.not_lt.mpr hstale, if_false, h', next]
  rfl

end

theorem ownStamp_delay {e : TxStamp} {seq : Nat} {t : State} (hdelay : t.time.ptp.delayWait = some (seq, e.id))
    (hpdelay : tabGet t.time.ptp.pdelayWait e.port = none) (stamp : Option Nat) : ownStamp e stamp t =
      { t with time.ptp.delayWait := none, time.ptp.delayReq := stamp.map fun x => (seq, x) } := by
  simp only [ownStamp, hdelay, beq_self_eq_true, if_true, onPtp, hpdelay]

theorem ownStamp_pdelay {e : TxStamp} {seq : Nat} {t : State} (hdelay : t.time.ptp.delayWait = none)
    (hpdelay : tabGet t.time.ptp.pdelayWait e.port = some (seq, e.id)) (stamp : Option Nat) : ownStamp e stamp t =
      { t with time.ptp.pdelayWait := tabErase t.time.ptp.pdelayWait e.port,
               time.ptp.pdelay := stamp.elim t.time.ptp.pdelay fun x => tabSet t.time.ptp.pdelay e.port (x, seq) } := by
  simp only [ownStamp, hdelay, beq_self_eq_true, if_true, onPtp, hpdelay]

theorem leapSecond_steps : ∀ d, d = s.time.ptp.leapPending → d ≠ 0 → utcFromPtp s = true →
    ∀ t, t = { s with time.ptp.utcOffset := s.time.ptp.utcOffset + d, time.ptp.leapPending := 0 } →
    exec .leapSecond s = .next (post 0x0407 noSource (leS16 t.time.ptp.utcOffset ++ leS8 d) (onRtc (sodAdjust (-d)) t)) := by
  rintro _ rfl hpending hutc _ rfl
  show execLeapSecond s = _
  simp only [execLeapSecond, hpending, hutc, ne_eq, not_false_eq_true, and_self, if_true, next, onPtp]

end

/-- Settles O39. -/
theorem ptpActs : Obligations.PtpActs := by
  refine ⟨?_, fun s => ⟨fun port m ns hmaster hen hprofile hforwards hptp t ht => ?_, fun port ns hen hprofile hport hforwards hptp t ht => ?_,
    fun port m => announceReceiptTimeout_drops, fun e rest hqueue => ⟨fun k => txqDrain_transit hqueue, fun hown =>
      ⟨txqDrain_own hqueue hown, fun hstale => txqStale_own hqueue hstale hown⟩, fun seq stamp t hd hp => ownStamp_delay hd hp stamp,
      fun seq stamp t hd hp => ownStamp_pdelay hd hp stamp, fun k htransit hstale => txqStale_transit hqueue hstale htransit⟩, leapSecond_steps⟩⟩
  · rintro s port hport hup _ rfl hopen
    refine ⟨fun m a ha hen hdomain hown hring => ?_, fun m hdomain => ⟨fun a ns t2 ha hours htc hstamp hmaster ht2 => ?_,
      fun a t2 c ha hours htc hmaster hsync => ?_,
      fun a t3 d t2 q n o c ha hours hother hreq ht21 hsync hmaster back hback => ?_,
      fun a ns ha hours hprofile hstamp => ?_, fun a t4 t1 ha hours hprofile hstamp hreq => ?_⟩⟩
    · have hrun : exec (.ptpAnnounce port m) s = .next (ptpAnnounceAt port m a) := congrArg _ (ptpRx_taken hport hup _ a ha (ha ▸ hopen 11))
      rw [hrun, ptpAnnounceAt_joins hen hdomain hown hring]
    · have hrun : exec (.ptpSync port m) s = .next (ptpSyncAt port m a) := congrArg _ (ptpRx_taken hport hup _ a ha (ha ▸ hopen 0))
      rw [hrun, ptpSyncAt_master hdomain hours htc hstamp hmaster ht2]
      exact ⟨fun htwo => by rw [htwo]; rfl, fun hone => by rw [hone]; rfl⟩
    · have hrun : exec (.ptpFollowUp port m) s = .next (ptpFollowUpAt port m a) := congrArg _ (ptpRx_taken hport hup _ a ha (ha ▸ hopen 8))
      rw [hrun, ptpFollowUpAt_completes hdomain hours htc hmaster hsync]
    · have hrun : exec (.ptpDelayResp port m) s = .next (ptpDelayRespAt port m a) := congrArg _ (ptpRx_taken hport hup _ a ha (ha ▸ hopen 9))
      rw [hrun, ptpDelayRespAt_measures hdomain hours hother hreq ht21 hsync hmaster back hback]
    · have hctr : a.freeCtr = s.freeCtr := by rw [ha]; rfl
      have hrun : exec (.ptpPdelayReqRx port m) s = .next (ptpPdelayReqRxAt port m a) :=
        congrArg _ (ptpRx_taken hport hup _ a ha (ha ▸ hopen 2))
      rw [hrun, ptpPdelayReqRxAt_answers hdomain hours hprofile hstamp, hctr]
    · have hrun : exec (.ptpPdelayResp port m) s = .next (ptpPdelayRespAt port m a) :=
        congrArg _ (ptpRx_taken hport hup _ a ha (ha ▸ hopen 3))
      rw [hrun, ptpPdelayRespAt_measures hdomain hours hprofile hstamp hreq]
  · obtain ⟨hstamped, hlost⟩ := ptpDelayReq_sends hmaster hen hprofile hforwards hptp t ht
    refine ⟨fun hroom => ?_, fun hfull => ?_, hlost⟩
    · rw [hstamped, enqueueStamp_room hroom]; rfl
    · rw [hstamped, enqueueStamp_full hfull]; rfl
  · obtain ⟨hstamped, hlost⟩ := ptpPdelayReq_sends hen hprofile hport hforwards hptp t ht
    refine ⟨fun hroom => ?_, fun hfull => ?_, hlost⟩
    · rw [hstamped, enqueueStamp_room hroom]; rfl
    · obtain ⟨hpdelay, hwait⟩ := enqueueStamp_pdelay port ns t
      rw [hstamped, enqueueStamp_full hfull, ← hpdelay, ← hwait]; rfl

end Sys2Proof.Machine
end

section
/-! SUPPORT. Holdover, the 1PPS input and output, the clock monitor and the PLLs (R30, R31, R295-R298, R304, R305). -/

namespace Sys2Proof.Machine

section
variable {s : State}

theorem holdoverExpire_ends (h : s.time.servo.state = .holdover) : exec .holdoverExpire s = .next (refreshTrace
    { s with time.servo.state := .freerun, time.servo.holdFromTraceable := false }) := by
  show execHoldoverExpire s = _
  simp only [execHoldoverExpire, h, beq_self_eq_true, if_true, next, onServo]

/-! 1PPS. -/

section
variable (hen : ppsInEn s = true)
include hen

theorem ppsInEdge_lost : exec (.ppsInEdge .lost) s = .next { s with time.ptp.tsLate := s.time.ptp.tsLate + 1 } := by
  show execPpsInEdge .lost s = _
  simp only [execPpsInEdge, hen, Bool.not_true, Bool.false_eq_true, if_false, next, onPtp]

section
variable {ns : Nat} {t : Int} {soon : Bool} (ht : t = (ns : Int) - cableDelay s)
  (hsoon : soon = (s.time.pps.lastAccepted.elim false fun l => decide (t < (l : Int) + 900000000)))
include ht hsoon

theorem ppsInEdge_rejected (h : (decide (100000000 < (fromSecond t).natAbs) || soon) = true) :
    exec (.ppsInEdge (.at ns)) s = .next { s with time.pps.reject := s.time.pps.reject + 1 } := by
  show execPpsInEdge (.at ns) s = _
  simp only [execPpsInEdge, hen, ← ht, ← hsoon, h, Bool.not_true, Bool.false_eq_true, if_false, if_true, next, onPps]

/-- An edge near a whole second ends the loss of the input, and is measured when the input is the source (R305). -/
theorem ppsInEdge_accepted (h : (decide (100000000 < (fromSecond t).natAbs) || soon) = false) :
    ∀ u, u = postIf s.time.pps.inLost 0x0406 noSource []
      { s with time.pps.accepted := s.time.pps.accepted + 1, time.pps.inNs := (t % 1000000000).toNat,
               time.pps.lastAccepted := some t.toNat, time.pps.inLost := false } →
    exec (.ppsInEdge (.at ns)) s = .next (if ppsUse u && u.time.ptp.master.isNone then
      measure .pps (fromSecond t) t.toNat { u with time.servo.lastAt := s.time.pps.lastAccepted.getD s.time.servo.lastAt } else u) := by
  intro u hu
  show execPpsInEdge (.at ns) s = _
  simp only [execPpsInEdge, hen, ← ht, ← hsoon, h, Bool.not_true, Bool.false_eq_true, if_false, next, onPps, ← hu, onServo]
  split <;> rfl

end

theorem ppsInLost_records (hfirst : s.time.pps.inLost = false) : ∀ t, t = post 0x0405 noSource [] { s with time.pps.inLost := true } →
    exec .ppsInLost s = .next (if t.time.servo.source == .pps then sourceLost t else t) := by
  rintro _ rfl
  show execPpsInLost s = _
  simp only [execPpsInLost, hen, hfirst, Bool.not_false, Bool.and_self, if_true, next, onPps]
  rfl

end

theorem ppsOutPulse_rises (hrun : running s = true) (hmode : (ppsMode s = 1 ∧ s.time.servo.traceable = true) ∨ 2 ≤ ppsMode s) :
    exec .ppsOutPulse s = .next { s with time.pps.outHigh := true } := by
  have hon : (running s && ((ppsMode s == 1 && s.time.servo.traceable) || 2 ≤ ppsMode s)) = true := by
    simpa [hrun] using hmode
  show execPpsOutPulse s = _
  simp only [execPpsOutPulse, hon, if_true, next, onPps]

/-! The clock monitor. -/

section
variable {count : Nat} (hbad : 5000 < absDiff count 25000000)
include hbad

theorem clockMonitorSecond_counts (h : s.time.refBad + 1 < 3 ∨ s.time.refFault = true) :
    exec (.clockMonitorSecond count) s = .next { s with time.refBad := s.time.refBad + 1 } := by
  have hnot : (decide (3 ≤ s.time.refBad + 1) && !s.time.refFault) = false := by
    rcases h with h | h
    · simp [Nat.not_le.mpr h]
    · simp [h]
  show execClockMonitorSecond count s = _
  simp only [execClockMonitorSecond, hbad, if_true, onTime, hnot, Bool.false_eq_true, if_false, next]

theorem clockMonitorSecond_faults (hthird : 3 ≤ s.time.refBad + 1) (hfirst : s.time.refFault = false) :
    ∀ t, t = post 0x0205 noSource [1] { s with time.refBad := s.time.refBad + 1, time.refFault := true } →
    exec (.clockMonitorSecond count) s = .next (refreshTrace (if t.time.servo.state == .holdover then t else enterHoldover t)) := by
  rintro _ rfl
  show execClockMonitorSecond count s = _
  simp only [execClockMonitorSecond, hbad, if_true, onTime, hthird, hfirst, decide_true, Bool.not_false, Bool.and_self, next]
  rfl

end

theorem clockMonitorSecond_good {count : Nat} (hgood : ¬5000 < absDiff count 25000000) :
    ∀ t, t = { s with time.refBad := 0, time.refFault := false } → exec (.clockMonitorSecond count) s =
      .next (if s.time.refFault then refreshTrace (post 0x0205 noSource [0] t) else t) := by
  rintro _ rfl
  show execClockMonitorSecond count s = _
  simp only [execClockMonitorSecond, hgood, if_false, onTime, next]
  rfl

/-! PLLs and the TCXO (Table 2.2). -/

theorem pllLockLoss_resets {p : Pll} (hp : p = .f ∨ p = .a ∨ p = .d ∨ p = .t) (hrun : socRuns s = true) : exec (.pllLockLoss p) s =
    .next (faultReset 6 (2 ^ (11 + pllIndex p)) .torn (latchNow 0x0204 0 (le8 (pllLetter p)) s)) := by
  show execPllLockLoss p s = _
  rcases hp with rfl | rfl | rfl | rfl <;> simp only [execPllLockLoss, hrun, if_true, next]

section
variable (hrun : running s = true)
include hrun

theorem pllLockLoss_ports {p : Pll} (hp : p = .n ∨ ∃ k, p = .e k) : exec (.pllLockLoss p) s =
    .next ((affectedPorts p).foldl (fun t k => linkLost k t) (setPll p false (post 0x0204 1 (le8 (pllLetter p)) s))) := by
  show execPllLockLoss p s = _
  rcases hp with rfl | ⟨k, rfl⟩ <;> simp only [execPllLockLoss, hrun, if_true, next]

theorem pllLockLoss_radio : ∀ t, t = setPll .r false (post 0x0204 2 (le8 (pllLetter .r)) s) →
    exec (.pllLockLoss .r) s = .next { t with time.radiosHeld := true } := by
  rintro _ rfl
  show execPllLockLoss .r s = _
  simp only [execPllLockLoss, hrun, if_true, next]

theorem pllRelock_port (k : Nat) : exec (.pllRelock (.e k)) s = .next (setPll (.e k) true s) := by
  show execPllRelock (.e k) s = _
  simp only [execPllRelock, hrun, if_true, next]

theorem pllRelock_network : exec (.pllRelock .n) s = .next (switchRestart (setPll .n true s)) := by
  show execPllRelock .n s = _
  simp only [execPllRelock, hrun, if_true, next]

theorem pllRelock_radio : ∀ t, t = setPll .r true s → exec (.pllRelock .r) s = .next { t with time.radiosHeld := false } := by
  rintro _ rfl
  show execPllRelock .r s = _
  simp only [execPllRelock, hrun, if_true, next]

end

theorem tcxoStop_holds (hrun : socRuns s = true) : ∀ t, t = resetSoc true (latchNow 0x0204 4 (le8 0) s) →
    exec .tcxoStop s = .next { t with sys.phase := .held, time.tcxoStopped := true } := by
  rintro _ rfl
  show execTcxoStop s = _
  simp only [execTcxoStop, hrun, if_true, next]
  rfl

end

/-- Settles O40. -/
theorem clockEventsAct : Obligations.ClockEventsAct :=
  ⟨fun _ => ⟨holdoverExpire_ends, ppsInEdge_lost, fun _ hen _ ht _ hsoon => ⟨ppsInEdge_rejected hen ht hsoon, ppsInEdge_accepted hen ht hsoon⟩,
      ppsInLost_records, ppsOutPulse_rises, rfl⟩,
    fun _ => ⟨fun _ => clockMonitorSecond_counts, fun _ => clockMonitorSecond_faults, fun _ => clockMonitorSecond_good, fun _ => pllLockLoss_resets,
      fun _ hp hrun => pllLockLoss_ports hrun hp, pllLockLoss_radio, fun k hrun => pllRelock_port hrun k, pllRelock_network, pllRelock_radio,
      tcxoStop_holds⟩⟩

end Sys2Proof.Machine
end

section
/-! SUPPORT. The panel: its commands, keys, display, tests and USB service port (R434-R444). -/

namespace Sys2Proof.Machine

theorem pnlTest_free {s : State} (h : s.pnl.test = none) (m : Nat) (c : Cmd) : pnlTest.run m c s = ({ s with
      pnl.test := some { mailbox := m, test := u8At c.payload 0, until_ := s.time.cycle + u8At c.payload 1 * cyclesPerSec, seen := 0 } }, .waits) := by
  simp only [pnlTest, pnlCmd, h, Option.isSome_none, Bool.false_eq_true, if_false, onPanel]

theorem pnlTest_runs {s : State} (h : s.pnl.test ≠ none) (m : Nat) (c : Cmd) : pnlTest.run m c s = (s, .done stConflict []) := by
  simp only [pnlTest, pnlCmd, Option.isSome_iff_ne_none.mpr h, if_true]

section
variable {s : State}

/-! Keys and the display. -/

section
variable {k : Nat} (hk : k < 8)
include hk

theorem keyPress_notRunning (hstop : running s = false) :
    ∀ t, t = { s with pnl.keyPresses := listModify s.pnl.keyPresses k (· + 1), pnl.keysNow := listSet s.pnl.keysNow k true } →
    exec (.keyPress k) s = .next t := by
  rintro t rfl
  have hstop' : running { s with pnl.keyPresses := listModify s.pnl.keyPresses k (· + 1), pnl.keysNow := listSet s.pnl.keysNow k true } = false := hstop
  show execKeyPress k s = _
  simp only [execKeyPress, Nat.not_le.mpr hk, if_false, onPanel, hstop', Bool.not_false, if_true, next]

/-- In service a key press wakes the display, and acts where it was lit and the lock allows it (R436, R438). -/
theorem keyPress_running (hrun : running s = true) :
    ∀ t, t = { s with pnl.keyPresses := listModify s.pnl.keyPresses k (· + 1), pnl.keysNow := listSet s.pnl.keysNow k true } →
    ∀ w, w = wake t → ∀ u, u = { w with pnl.banners := [] } →
    exec (.keyPress k) s = .next (if s.pnl.displayOn && lockMode u ≠ 2 then actOnKey k u else u) := by
  intro t ht w hw u hu
  have hrun' : running t = true := by rw [ht]; exact hrun
  have hlit : t.pnl.displayOn = s.pnl.displayOn := by rw [ht]
  show execKeyPress k s = _
  simp only [execKeyPress, Nat.not_le.mpr hk, if_false, onPanel, ← ht, hrun', Bool.not_true, Bool.false_eq_true, next, hlit, ← hw, ← hu]

end

theorem keyRepeat_acts {k : Nat} (hheld : k < 2 ∧ s.pnl.keysNow.getD k false = true) (hrun : running s = true) (hlit : s.pnl.displayOn = true)
    (hlock : lockMode s ≠ 2) : exec (.keyRepeat k) s = .next (actOnKey k s) := by
  obtain ⟨hk, hdown⟩ := hheld
  show execKeyRepeat k s = _
  simp only [execKeyRepeat, hk, hdown, hrun, hlit, hlock, ne_eq, not_false_eq_true, decide_true, Bool.and_self, if_true, next]

theorem proxWake_wakes (hrun : running s = true) (hlock : lockMode s ≠ 2) (hdark : s.pnl.displayOn = false) :
    exec .proxWake s = .next (wake { s with pnl.proxWakes := s.pnl.proxWakes + 1 }) := by
  show execProxWake s = _
  simp only [execProxWake, hrun, hlock, hdark, decide_false, Bool.not_true, Bool.or_self, Bool.false_eq_true, if_false, next, onPanel]

theorem backHold_views (h : s.pnl.keysNow.getD 5 false = true) : exec .backHold s = .next { s with pnl.control := false } := by
  show execBackHold s = _
  simp only [execBackHold, h, if_true, next, onPanel]

theorem lockoutEnd_records (h : s.pnl.lockout = true) : exec .lockoutEnd s = .next (post 0x0942 noSource [0] { s with pnl.lockout := false }) := by
  show execLockoutEnd s = _
  simp only [execLockoutEnd, h, if_true, next, onPanel]
  rfl

/-! Tests. -/

section
variable {cause : TestEnd} {t : PanelTest} (htest : s.pnl.test = some t) (hends : ¬(cause = .back ∧ t.test = 2))
include htest hends

/-- A test's end is recorded, and completes its command where that still runs (R441). -/
theorem pnlTestEnd_noCommand : ∀ u, u = post 0x0947 t.mailbox (le8 t.test ++ le8 (testOutcome cause)) { s with pnl.test := none } →
    runningCmd u t.mailbox = none → exec (.pnlTestEnd cause) s = .next u := by
  intro u hu hnone
  have hgo : (cause == .back && decide (t.test = 2)) = false := by simpa using hends
  show execPnlTestEnd cause s = _
  simp only [execPnlTestEnd, htest, hgo, Bool.false_eq_true, if_false, onPanel, ← hu, hnone, next]

theorem pnlTestEnd_completes : ∀ u, u = post 0x0947 t.mailbox (le8 t.test ++ le8 (testOutcome cause)) { s with pnl.test := none } →
    ∀ c, runningCmd u t.mailbox = some c → c.opcode = 0x0B05 → exec (.pnlTestEnd cause) s = .next (freeTask (.mailbox t.mailbox)
      (completeWith t.mailbox c.seq (.effect s.stitch.number (le8 (testOutcome cause) ++ le8 0 ++ le16 t.seen)) u)) := by
  intro u hu c hc hop
  have hgo : (cause == .back && decide (t.test = 2)) = false := by simpa using hends
  have hstitch : u.stitch = s.stitch := by rw [hu, post_stitch_eq]
  show execPnlTestEnd cause s = _
  simp only [execPnlTestEnd, htest, hgo, Bool.false_eq_true, if_false, onPanel, ← hu, hc, hop, beq_self_eq_true, if_true, hstitch, next]

end

/-! The USB service port. -/

theorem usbServiceKey_opens (hmode : usbMode s = 1) (hrun : running s = true) :
    exec .usbServiceKey s = .next (post 0x0948 noSource (le16 60) (usbRefresh { s with pnl.keyWindow := true })) := by
  show execUsbServiceKey s = _
  simp only [execUsbServiceKey, hmode, hrun, decide_true, Bool.and_self, if_true, next, onPanel]

theorem usbAttach_counts (h : s.pnl.vbus = false) : ∀ t, t = usbRefresh { s with pnl.vbus := true, pnl.usbAttaches := s.pnl.usbAttaches + 1 } →
    exec .usbAttach s = .next (post 0x0945 noSource (le8 (usbMode t) ++ le8 (bitN t.pnl.connected 0)) t) := by
  rintro _ rfl
  show execUsbAttach s = _
  simp only [execUsbAttach, h, Bool.false_eq_true, if_false, next, onPanel]

theorem usbDetach_closes (h : s.pnl.vbus = true) : exec .usbDetach s = .next (post 0x0946 noSource (le8 (bitN ((box s 14).session == .opened) 0))
    (usbRefresh { s with pnl.vbus := false, pnl.keyWindow := false })) := by
  show execUsbDetach s = _
  simp only [execUsbDetach, h, Bool.not_true, Bool.false_eq_true, if_false, next, onPanel]

end

/-- Settles O42. -/
theorem panelActs : Obligations.PanelActs :=
  ⟨fun _ m c => ⟨fun h => reads_of_row rfl h rfl, fun h => schedules_of_row rfl h rfl, fun h => schedules_of_row rfl h rfl,
      fun h => acts_of_row rfl h rfl, fun h hfree => begins_of_row rfl h (pnlTest_free hfree m c), fun h hruns => fails_of_row rfl h (pnlTest_runs hruns m c),
      fun h => reads_of_rowDraw rfl h rfl⟩,
    fun _ => ⟨fun _ hk t ht => ⟨fun hstop => keyPress_notRunning hk hstop t ht, fun hrun => keyPress_running hk hrun t ht⟩, fun _ => rfl,
      fun _ => keyRepeat_acts, proxWake_wakes, rfl, rfl, backHold_views, lockoutEnd_records, rfl⟩,
    fun _ => ⟨fun _ _ htest hends u hu => ⟨pnlTestEnd_noCommand htest hends u hu, pnlTestEnd_completes htest hends u hu⟩, usbServiceKey_opens, rfl,
      usbAttach_counts, usbDetach_closes⟩⟩

end Sys2Proof.Machine
end

section
/-! SUPPORT. Links and cages (R420-R422), ring protection (R426-R428), and the switching of frames (R423-R429). -/

namespace Sys2Proof.Machine

/-! Links and SFP cages. -/

section
variable {s : State} {p : Nat}

theorem linkUp_comes {speed : Nat} (hp : p < 6) (hdown : (port s p).link = false) (hen : portEn s p = true) (hfits : speedFits s p speed = true)
    (hclock : portClocked s p = true) : ∀ t, t = post 0x0801 p (le8 speed) (onPort p (fun x => { x with link := true, speed := speed }) s) →
    exec (.linkUp p speed) s = .next (if p < 2 && ringEn t then sfEnds p t else t) := by
  rintro _ rfl
  show execLinkUp p speed s = _
  simp only [execLinkUp, Nat.not_le.mpr hp, hdown, hen, hfits, hclock, decide_false, Bool.not_true, Bool.or_self, Bool.false_eq_true, if_false, next]

theorem linkDown_loses (hp : p < 6) : exec (.linkDown p) s = .next (linkLost p s) := by
  show execLinkDown p s = _
  simp only [execLinkDown, hp, if_true, next]

section
variable (hp : p < 2)
include hp

theorem sfpInsert_powers (h : (port s p).sfp = .absent) : exec (.sfpInsert p) s = .next (onPort p (fun x => { x with sfp := .powering }) s) := by
  show execSfpInsert p s = _
  simp only [execSfpInsert, hp, h, beq_self_eq_true, decide_true, Bool.and_self, if_true, next]

theorem sfpPowered_reads (h : (port s p).sfp = .powering) : exec (.sfpPowered p) s = .next (onPort p (fun x => { x with sfp := .reading }) s) := by
  show execSfpPowered p s = _
  simp only [execSfpPowered, hp, h, beq_self_eq_true, decide_true, Bool.and_self, if_true, next]

theorem sfpIdentified_judges (h : (port s p).sfp = .reading) (m : SfpId) : exec (.sfpIdentified p m) s = .next (judgeModule p m s) := by
  show execSfpIdentified p m s = _
  simp only [execSfpIdentified, Nat.not_le.mpr hp, h, bne_self_eq_false, decide_false, Bool.or_self, Bool.false_eq_true, if_false, next]

theorem sfpOut_leaves (h : (port s p).sfp ≠ .absent) :
    ∀ t, t = onPort p (fun x => { x with sfp := .absent, speed := 0, module := none }) (post 0x0804 p [] (linkLost p s)) →
    exec (.sfpOut p) s = .next (if ringEn t && !t.net.ring.sf.getD p false then sfBegins p t else t) := by
  rintro _ rfl
  show execSfpOut p s = _
  simp only [execSfpOut, Nat.not_le.mpr hp, beq_eq_false_iff_ne.mpr h, decide_false, Bool.or_self, Bool.false_eq_true, if_false, next]

end

theorem judgeModule_accepts {m : SfpId} {speed : Nat} (h : sfpJudge (portSpeed s p) m = .ok speed) : judgeModule p m s =
    post 0x0803 p (le8 speed ++ fit 7 m.part) (onPort p (fun x => { x with sfp := .accepted, speed := speed, module := some m }) s) := by
  simp only [judgeModule, h]

theorem judgeModule_rejects {m : SfpId} {reason : Nat} (h : sfpJudge (portSpeed s p) m = .error reason) :
    ∀ t, t = post 0x0805 p (le8 reason) (onPort p (fun x => { x with sfp := .rejected, module := some m }) s) →
    judgeModule p m s = if ringEn t && !t.net.ring.sf.getD p false then sfBegins p t else t := by
  rintro _ rfl
  simp only [judgeModule, h]

/-! Ring protection. -/

theorem rapsFrame_taken {m : Raps} (hp : p < 2) (hup : portUp s p = true) :
    ∀ t, t = onPort p (fun x => { x with rxFrames := x.rxFrames + 1, rxOctets := x.rxOctets + rapsOctets }) s →
    ∀ u, u = (if ringEn t && !blocked t 0 && !blocked t 1 then rapsOut m none (1 - p) t else t) →
    exec (.rapsFrame p m) s = .next (if u.net.ring.guard_ || m.nodeId == Config.baseMac then u else (rapsEvent m).elim u fun e => ringEvent e u) := by
  intro t ht u hu
  show execRapsFrame p m s = _
  simp only [execRapsFrame, Nat.not_le.mpr hp, hup, decide_false, Bool.not_true, Bool.or_self, Bool.false_eq_true, if_false, ← ht, ← hu, next]
  split <;> rfl

theorem rapsTransmit_sends {r : RapsTx} (h : s.net.ring.tx = some r) : ∀ m : Raps,
    m = { request := r.request, subcode := 0, rplBlocked := r.rb, doNotFlush := r.dnf, bpr := if blocked s 0 then 0 else 1, nodeId := Config.baseMac } →
    exec .rapsTransmit s = .next
      (rapsOut m (some (moduleMac 2)) 1 (rapsOut m (some (moduleMac 1)) 0 { s with net.ring.burst := s.net.ring.burst - 1 })) := by
  rintro _ rfl
  show execRapsTransmit s = _
  simp only [execRapsTransmit, h, next, onRing]

theorem ringWtrExpire_restores (h : s.net.ring.wtr = true) : exec .ringWtrExpire s = .next (ringEvent .wtrExpires s) := by
  show execRingWtrExpire s = _
  simp only [execRingWtrExpire, h, if_true, next]

/-! Frames. -/

section
variable {f : EthFrame} {t : State} (hp : p < 7) (hup : portUp s p = true) (ht : t = countRx p f s)
include hp hup ht

theorem ethernetFrame_badFcs (hfcs : f.fcsOk = false) : exec (.ethernetFrame p f) s = .next (onPort p (fun x => { x with rxFcs := x.rxFcs + 1 }) t) := by
  show execEthernetFrame p f s = _
  simp only [execEthernetFrame, Nat.not_le.mpr hp, hup, decide_false, Bool.not_true, Bool.or_self, Bool.false_eq_true, if_false, ← ht, hfcs,
    Bool.not_false, if_true, next]

variable (hfcs : f.fcsOk = true)
include hfcs

theorem ethernetFrame_long (hlong : 1522 < f.length) :
    exec (.ethernetFrame p f) s = .next (onPort p (fun x => { x with rxLong := x.rxLong + 1 }) t) := by
  show execEthernetFrame p f s = _
  simp only [execEthernetFrame, Nat.not_le.mpr hp, hup, decide_false, Bool.not_true, Bool.or_self, Bool.false_eq_true, if_false, ← ht, hfcs,
    hlong, if_true, next]

variable (hlength : f.length ≤ 1522)
include hlength

theorem ethernetFrame_control (htype : f.etherType = 0x8808) :
    exec (.ethernetFrame p f) s = .next (onPort p (fun x => { x with rxCtrl := x.rxCtrl + 1 }) t) := by
  show execEthernetFrame p f s = _
  simp only [execEthernetFrame, Nat.not_le.mpr hp, hup, decide_false, Bool.not_true, Bool.or_self, Bool.false_eq_true, if_false, ← ht, hfcs,
    Nat.not_lt.mpr hlength, htype, if_true, next]

variable (htype : f.etherType ≠ 0x8808) (hraps : isRaps f = false)
include htype hraps

theorem ethernetFrame_blocked (hblocked : blocked t p = true) :
    exec (.ethernetFrame p f) s = .next (onPort p (fun x => { x with rxBlocked := x.rxBlocked + 1 }) t) := by
  show execEthernetFrame p f s = _
  simp only [execEthernetFrame, Nat.not_le.mpr hp, hup, decide_false, Bool.not_true, Bool.or_self, Bool.false_eq_true, if_false, ← ht, hfcs,
    Nat.not_lt.mpr hlength, htype, hraps, Bool.and_false, hblocked, if_true, next]

variable (hopen : blocked t p = false) {vid : Nat} (hvid : vid = frameVid t p f)
include hopen hvid

theorem ethernetFrame_vlan (hmember : bit (vlanMembers t vid) p = false) :
    exec (.ethernetFrame p f) s = .next (onPort p (fun x => { x with rxVlan := x.rxVlan + 1 }) t) := by
  show execEthernetFrame p f s = _
  simp only [execEthernetFrame, Nat.not_le.mpr hp, hup, decide_false, Bool.not_true, Bool.or_self, Bool.false_eq_true, if_false, ← ht, hfcs,
    Nat.not_lt.mpr hlength, htype, hraps, Bool.and_false, hopen, ← hvid, hmember, Bool.not_false, if_true, next]

variable (hmember : bit (vlanMembers t vid) p = true)
include hmember

theorem ethernetFrame_storm (hstorm : stormAllows t p f = false) : exec (.ethernetFrame p f) s = .next (stormDrop p t) := by
  show execEthernetFrame p f s = _
  simp only [execEthernetFrame, Nat.not_le.mpr hp, hup, decide_false, Bool.not_true, Bool.or_self, Bool.false_eq_true, if_false, ← ht, hfcs,
    Nat.not_lt.mpr hlength, htype, hraps, Bool.and_false, hopen, ← hvid, hmember, hstorm, Bool.not_false, if_true, next]

theorem ethernetFrame_forwarded (hstorm : stormAllows t p f = true) :
    ∀ u, u = onPort p (fun x => { x with storm := if isGroup f.dst then stormRecent t p ++ [t.time.cycle] else stormRecent t p }) t →
    exec (.ethernetFrame p f) s = .next (forward p vid f (learn vid p f.src u)) := by
  intro u hu
  show execEthernetFrame p f s = _
  simp only [execEthernetFrame, Nat.not_le.mpr hp, hup, decide_false, Bool.not_true, Bool.or_self, Bool.false_eq_true, if_false, ← ht, hfcs,
    Nat.not_lt.mpr hlength, htype, hraps, Bool.and_false, hopen, ← hvid, hmember, hstorm, ← hu, next]

end

end

/-- Settles O43. -/
theorem networkActs : Obligations.NetworkActs := by
  refine ⟨fun s p => ⟨fun speed => linkUp_comes, linkDown_loses, sfpInsert_powers, sfpPowered_reads, fun m hp hreading =>
      ⟨fun speed hok => ?_, fun reason herror t ht => ?_⟩, sfpOut_leaves⟩,
    fun s => ⟨fun p m hp hup t ht u hu => ⟨fun hstop => ?_, fun e hgo he => ?_⟩, fun r => rapsTransmit_sends, ringWtrExpire_restores, rfl, rfl⟩,
    fun s => ⟨fun vid mac => rfl, fun p f hp hup t ht => ⟨ethernetFrame_badFcs hp hup ht, ethernetFrame_long hp hup ht,
      ethernetFrame_control hp hup ht, fun hfcs hlength htype hraps => ⟨ethernetFrame_blocked hp hup ht hfcs hlength htype hraps,
        fun hopen vid hvid => ⟨ethernetFrame_vlan hp hup ht hfcs hlength htype hraps hopen hvid,
          ethernetFrame_storm hp hup ht hfcs hlength htype hraps hopen hvid,
          ethernetFrame_forwarded hp hup ht hfcs hlength htype hraps hopen hvid⟩⟩⟩⟩⟩
  · rw [sfpIdentified_judges hp hreading, judgeModule_accepts hok]
  · rw [sfpIdentified_judges hp hreading, judgeModule_rejects herror t ht]
  · rw [rapsFrame_taken hp hup t ht u hu, if_pos hstop]
  · rw [rapsFrame_taken hp hup t ht u hu, hgo, he]; rfl

end Sys2Proof.Machine
end

section
/-! SUPPORT. What the stores end: batches and loads timed out, copies verified, counters saved (R93, R97, R135, R136, R152, R355, R369, R393,
R409, R410, R416). -/

namespace Sys2Proof.Machine

section
variable {s : State}

/-! The tables. -/

theorem tabBatchTimeout_discards {b : TabBatch} (h : s.tab.batch = some b) :
    exec .tabBatchTimeout s = .next (post 0x0507 b.mailbox (le8 1) (reproject { s with tab.batch := none })) := by
  show execTabBatchTimeout s = _
  simp only [execTabBatchTimeout, h, next, dropBatch]

theorem tabGroundDiscard_discards {g : Nat} (h : (loadOf s g).isSome = true) :
    exec (.tabGroundDiscard g) s = .next (post 0x0508 g [] { s with tab.loads := s.tab.loads.filter fun l => l.seg != g }) := by
  show execTabGroundDiscard g s = _
  simp only [execTabGroundDiscard, h, if_true, next, closeLoad]

section
variable {seg m : Nat} {g : GroundCommit} (hfind : s.tab.commits.find? (fun g => g.seg == seg && g.begun) = some g)
  (hbox : (upTo 16).find? (fun m => (runningCmd s m).any fun c => c.seq == g.seq) = some m) (hm : m ≠ 16)
  {t : State} (ht : t = { s with tab.commits := s.tab.commits.filter fun k => k.seq != g.seq })
include hfind hbox hm ht

theorem groundCommitVerified_failed :
    exec (.groundCommitVerified seg false) s = .next (freeTask (.mailbox m) (completeWith m g.seq (.done stStorageFault []) t)) := by
  show execGroundCommitVerified seg false s = _
  simp only [execGroundCommitVerified, hfind, hbox, Option.getD_some, beq_eq_false_iff_ne.mpr hm, Bool.false_eq_true, if_false, Bool.not_false,
    if_true, next, ← ht]

theorem groundCommitVerified_verified (hheld : generationHeld t seg g.ground.generation = false) {r : Ground}
    (hr : r = { g.ground with order := t.tab.groundOrder }) : exec (.groundCommitVerified seg true) s =
      .next (freeTask (.mailbox m) (completeWith m g.seq (.effect (nextStitch t) (leW (nextStitch t)))
        { t with tab.groundOrder := t.tab.groundOrder + 1, tab.groundDue := t.tab.groundDue ++ [⟨g.seq, seg, some r, false, false⟩] })) := by
  show execGroundCommitVerified seg true s = _
  simp only [execGroundCommitVerified, hfind, hbox, Option.getD_some, beq_eq_false_iff_ne.mpr hm, Bool.false_eq_true, if_false, Bool.not_true,
    next, ← ht, hheld]
  subst hr ht
  rfl

end

theorem tablePersistVerified_persists {q : U32} {e : U32 × List TabItem} (hfind : s.tab.unpersisted.find? (fun e => e.1 == q) = some e)
    (hbank : s.sys.bankOk.getD 0 false = true) {t : State}
    (ht : t = { s with tab.stored := applyItems e.2 s.tab.stored, tab.storedPrev := s.tab.stored, tab.storeGen := s.tab.storeGen + 1,
                       tab.unpersisted := s.tab.unpersisted.filter fun e => e.1 != q }) : exec (.tablePersistVerified q) s = .next
      (if (upTo 16).all fun m => (box s m).cmds.all fun c => c.seq != q || c.phase == .held then retire q t else t) := by
  show execTablePersistVerified q s = _
  simp only [execTablePersistVerified, hfind, hbank, Bool.not_true, Bool.false_eq_true, if_false, next, ← ht]

section
variable {g : Nat} (hhead : s.tab.reload.head? = some g) (hemmc : s.sys.emmcFault = false)
include hhead hemmc

theorem groundReloadDone_loads : exec (.groundReloadDone g true) s =
    .next { s with tab.reload := s.tab.reload.erase g, tab.groundDram := s.tab.groundDram ++ [g] } := by
  show execGroundReloadDone g true s = _
  simp only [execGroundReloadDone, hhead, hemmc, beq_self_eq_true, Bool.not_false, Bool.and_self, if_true, next]

theorem groundReloadDone_fails : exec (.groundReloadDone g false) s =
    .next (dropMatching g { s with tab.reload := s.tab.reload.erase g, tab.groundDram := s.tab.groundDram.erase g }) := by
  show execGroundReloadDone g false s = _
  simp only [execGroundReloadDone, hhead, hemmc, beq_self_eq_true, Bool.not_false, Bool.and_self, Bool.false_eq_true, if_false, if_true, next]

end

/-! The settings store. -/

theorem storedPeriod_set (old new : Tab Bytes) (s : State) : (storedPeriod old new s).set = s.set := by
  unfold storedPeriod; dsimp only; split <;> rfl

/-- A completion with an EFFECT writes no settings. -/
theorem completeWith_effect_set (m : Nat) (q st : U32) (res : Bytes) (s : State) : (completeWith m q (.effect st res) s).set = s.set := rfl

/-- The writes that a STORE took are those before it. -/
theorem filter_took {α : Type} (l : List (U32 × α)) (q : U32) :
    (l.filter fun u => !((l.filter fun u => serialBefore u.1 q).map (·.1)).contains u.1) = l.filter fun w => !serialBefore w.1 q := by
  refine List.filter_congr fun u hu => congrArg _ (Bool.eq_iff_iff.mpr ?_)
  simp only [List.contains_iff_mem, List.mem_map, List.mem_filter]
  exact ⟨fun ⟨w, ⟨_, hw⟩, he⟩ => he ▸ hw, fun h => ⟨u, ⟨hu, h⟩, rfl⟩⟩

section
variable {x : Store} {rest : List Store} {t : Tab Bytes} (hstores : s.set.stores = x :: rest) (hcaptured : x.captured = some t)
include hstores hcaptured

theorem settingsStoreVerified_failed : exec (.settingsStoreVerified false) s = .next (storeFailed x s) := by
  show execSettingsStoreVerified false s = _
  simp only [execSettingsStoreVerified, hstores, hcaptured, Bool.not_false, if_true, next]

/-- The settings that a verified STORE leaves. -/
theorem settingsStoreVerified_set : ∃ u, exec (.settingsStoreVerified true) s = .next u ∧ u.set =
    { s.set with
      copies := listModify s.set.copies (storeTarget s.set) fun c =>
        { c with valid := true, storedGen := s.set.storedGen + 1, workGen := x.generation, sections := t }
      storedGen := s.set.storedGen + 1, lastCopy := storeTarget s.set, stores := s.set.stores.filter fun z => z.seq != x.seq
      unretired := s.set.unretired.filter fun w => !serialBefore w.1 x.seq } := by
  show ∃ u, execSettingsStoreVerified true s = .next u ∧ _
  simp only [execSettingsStoreVerified, hstores, hcaptured, Bool.not_true, Bool.false_eq_true, if_false, next]
  refine ⟨_, rfl, ?_⟩
  rw [(freeTask_fields _ _).2.2.2.2.1, completeWith_effect_set, storedPeriod_set, (post_fields _ _ _ _).2.2.2.1,
    foldl_keep (fun s q => retire q s) (·.set) fun _ _ => rfl]
  simp only [onSettings]
  rw [filter_took, hstores]

end

/-! The other stores. -/

theorem resultStoreCopy_copies {q : U32} {live : Nat → Bool}
    (hlive : live = fun k : Nat => s.jnl.log.any fun i => i.live && i.entry.any fun e => e.seq == q && e.kind == k && (k != jkDone || u32At e.body 4 ≤ 256))
    (h : ((live jkEffect || live jkDone) && !live jkCommand && !s.sys.emmcFault) = true) : exec (.resultStoreCopy q) s = .next
      { s with mbx.boxes := s.mbx.boxes.map fun b => { b with slots := b.slots.map fun r => if r.seq == q then { r with copied := true } else r },
               jnl := spaceHolds { s.jnl with log := releaseLog (fun e => e.seq == q && (e.kind == jkEffect || e.kind == jkDone)) s.jnl.log } } := by
  show execResultStoreCopy q s = _
  subst hlive
  exact if_pos h

theorem operatingCountersSave_saves (h : running s = true) : exec .operatingCountersSave s = .next (saveCounters s) := by
  show execOperatingCountersSave s = _
  simp only [execOperatingCountersSave, h, if_true, next]

end

/-- Settles O44. -/
theorem storeEventsAct : Obligations.StoreEventsAct := by
  refine ⟨fun s => ⟨fun b => tabBatchTimeout_discards, fun g => tabGroundDiscard_discards,
      fun seg g hfind m hbox hm t ht => ⟨groundCommitVerified_failed hfind hbox hm ht,
        fun hheld r hr => ⟨groundCommitVerified_verified hfind hbox hm ht hheld hr, fun _ _ => rfl⟩⟩,
      fun q e hfind hbank t => tablePersistVerified_persists hfind hbank,
      fun g hhead hemmc => ⟨groundReloadDone_loads hhead hemmc, groundReloadDone_fails hhead hemmc⟩⟩,
    fun s => ⟨rfl, fun x rest t => settingsStoreVerified_failed, ?_, fun q live hlive h => resultStoreCopy_copies hlive h,
      operatingCountersSave_saves, rfl, rfl⟩⟩
  rintro x rest t hstores hcaptured _ rfl
  obtain ⟨u, hexec, hset⟩ := settingsStoreVerified_set hstores hcaptured
  refine ⟨u, hexec, ?_⟩
  rw [hset]
  refine ⟨rfl, rfl, fun k hk he => ?_, fun j hj => listModify_other _ _ _ _ _ hj, rfl⟩
  subst he
  dsimp only
  rw [listModify_in _ _ _ _ hk]
  exact ⟨rfl, rfl, rfl, rfl⟩

end Sys2Proof.Machine
end

section
/-! SUPPORT. The supply's warning and its resets, A0, and parts that fail while the module runs (R22, R23, R372, R373, R376, R384, R400, R404,
R413-R415, R417, R470). -/

namespace Sys2Proof.Machine

section
variable {s : State}

/-! The supply. -/

theorem powerFailWarning_saves {w : State} (hw : w = { s with sys.pfWarn := true, sys.pfWarnCnt := s.sys.pfWarnCnt + 1 })
    (hrun : s.sys.phase = .run) : ∀ a, a = (upTo 4).foldl (fun t k => match (shuttle t k).awaiting with | some x => tryMissed k x t | none => t) w →
    ∀ b, b = (upTo 6).foldl (fun t k => linkLost k t) a →
    ∀ c, c = (upTo 14).foldl (fun t m => if (box t m).session == .closed then t else dropSession m t) b →
    exec .powerFailWarning s = .next (gaspSave 2 { c with sys.phase := .lastGasp, sys.lgDone := false }) := by
  intro a ha b hb c hc
  subst hw
  show execPowerFailWarning s = _
  unfold execPowerFailWarning
  rw [hrun]
  dsimp only
  generalize hmissed : List.foldl _ (onSys _ s) (upTo 4) = a'
  have he : a' = a := hmissed.symm.trans ha.symm
  rw [he, ← hb, ← hc]
  rfl

theorem powerFailWarning_ends {w : State} (hw : w = { s with sys.pfWarn := true, sys.pfWarnCnt := s.sys.pfWarnCnt + 1 })
    (hwait : s.sys.phase = .wait) : exec .powerFailWarning s = .next (onRunPhase .off (resetSoc true w)) := by
  subst hw
  show execPowerFailWarning s = _
  simp only [execPowerFailWarning, hwait, next, onSys]

theorem lastGaspComplete_resets (us : Nat) (h : s.sys.phase = .lastGasp) :
    ∃ t, exec (.lastGaspComplete us) s = .next t ∧ t.sys.phase = .gaspDone ∧ t.sys.lgDone = true ∧ t.sys.lgLastUs = satU 16 us ∧
      t.tmb = State.reset.tmb ∧ t.skn = State.reset.skn ∧ t.bob = State.reset.bob := by
  show ∃ t, execLastGaspComplete us s = .next t ∧ _
  simp only [execLastGaspComplete, h, beq_self_eq_true, if_true, next]
  exact ⟨_, rfl, rfl, rfl, rfl, rfl, rfl, rfl⟩

theorem dipReturn_starts (h : s.sys.phase = .gaspDone) :
    exec .dipReturn s = .next { s with sys.phase := .supply, sys.kind := 2, sys.baseKind := 2, sys.causeBits := 0 } := by
  show execDipReturn s = _
  simp only [execDipReturn, h, beq_self_eq_true, if_true, next, onSys]

theorem dcInputOn_starts (h : s.sys.phase = .off ∨ s.sys.phase = .gaspDone) :
    exec .dcInputOn s = .next (dcStart (if s.sys.lgDone then 0 else 1) s) := by
  show execDcInputOn s = _
  obtain h | h := h <;> simp only [execDcInputOn, h, next]

theorem dcInputOn_missed (h : s.sys.phase = .lastGasp) :
    ∃ t, exec .dcInputOn s = .next t ∧ t.sys.phase = .supply ∧ t.sys.kind = 1 ∧ t.sys.lgMissed = s.sys.lgMissed + 1 := by
  show ∃ t, execDcInputOn s = .next t ∧ _
  simp only [execDcInputOn, h, next]
  exact ⟨_, rfl, rfl, rfl, rfl⟩

theorem plannedReset_resets {p : PendingReset} (hp : s.sys.pendingReset = some p) (hrun : running s = true)
    (hdue : serialAtOrBefore p.boundary (nextStitch s) = true) {t : State}
    (ht : t = resetSoc true (startSlot p (saveCounters (commitAll (samplerStitchEnd (gaspSave 3 s)))))) :
    exec .plannedReset s = .next { t with sys.phase := .supply, sys.kind := 3, sys.baseKind := 3, sys.causeBits := 0 } := by
  show execPlannedReset s = _
  simp only [execPlannedReset, hp, hrun, hdue, Bool.and_self, if_true, next, ← ht, onSys]

/-! A0 and the parts. -/

theorem a0Stop_stops (hrun : running s = true) (ha0 : s.mbx.a0Running = true) : exec .a0Stop s = .next (post 0x0104 noSource (leW (s.tmb.a0Stop + 1))
    { s with mbx.a0Running := false, mbx.a0Stops := s.mbx.a0Stops + 1, tmb.a0Stop := s.tmb.a0Stop + 1 }) := by
  show execA0Stop s = _
  simp only [execA0Stop, hrun, ha0, Bool.and_self, if_true, next]

theorem a0Return_opens (hrun : running s = true) (ha0 : s.mbx.a0Running = false) :
    ∀ a, a = (upTo 16).foldl (fun t m => if (box t m).session == .closed then t else dropSession m t) s →
    ∀ b, b = { a with mbx.a0Running := true } → ∀ c, c = (if bindEn b.sec.prot 15 then openSession 15 .opened b else b) →
    exec .a0Return s = .next (windowMessages (if c.pnl.connected && bindEn c.sec.prot 14 then openSession 14 .loginWait c else c)) := by
  intro a ha b hb c hc
  have hopen : (if bindEn a.sec.prot 15 then openSession 15 .opened b else b) = c := by rw [hc, hb]
  show execA0Return s = _
  simp only [execA0Return, hrun, ha0, Bool.not_false, Bool.and_self, if_true, next, ← ha, ← hb, hopen]

theorem dramDieLost_loses {d : Nat} (hd : d < 2) (hrun : running s = true) (hnew : s.sys.diesLost.contains d = false) {t : State}
    (ht : t = loseLong (post 0x0208 d [] { s with sys.diesLost := s.sys.diesLost ++ [d] })) : exec (.dramDieLost d) s = .next
      { t with tab.groundDram := [], tab.reload := (usedSegs t).filter (fun g => (matching t g).isSome),
               met.snaps := t.met.snaps.map fun x => if x.archived then x else { x with coded := none, lost := true } } := by
  show execDramDieLost d s = _
  simp only [execDramDieLost, hd, hrun, hnew, decide_true, Bool.not_false, Bool.and_self, if_true, next, onSys, onMet, ← ht]

theorem mramBankFault_loses {b : Nat} (hb : b < 2) (hok : s.sys.bankOk.getD b false = true) : exec (.mramBankFault b) s = .next (loseBank b s) := by
  show execMramBankFault b s = _
  simp only [execMramBankFault, hb, hok, decide_true, Bool.and_self, if_true, next]

theorem emmcFault_stops (hrun : running s = true) : exec .emmcFault s = .next { s with jnl.resultsDown := true, sys.emmcFault := true } := by
  show execEmmcFault s = _
  simp only [execEmmcFault, hrun, if_true, next, onJnl, onSys]

/-- The hold-up measured is kept; its edge is recorded. -/
theorem holdupMeasure_keeps (ms : Nat) (open_ : Bool) {t : State}
    (ht : t = { s with sys.holdupMs := satU 16 ms, sys.holdupLow := decide (ms < 150), sys.bankFault := open_ || decide (ms < 25) }) :
    exec (.holdupMeasure ms open_) s = .next
      (if decide (ms < 150) == s.sys.holdupLow then t else bootRecord 0x014D noSource (edge (decide (ms < 150)) ++ le16 (satU 16 ms)) t) := by
  show execHoldupMeasure ms open_ s = _
  subst ht
  simp only [execHoldupMeasure, next, onSys]
  split <;> rfl

end

/-- Settles O45. -/
theorem powerAndPartFaultsAct : Obligations.PowerAndPartFaultsAct := by
  refine ⟨fun s => ⟨fun w hw => ⟨powerFailWarning_saves hw, powerFailWarning_ends hw⟩, lastGaspComplete_resets, dipReturn_starts, dcInputOn_starts,
      dcInputOn_missed, fun p hp hrun hdue t => plannedReset_resets hp hrun hdue⟩,
    fun s => ⟨a0Stop_stops, a0Return_opens, fun d hd hrun hnew t => dramDieLost_loses hd hrun hnew, fun b => mramBankFault_loses, emmcFault_stops,
      fun ms open_ t ht => ⟨fun h => ?_, fun h => ?_⟩⟩⟩
  · rw [holdupMeasure_keeps ms open_ ht, h, beq_self_eq_true, if_pos rfl]
  · rw [holdupMeasure_keeps ms open_ ht, beq_eq_false_iff_ne.mpr h]; rfl

/-! Resets without warning. -/

theorem faultReset_of_runs {s : State} (h : socRuns s = true) (kind cause : Nat) (cut : CommitCut) : faultReset kind cause cut s =
    onSys (fun x => { x with phase := .supply, kind := kind, baseKind := kind, causeBits := BitVec.ofNat 32 cause })
      (resetSoc (cut != .copy0Only) s) := by
  simp only [faultReset, h, Bool.not_true, Bool.false_eq_true, if_false]

/-- A mailbox after a reset of the SoC. -/
theorem box_resetSoc (torn : Bool) (s : State) {m : Nat} (hm : m < s.mbx.boxes.length) : box (resetSoc torn s) m = keptBox (box s m) := by
  simp only [box, resetSoc, keptMailboxes, List.getD_eq_getElem?_getD, List.getElem?_map, List.getElem?_eq_getElem hm, Option.map_some,
    Option.getD_some]

/-- Settles O46. -/
theorem faultResetsKeepWhatIsStored : Obligations.FaultResetsKeepWhatIsStored := by
  intro s cut hruns i kind cause hi
  have hexec : exec i s = .next (faultReset kind cause cut s) := by
    simp only [List.mem_cons, Prod.mk.injEq, List.not_mem_nil, or_false] at hi
    obtain ⟨rfl, rfl, rfl⟩ | ⟨rfl, rfl, rfl⟩ | ⟨rfl, rfl, rfl⟩ | ⟨rfl, rfl, rfl⟩ := hi <;> rfl
  rw [hexec, faultReset_of_runs hruns]
  refine ⟨_, rfl, rfl, rfl, rfl, rfl, rfl, rfl, rfl, rfl, rfl, rfl, rfl, rfl, rfl, fun m hm => ?_, rfl, rfl, rfl, rfl, rfl⟩
  show (box (resetSoc (cut != .copy0Only) s) m).slots = _ ∧ (box (resetSoc (cut != .copy0Only) s) m).session = _
  rw [box_resetSoc _ s hm]
  exact ⟨rfl, rfl⟩

end Sys2Proof.Machine
end

section
/-! SUPPORT. The phases of a start (R39, R56, R94, R374, R386, R399, R403, R404, R470). -/

namespace Sys2Proof.Machine

section
variable {s : State}

theorem supplyPhaseDone_boots (h : s.sys.phase = .supply) :
    exec .supplyPhaseDone s = .next { s with sys.phase := .boot, sys.bankCharging := false } := by
  show execSupplyPhaseDone s = _
  simp only [execSupplyPhaseDone, h, beq_self_eq_true, if_true, next, onSys]

theorem boot_selects (a b : ImageCheck) (h : s.sys.phase = .boot) :
    exec (.boot a b) s = .next (selectImage (fun k => if k = 0 then a else b) (readRtcFlags s)) := by
  show execBoot a b s = _
  simp only [execBoot, h, beq_self_eq_true, if_true, next]

/-- The memory phase notes the parts that failed, and goes on as bank 0 allows. -/
theorem memoryReady_notes (d0 d1 emmc b0 b1 : Bool) (h : s.sys.phase = .memory) {dies : List Nat}
    (hdies : dies = (if d0 then [] else [0]) ++ (if d1 then [] else [1])) {t u : State}
    (ht : t = { s with time.plls := List.replicate 12 true, sys.diesLost := dies, sys.emmcFault := !emmc, sys.bankOk := [true, true] })
    (hu : u = (if b1 then wholeRound (dies.foldl (fun t d => bootRecord 0x0208 d [] t) t)
      else loseBank 1 (dies.foldl (fun t d => bootRecord 0x0208 d [] t) t))) : exec (.memoryReady d0 d1 emmc b0 b1) s = .next
      (if b0 then { u with sys.phase := .restore } else enterLoader { u with sys.bankOk := listSet u.sys.bankOk 0 false }) := by
  have hparts : onSys (fun x => { x with diesLost := dies, emmcFault := !emmc, bankOk := [true, true] })
      { s with time.plls := List.replicate 12 true } = t := ht.symm
  show execMemoryReady d0 d1 emmc b0 b1 s = _
  simp only [execMemoryReady, h, beq_self_eq_true, if_true, ← hdies, hparts, ← hu, onRunPhase, next]
  split <;> rfl

theorem restore_runs (f : RestoreFound) (h : s.sys.phase = .restore) :
    ∀ a, a = chooseJournal f (settingsEvents (startEvents (expectStitch (seedTime (restoreSettings f (startCounts s)))))) →
    ∀ b, b = restoreKeys (restoreMetering f (fittedAtBoundary (replayLoads (rebuildSettings (replayMailboxes f a))))) →
    ∀ c, c = restoreTables f (restoreSampler f b) →
    ∀ d, d = buildPlans (restoreOutputs (restoreSnaps (replayReleases ((liveEntries c jkPinCmd).foldl replayPin c)))) →
    exec (.restore f) s = .next (postMailboxTasks { d with jnl := spaceHolds { d.jnl with replayDone := true }, sys.phase := .wait }) := by
  intro a ha b hb c hc d hd
  show execRestore f s = _
  simp only [execRestore, h, beq_self_eq_true, if_true, ← ha, ← hb, ← hc, ← hd, next, onJnl, onRunPhase, onSys]

/-! The first boundary. -/

/-- The entries queued again change the Skeins alone. -/
theorem requeuePins_only (s : State) : requeuePins s = { s with skn := (requeuePins s).skn } := by
  have hfold : ∀ (l : List JEntry) (t : State), ∃ x, l.foldl (fun t e => if u8At e.body 0 = 0 then
      queuePacket (8 + (pinState t e.source).serving) (entryImage e) t else t) t = { t with skn := x } := by
    intro l
    induction l with
    | nil => exact fun t => ⟨t.skn, rfl⟩
    | cons e l ih =>
      intro t
      rw [List.foldl_cons]
      split
      · exact (ih (queuePacket (8 + (pinState t e.source).serving) (entryImage e) t)).imp fun x h => h
      · exact ih t
  obtain ⟨x, hx⟩ := hfold (liveEntries s jkPinCmd) s
  unfold requeuePins
  rw [hx]

end

/-- Settles O47. -/
theorem startRunsItsPhases : Obligations.StartRunsItsPhases := by
  refine fun s => ⟨supplyPhaseDone_boots, boot_selects, fun d0 d1 emmc b1 h dies hdies t ht u hu =>
    ⟨memoryReady_notes d0 d1 emmc true b1 h hdies ht hu, memoryReady_notes d0 d1 emmc false b1 h hdies ht hu⟩, restore_runs,
    fun h b hb n hn ms hms st hst q hq t ht => ?_⟩
  have hq' : q = { s with stitch := st, smp.intake := s.smp.intake.map (fun e : Event => { e with stitch := n }), skn := q.skn,
                          lace.inService := List.replicate 8 true } := by
    rw [hq]; exact requeuePins_only _
  refine ⟨hq', fun u hu v hv => ?_⟩
  have htime : q.time.cycle = s.time.cycle := by rw [hq']
  show execFirstBoundaryRelease s = _
  simp only [execFirstBoundaryRelease, h, beq_self_eq_true, if_true, next, onSys, ← hb, ← hn, ← hms, ← hst, ← hq, htime, ← ht, ← hu, ← hv]

end Sys2Proof.Machine
end

section
/-! SUPPORT. Sessions, the login of the service port and its two messages (R321, R322, R338, R340, R342). -/

namespace Sys2Proof.Machine

section
variable {s : State}

/-! TLS clients. -/

section
variable {cred : Sys2Proof.Bytes} (hrun : running s = true) (ha0 : s.mbx.a0Running = true)
include hrun ha0

theorem tlsSessionOpen_unknown (hnone : bindingOf s cred = none) {l : List Nat}
    (hl : l = (s.mbx.handshakeFails.filter fun c => s.time.cycle - c < 600 * cyclesPerSec) ++ [s.time.cycle]) :
    exec (.tlsSessionOpen cred) s = .next (post 0x0301 noSource (le8 (satU 8 l.length)) { s with mbx.handshakeFails := l }) := by
  show execTlsSessionOpen cred s = _
  simp only [execTlsSessionOpen, hrun, ha0, hnone, Bool.not_true, Bool.or_self, Bool.false_eq_true, if_false, lastTenMin, ← hl, next, onMbx]

variable {m : Nat} (hbind : bindingOf s cred = some m)
include hbind

theorem tlsSessionOpen_opens (hclosed : (box s m).session = .closed) : exec (.tlsSessionOpen cred) s = .next (openSession m .opened s) := by
  show execTlsSessionOpen cred s = _
  simp only [execTlsSessionOpen, hrun, ha0, hbind, hclosed, bne_self_eq_false, Bool.not_true, Bool.or_self, Bool.false_eq_true, if_false, next]

theorem tlsSessionOpen_replaces (hopen : (box s m).session ≠ .closed) :
    exec (.tlsSessionOpen cred) s = .next (openSession m .opened (post 0x0302 m [] (dropSession m s))) := by
  show execTlsSessionOpen cred s = _
  simp only [execTlsSessionOpen, hrun, ha0, hbind, bne_iff_ne.mpr hopen, Bool.not_true, Bool.or_self, Bool.false_eq_true, if_false, if_true, next]

end

theorem tlsSessionOpen_unserved (cred : Sys2Proof.Bytes) (h : running s = false ∨ s.mbx.a0Running = false) :
    exec (.tlsSessionOpen cred) s = .next s := by
  show execTlsSessionOpen cred s = _
  obtain h | h := h <;> simp only [execTlsSessionOpen, h, Bool.not_false, Bool.true_or, Bool.or_true, if_true, next]

/-! Closing a session. -/

theorem sessionClose_drops {m : Nat} (hm : m < 14) (hopen : (box s m).session ≠ .closed) : exec (.sessionClose m) s = .next (dropSession m s) := by
  show execSessionClose m s = _
  simp only [execSessionClose, hm, bne_iff_ne.mpr hopen, decide_true, Bool.and_self, if_true, next]

/-- Beside the mailbox closed, a session dropped ends a freeze alone. -/
theorem dropSession_mbx (m : Nat) (s : State) : (dropSession m s).mbx = (closeSession m s).mbx := by
  unfold dropSession
  dsimp only
  split
  · split
    · exact (endFreeze_mbx _ _).1
    · rfl
  · rfl

theorem box_dropSession {m : Nat} (hm : m < s.mbx.boxes.length) :
    box (dropSession m s) m = { box s m with session := .closed, answers := [], lastWindow := 0 } := by
  rw [box, dropSession_mbx]
  exact onBox_in m _ s hm

theorem dropSession_freeze {m : Nat} {f : Freeze} (hfreeze : s.smp.freeze = some f) (hm : f.mailbox = m) : (dropSession m s).smp.freeze = none := by
  have hclosed : (closeSession m s).smp.freeze = some f := hfreeze
  simp only [dropSession, hclosed, hm, beq_self_eq_true, if_true]
  exact (endFreeze_mbx _ _).2.1

/-! The login block and maintenance mode. -/

theorem loginBlockEnd_ends (h : s.mbx.loginBlocked = true) :
    exec .loginBlockEnd s = .next { s with mbx.loginBlocked := false, mbx.loginFails := [] } := by
  show execLoginBlockEnd s = _
  simp only [execLoginBlockEnd, h, if_true, next, onMbx]

theorem loginBlockEnd_none (h : s.mbx.loginBlocked = false) : exec .loginBlockEnd s = .next s := by
  show execLoginBlockEnd s = _
  simp only [execLoginBlockEnd, h, Bool.false_eq_true, if_false, next]

theorem maintExpire_ends (h : s.mbx.maintUntil.isSome = true) :
    exec .maintExpire s = .next (post 0x030A noSource [] { s with mbx.maintUntil := none }) := by
  show execMaintExpire s = _
  simp only [execMaintExpire, maintOn, h, if_true, next, onMbx]

theorem maintExpire_none (h : s.mbx.maintUntil = none) : exec .maintExpire s = .next s := by
  show execMaintExpire s = _
  simp only [execMaintExpire, maintOn, h, Option.isSome_none, Bool.false_eq_true, if_false, next]

/-! The two messages of the service port. -/

section
variable {r : Request} {opcode length : Nat} {f : Message → State → State} (htakes : a0Takes s r.session = true)
  (hkind : kindOf r.flags = kRequest) (hheader : headerCheck r.session (messageOf opcode r) = .ok)
include htakes hkind hheader

/-- A message that passes R325 is judged by its mailbox, its session and its length. -/
theorem immediate_judged : immediate opcode length f r s =
    if r.session ≠ 14 then refuseRequest r.session (messageOf opcode r) stBadOpcode [] s
    else if !allowed s r.session .unauth then refuseRequest r.session (messageOf opcode r) stDenied [] s
    else if r.payload.length ≠ length then refuseRequest r.session (messageOf opcode r) stBadPayload [] s
    else f (messageOf opcode r) s := by
  have hrequest : (kindOf (messageOf opcode r).flags != kRequest) = false := bne_eq_false_iff_eq.mpr hkind
  simp only [immediate, htakes, hheader, hrequest, Bool.not_true, Bool.false_eq_true, if_false]
  rfl

theorem immediate_otherMailbox (hsession : r.session ≠ 14) :
    immediate opcode length f r s = refuseRequest r.session (messageOf opcode r) stBadOpcode [] s := by
  rw [immediate_judged htakes hkind hheader, if_pos hsession]

variable (hsession : r.session = 14)
include hsession

theorem immediate_denied (hwait : (box s 14).session ≠ .loginWait) :
    immediate opcode length f r s = refuseRequest 14 (messageOf opcode r) stDenied [] s := by
  rw [immediate_judged htakes hkind hheader]
  simp only [hsession, ne_eq, not_true_eq_false, if_false, allowed, beq_eq_false_iff_ne.mpr hwait, Bool.and_false, Bool.not_false, if_true]

theorem immediate_runs (hwait : (box s 14).session = .loginWait) (hlength : r.payload.length = length) :
    immediate opcode length f r s = f (messageOf opcode r) s := by
  rw [immediate_judged htakes hkind hheader]
  simp only [hsession, ne_eq, not_true_eq_false, if_false, allowed, hwait, beq_self_eq_true, Bool.and_self, Bool.not_true, Bool.false_eq_true, hlength]

end

theorem giveNonce_gives (h : Message) {n : Sys2Proof.Bytes} (hn : n = fit 16 (Config.random s.freeCtr 16)) : giveNonce h s =
    send 14 kResult false h.opcode 0 h.tag stOk n { s with freeCtr := s.freeCtr + 1, mbx.nonce := some n, mbx.nonceAt := s.time.cycle } := by
  simp only [giveNonce, drawFree, ← hn, answerNow, onMbx]

/-- The proof that a nonce still valid asks for. -/
theorem proofNow_valid {n : Sys2Proof.Bytes} (hnonce : s.mbx.nonce = some n) (hage : s.time.cycle - s.mbx.nonceAt ≤ 60 * cyclesPerSec) :
    proofNow s = some (Config.hmacSha256 s.sec.service (n ++ Config.eui64)) := by
  simp only [proofNow, hnonce, Option.bind_some, hage, if_true]

theorem login_opens {h : Message} {n : Sys2Proof.Bytes} (hnonce : s.mbx.nonce = some n) (hage : s.time.cycle - s.mbx.nonceAt ≤ 60 * cyclesPerSec)
    (hblocked : s.mbx.loginBlocked = false) (hproof : h.payload = Config.hmacSha256 s.sec.service (n ++ Config.eui64)) : login h s =
      send 14 kResult false h.opcode 0 h.tag stOk (le8 (principalOf s 14) ++ zeros 3 ++ le32 (rightsOf s 14))
        (openSession 14 .opened { s with mbx.nonce := none }) := by
  simp only [login, hblocked, proofNow_valid hnonce hage, hproof, beq_self_eq_true, Bool.not_false, Bool.and_self, if_true, answerNow, onMbx]
  rfl

/-- A login without a nonce, too late, blocked or with another proof is no good. -/
theorem login_notGood {p : Sys2Proof.Bytes} (h : s.mbx.nonce = none ∨ 60 * cyclesPerSec < s.time.cycle - s.mbx.nonceAt ∨ s.mbx.loginBlocked = true ∨
    ∃ n, s.mbx.nonce = some n ∧ p ≠ Config.hmacSha256 s.sec.service (n ++ Config.eui64)) :
    (!s.mbx.loginBlocked && proofNow s == some p) = false := by
  refine Bool.eq_false_iff.mpr fun hgood => ?_
  obtain ⟨hblocked, hproof⟩ := Bool.and_eq_true_iff.mp hgood
  obtain ⟨n, hnonce, hn⟩ := Option.bind_eq_some_iff.mp (eq_of_beq hproof)
  obtain ⟨hage, hn⟩ := Option.ite_none_right_eq_some.mp hn
  obtain h | h | h | ⟨n', h, hother⟩ := h
  · rw [h] at hnonce; cases hnonce
  · omega
  · rw [h] at hblocked; cases hblocked
  · obtain rfl := Option.some.inj (hnonce.symm.trans h)
    exact hother (Option.some.inj hn).symm

theorem login_fails {h : Message} (hbad : (!s.mbx.loginBlocked && proofNow s == some h.payload) = false) {l : List Nat}
    (hl : l = (s.mbx.loginFails.filter fun c => s.time.cycle - c < 600 * cyclesPerSec) ++ (if s.mbx.loginBlocked then [] else [s.time.cycle])) :
    login h s = send 14 kResult false h.opcode 0 h.tag stAuthFailed [] (post 0x0301 14 (le8 (satU 8 l.length))
      { s with mbx.nonce := none, mbx.loginFails := l, mbx.loginBlocked := s.mbx.loginBlocked || decide (5 ≤ l.length) }) := by
  subst hl
  simp only [login, hbad, Bool.false_eq_true, if_false, loginFailed, lastTenMin, onMbx, answerNow]
  rfl

end

/-- Settles O48. -/
theorem sessionsAndLoginAct : Obligations.SessionsAndLoginAct := by
  refine ⟨fun s => ⟨fun cred hrun ha0 => ⟨fun hnone l => tlsSessionOpen_unknown hrun ha0 hnone,
      fun m hbind hclosed => ⟨_, tlsSessionOpen_opens hrun ha0 hbind hclosed, rfl, fun k => onBox_other m k _ s, onBox_in m _ s⟩,
      fun m => tlsSessionOpen_replaces hrun ha0⟩, tlsSessionOpen_unserved, fun m => sessionClose_drops, fun m hm => ?_, rfl,
      loginBlockEnd_ends, loginBlockEnd_none, maintExpire_ends, maintExpire_none⟩,
    fun s r htakes h hh g hg hkind hheader gheader => ?_⟩
  · rw [box_dropSession hm]
    exact ⟨rfl, rfl, rfl, fun f => dropSession_freeze⟩
  · subst hh hg
    have hnext {a b : State} (e : a = b) : (Host.Outcome.next a : Out) = .next b := congrArg _ e
    refine ⟨fun hsession => ⟨hnext (immediate_otherMailbox htakes hkind gheader hsession),
        hnext (immediate_otherMailbox htakes hkind hheader hsession)⟩,
      fun hsession hwait => ⟨hnext (immediate_denied htakes hkind gheader hsession hwait),
        hnext (immediate_denied htakes hkind hheader hsession hwait)⟩,
      fun hsession hwait => ⟨fun hpayload n hn => hnext ?_, fun hlength n hnonce hage hblocked hproof => hnext ?_,
        fun hlength hbad l hl => hnext ?_⟩⟩
    · rw [immediate_runs htakes hkind gheader hsession hwait (by rw [hpayload]; rfl)]
      exact giveNonce_gives _ hn
    · rw [immediate_runs htakes hkind hheader hsession hwait hlength]
      exact login_opens (h := messageOf 0x0802 r) hnonce hage hblocked hproof
    · rw [immediate_runs htakes hkind hheader hsession hwait hlength]
      exact login_fails (h := messageOf 0x0802 r) (login_notGood hbad) hl

end Sys2Proof.Machine
end

section
/-! SUPPORT. The TAB writes by their own rows, the new frames of a Pin, and the resets without warning (R23, R86, R194, R373). -/

namespace Sys2Proof.Machine

/-- A TAB write whose change took effect answers the boundary and the generation of it, whichever its row. -/
theorem tabWrite_effected {s : State} {m : Nat} {c : Cmd} {n g : U32} (hclose : s.tab.closeFail.find? (fun e => e.1 == c.seq) = none)
    (hstaged : s.tab.stagedSeqs.contains c.seq = false) (hfind : s.tab.effected.find? (fun e => e.1 == c.seq) = some (c.seq, n, g)) {t : State}
    (ht : t = { s with tab.effected := s.tab.effected.filter fun e => e.1 != c.seq }) {op : Nat} {i : Instr} (hi : (op, i) ∈ tabWriteRows m)
    (hc : Executing s m c op) : Acts i s m c n (leW g) t := by
  subst ht
  exact (tabWritesComplete.1 s m c op i hi hc hclose hstaged).1 n g hfind

section
variable {s : State} {f : RxFrame} {p : Nat} (hears : (f.shuttle < 4 && hasRadio s && running s && pfEn (region s) f.shuttle &&
  !(shuttle s f.shuttle).failed && !s.time.radiosHeld && hears f false s) = true) (hcheck : rxCheck f false s = .ok p)
  (hwindow : expectedWindow s p f.shuttle f.sfdEnd = none) (hnew : f.seq.toNat ≠ (pinState s p).upSeq)
include hears hcheck hwindow hnew

/-- A new frame outside its Pin's window is accepted, owed an Enh-Ack, and its content taken. -/
theorem uplink_new {kind : Nat} (hkind : u8At f.payload 0 = kind) (take : Nat → State → State) : uplink f (ofKind f kind take) s =
    take p (onPin p (fun x => { x with upSeq := f.seq.toNat }) (oweAck f p 0 (rxAccept f p s))) := by
  rw [uplink_taken hears hcheck hkind take false (by rw [beq_eq_false_iff_ne.mpr hnew, Bool.false_and]) (oweAck f p 0 (rxAccept f p s))
    (by rw [hwindow])]
  rfl

end

/-- Settles O59. -/
theorem writesUplinksAndResetsComplete : Obligations.WritesUplinksAndResetsComplete := by
  refine fun s => ⟨fun m c n g hclose hstaged hfind t ht => ?_, ?_, fun cut hruns => ⟨fun u cause hu => ?_, ?_⟩⟩
  · have hrow {op : Nat} {i : Instr} := tabWrite_effected (m := m) (op := op) (i := i) hclose hstaged hfind ht
    exact ⟨hrow (by simp [tabWriteRows]), hrow (by simp [tabWriteRows]), hrow (by simp [tabWriteRows]), hrow (by simp [tabWriteRows]),
      hrow (by simp [tabWriteRows]), hrow (by simp [tabWriteRows]), hrow (by simp [tabWriteRows]), hrow (by simp [tabWriteRows])⟩
  · rintro f p hears hcheck hwindow hnew _ rfl
    refine ⟨fun hkind => (uplinkPoll_own hkind).trans ?_, fun hkind => (uplinkReport_own hkind).trans ?_,
      fun hkind => (uplinkImageState_own hkind).trans ?_⟩ <;> rw [uplink_new hears hcheck hwindow hnew hkind]
  · obtain ⟨t, hexec, hphase, hkind, hcause, hrtc, -, -, -, -, -, -, hlog, -⟩ :=
      faultResetsKeepWhatIsStored s cut hruns (.watchdogReset u cut) 5 cause (by
        simp only [List.mem_cons, Prod.mk.injEq, List.not_mem_nil, or_false] at hu ⊢
        obtain ⟨rfl, rfl⟩ | ⟨rfl, rfl⟩ | ⟨rfl, rfl⟩ := hu <;> simp)
    exact ⟨t, hexec, hphase, hkind, hcause, hrtc, hlog⟩
  · obtain ⟨t, hexec, hphase, hkind, hcause, hrtc, -, -, -, -, -, -, hlog, -⟩ :=
      faultResetsKeepWhatIsStored s cut hruns (.memoryErrorReset cut) 7 32768 (by simp)
    exact ⟨t, hexec, hphase, hkind, hcause, hrtc, hlog⟩

end Sys2Proof.Machine
end

section
/-! SUPPORT. What the rows of the boundary, the light, the moves and the chain leave, where their event is at hand. -/

namespace Sys2Proof.Machine

section
variable {s : State}

/-! The boundary, the journal and the Tambour (R34, R38, R43, R44, R47, R367). -/

theorem stitchBoundary_begins (h : boundaryFree s = true) :
    (∃ t, exec .stitchBoundary s = .next t ∧ t.stitch.lastBoundary = s.stitch.nextBoundary ∧ t.stitch.busy = true) ∧
    (∀ p, periodDue s = some p → ∃ t, exec .stitchPeriodChange s = .next t ∧ t.stitch.period = p) := by
  obtain ⟨t, hexec, hbusy, hlast, -, -, -, hchange, -⟩ := (boundaryAdvancesTheStitch s _ rfl).2 h
  refine ⟨⟨t, hexec, hlast, hbusy⟩, fun p hp => ?_⟩
  obtain ⟨hexec', hperiod, -⟩ := hchange p hp
  exact ⟨t, hexec', hperiod⟩

theorem journalBatchCommit_seals (hrun : running s = true) (hnone : s.jnl.committing = none) (hlong : 4096 < batchBytes s.jnl.batch) :
    ∃ t, exec .journalBatchCommit s = .next t ∧ t.jnl.batch = [] ∧ t.jnl.stitchOfCommit = s.stitch.number ∧
      t.jnl.committing = some { entries := (sealWork s).jnl.batch, boundary := false } :=
  ⟨_, (commitsComplete s).1 (.inl hrun) hnone hlong, rfl, congrArg (·.number) (sealWork_stitch s), rfl⟩

theorem softDeadlinePass_frays {k : Nat} {x : TaskSlot} (h : s.tmb.slots.find? (fun t => t.slot == k && t.soft && !t.frayed) = some x) :
    ∃ t, exec (.softDeadlinePass k) s = .next t ∧ ∀ u ∈ t.tmb.slots, u.slot = k → u.frayed = true :=
  ⟨_, (tambourEventsAct s).1 k x h, fun _ hu => frayed_of_mem_markFrayed hu⟩

theorem endFreeze_none (n : Nat) (s : State) : (endFreeze n s).smp.freeze = none := (endFreeze_mbx n s).2.1

/-! The light (R112, R137). -/

theorem scheduleEvaluation_plan {b : Nat} {plan : DayPlan} (htask : taskRunning s (.schedule b) = true) (htime : s.sched.noTime = false)
    (hplan : planOf s s.sched.day = some plan) : exec (.scheduleEvaluation b) s = .next (endBeforeFade (.schedule b)
      ((s.tab.live.pins.filter fun e => e.1 / 256 == b).foldl (scheduleOne plan) { s with sched.evaluated := s.sched.evaluated ++ [b] })) := by
  rw [scheduleEvaluation_run htask _ rfl (some plan) (by rw [htime, hplan]; rfl), Option.elim_some]

theorem presenceWalk_starts (htask : taskRunning s .walk = true) (hfirst : (s.lace.closed.foldl walkSource s).lace.streamsStarted = false) :
    exec .presenceWalk s = .next (endBeforeFade .walk (startStreams (s.lace.closed.foldl walkSource s))) := by
  rw [presenceWalk_run htask _ rfl, hfirst]; rfl

theorem solveAndRepair_solves {g : Nat} {r : Ground} (htask : taskRunning s (.solve g) = true) (hmatch : matching s g = some r)
    (hlit : isDark s g = false) : exec (.solveAndRepair g) s =
      .next (stream (freeHalf g (postFrom (.solve g) (newTask (.darn g) false (nextStitch (solveSegment g r s)) 0 0) (solveSegment g r s)))) :=
  solveAndRepair_run htask _ (by rw [hmatch, hlit]; rfl)

/-! The Skeins and the Bobbins (R60, R67, R68, R76, R371). -/

theorem skeinPop_pops {i : Nat} (hfree : portStalled s i = false) (k : Nat) (e : Ecc) : exec (.skeinPop k i e) s = .next (popAccess k i e s) := by
  show execSkeinPop k i e s = _
  simp only [execSkeinPop, hfree, Bool.false_eq_true, if_false, next]

theorem bobBurstDone_moves {c : Nat} (hmay : mayComplete s c = true) (hopen : accessFails .ok (nextBurst (bobbin s c)) = false) {t : State}
    (ht : t = onBobbin c (fun b => { b with tries := 0 }) s) :
    exec (.bobBurstDone c .ok) s = .next (passPath (if (bobbin s c).hold == [] then readBurst c .ok t else writeBurst c t)) := by
  subst ht
  by_cases hempty : (bobbin s c).hold = []
  · rw [bobBurstDone_reads hmay hempty hopen, if_pos (beq_iff_eq.mpr hempty)]
  · rw [bobBurstDone_writes hmay hempty hopen, beq_eq_false_iff_ne.mpr hempty, if_neg Bool.false_ne_true]

/-! The chain (R164-R172). -/

theorem chainShift_frame (hrun : s.chain.state = .run) (hnone : s.chain.frame = none) (hshaped : s.chain.packetsAt.isSome = true) :
    ∃ t f, exec .chainShift s = .next t ∧ t.chain.frame = some f ∧ f.shifted = false ∧ f.committed = false := by
  obtain ⟨t, hexec, -, ⟨f, hf, -, -, -, hshifted, hcommitted⟩, -⟩ :=
    chainShift_builds (s := s) (by rw [hrun]; decide) (by rw [hrun]; decide) (Option.isSome_iff_ne_none.mp hshaped)
      (fun f hf => by rw [hnone] at hf; cases hf) _ rfl
  exact ⟨t, f, hexec, hf, hshifted, hcommitted⟩

theorem chainLatch_shows {f : ChainFrame} (hframe : s.chain.frame = some f) (hshift : f.shifted = true) (hcommit : f.committed = true)
    (htopo : f.topoOk = true) (hrun : s.chain.state = .run) : ∃ t, exec .chainLatch s = .next t ∧ t.chain.frame = none ∧
      t.chain.latched = some f ∧ t.chain.frames = s.chain.frames + 1 := by
  refine ⟨_, chainLatch_latches hframe hshift hcommit htopo hrun, ?_⟩
  have hchain := foldl_keep (fun t (e : Nat × Sys2Proof.Bytes) => modifyQueue e.1 (fun q => if q.committed then { q with latched := true } else q) t)
    (·.chain) (fun _ _ => rfl) (chainPins s)
  rw [hchain]
  exact ⟨rfl, rfl, rfl⟩

theorem chainScan_completes (ret : List (List U64)) (d : List Nat) (hscan : s.chain.state = .scan) :
    ∃ t, exec (.chainScan ret d) s = .next (completeAccepts (boardCount ((ret.take 4).getLast?.getD [])) t) ∧
      t.chain.before = boardCount ((ret.take 4).getLast?.getD []) ∧ t.chain.steady = 0 := by
  show ∃ t, execChainScan ret d s = .next _ ∧ _
  simp only [execChainScan, hscan, bne_self_eq_false, Bool.false_eq_true, if_false, next]
  exact ⟨_, rfl, rfl, rfl⟩

end

/-- Settles O58. -/
theorem lightAndMovesComplete : Obligations.LightAndMovesComplete := by
  refine fun s => ⟨stitchBoundary_begins, journalBatchCommit_seals,
    fun b us hb hcopy => ⟨_, rfl, rfl, rfl, journalCommitDone_verified us hb hcopy⟩,
    ⟨_, rfl, endFreeze_none 1 s⟩, fun k x => softDeadlinePass_frays, ⟨_, rfl, rfl⟩, fun l e x h => ⟨_, taskDispatch_starts h, rfl⟩,
    fun l h k hheld hfree hroom => by rw [heldSourceRelease_some hheld hfree, if_pos hroom],
    fun b plan => scheduleEvaluation_plan, presenceWalk_starts, walkLate_run, fun g r => solveAndRepair_solves,
    fun g htask w hw pins hpins => darning_run htask pins hpins w hw, fun htask => ⟨_, fadeShaping_run htask, rfl⟩,
    fun m c => mailboxCommandExecution_begins, fun k i w => ⟨_, rfl, rfl⟩, fun k i v w => ⟨_, rfl, rfl⟩,
    fun k h hfind q r => skeinHeldWrite_stores hfind, fun k n hfree hheld hroom => skeinHeldNotice_enters hheld hroom hfree,
    fun k i e hfree => skeinPop_pops hfree k e, fun k => skeinWriteAbandon_discards, fun k => skeinReadAbandon_held,
    fun k hwork hlost => ⟨_, jnlRebuild_writes hwork hlost _ rfl _ rfl, rfl⟩,
    fun c hc hidle hok => ⟨_, bobStart_starts hc hidle hok, rfl⟩, fun c => bobStop_stops, fun c => bobRequest_high,
    fun c hmay hopen t => bobBurstDone_moves hmay hopen, fun c f hactive hack hfetch hover => bobTransferEnd_over hack hactive hfetch hover,
    fun c f u hheld hsend => bobPulseRelease_run hheld hsend, ⟨_, rfl, rfl, rfl⟩, ⟨_, rfl, rfl⟩, ⟨_, rfl, rfl⟩, ⟨_, rfl, rfl⟩, ⟨_, rfl, rfl, rfl⟩,
    ⟨_, rfl, rfl⟩, ⟨_, rfl, rfl⟩, ⟨_, rfl, rfl⟩, ⟨_, rfl, rfl⟩, ⟨_, rfl, rfl⟩, ⟨_, rfl, rfl⟩, ⟨_, rfl, rfl⟩, ⟨_, rfl, rfl⟩, ⟨_, rfl, rfl⟩,
    ⟨_, rfl, rfl⟩, fun a v => rfl, chainShift_frame, fun f ret hframe hshift => ?_, fun f => chainLatch_shows, chainScan_completes,
    fun b => ⟨_, rfl, rfl⟩, ?_⟩
  · obtain ⟨t, hexec⟩ := chainShiftDone_shifts hframe hshift ret
    exact ⟨t, hexec⟩
  · obtain ⟨-, -, -, -, -, -, -, -, hfault⟩ := chainEventsAct s
    exact hfault

end Sys2Proof.Machine
end
